-- ==== Sys2Proof/Word.lean ====
section
/-! DEFINITION. The word types of the Elvoz: dictionary values of at most 64 bits, bytes, and instants of the time
base. A TIME64 is held as a natural number of nanoseconds, because R32 makes no provision for its wrap. -/

namespace Sys2Proof

/-- A dictionary value of at most 8 bytes, right-aligned as R40 places it in its slot. -/
abbrev W64 := BitVec 64

/-- A counter or code of 32 bits. -/
abbrev W32 := BitVec 32

/-- One byte. -/
abbrev Byte := BitVec 8

/-- An instant of the time base: nanoseconds since the PTP epoch on the TAI timescale (R250, Table 2-3). -/
abbrev Time := Nat

/-- A dictionary value from a natural number, modulo 2^64. -/
abbrev w64 (n : Nat) : W64 := BitVec.ofNat 64 n

/-- A 32-bit value from a natural number, modulo 2^32. -/
abbrev w32 (n : Nat) : W32 := BitVec.ofNat 32 n

end Sys2Proof
end

