-- ==== Sys2Proof/Syntax.lean ====
section
/-! DEFINITION. The commands of the Elvoz: one constructor for each row of spec/opcode_table.json, and the types of their
operands. The first operand `t` of every command is the instant of TIME_NOW at which it takes place. -/

namespace Sys2Proof

/-- Who makes a dictionary request: one function on BAR0, one CAN controller, one UDP source address and port (the
requesters of chapter 2), or the Shawm firmware, which reads FENCE on the device side (R111). -/
inductive Requester where
  | func (n : Nat)
  | can (k : Nat)
  | udp (addr port : Nat)
  | shawm
  deriving DecidableEq, Repr

/-- Place of a requester that may write, among 256: a function's number, or 0 for a controller or address that exists; 256 for a
name outside its range, and for the firmware, which only reads FENCE. -/
def Requester.place : Requester → Nat
  | .func n => n
  | .can k => if k < 2 then 0 else 256
  | .udp addr port => if addr < 2 ^ 32 ∧ port < 65536 then 0 else 256
  | .shawm => 256

/-- Place of a requester that may read FENCE. -/
def Requester.readPlace (r : Requester) : Nat := if r = .shawm then 0 else r.place

/-- The kinds of unit a cluster holds (Table 0-3). -/
inductive UnitKind where
  | px | ee | ms | df
  deriving DecidableEq, Repr, Inhabited

/-- Units of a kind in one cluster (Table 0-3), and in the device's eight. -/
def UnitKind.perCluster : UnitKind → Nat
  | .px => 9 | .ee => 7 | .ms => 2 | .df => 3
def UnitKind.total (k : UnitKind) : Nat := 8 * k.perCluster

/-- A unit by kind and number: PX00 to PX71, EE00 to EE55, MS00 to MS15, DF00 to DF23. -/
structure UnitId where
  kind : UnitKind
  num : Nat
  deriving DecidableEq, Repr, Inhabited

/-- Number of a unit that a command may name, and the bound of its kind; with none named, any number will do. -/
def unitNum (u : Option UnitId) : Nat :=
  match u with
  | some x => x.num
  | none => 0
def unitBound (u : Option UnitId) : Nat :=
  match u with
  | some x => x.kind.total
  | none => 1

/-- The line header of an ingest flit (Table 5-6) with the flit's own fields and its sample bytes (Table 5-4). -/
structure LineHead where
  /-- LAST of FLAGS. -/
  last : Bool
  /-- FLIT_SEQ. -/
  seq : Nat
  frameCount : Nat
  line : Nat
  /-- The whole PHASE byte: [2] CRC_VALID, [1:0] colour phase. -/
  phase : Nat
  depth : Nat
  samples : Nat
  capture : Time
  lineCrc : W32
  data : List Byte
  deriving DecidableEq, Repr

/-- A received ST 2110-20 packet: RTP fields, size on the wire, and sample row data as line, byte offset and bytes. -/
structure St2110 where
  rtpTime : Nat
  marker : Bool
  bytes : Nat
  rows : List (Nat × Nat × List Byte)
  deriving DecidableEq, Repr

/-- A certificate found in a decoded picture (Table 8-5). -/
structure Cert where
  version : Nat
  mode : Nat
  e : Nat
  maxErr : Nat
  picCount : Nat
  ctus : Nat
  md5 : List Byte
  verifyResult : Nat
  deriving DecidableEq, Repr

/-- The kinds of parameter set. -/
inductive ParamKind where
  | vps | sps | pps | aps
  deriving DecidableEq, Repr

/-- What an SPS says of its sequence (R218): the profile codes of Table 7-2 whose constraints it keeps, tools included;
chroma format (0 to 3), depth, and the level's code. -/
structure SeqInfo where
  profiles : List Nat
  chroma : Nat
  depth : Nat
  level : Nat
  deriving DecidableEq, Repr

/-- A parameter set: kind, identifier, the sets it refers to, and in an SPS its sequence. -/
structure ParamSet where
  kind : ParamKind
  id : Nat
  needs : List (ParamKind × Nat) := []
  seq : Option SeqInfo := none
  deriving DecidableEq, Repr

/-- What the parse of a NAL unit by the standard finds wrong in it, where the manual itself does not tell (Table 9-3): its
header, a parameter set's syntax or ranges, a slice header's, or an H.264 frame_num gap. -/
inductive ParseErr where
  | nal | paramSet | sliceHeader | frameNumGap
  deriving DecidableEq, Repr

/-- The flow of an RTP packet: the port that receives it, as PORT of Table 9-1, and its destination address and UDP port. -/
structure RtpFlow where
  port : Nat
  addr : Nat
  udp : Nat
  deriving DecidableEq, Repr

/-- The error classes of Table 9-3. -/
inductive DecErr where
  | nal | length | paramSet | unsupported | limit | sliceHeader | sliceData | reference | transport | truncated
  deriving DecidableEq, Repr

/-- Size, chroma format (0 to 3) and depth of a decoded picture as its SPS codes it, its CTU size, its conformance
window: left, top, width and height; the CTU columns and rows at which its tile columns and rows begin, and its subpictures
as CTU rectangles: column, row, width and height. -/
structure PicGeom where
  w : Nat
  h : Nat
  chroma : Nat
  depth : Nat
  ctu : Nat
  crop : Nat × Nat × Nat × Nat
  tileCols : List Nat := []
  tileRows : List Nat := []
  subpics : List (Nat × Nat × Nat × Nat) := []
  deriving DecidableEq, Repr

/-- Where slice data fails (R220, R223): the first CTU of the substream and of the slice segment in which the error is
detected, the CTU of the entry point at which decoding resumes in the slice, and the bytes skipped up to it. -/
structure SliceDamage where
  sub : Nat
  segment : Nat
  resume : Option Nat
  skipped : Nat
  deriving DecidableEq, Repr

/-- A slice segment as a decode channel parses it. -/
structure SliceInfo where
  /-- It opens a new picture. -/
  first : Bool
  irap : Bool
  inter : Bool
  /-- The standard marks its picture not decodable after a start at the preceding IRAP picture. -/
  rasl : Bool
  /-- It takes its arithmetic-coding state from the segment before it. -/
  dependent : Bool
  /-- Parameter sets it needs, by kind and identifier. -/
  params : List (ParamKind × Nat)
  geom : PicGeom
  /-- The CTUs it covers, in coding order, and the first CTU of each substream that begins in it. -/
  ctus : List Nat
  subs : List Nat := []
  damage : Option SliceDamage
  /-- References by picture count, list-0 reference 0 first. -/
  refs : List Nat
  isRef : Bool
  /-- Pictures that the standard's marking makes unused for reference, or long-term. -/
  unref : List Nat
  longTerm : List Nat
  deriving DecidableEq, Repr

/-- What the parse of one NAL unit by a decode channel gives (R218). The standards, and not the manual, say how bytes
parse, so the parse is an operand. -/
inductive NalContent where
  /-- A type the standard tells a decoder to ignore, or a layer identifier above 0. -/
  | ignored
  | paramSet (x : ParamSet)
  /-- A certificate for the picture in progress. -/
  | cert (c : Cert)
  /-- A capture record for the picture that follows: CAPTURE_TIME and RAW_MODE. -/
  | capture (time : Time) (rawMode : Nat)
  | slice (x : SliceInfo)
  /-- The picture is complete: whether a loop filter is enabled, its samples as decoded in the
  layout of R116 at the size coded, and for CTUs decoded intact the vector of the bottom-right 4 × 4 block where it is
  predicted from list-0 reference 0, in 1/16 samples. -/
  | pictureEnd (filters : Bool) (data : List Byte) (vectors : List (Nat × Int × Int))
  deriving DecidableEq, Repr

/-- The transaction classes of Table 4-15. -/
inductive TxnClass where
  | dram | host | mag | net | link
  deriving DecidableEq, Repr

/-- Rates the LTC input can carry (Table 11-4). -/
inductive LtcRate where
  | fps24 | fps25 | fps2997df | fps30
  deriving DecidableEq, Repr

/-- What the boot reads of one flash copy: its header fields (Table 17-2) and what its checks find (R389). -/
structure Image where
  magicOk : Bool
  region : Nat
  keyIndex : Nat
  sameOutput : Bool
  length : Nat
  secVersion : Nat
  name : List Byte
  stepping : Nat
  /-- NAMEs of the pixel and entropy bases a patch fits. -/
  base : List Byte × List Byte
  keyOk : Bool
  signatureOk : Bool
  digestOk : Bool
  /-- Records of a patch payload: store code and address (R398). -/
  records : List (Nat × Nat)
  deriving DecidableEq, Repr, Inhabited

/-- What a boot finds outside the state: straps, flash copies by region × 2 + copy, the DRAM channels that pass training
(R329), the units that fail the boot self-test (R13), and the milliseconds the boot and DRAM take. -/
structure BootFacts where
  straps : Nat
  copies : List (Nat × Image)
  trained : Nat
  failedUnits : List UnitId
  initMs : Nat
  readyMs : Nat
  /-- A usable trim bank: 0, 1, 2 factory or 3 none (R387). -/
  factoryTrimsOk : Bool
  deriving DecidableEq, Repr, Inhabited

/-- The wake sources of WAKE_MASK (Table 16-5). -/
inductive WakeSource where
  | can0 | can1 | recInput | host | timer | mgmtEth
  deriving DecidableEq, Repr

/-- A neighbour's HELLO (Table 12-2). -/
structure Hello where
  dev : Nat
  members : Nat
  standby : Nat
  topology : Nat
  state : Nat
  epoch : Nat
  deriving DecidableEq, Repr

/-- The header fields of a sequenced device-link flit that decide its acceptance (Table 12-1). -/
structure FlitHead where
  port : Nat
  epoch : Nat
  seq : Nat
  src : Nat
  dst : Nat
  hops : Nat
  cls : Nat
  deriving DecidableEq, Repr

/-- A channel slot of HEARTBEAT. -/
structure HbSlot where
  chan : Nat
  isOpen : Bool
  crc : W32
  lastDone : Nat
  deriving DecidableEq, Repr

/-- The body of HEARTBEAT (Table 12-2). -/
structure Heartbeat where
  sendTime : Time
  state : Nat
  heard : Nat
  neighbours : List Nat
  slots : List HbSlot
  fenced : Bool
  coordinator : Bool
  deriving DecidableEq, Repr

/-- The body of EPOCH (Table 12-2). -/
structure EpochMsg where
  epoch : Nat
  members : Nat
  standby : Nat
  dead : Nat
  taker : Nat
  coordinator : Nat
  declareTime : Time
  deriving DecidableEq, Repr

/-- The body of HALO_REQ (Table 12-2). -/
structure HaloReq where
  chan : Nat
  plane : Nat
  pic : Nat
  x : Nat
  y : Nat
  w : Nat
  h : Nat
  reqId : Nat
  final : Bool
  deriving DecidableEq, Repr

/-- A relayed fault record (Table 15-7). -/
structure RelayRecord where
  fault : Nat
  event : Nat
  reaction : Nat
  depth : Nat
  dev : Nat
  loc : Nat
  time : Time
  seq : W32
  detail : List Nat
  deriving DecidableEq, Repr

/-- How a DRAM read came out, when it met an error (R332 to R334): corrected, with the device located, or not. -/
inductive ReadResult where
  | clean
  | corrected (device : Option Nat)
  | uncorrectable
  deriving DecidableEq, Repr

/-- What a magazine's Identify answers tell (R316, R317), and what the magazine holds: runs of bytes by byte address. -/
structure MagIdentify where
  lba4k : Bool
  mdtsOk : Bool
  blocks : Nat
  content : List (Nat × List Byte)
  deriving DecidableEq, Repr

/-- One DMA transfer's outcome at the end of a descriptor (R341): the bytes its source gave, how many were moved before
an error, and whether the host or DRAM failed. -/
structure DmaMove where
  data : List Byte
  hostError : Bool
  dramError : Bool
  deriving DecidableEq, Repr

/-- Bytes written from a byte of a BAR0 slot, or of a string or DOMAIN, on. -/
structure SlotBytes where
  off : Nat
  bytes : List Byte
  deriving DecidableEq, Repr

/-- What a parse finds in a NAL unit: its content, and what is wrong in it. -/
structure NalParse where
  content : NalContent
  err : Option ParseErr
  deriving DecidableEq, Repr

/-- A coding unit by its index in its CTU, and its sample offset. -/
structure UnitPlace where
  index : Nat
  sample : Nat
  deriving DecidableEq, Repr

/-- A bad word of configuration storage: its address and power domain, the keys of the entries that use it, and the words of
BAR2 tables and of launch-list head rows in it, by table code (0 for a head row) and word number (R81, R83). -/
structure CfgBad where
  word : Nat
  pd : Nat
  keys : List Nat
  cells : List (Nat × Nat) := []
  deriving DecidableEq, Repr

/-- What a parity check reports: whether a sweep is complete, and a mismatch that it or a use of the word has found. -/
structure ParityCheck where
  swept : Bool
  bad : Option CfgBad
  deriving DecidableEq, Repr

/-- A command: a dictionary write or action, a packet, an event on a pin, or the completion of an engine's work, with its
operands. The docstring of each names the table's row and the rule its meaning follows. -/
inductive Instr where
  /-- RESET_N_ASSERT (R405; the length of the low pulse). -/
  | resetNAssert (t : Time) (lowNs : Nat)
  /-- RESET_N_RELEASE (R391). -/
  | resetNRelease (t : Time) (b : BootFacts)
  /-- WARM_RESET (R36). -/
  | warmReset (t : Time) (r : Requester) (data : List Byte) (b : BootFacts)
  /-- SUPPLY_FAULT (R406; rail in the order of Table 18-3). -/
  | supplyFault (t : Time) (rail : Nat)
  /-- TCXO_LOSS (R406). -/
  | tcxoLoss (t : Time)
  /-- PERST_ASSERT (R408). -/
  | perstAssert (t : Time)
  /-- PERST_RELEASE (R408). -/
  | perstRelease (t : Time)
  /-- HOST_LINK_UP (R408). -/
  | hostLinkUp (t : Time) (gen width : Nat)
  /-- DICT_WRITE (R33). -/
  | dictWrite (t : Time) (r : Requester) (idx sub : Nat) (data : SlotBytes)
  /-- RWP_WRITE (R56). -/
  | rwpWrite (t : Time) (r : Requester) (idx sub : Nat) (data : List Byte)
  /-- NVM_SLOT_WRITE_DONE (R57; `ok`: the read-back matches its CHECK). -/
  | nvmSlotWriteDone (t : Time) (ok : Bool)
  /-- RESTORE_DEFAULTS (R30). -/
  | restoreDefaults (t : Time) (r : Requester) (data : List Byte)
  /-- HEARTBEAT_TIME_WRITE (R46, Table 2-2). -/
  | heartbeatTimeWrite (t : Time) (r : Requester) (data : List Byte)
  /-- CAN_HEARTBEAT (R46). -/
  | canHeartbeat (t : Time) (can : Nat)
  /-- NMT_START (R47; node-ID 0 addresses every node (CiA 301)). -/
  | nmtStart (t : Time) (can node : Nat)
  /-- NMT_STOP (R47). -/
  | nmtStop (t : Time) (can node : Nat)
  /-- NMT_ENTER_PRE_OPERATIONAL (R47). -/
  | nmtEnterPreOperational (t : Time) (can node : Nat)
  /-- NMT_RESET_NODE (R47). -/
  | nmtResetNode (t : Time) (can node : Nat)
  /-- NMT_RESET_COMMUNICATION (R47). -/
  | nmtResetCommunication (t : Time) (can node : Nat)
  /-- USDO_UPLOAD (R46). -/
  | usdoUpload (t : Time) (can client idx sub : Nat)
  /-- USDO_DOWNLOAD (R46; one segment, `first` and `last` both set when expedited). -/
  | usdoDownload (t : Time) (can client idx sub : Nat) (data : List Byte) (first last : Bool)
  /-- RPDO_RECEIVE (R48). -/
  | rpdoReceive (t : Time) (can pdo : Nat) (data : List Byte)
  /-- TPDO_TRANSMIT (R46). -/
  | tpdoTransmit (t : Time) (can pdo : Nat)
  /-- CAN_BUS_OFF (R49). -/
  | canBusOff (t : Time) (can : Nat)
  /-- CAN_BUS_OFF_RECOVERY (R49). -/
  | canBusOffRecovery (t : Time) (can : Nat)
  /-- OD_UDP_READ (R424). -/
  | odUdpRead (t : Time) (addr port : Nat) (bytes : List Byte)
  /-- OD_UDP_WRITE (R44). -/
  | odUdpWrite (t : Time) (addr port : Nat) (bytes : List Byte)
  /-- OD_UDP_ECHO (R43). -/
  | odUdpEcho (t : Time) (addr port : Nat) (bytes : List Byte)
  /-- OD_UDP_BAD_DATAGRAM (R43). -/
  | odUdpBadDatagram (t : Time) (addr port : Nat) (bytes : List Byte)
  /-- QUEUED_REQUEST_SERVE (R51). -/
  | queuedRequestServe (t : Time) (q : Nat)
  /-- MGMT_STALL (R52). -/
  | mgmtStall (t : Time) (core : Nat)
  /-- SHAWM_CORE_RESTART (R361). -/
  | shawmCoreRestart (t : Time) (core : Nat)
  /-- SHAWM_LOOP_RESUME (R361). -/
  | shawmLoopResume (t : Time) (core : Nat)
  /-- BAR0_LOW_WORD_READ (R72). -/
  | bar0LowWordRead (t : Time) (f idx sub : Nat)
  /-- BAR0_HIGH_WORD_READ (R73). -/
  | bar0HighWordRead (t : Time) (f idx sub : Nat)
  /-- BAR0_LOW_WORD_WRITE (R74). -/
  | bar0LowWordWrite (t : Time) (f idx sub : Nat) (word : W32)
  /-- BAR0_HIGH_WORD_WRITE (R75). -/
  | bar0HighWordWrite (t : Time) (f idx sub : Nat) (word : W32)
  /-- LAST_ACCESS_ERROR_CLEAR (R66). -/
  | lastAccessErrorClear (t : Time) (r : Requester) (data : List Byte)
  /-- SNAPSHOT_TRIGGER (R76). -/
  | snapshotTrigger (t : Time) (r : Requester) (data : List Byte)
  /-- SNAP_AT_WRITE (R78). -/
  | snapAtWrite (t : Time) (r : Requester) (data : List Byte)
  /-- SNAPSHOT_SCHEDULED (R78). -/
  | snapshotScheduled (t : Time)
  /-- AO_CLOCK_STOP (R80). -/
  | aoClockStop (t : Time)
  /-- CFG_PARITY_SWEEP (R81, R82). -/
  | cfgParitySweep (t : Time) (found : ParityCheck)
  /-- BLOCK_RESET_COMPLETE (R82, R83). -/
  | blockResetComplete (t : Time) (pd : Nat) (shadowOk : Bool)
  /-- BAR2_SELECT_WRITE (R85). -/
  | bar2SelectWrite (t : Time) (f sub : Nat) (data : List Byte)
  /-- BAR2_TABLE_WRITE (R86). -/
  | bar2TableWrite (t : Time) (f offset : Nat) (data : List Byte)
  /-- VF_ENABLE (R87). -/
  | vfEnable (t : Time) (numVfs : Nat)
  /-- VF_DISABLE (R89; 0 clears VF Enable). -/
  | vfDisable (t : Time) (numVfs : Nat)
  /-- FLR_VF (R88). -/
  | flrVf (t : Time) (f : Nat)
  /-- FLR_PF (R89). -/
  | flrPf (t : Time)
  /-- RING_GRANT (R90). -/
  | ringGrant (t : Time) (r : Requester) (data : List Byte)
  /-- RING_REVOKE (R90). -/
  | ringRevoke (t : Time) (r : Requester) (data : List Byte)
  /-- CH_OWNER_WRITE (R91). -/
  | chOwnerWrite (t : Time) (r : Requester) (ch : Nat) (data : List Byte)
  /-- CHANNEL_OPEN (R96). -/
  | channelOpen (t : Time) (r : Requester) (ch : Nat)
  /-- CHANNEL_DRAIN (R93). -/
  | channelDrain (t : Time) (r : Requester) (ch : Nat)
  /-- CHANNEL_DRAIN_COMPLETE (R92). -/
  | channelDrainComplete (t : Time) (ch : Nat)
  /-- CHANNEL_ABORT (R94). -/
  | channelAbort (t : Time) (r : Requester) (ch : Nat)
  /-- RING_ENABLE (R100). -/
  | ringEnable (t : Time) (f ring : Nat)
  /-- RING_DISABLE (R100). -/
  | ringDisable (t : Time) (f ring : Nat)
  /-- RING_STOPPING_DONE (R100). -/
  | ringStoppingDone (t : Time) (ring : Nat)
  /-- DOORBELL_WRITE (R101). -/
  | doorbellWrite (t : Time) (f loc : Nat) (data : List Byte)
  /-- DESCRIPTOR_FETCH (R104; the slot as it stands in host memory). -/
  | descriptorFetch (t : Time) (ring : Nat) (slot : BitVec 256)
  /-- DESCRIPTOR_COMPLETE (R105; the bytes an IN transfer read from the host). -/
  | descriptorComplete (t : Time) (ring : Nat) (data : List Byte) (hostError : Bool)
  /-- MAILBOX_FENCE_READ (R111). -/
  | mailboxFenceRead (t : Time) (r : Requester)
  /-- TXN_TRACKER_FREED (R112). -/
  | txnTrackerFreed (t : Time) (c : TxnClass) (f : Nat)
  /-- INGEST_LINK_UP (R119). -/
  | ingestLinkUp (t : Time) (quad : Nat)
  /-- INGEST_LINK_DOWN (R120). -/
  | ingestLinkDown (t : Time) (quad : Nat)
  /-- INGEST_FLIT_CHECK_FAIL (R117). -/
  | ingestFlitCheckFail (t : Time) (quad : Nat)
  /-- INGEST_FLIT_UNKNOWN_TYPE (R117). -/
  | ingestFlitUnknownType (t : Time) (quad type seq : Nat)
  /-- LINE_START (R118). -/
  | lineStart (t : Time) (quad : Nat) (h : LineHead)
  /-- LINE_DATA (R118). -/
  | lineData (t : Time) (quad : Nat) (last : Bool) (seq : Nat) (data : List Byte)
  /-- FRAME_END (R124). -/
  | frameEnd (t : Time) (quad seq frameCount linesSent : Nat)
  /-- INGEST_IDLE (R117). -/
  | ingestIdle (t : Time) (quad seq : Nat)
  /-- INGEST_CREDIT_SEND (R119; flits that left the line buffer for DRAM since the last CREDIT). -/
  | ingestCreditSend (t : Time) (quad drained : Nat)
  /-- FRAME_TIMEOUT (R124). -/
  | frameTimeout (t : Time) (ch : Nat)
  /-- ST2110_PACKET (R121 to R123). -/
  | st2110Packet (t : Time) (ch : Nat) (p : St2110)
  /-- TILE_HANDOVER (R288). -/
  | tileHandover (t : Time) (from_ ch frameCount : Nat) (dropped : Bool) (lines : List (Nat × List Byte)) (capture : Time)
  /-- DERIVED_PICTURES_MADE (R129). -/
  | derivedPicturesMade (t : Time) (ch frameCount : Nat)
  /-- LUT_DATA_WRITE (R135). -/
  | lutDataWrite (t : Time) (r : Requester) (ch obj : Nat) (data : List Byte)
  /-- LUT_DATA_READ (R136). -/
  | lutDataRead (t : Time) (r : Requester) (ch obj : Nat)
  /-- LUT_COMMIT (R136). -/
  | lutCommit (t : Time) (r : Requester) (ch obj : Nat)
  /-- LUT_COPY_DONE (R136). -/
  | lutCopyDone (t : Time) (ch obj : Nat)
  /-- SEARCH_GRANT_ISSUE (R160). -/
  | searchGrantIssue (t : Time) (ms ch pic row ref : Nat)
  /-- SEARCH_GRANT_COMPLETE (R142; lines the grant found in the reference cache, missed, and fetched again, R155). -/
  | searchGrantComplete (t : Time) (ms hits misses refetched : Nat)
  /-- UNIT_WATCHDOG_EXPIRY (R181). -/
  | unitWatchdogExpiry (t : Time) (u : UnitId)
  /-- UNIT_STATE_ERROR (R181). -/
  | unitStateError (t : Time) (u : UnitId)
  /-- STALE_WRITE (R182). -/
  | staleWrite (t : Time) (u : UnitId) (gen : Nat)
  /-- UNIT_SELF_TEST_START (R185). -/
  | unitSelfTestStart (t : Time) (u : UnitId)
  /-- UNIT_SELF_TEST_COMPLETE (R185). -/
  | unitSelfTestComplete (t : Time) (u : UnitId) (pass : Bool)
  /-- PICTURE_START (R192; reference lists and marking by the standard). -/
  | pictureStart (t : Time) (ch stream : Nat) (refs : List Nat) (unref longTerm : List Nat)
  /-- CTU_ISSUE (R164; `ee` is the engine for a substream that starts here). -/
  | ctuIssue (t : Time) (px ee ch pic ctu : Nat)
  /-- PIXEL_GRANT_COMPLETE (R198). -/
  | pixelGrantComplete (t : Time) (px slip : Nat)
  /-- CHUNK_CODED (R172; the engine, and the channel and picture of its grant). -/
  | chunkCoded (t : Time) (ee ch pic : Nat)
  /-- CHUNK_EMIT (R173). -/
  | chunkEmit (t : Time) (ch stream : Nat)
  /-- VERIFY_DECODE_COMPLETE (R201). -/
  | verifyDecodeComplete (t : Time) (df : Nat) (hashesMatch decodeError : Bool)
  /-- ROI_COMMIT (R208). -/
  | roiCommit (t : Time) (r : Requester) (ch : Nat)
  /-- DECODE_RTP_PACKET (R213; its flow, payload type, sequence number and payload). -/
  | decodeRtpPacket (t : Time) (ch : Nat) (flow : RtpFlow) (type seq : Nat) (payload : List Byte)
  /-- MAG_CLIP_READ_COMPLETE (R213; the magazine port, and the channel that reads). -/
  | magClipReadComplete (t : Time) (port ch : Nat) (nvmeError : Bool)
  /-- DECODE_NAL_UNIT (R218, R426; the bytes the unit takes from the input, and the front ends that take the substreams
  beginning in it). -/
  | decodeNalUnit (t : Time) (ch bytes : Nat) (parse : NalParse) (dfs : List Nat)
  /-- DECODED_PICTURE_OUTPUT (R215; the next picture in output order, as the standard gives it). -/
  | decodedPictureOutput (t : Time) (ch pic : Nat)
  /-- BUFFER_ALLOC (R232; `use` as USE of Table 10-4, `ee` the engine of a chunk). -/
  | bufferAlloc (t : Time) (ch use ee : Nat)
  /-- BUFFER_FREE (R234; `owner` as OWNER of Table 10-4). -/
  | bufferFree (t : Time) (buf owner : Nat)
  /-- BUFFER_RELEASE (R234). -/
  | bufferRelease (t : Time) (buf owner : Nat)
  /-- EXPORT (R246). -/
  | export_ (t : Time) (r : Requester)
  /-- RETURN (R246). -/
  | return_ (t : Time) (r : Requester)
  /-- PTP_SYNC (R252). -/
  | ptpSync (t : Time) (seq : Nat) (origin rx : Time) (twoStep : Bool)
  /-- PTP_FOLLOW_UP (R252). -/
  | ptpFollowUp (t : Time) (seq : Nat) (origin : Time)
  /-- PTP_DELAY_REQ_SEND (R252). -/
  | ptpDelayReqSend (t : Time)
  /-- PTP_DELAY_RESP (R252; the master's receive timestamp). -/
  | ptpDelayResp (t : Time) (rx : Time)
  /-- PTP_ANNOUNCE (R252; `best`: the BMCA prefers this master). -/
  | ptpAnnounce (t : Time) (gm steps : Nat) (utcOffset : Int) (best : Bool)
  /-- PTP_ANNOUNCE_TIMEOUT (R251). -/
  | ptpAnnounceTimeout (t : Time)
  /-- HOLDOVER_TIMEOUT (R251). -/
  | holdoverTimeout (t : Time)
  /-- TOD_SET (R254). -/
  | todSet (t : Time) (r : Requester) (data : List Byte)
  /-- PPS_IN_EDGE (R255). -/
  | ppsInEdge (t : Time) (falling : Bool)
  /-- PPS_LOSS_TIMEOUT (R251). -/
  | ppsLossTimeout (t : Time)
  /-- PPS_OUT_PULSE (R255). -/
  | ppsOutPulse (t : Time)
  /-- LTC_CODEWORD (R256). -/
  | ltcCodeword (t : Time) (syncOk : Bool) (rate : LtcRate) (code : W32) (start : Time)
  /-- LTC_TIMEOUT (R256). -/
  | ltcTimeout (t : Time)
  /-- LAUNCH_FIRE (R259). -/
  | launchFire (t : Time) (ch : Nat)
  /-- PAIR_WINDOW_EXPIRY (R263). -/
  | pairWindowExpiry (t : Time) (ch : Nat)
  /-- LIST_WR_WRITE (R261). -/
  | listWrWrite (t : Time) (r : Requester) (ch : Nat) (data : List Byte)
  /-- BUGLE_LAUNCH_SEND (R267). -/
  | bugleLaunchSend (t : Time) (ch : Nat)
  /-- LAUNCH (R267). -/
  | launch (t : Time) (from_ ch : Nat) (forceIrap : Bool) (bugleSeq : Nat) (time : Time) (picCount : Nat)
  /-- REC_STATUS_SEND (R276). -/
  | recStatusSend (t : Time)
  /-- REC_STATUS (R276). -/
  | recStatus (t : Time) (from_ : Nat) (recording : Bool) (bugleSeq : Nat) (final agree edge : Time)
  /-- TIME_OF_DAY_SEND (R269). -/
  | timeOfDaySend (t : Time)
  /-- TIME_OF_DAY (R269). -/
  | timeOfDay (t : Time) (from_ bugleSeq : Nat) (edge : Time)
  /-- BUGLE_UNKNOWN_KIND (R268). -/
  | bugleUnknownKind (t : Time) (port kind : Nat)
  /-- SYNC_IO_DRIVE (R269). -/
  | syncIoDrive (t : Time)
  /-- SYNC_IO_EDGE (R269). -/
  | syncIoEdge (t : Time)
  /-- SYNC_LOSS_TIMEOUT (R251). -/
  | syncLossTimeout (t : Time)
  /-- REC_INPUT_CHANGE (R271; pin levels). -/
  | recInputChange (t : Time) (a b : Bool)
  /-- REC_TD_EXPIRY (R271). -/
  | recTdExpiry (t : Time)
  /-- REC_REARM (R271). -/
  | recRearm (t : Time)
  /-- REC_COMMAND_START (R273). -/
  | recCommandStart (t : Time) (r : Requester)
  /-- REC_COMMAND_STOP (R273). -/
  | recCommandStop (t : Time) (r : Requester)
  /-- REC_SOURCE_WRITE (R273). -/
  | recSourceWrite (t : Time) (r : Requester) (data : List Byte)
  /-- RONOX_LINK_UP (R284; the quad of the port). -/
  | ronoxLinkUp (t : Time) (port : Nat)
  /-- HELLO (R284). -/
  | hello (t : Time) (port : Nat) (h : Hello)
  /-- FORM_TIMEOUT (R285). -/
  | formTimeout (t : Time)
  /-- RONOX_FLIT_REJECT (R281). -/
  | ronoxFlitReject (t : Time) (port : Nat)
  /-- CREDIT (R281). -/
  | credit (t : Time) (port ackSeq : Nat) (totals : Nat × Nat × Nat) (nak : Bool)
  /-- RONOX_CREDIT_SEND (R279; flits of each class that left the receive buffers). -/
  | ronoxCreditSend (t : Time) (port : Nat) (drained : Nat × Nat × Nat)
  /-- IDLE (R277). -/
  | idle (t : Time) (port : Nat)
  /-- RONOX_ACK_TIMEOUT (R281). -/
  | ronoxAckTimeout (t : Time) (port : Nat)
  /-- RONOX_RETRAIN_DONE (R281). -/
  | ronoxRetrainDone (t : Time) (port : Nat)
  /-- RONOX_LINK_DOWN (R281). -/
  | ronoxLinkDown (t : Time) (port : Nat)
  /-- HEARTBEAT_SEND (R292). -/
  | heartbeatSend (t : Time)
  /-- HEARTBEAT (R292). -/
  | heartbeat (t : Time) (f : FlitHead) (h : Heartbeat)
  /-- HEARD_EXPIRY (R292). -/
  | heardExpiry (t : Time) (peer : Nat)
  /-- ARRAY_FENCED (R294). -/
  | arrayFenced (t : Time)
  /-- MEMBER_SILENCE_TIMEOUT (R293). -/
  | memberSilenceTimeout (t : Time) (peer : Nat)
  /-- EPOCH_REPEAT (R295). -/
  | epochRepeat (t : Time)
  /-- EPOCH (R295). -/
  | epoch (t : Time) (f : FlitHead) (e : EpochMsg)
  /-- FENCE_ORDER (R298). -/
  | fenceOrder (t : Time) (f : FlitHead) (epoch : Nat)
  /-- FAULT_RELAY (R360). -/
  | faultRelay (t : Time) (f : FlitHead) (rec : RelayRecord)
  /-- READMIT (R298). -/
  | readmit (t : Time) (r : Requester) (data : List Byte)
  /-- HALO_REQ (R290). -/
  | haloReq (t : Time) (f : FlitHead) (q : HaloReq)
  /-- HALO_DATA (R157). -/
  | haloData (t : Time) (f : FlitHead) (reqId offset : Nat) (data : List Byte)
  /-- HALO_REQ_REISSUE (R290). -/
  | haloReqReissue (t : Time) (reqId : Nat)
  /-- HALO_FINAL_SEND (R290). -/
  | haloFinalSend (t : Time) (ch pic owner : Nat)
  /-- EQ_CONFIG_WRITE (R302). -/
  | eqConfigWrite (t : Time) (r : Requester) (sub : Nat) (data : List Byte)
  /-- OFFLOAD_START (R314; the queue is the one the requester selects). -/
  | offloadStart (t : Time) (r : Requester)
  /-- OFFLOAD_STOP (R314). -/
  | offloadStop (t : Time) (r : Requester)
  /-- TRANSMIT_SELECTION (R305). -/
  | transmitSelection (t : Time) (port : Nat)
  /-- PACKET_TX_DONE (R304). -/
  | packetTxDone (t : Time) (port : Nat)
  /-- SHAPER_REFILL (R307). -/
  | shaperRefill (t : Time)
  /-- METER_REFILL (R315). -/
  | meterRefill (t : Time)
  /-- GATE_COMMIT (R309). -/
  | gateCommit (t : Time) (r : Requester) (port : Nat)
  /-- GATE_CYCLE_START (R309). -/
  | gateCycleStart (t : Time) (port : Nat)
  /-- GATE_ENTRY_CHANGE (R310). -/
  | gateEntryChange (t : Time) (port : Nat)
  /-- ETH_LINK_UP (R301). -/
  | ethLinkUp (t : Time) (port : Nat)
  /-- ETH_LINK_DOWN (R303). -/
  | ethLinkDown (t : Time) (port : Nat)
  /-- ARP_REQUEST (R301). -/
  | arpRequest (t : Time) (port senderIp senderMac targetIp : Nat)
  /-- ICMP_ECHO_REQUEST (R301). -/
  | icmpEchoRequest (t : Time) (port srcIp dstIp : Nat) (payload : List Byte)
  /-- ARP_REFRESH (R301). -/
  | arpRefresh (t : Time) (port ip : Nat)
  /-- MAG_PRESENCE_CHANGE (R316). -/
  | magPresenceChange (t : Time) (mag : Nat) (id : MagIdentify)
  /-- MAG_REMOVED (R323). -/
  | magRemoved (t : Time) (mag : Nat)
  /-- MAG_COMMAND_TIMEOUT (R323). -/
  | magCommandTimeout (t : Time) (mag : Nat)
  /-- NVME_COMPLETION (R316; [10:8] SCT, [7:0] SC, 0 for success). -/
  | nvmeCompletion (t : Time) (mag status : Nat)
  /-- CLIP_OPEN (R318). -/
  | clipOpen (t : Time) (r : Requester) (ch : Nat)
  /-- CLIP_CLOSE (R318). -/
  | clipClose (t : Time) (r : Requester) (ch : Nat)
  /-- EXTENT_ADD (R318). -/
  | extentAdd (t : Time) (r : Requester) (ch mag : Nat) (data : List Byte)
  /-- CLIP_WRITE (R318). -/
  | clipWrite (t : Time) (r : Requester) (ch : Nat) (data : List Byte)
  /-- MAG_CHECKPOINT (R320; each clip's channel keeps its own checkpoint clock from OPEN). -/
  | magCheckpoint (t : Time) (ch : Nat)
  /-- MAG_FLUSH_COMPLETE (R320). -/
  | magFlushComplete (t : Time) (mag ch : Nat)
  /-- CLIP_RECORD_WRITE_COMPLETE (R320). -/
  | clipRecordWriteComplete (t : Time) (mag ch stream : Nat)
  /-- DRAM_REFRESH (R326). -/
  | dramRefresh (t : Time) (dc : Nat)
  /-- DRAM_RETRAIN (R331). -/
  | dramRetrain (t : Time) (dc : Nat)
  /-- DRAM_RETRAIN_FORCED (R331). -/
  | dramRetrainForced (t : Time) (dc : Nat)
  /-- PATROL_SCRUB_READ (R332). -/
  | patrolScrubRead (t : Time) (addr rank : Nat) (res : ReadResult)
  /-- DRAM_REREAD (R334; the requester's SOURCE code, and the channel that owns the data, 0x1FF for none). -/
  | dramReread (t : Time) (addr rank source chan : Nat) (res : ReadResult)
  /-- DRAM_CA_ALERT (R336; `cmd` names the command that failed, `source` its requester). -/
  | dramCaAlert (t : Time) (dc sub rank addr cmd source : Nat)
  /-- DRAM_ERR_LOG_CLEAR (R337). -/
  | dramErrLogClear (t : Time) (r : Requester)
  /-- DMA_START (R340; the descriptor at DESC_ADDR, none when it cannot be read). -/
  | dmaStart (t : Time) (r : Requester) (dm : Nat) (first : Option (BitVec 256))
  /-- DMA_STOP (R342). -/
  | dmaStop (t : Time) (r : Requester) (dm : Nat)
  /-- DMA_DESCRIPTOR_COMPLETE (R341). -/
  | dmaDescriptorComplete (t : Time) (dm : Nat) (m : DmaMove) (next_ : Option (BitVec 256))
  /-- DMA_FINAL_READ_COMPLETE (R343). -/
  | dmaFinalReadComplete (t : Time) (dm : Nat)
  /-- HOLDOFF_EXPIRY (R346). -/
  | holdoffExpiry (t : Time) (f g : Nat)
  /-- MSIX_UNMASK (R346). -/
  | msixUnmask (t : Time) (f vector : Nat)
  /-- INT_SOURCE_WRITE (R349). -/
  | intSourceWrite (t : Time) (r : Requester) (sub : Nat) (data : List Byte)
  /-- CLAIM_READ (R348). -/
  | claimRead (t : Time) (f g : Nat)
  /-- CLAIM_COMPLETE (R350). -/
  | claimComplete (t : Time) (f g src : Nat)
  /-- FAULT_RAISE (R352; `inst` is the instance of the source whose condition holds; `blk` is the coding
  unit). -/
  | faultRaise (t : Time) (src inst : Nat) (depth chan pic tile ctu : Nat) (blk : UnitPlace) (detail : List Nat)
  /-- FAULT_CONDITION_END (R352). -/
  | faultConditionEnd (t : Time) (src inst : Nat)
  /-- FAULT_ACK (R352). -/
  | faultAck (t : Time) (r : Requester) (data : List Byte)
  /-- FAULT_PATH (R351). -/
  | faultPath (t : Time) (src : Nat)
  /-- FAULT_ROW_WRITE (R354). -/
  | faultRowWrite (t : Time) (r : Requester) (row : Nat) (data : List Byte)
  /-- FAULT_LOG_CLEAR (R358). -/
  | faultLogClear (t : Time) (r : Requester)
  /-- ERR_OUT_PATH (R359). -/
  | errOutPath (t : Time) (pinLow : Bool)
  /-- ERR_OUT_AGREE (R359). -/
  | errOutAgree (t : Time)
  /-- ERR_OUT_HOLD_EXPIRY (R359). -/
  | errOutHoldExpiry (t : Time)
  /-- MORAINE_DUMP_COMPLETE (R362). -/
  | moraineDumpComplete (t : Time)
  /-- FATAL_WARM_RESET (R356). -/
  | fatalWarmReset (t : Time) (b : BootFacts)
  /-- DUMP_NOW (R362). -/
  | dumpNow (t : Time) (r : Requester)
  /-- RELEASE (R363). -/
  | release (t : Time) (r : Requester)
  /-- VOLTAGE_EVALUATION (R369; measured power, and measured handshake rates as class, step and rate). -/
  | voltageEvaluation (t : Time) (powerMw : Nat) (rates : List (Nat × Nat × Nat))
  /-- DOMAIN_RAISE (R366). -/
  | domainRaise (t : Time) (pd : Nat)
  /-- PMBUS_POLL (R367). -/
  | pmbusPoll (t : Time) (ok : Bool) (vin iin : Nat) (temp : Int) (statusWord : Nat)
  /-- PMBUS_ALERT (R367). -/
  | pmbusAlert (t : Time) (ok : Bool) (statusWord : Nat)
  /-- VREG_FAULT (R368; 32 for the external regulator). -/
  | vregFault (t : Time) (pd : Nat)
  /-- FROST_ENTRY (R373). -/
  | frostEntry (t : Time)
  /-- FROST_EXIT (R373). -/
  | frostExit (t : Time)
  /-- ENTER_RIME (R374). -/
  | enterRime (t : Time) (r : Requester)
  /-- ENTER_DRIFT (R374). -/
  | enterDrift (t : Time) (r : Requester)
  /-- ENTER_NEVE (R374). -/
  | enterNeve (t : Time) (r : Requester)
  /-- ENTER_GLACIER (R374). -/
  | enterGlacier (t : Time) (r : Requester)
  /-- LADDER_ENTRY_COMPLETE (R374). -/
  | ladderEntryComplete (t : Time)
  /-- LADDER_WAKE (R375; TIME_NOW from the always-on count on exit from L5 (R257)). -/
  | ladderWake (t : Time) (w : WakeSource) (aoSeconds : Time) (b : BootFacts)
  /-- WAKE_TIMER (R375). -/
  | wakeTimer (t : Time) (aoSeconds : Time) (b : BootFacts)
  /-- TEMP_SENSOR_CONVERSION (R379; in 1/8 °C). -/
  | tempSensorConversion (t : Time) (pd : Nat) (reading : Int)
  /-- TDIODE_CONVERSION (R378). -/
  | tdiodeConversion (t : Time) (n : Nat) (reading : Int) (endOk : Bool)
  /-- THERMAL_CAP_STEP (R382). -/
  | thermalCapStep (t : Time)
  /-- CAL_WINDOW (R383; the counts of the 64 lines). -/
  | calWindow (t : Time) (pd cls band : Nat) (late trans : List Nat)
  /-- CAL_BACKOFF_EXPIRY (R384). -/
  | calBackoffExpiry (t : Time) (pd cls band : Nat)
  /-- STAGE_CAPTURE_ERROR (R386). -/
  | stageCaptureError (t : Time) (pd cls line : Nat) (u : Option UnitId)
  /-- TRIM_STORE (R387). -/
  | trimStore (t : Time)
  /-- FLASH_BEGIN (R395). -/
  | flashBegin (t : Time) (r : Requester)
  /-- FLASH_ERASE_COMPLETE (R395). -/
  | flashEraseComplete (t : Time) (region : Nat)
  /-- FLASH_DATA_WRITE (R395). -/
  | flashDataWrite (t : Time) (r : Requester) (offset : Nat) (data : List Byte)
  /-- FLASH_FETCH (R395). -/
  | flashFetch (t : Time) (r : Requester)
  /-- FLASH_FETCH_COMPLETE (R395; none when the host read fails). -/
  | flashFetchComplete (t : Time) (region : Nat) (data : Option (List Byte))
  /-- FLASH_COMMIT (R396; the copy reads back as written). -/
  | flashCommit (t : Time) (r : Requester) (readBackSame : Bool)
  /-- FLASH_ABORT (R395). -/
  | flashAbort (t : Time) (r : Requester)
  /-- FLASH_CONFIRM (R396). -/
  | flashConfirm (t : Time) (r : Requester)
  /-- PATCH_APPLY (R399; the region-5 copy as read). -/
  | patchApply (t : Time) (r : Requester) (img : Image)
  /-- PATCH_CLUSTER_WRITE (R399). -/
  | patchClusterWrite (t : Time) (cluster : Nat)
  /-- LIFE_HOUR_UPDATE (R422). -/
  | lifeHourUpdate (t : Time) (meanTj : Int)
  /-- SLOW_COPY_REFRESH (R79). -/
  | slowCopyRefresh (t : Time)
  /-- HOST_LINK_DOWN (R410). -/
  | hostLinkDown (t : Time)
  /-- POWER_UP (R404). -/
  | powerUp (t : Time)
  /-- SUPPLY_RESTORE (R406). -/
  | supplyRestore (t : Time) (b : BootFacts)
  /-- NVM_WRITE_ABANDON (R59). -/
  | nvmWriteAbandon (t : Time)
  deriving DecidableEq, Repr

end Sys2Proof
end

