-- ==== Sys2Proof/Decode.lean ====
section
/-! DEFINITION. The command that a word spells. Commands of the Elvoz are dictionary accesses, packets and events; no row of
the opcode table gives a command bits, so that no word spells one. -/

namespace Sys2Proof

/-- The command spelled by a word of `nbits` bits: the table gives no row any bits, so none. -/
def decodeTableWord (nbits w : Nat) : Option Instr :=
  let _ := nbits
  let _ := w
  none

end Sys2Proof
end

