-- ==== Sys2Proof/Machine/Coded.lean ====
section
/-! DEFINITION. The data of coded pictures: the tools of Tables 6-3, 6-4, 7-3 and 8-3, coded units with their vectors and
levels, the reconstruction they leave, and what a NAL unit is made of. -/

namespace Sys2Proof.Machine

/-- Store of values by number, sorted by number. -/
abbrev Contexts := List (Nat × Nat)

/-- A rectangle of samples of one plane of a part. -/
structure Block where
  x : Nat
  y : Nat
  w : Nat
  h : Nat
  deriving DecidableEq, Repr

/-- Prediction of a coding unit (Tables 6-3 and 6-4). -/
inductive CodeTool where
  | intra4 | intra8 | intra16 | angular | mip | mrl | isp
  | skip | direct | merge | mmvd | sbTmvp | affineMerge
  | amvp | amvrInt | smvd | affineAmvp
  deriving DecidableEq, Repr

/-- An intra tool. -/
def CodeTool.intra : CodeTool → Bool
  | .intra4 | .intra8 | .intra16 | .angular | .mip | .mrl | .isp => true
  | _ => false

/-- How a residual is coded: one of the standard's transforms by number, transform skip, BDPCM in one of its two directions,
or the transform and quantisation bypass. -/
inductive Transform where
  | ordinary (n : Nat)
  | skip
  | bdpcm (vertical : Bool)
  | bypass
  deriving DecidableEq, Repr

/-- A motion vector in quarter samples, with the place of its reference among the picture's references. -/
structure MotionVec where
  ref : Nat
  x : Int
  y : Int
  deriving DecidableEq, Repr

/-- A partition of an inter unit and its one or two vectors. -/
structure CodedPart where
  block : Block
  vecs : List MotionVec
  deriving DecidableEq, Repr

/-- A transform block: component, place on the component's grid, transform, and levels in coding order. -/
structure TuCode where
  comp : Nat
  block : Block
  transform : Transform
  levels : List Int
  deriving DecidableEq, Repr

/-- A coding unit: its luma rectangle, its prediction, the luma rectangle whose chroma it codes with the chroma mode, its
partitions and its transform blocks. -/
structure CodedUnit where
  block : Block
  tool : CodeTool
  mode : Nat
  chroma : Option (Block × Nat)
  parts : List CodedPart
  tus : List TuCode
  qp : Int
  lossless : Bool
  deriving DecidableEq, Repr

/-- Reconstructed samples of a rectangle of one component. -/
structure Patch where
  comp : Nat
  block : Block
  rows : List (List Nat)
  deriving DecidableEq, Repr

/-- A coded CTU: its units, its reconstruction before the loop filters, and the pixel core's contexts after it. -/
structure CtuCode where
  qp : Int
  lossless : Bool
  units : List CodedUnit
  patches : List Patch
  ctx : Contexts
  deriving DecidableEq, Repr

/-- A bin of the entropy coder: its context, none for bypass. -/
structure Bin where
  ctx : Option Nat
  bin : Bool
  deriving DecidableEq, Repr

/-- The tools in use and their settings, as the parameter sets signal them (Tables 6-3, 6-4, 7-3 and 8-3); what is not used
is signalled off. -/
structure Tools where
  codec : Nat
  chroma : Nat
  depth : Nat
  ctu : Nat
  deblock : Bool
  sao : Bool
  alf : Bool
  signHiding : Bool
  depQuant : Bool
  rdoq : Bool
  mts : Bool
  lfnst : Bool
  /-- Transform skip and, in H.266, BDPCM. -/
  transformSkip : Bool
  jointCbCr : Bool
  mrl : Bool
  isp : Bool
  affine : Bool
  amp : Bool
  /-- H.264 partitions below 8 × 8. -/
  subPartitions : Bool
  /-- Depth of the transform tree, and of the multi-type tree. -/
  tuDepth : Nat
  mttDepth : Nat
  /-- Extended precision at coded depth 16. -/
  extended : Bool
  /-- transquant_bypass_enabled_flag of H.265; sps_min_qp_prime_ts 0 of H.266. -/
  bypass : Bool
  minQpPrimeTs0 : Bool
  /-- Chroma QP offsets 0; identity chroma QP mapping. -/
  chromaQpOffset0 : Bool
  chromaQpIdentity : Bool
  wavefront : Bool
  deriving DecidableEq, Repr

/-- HRD values of a stream (R195): bit rate, CPB size in bits, cbr_flag, and the initial removal delay as a fraction of a
second. -/
structure HrdFacts where
  rate : Nat
  cpb : Nat
  cbr : Bool
  delay : Nat × Nat
  deriving DecidableEq, Repr

/-- What the parameter sets of a stream say. -/
structure ParamFacts where
  tools : Tools
  profile : Nat
  level : Nat
  tier : Nat
  width : Nat
  height : Nat
  /-- RATE_NUM and RATE_DEN. -/
  rate : Nat × Nat
  parts : Nat
  colStarts : List Nat
  rowStarts : List Nat
  /-- CTU rows of a chunk, 0 in PICTURE mode. -/
  chunkRows : Nat
  bPictures : Nat
  hrd : Option HrdFacts
  deriving DecidableEq, Repr

/-- A non-VCL NAL unit of the standards (Table 7-6). -/
inductive NalKind where
  | delimiter | vps | sps | pps | aps | bufferingPeriod | pictureTiming | pictureHash | endOfSequence
  deriving DecidableEq, Repr

/-- What a slice, slice segment or other NAL unit of a picture says of it. -/
structure SliceFacts where
  params : ParamFacts
  /-- Number of the picture in its stream, its type, and whether it is IRAP, IDR and a reference. -/
  num : Nat
  type : Nat
  irap : Bool
  idr : Bool
  isRef : Bool
  /-- Place of its frame among the B pictures of a group. -/
  j : Nat
  /-- Place of its frame in picture order, and of its references. -/
  order : Nat
  refOrders : List Nat
  base : Int
  /-- ALF filter sets that it uses. -/
  alf : List Int
  /-- The slice: first CTU, last CTU row; a dependent slice segment; and the bytes of each of its substreams. -/
  first : Nat
  lastRow : Nat
  dependent : Bool
  deriving DecidableEq, Repr

end Sys2Proof.Machine
end

