-- ==== Sys2Proof/Config.lean ====
section
/-! DEFINITION. What an implementation fixes and what the manual leaves open. Every opaque constant here is a free value:
nothing constrains it, and a statement that mentions one holds for every value of it. Each is named in the assumption log. -/

namespace Sys2Proof.Config

/-- Stepping letter and digit of the part in ASCII (HW_VERSION, IDENTITY sub 0x03). UNVERIFIED, log entry 15. -/
opaque stepping : Byte × Byte

/-- Serial number (IDENTITY sub 0x04), set at manufacture. -/
opaque serial : W32

/-- Factory base MAC address (Table 13-2). -/
opaque baseMac : Nat

/-- The entries that the XDD file marks PDO-mappable (R48): index × 256 + subindex. UNVERIFIED, log entry 14. -/
opaque mappable : Nat → Bool

/-- log2 of 0, and what a result beyond 48 integer bits becomes, in the fixed point of R191. DESIGN CHOICE, log entry 99. -/
opaque log2Zero : Int
opaque beyond48 : Nat → Nat

/-- The frequency correction a measured offset leads to, as Q16.16 ppm (R251 to R254 name no servo), by draw. UNVERIFIED, log entry 130. -/
opaque servo : Nat → Int

/-- The interval of the master's Announce messages in ns (R251; the master sets it). UNVERIFIED, log entry 251. -/
opaque announceInterval : Nat

/-- The trims a factory set holds, by trim line (R387). -/
opaque factoryTrim : Nat → Nat

/-- Factory value of S(v) of a class at a 5 mV step, with 16 fraction bits (R370). -/
opaque factorySpeed : Nat → Nat → Nat

/-- Factory constant of a preset: nominal nanoseconds of work per 65,536 samples, by preset and class (R369). -/
opaque workConstant : Nat → Nat → Nat

/-- Which free pool buffer an allocation takes (R232 names none), by draw: a number to be reduced to the free ones. DESIGN CHOICE, log entry 125. -/
opaque bufferChoice : Nat → Nat

/-- Which free granules and frame-buffer number a channel takes (R239 names none), by draw. -/
opaque frameBufferChoice : Nat → Nat

/-- Bytes a compressed frame buffer occupies (COMP_BYTES of Table 10-9; R242 gives no method), by draw. -/
opaque compressedBytes : Nat → Nat

/-- Compressed size in bytes that REF_BYTES_STORED counts for one CTU, by draw. -/
opaque storedBytes : Nat → Nat

/-- A sample of the polyphase scaler (Table 5-10 gives no coefficients): filter, output size and place, by the input plane. -/
opaque scaler : Nat → Nat → Nat → Nat → Nat → List (List Nat) → Nat

/-- Whether a quotient that is not whole is rounded up, where no rounding is named (Table 5-10), by dividend and divisor. DESIGN CHOICE, log entry 75. -/
opaque roundsUp : Nat → Nat → Bool

/-- YCbCr of a 16-bit RGB sample for OUT_MATRIX 1 and 2 (the standards BT.709 and BT.2020 hold the coefficients). -/
opaque yCbCr : Nat → Nat × Nat × Nat → Nat × Nat × Nat

/-- A sample whose rounding to a depth gives 2^depth (Table 5-10, stage 7): depth and 16-bit value. -/
opaque topSample : Nat → Nat → Nat

/-- Whether a pulse of RESET_N from 100 ns to 1 µs resets the device (R405 leaves it open), by draw. DEDUCED, log entry 38. -/
opaque shortPulse : Nat → Bool

/-- Limits of a level of a standard, by codec and level_idc: largest luma picture size, luma sample rate, tile columns and
tile rows (R163; the standards hold the numbers). -/
opaque levelLimits : Nat → Nat → Nat × Nat × Nat × Nat

/-- Largest bit rate and CPB size in bits of a level, by codec, profile code, level_idc and tier, with the NAL HRD factor of
the profile applied (R187). -/
opaque levelRate : Nat → Nat → Nat → Nat → Nat × Nat

/-- Largest decoded picture buffer of a level, in pictures, by codec, level_idc and luma samples of a picture (R239). -/
opaque levelDpb : Nat → Nat → Nat → Nat

/-- Level codes of a standard in rising order, up to level 6.2. DESIGN CHOICE, log entry 61. -/
opaque levels : Nat → List Nat

/-- Smallest tile of a standard in luma samples, by codec: width and height (R168). -/
opaque tileMin : Nat → Nat × Nat

/-- Which free engine or front end a waiting grant takes (R183 names none), by draw. DESIGN CHOICE, log entry 83. -/
opaque unitChoice : Nat → Nat

/-- Reference-cache line hits, misses and lines fetched again in one grant (R155 counts them; the manual gives no cache
organisation), by draw. -/
opaque cacheHits : Nat → Nat
opaque cacheMisses : Nat → Nat
opaque cacheRefetch : Nat → Nat

/-- QP' by which the search weighs the vectors of a block, from QP' of the CTUs that the block meets: R152 and R153 name the
unit's own, and a block of a coarse level is no unit. UNVERIFIED, log entry 205. -/
opaque searchQp : List Int → Int

/-- Whether a block above P0 has its neighbours' vectors as predictors, or none (R144 names P0 predictors). UNVERIFIED, log
entry 206. -/
opaque coarsePredictors : Bool

/-- Samples before and after a reference block that interpolation needs, by codec (R145; the standards hold the filters). -/
opaque interpSupport : Nat → Nat × Nat

/-- A standard's vector limits by codec and level_idc, horizontal and vertical, lowest and highest, in quarter samples (R145;
the standards hold them). -/
opaque vectorLimits : Nat → Nat → (Int × Int) × (Int × Int)

/-- Which P0 block is co-located with a block of a level (R143 says it of P0 blocks), and a component of its vector scaled to
the level. UNVERIFIED, log entry 207. -/
opaque colocatedBlock : Nat → Nat → Nat → Nat × Nat
opaque colocatedAt : Nat → Int → Int

/-- Taint origin of a picture made up for a missing reference (R225 gives none), by draw. -/
opaque madeUpOrigin : Nat → Nat

/-- Nanoseconds of nominal work that a launched frame uses in a class of units, and that it has done by an instant (R369
measures them): channel, launch time, class, instant. UNVERIFIED, log entry 182. -/
opaque workUsed : Nat → Time → Nat → Nat
opaque workDone : Nat → Time → Nat → Time → Nat

/-- The VOUT step of the external regulator, in µV (R366). UNVERIFIED, log entry 184. -/
opaque voutStep : Nat

/-- The retention voltage of a scalable domain in L1, in mV (Table 16-4). -/
opaque retentionMv : Nat → Nat

/-- The weight 2^((T − 95) / 10) of an hour of a mean temperature in 1/8 °C, with 16 fraction bits (R421 gives no rounding). DESIGN CHOICE, log entry 191. -/
opaque lifeWeight : Int → Nat

/-- What READ_BYTES, WRITE_BYTES and FORWARDS of MEMORY_COUNTERS count, by counter and draw: the accesses that each unit
makes, which no rule gives. DESIGN CHOICE, log entry 33. -/
opaque dramTraffic : Nat → Nat → Nat

/-- Bytes that the RTP receive buffer of a decode channel holds (R214 gives no size). UNVERIFIED, log entry 121. -/
opaque rtpBuffer : Nat

/-- What a request that waits in a queue, or that comes as one item of many, finds outside the device when it is served: the
facts of a boot, the image in flash, whether a copy reads back as written, a DMA descriptor in memory; by draw. DESIGN CHOICE, log entry 18. -/
opaque bootFacts : Nat → BootFacts
opaque patchImage : Nat → Image
opaque readBackSame : Nat → Bool
opaque firstDescriptor : Nat → Option (BitVec 256)

/-- What a unit finds in a configuration word that CFG_SHADOW_LOST left without a value (R83), by draw. DEDUCED, log entry 221. -/
opaque lostWord : Nat → Nat

/-- VALUE of an APPLIED_VIEW whose TARGET names VALUE itself: R71 gives any value. DEDUCED, log entry 222. -/
opaque ownView : Nat → Nat

/-- PCIe tags beyond the first 32 that the Device Control registers of a function enable: the host sets them when it configures
the link, and no command of the table does (R112). PRESUMED, log entry 231. -/
opaque extraTags : Nat → Nat

/-! ### What the coding standards hold

The spec names the standards' own prediction, transforms, contexts and syntax and does not state them. Each constant below is
one of these operations, free in the model; where it takes a function, that is how it looks at samples. PRESUMED, log entry
237. -/

open Sys2Proof.Machine

/-- Sum of absolute Hadamard coefficients of a block of a side, as SATD counts it (R148 names no scale). -/
opaque satdScale : Nat → Nat → Nat

/-- Intra prediction of a block: tools, prediction, mode, component, block, and the reconstruction near it. -/
opaque intraPredict : Tools → CodeTool → Nat → Nat → Block → (Nat → Int → Int → Option Nat) → List (List Nat)

/-- The most probable luma modes of a block, by the units coded before. -/
opaque mostProbable : Tools → List CodedUnit → Block → List Nat

/-- MIP modes of a block size. -/
opaque mipModes : Nat → Nat → Nat

/-- Inter prediction of a block of a component from its vectors: interpolation, the mean of two, and in H.266 BDOF, DMVR and
PROF as the decoder applies them; the distances in picture order, and samples of the references by place. -/
opaque interPredict : Tools → CodeTool → Nat → Block → List MotionVec → List Int → (Nat → Int → Int → Nat) → List (List Nat)

/-- The standard's own predictor of a vector for a reference: units coded before, and those of the references. -/
opaque vecPredictor : Tools → List CodedUnit → List (List CodedUnit) → Block → Nat → Int × Int

/-- Motion of each candidate of a merge tool, by number: skip, direct, merge, MMVD, SbTMVP and affine merge. -/
opaque mergeMotion : Tools → CodeTool → List CodedUnit → List (List CodedUnit) → Block → List (List CodedPart)

/-- Motion of 4-parameter affine AMVP, from the refined vectors of the unit. -/
opaque affineMotion : Tools → List CodedUnit → Block → List MotionVec → List (List CodedPart)

/-- Pairs of references tested in bi-prediction of a B picture, by their number. -/
opaque biPairs : Nat → Nat → List (Nat × Nat)

/-- The transforms that the standard allows a block, by tools, prediction and component. -/
opaque transforms : Tools → CodeTool → Nat → Nat → Nat → List Nat

/-- Levels of a residual, and the residual of levels: tools, transform, QP', λ, width and height. -/
opaque quantise : Tools → Transform → Int → Nat → List (List Int) → List Int
opaque dequantise : Tools → Transform → Int → Nat → Nat → List Int → List (List Int)

/-- QP' of a chroma component from QP' of luma. -/
opaque chromaQp : Tools → Nat → Int → Int

/-- Bins of a unit's prediction, of a transform block, of a split into a number of parts, and of a whole CTU. -/
opaque unitBins : Tools → List CodedUnit → CodedUnit → List Bin
opaque tuBins : Tools → TuCode → List Bin
opaque splitBins : Tools → Block → List Block → List Bin
opaque ctuBins : Tools → List CodedUnit → CtuCode → List Bin

/-- The bit-cost tables of the pixel control store (R154): state of a context, bin, and its cost with 16 fraction bits. -/
opaque bitCost : Nat → Bool → Nat

/-- The standard's initial states of the contexts, by codec, picture type and QP, and the state after a bin. -/
opaque ctxInit : Nat → Nat → Int → Contexts
opaque ctxNext : Nat → Nat → Bool → Nat

/-- Bytes of a run of bins from initial states of the contexts: the standard's arithmetic coder. -/
opaque arithBytes : Nat → Contexts → List Bin → List Byte

/-- Bytes of a symbol record (R166 gives only its largest size). -/
opaque recordBytes : CtuCode → Nat

/-- Samples of a CTU row of a component after the loop filters: tools, ALF sets, the rows of CTUs of the part down to the one
below it, and the row's number. -/
opaque loopFilter : Tools → List Int → List CtuCode → Nat → Nat → List (List Nat)

/-- What a frame buffer of an array channel holds where another device codes: component and place. -/
opaque beyondRegion : Nat → Nat → Nat → Nat

/-- ALF filter sets derived from a coded picture: its source and its reconstruction (R175). -/
opaque alfDerive : Tools → List Byte → List Byte → List Int

/-- The NAL unit of a slice from the bytes of its substreams, and a non-VCL NAL unit of the standard; the hash that a decoded
picture hash SEI carries is taken over the reconstruction. -/
opaque sliceNal : SliceFacts → List (List Byte) → List Byte
opaque standardNal : NalKind → SliceFacts → List Byte → List Byte

/-- Hasewin's manufacturer identity in IDCODE (R415: the BSDL file gives it). -/
opaque jtagId : BitVec 11

/-- Bytes from 24 on of a unit state record, by the dump's DONE_TIME and the unit's code: the XDD file lays out the unit's
registers (R364). PRESUMED, log entry 178. -/
opaque unitRegister : Nat → Nat → Nat → BitVec 8

/-- A byte of the Shawm state of a dump, by its DONE_TIME (R364). PRESUMED, log entry 178. -/
opaque shawmByte : Nat → Nat → BitVec 8

end Sys2Proof.Config
end

