-- ==== Sys2Proof/Machine/Store.lean ====
section
/-! DEFINITION. A sparse table of the machine: an association list with strictly rising keys. Rings, channels, buffers,
dictionary values and every other table of the Elvoz are held in it, so that a state is plain data. -/

namespace Sys2Proof.Machine

/-- A sparse table: entries by number, keys strictly rising. -/
abbrev Store (α : Type) := List (Nat × α)

/-- The entry of number `k`, if the table lists one. -/
def Store.find? {α : Type} (s : Store α) (k : Nat) : Option α :=
  match s with
  | [] => none
  | (j, v) :: r => if j = k then some v else Store.find? r k

/-- The entry of number `k`, or the value `d` that an unlisted entry reads as. -/
def Store.get {α : Type} (s : Store α) (d : α) (k : Nat) : α :=
  (Store.find? s k).getD d

/-- The table with entry `k` set to `v`. -/
def Store.put {α : Type} (s : Store α) (k : Nat) (v : α) : Store α :=
  match s with
  | [] => [(k, v)]
  | (j, w) :: r =>
    if k < j then (k, v) :: (j, w) :: r
    else if j = k then (k, v) :: r
    else (j, w) :: Store.put r k v

/-- The table without entry `k`. -/
def Store.erase {α : Type} (s : Store α) (k : Nat) : Store α :=
  match s with
  | [] => []
  | (j, w) :: r => if j = k then Store.erase r k else (j, w) :: Store.erase r k

/-- Every listed value passed through `f`. -/
def Store.map {α : Type} (s : Store α) (f : Nat → α → α) : Store α :=
  List.map (fun e => (e.1, f e.1 e.2)) s

/-- The canonical form: keys strictly rising. -/
abbrev Store.wf {α : Type} (s : Store α) : Prop :=
  (List.map Prod.fst s).Pairwise (· < ·)

/-! ### Memory: bytes by address, listing no byte that reads as the fill value -/

/-- A byte memory: addresses strictly rising, and no listed byte equal to the value an unlisted address reads as. -/
abbrev Memory := Store Byte

/-- What an address that the memory does not list reads as: zero, the value initialisation writes to every DRAM line
(R330) and the value the mailbox words are taken to hold after reset. -/
def Memory.fill : Byte := 0

/-- One byte read. -/
def Memory.read (m : Memory) (a : Nat) : Byte := Store.get m Memory.fill a

/-- One byte written. Writing the fill value removes the entry, so that equal memories are equal lists. -/
def Memory.write (m : Memory) (a : Nat) (b : Byte) : Memory :=
  if b = Memory.fill then Store.erase m a else Store.put m a b

/-- The canonical form of a memory. -/
abbrev Memory.wf (m : Memory) : Prop :=
  Store.wf m ∧ ∀ e ∈ m, e.2 ≠ Memory.fill

/-- Bytes written from address `a` upward. -/
def Memory.writeBytes (m : Memory) (a : Nat) (bs : List Byte) : Memory :=
  match bs with
  | [] => m
  | b :: r => Memory.writeBytes (Memory.write m a b) (a + 1) r

/-- `n` bytes read from address `a` upward. -/
def Memory.readBytes (m : Memory) (a n : Nat) : List Byte :=
  (List.range n).map (fun i => Memory.read m (a + i))

/-! ### Byte strings -/

/-- A little-endian number from its bytes (R31). -/
def leNat (bs : List Byte) : Nat :=
  match bs with
  | [] => 0
  | b :: r => b.toNat + 256 * leNat r

/-- The `n` little-endian bytes of a number (R31). -/
def leBytes (n v : Nat) : List Byte :=
  match n with
  | 0 => []
  | n + 1 => BitVec.ofNat 8 v :: leBytes n (v / 256)

/-- The `n` big-endian bytes of a number, for SEI payloads (R176). -/
def beBytes (n v : Nat) : List Byte := (leBytes n v).reverse

/-- Bits `hi` down to `lo` of a number. -/
def bits (v hi lo : Nat) : Nat := v / 2 ^ lo % 2 ^ (hi + 1 - lo)

/-- Bit `b` of a number. -/
def bit (v b : Nat) : Bool := v / 2 ^ b % 2 == 1

/-- The number with bit `b` set to `x`. -/
def setBit (v b : Nat) (x : Bool) : Nat :=
  if bit v b then (if x then v else v - 2 ^ b) else (if x then v + 2 ^ b else v)

/-- One byte taken into a CRC-32C register, bit by bit. -/
def crcByte (c : BitVec 32) (b : Byte) : BitVec 32 :=
  (List.range 8).foldl (fun c _ => if c.getLsbD 0 then (c >>> 1) ^^^ 0x82F63B78#32 else c >>> 1)
    (c ^^^ b.setWidth 32)

/-- CRC-32C (Castagnoli, reflected, initial value and final complement all ones). PRESUMED: the manual names the code
and not its polynomial. PRESUMED, log entry 36. -/
def crc32c (bs : List Byte) : BitVec 32 := ~~~ (bs.foldl crcByte 0xFFFFFFFF#32)

/-- A two's-complement reading of the low `n` bits of a number. -/
def toSigned (n v : Nat) : Int :=
  let m := v % 2 ^ n
  if m < 2 ^ (n - 1) then (m : Int) else (m : Int) - 2 ^ n

/-- The two's-complement code of an integer in `n` bits. -/
def ofSigned (n : Nat) (i : Int) : Nat := (i % (2 ^ n : Int)).toNat

/-- Division rounded up. -/
def ceilDiv (a b : Nat) : Nat := (a + b - 1) / b

/-- The number of set bits among the low `n`. -/
def popCount (n v : Nat) : Nat := ((List.range n).filter (fun i => bit v i)).length

end Sys2Proof.Machine
end

