-- ==== Sys2Proof/Machine/Entry.lean ====
section
/-! DEFINITION. What a dictionary entry is: its type, access code, apply point and limits (R28 to R35, R423), and the abort
codes of Table 2-14. -/

namespace Sys2Proof.Machine

/-- The types of Table 2-3. -/
inductive Ty where
  | bool | i8 | i16 | i32 | i64 | u8 | u16 | u32 | u64 | str | dom | time | q16
  deriving DecidableEq, Repr

/-- The type codes of Table 2-3. -/
def Ty.code : Ty → Nat
  | .bool => 0x01 | .i8 => 0x02 | .i16 => 0x03 | .i32 => 0x04 | .i64 => 0x15
  | .u8 => 0x05 | .u16 => 0x06 | .u32 => 0x07 | .u64 => 0x1B
  | .str => 0x09 | .dom => 0x0F | .time => 0x41 | .q16 => 0x42

/-- Size in bytes of a fixed-size type; none for a VISIBLE_STRING or DOMAIN. -/
def Ty.size : Ty → Option Nat
  | .bool | .i8 | .u8 => some 1
  | .i16 | .u16 => some 2
  | .i32 | .u32 | .q16 => some 4
  | .i64 | .u64 | .time => some 8
  | .str | .dom => none

/-- The types read as two's complement. -/
def Ty.signed : Ty → Bool
  | .i8 | .i16 | .i32 | .i64 | .q16 => true
  | _ => false

/-- Access codes of Table 2-4. -/
inductive Acc where
  | const | ro | wo | rw | rwp
  deriving DecidableEq, Repr

/-- Apply points of Table 2-5. -/
inductive Ap where
  | imm | frame | cycle | refill | boot
  deriving DecidableEq, Repr

/-- An entry's own limits at the write (R33, R423). -/
inductive Lim where
  | any
  /-- A range, both ends included. -/
  | range (lo hi : Int)
  /-- One further value beside a range. -/
  | rangeOr (x lo hi : Int)
  /-- A range with a step counted from its lower end. -/
  | step (lo hi k : Int)
  | codes (l : List Nat)
  /-- Bits outside the mask are Reserved or must be 0. -/
  | mask (m : Nat)
  /-- APERTURE of BAR2_SELECT (Table 3-8). -/
  | aperture
  /-- LUT_INDEX of CH_DERIVEDk (Table 5-11). -/
  | lutIndex
  /-- An Ethernet port as [7:4] quad, [3:0] port: a quad from 0 to 5 and a port from 0 to 3 (R4). -/
  | quadPort
  | quadPortOr (x : Nat)
  /-- GRID of CH_ARRAY (Table 12-6). -/
  | grid
  /-- VLAN: [12] must be 0 unless untagged. -/
  | vlan
  /-- RTP: payload type in [39:32] from 96 to 127, [63:40] must be 0. -/
  | rtp
  /-- MODE of DMA_CH (Table 14-9). -/
  | dmaMode
  deriving DecidableEq, Repr

/-- A row of a dictionary table: its index (the object number for a channel object) and how many consecutive indices it
covers, its subindex and how many subindices, and what the table's columns say. -/
structure Entry where
  idx : Nat
  idxN : Nat
  sub : Nat
  subN : Nat
  ty : Ty
  acc : Acc
  dflt : Nat
  ap : Ap
  lim : Lim
  /-- Marked for admission (R95). -/
  adm : Bool
  deriving DecidableEq, Repr

/-- An abort code. -/
abbrev Abort := W32

namespace A
/-- Command or opcode not valid. -/
abbrev command : Abort := 0x05040001#32
/-- Index does not exist. -/
abbrev index : Abort := 0x06020000#32
/-- Subindex does not exist. -/
abbrev subindex : Abort := 0x06090011#32
/-- Requester has no right to the entry (R37). -/
abbrev right : Abort := 0x0A480004#32
/-- Read of a WO entry. -/
abbrev writeOnly : Abort := 0x06010001#32
/-- Write of a CONST or RO entry. -/
abbrev readOnly : Abort := 0x06010002#32
/-- Write of an RWP entry past its endurance limit. -/
abbrev worn : Abort := 0x0A480001#32
/-- Entry cannot be mapped into a PDO. -/
abbrev unmappable : Abort := 0x06040041#32
/-- Length does not match the type. -/
abbrev length : Abort := 0x06070010#32
/-- Value not allowed for the entry. -/
abbrev value : Abort := 0x06090030#32
/-- Value above the maximum. -/
abbrev above : Abort := 0x06090031#32
/-- Value below the minimum. -/
abbrev below : Abort := 0x06090032#32
/-- Value names a unit outside its range (R4). -/
abbrev unitRange : Abort := 0x0A480002#32
/-- Channel is not in a state that allows the write. -/
abbrev state : Abort := 0x0A480003#32
/-- Present device state: request queue full, or an update of the same region still running. -/
abbrev busy : Abort := 0x08000022#32
/-- Device is fenced from its array. -/
abbrev fenced : Abort := 0x0A480005#32
/-- NVM slot write failed its read-back check. -/
abbrev readBack : Abort := 0x0A480006#32
/-- Data cannot be stored. -/
abbrev store : Abort := 0x08000020#32
/-- Hardware error in the unit that owns the entry. -/
abbrev hardware : Abort := 0x06060000#32
/-- General error. -/
abbrev general : Abort := 0x08000000#32
end A

/-- A signed or unsigned reading of a raw value under its type. -/
def Ty.toInt (ty : Ty) (v : Nat) : Int :=
  match ty.size with
  | none => v
  | some n => if ty.signed then toSigned (8 * n) v else (v : Int)

/-- An APERTURE value: a code of Table 3-9, [23:16] 0 (Table 3-8). -/
def checkAperture (v : Nat) : Option Abort :=
  if bits v 31 24 > 7 ∨ bits v 23 16 ≠ 0 then some A.value else none

/-- An Ethernet port name: a quad of Table 0-3, and a port of the four that a quad has at most. DEDUCED, log entry 212. -/
def checkQuadPort (v : Nat) : Option Abort :=
  if v / 16 > 5 ∨ v % 16 > 3 then some A.unitRange else none

/-- GRID: each nibble from 1 to 8, product at most 8 (Table 12-6). -/
def checkGrid (v : Nat) : Option Abort :=
  let a := v / 16
  let b := v % 16
  if a > 8 ∨ b > 8 ∨ a * b > 8 then some A.above
  else if a = 0 ∨ b = 0 then some A.below else none

/-- The check of a raw value against an entry's own limits, in the order of Table 2-14. -/
def Lim.check (l : Lim) (ty : Ty) (v : Nat) : Option Abort :=
  let i := ty.toInt v
  match l with
  | .any => none
  | .range lo hi => if i > hi then some A.above else if i < lo then some A.below else none
  | .rangeOr x lo hi =>
    if i = x then none else if i > hi then some A.above else if i < lo then some A.below else none
  | .step lo hi k =>
    if (i - lo) % k ≠ 0 then some A.value else if i > hi then some A.above else if i < lo then some A.below else none
  | .codes cs => if cs.contains v then none else some A.value
  | .mask m => if v &&& m = v then none else some A.value
  | .aperture => checkAperture v
  | .lutIndex =>
    if bits v 13 12 = 3 ∨ v % 4 ≠ 0 ∨ v / 2 ^ 14 ≠ 0 then some A.value else none
  | .quadPort => checkQuadPort v
  | .quadPortOr x => if v = x then none else checkQuadPort v
  | .grid => checkGrid v
  | .vlan => if v = 0xFFFF then none else if bit v 12 then some A.value else none
  | .rtp =>
    if bits v 63 40 ≠ 0 then some A.value
    else if bits v 39 32 > 127 then some A.above
    else if bits v 39 32 < 96 then some A.below else none
  | .dmaMode =>
    if bit v 9 ∨ bits v 6 4 = 7 ∨ bits v 3 1 = 7 then some A.value
    else if bits v 29 18 > 4094 then some A.above else none

/-- The whole check of R33 on the bytes written: length, type, then limits; a value off the step is 0x0609_0030 even outside the
range, as R53 orders the codes. -/
def Entry.check (e : Entry) (data : List Byte) : Option Abort :=
  match e.ty.size with
  | none => none
  | some n =>
    if data.length ≠ n then some A.length
    else
      let v := leNat data
      if e.ty = .bool ∧ v > 1 then some A.value else e.lim.check e.ty v

end Sys2Proof.Machine
end

