-- ==== Sys2Proof/Machine/Entries.lean ====
section
/-! DEFINITION. The dictionary of the Elvoz: every entry of the manual's dictionary tables, with its type, access code,
default, apply point, limits and admission mark (R28 to R35, R423). Written from the tables of chapters 1 to 18. -/

namespace Sys2Proof.Machine

/-- Device entries, part 0. The PDO parameter entries from 0x1400 to 0x1A07 are those of CiA 1301: PRESUMED, log entry 219. -/
def devEntries0 : List Entry := [
  ⟨0x1000, 1, 0x0, 1, .u32, .const, 0xe160000, .imm, .any, false⟩,
  ⟨0x1001, 1, 0x0, 1, .u8, .ro, 0x0, .imm, .any, false⟩,
  ⟨0x1008, 1, 0x0, 1, .str, .const, 0x0, .imm, .any, false⟩,
  ⟨0x1009, 1, 0x0, 1, .str, .const, 0x0, .imm, .any, false⟩,
  ⟨0x100a, 1, 0x0, 1, .str, .ro, 0x0, .imm, .any, false⟩,
  ⟨0x1011, 1, 0x0, 1, .u8, .const, 0x1, .imm, .any, false⟩,
  ⟨0x1011, 1, 0x1, 1, .u32, .wo, 0x0, .imm, .any, false⟩,
  ⟨0x1017, 1, 0x0, 1, .u16, .rwp, 0x64, .imm, .any, false⟩,
  ⟨0x1018, 1, 0x0, 1, .u8, .const, 0x4, .imm, .any, false⟩,
  ⟨0x1018, 1, 0x1, 1, .u32, .const, 0xa48, .imm, .any, false⟩,
  ⟨0x1018, 1, 0x2, 1, .u32, .const, 0xe016, .imm, .any, false⟩,
  ⟨0x1018, 1, 0x3, 1, .u32, .const, 0x0, .imm, .any, false⟩,
  ⟨0x1018, 1, 0x4, 1, .u32, .const, 0x0, .imm, .any, false⟩,
  ⟨0x1400, 8, 0x0, 1, .u8, .const, 0x2, .imm, .any, false⟩,
  ⟨0x1400, 8, 0x1, 1, .u32, .rwp, 0x80000000, .imm, .any, false⟩,
  ⟨0x1400, 8, 0x2, 1, .u8, .rwp, 0xfe, .imm, .any, false⟩,
  ⟨0x1600, 8, 0x0, 1, .u8, .rwp, 0x0, .imm, .range 0 64, false⟩,
  ⟨0x1600, 8, 0x1, 64, .u32, .rwp, 0x0, .imm, .any, false⟩,
  ⟨0x1800, 8, 0x0, 1, .u8, .const, 0x5, .imm, .any, false⟩,
  ⟨0x1800, 8, 0x1, 1, .u32, .rwp, 0x80000000, .imm, .any, false⟩,
  ⟨0x1800, 8, 0x2, 1, .u8, .rwp, 0xfe, .imm, .any, false⟩,
  ⟨0x1800, 8, 0x3, 1, .u16, .rwp, 0x0, .imm, .any, false⟩,
  ⟨0x1800, 8, 0x5, 1, .u16, .rwp, 0x0, .imm, .any, false⟩,
  ⟨0x1a00, 8, 0x0, 1, .u8, .rwp, 0x0, .imm, .range 0 64, false⟩,
  ⟨0x1a00, 8, 0x1, 64, .u32, .rwp, 0x0, .imm, .any, false⟩,
  ⟨0x2011, 1, 0x0, 1, .u8, .const, 0xc, .imm, .any, false⟩,
  ⟨0x2011, 1, 0x1, 8, .u32, .ro, 0x1f7f01ff, .imm, .any, false⟩,
  ⟨0x2011, 1, 0x9, 1, .u8, .ro, 0x40, .imm, .any, false⟩,
  ⟨0x2011, 1, 0xa, 1, .u8, .ro, 0x30, .imm, .any, false⟩,
  ⟨0x2011, 1, 0xb, 1, .u8, .ro, 0x10, .imm, .any, false⟩,
  ⟨0x2011, 1, 0xc, 1, .u8, .ro, 0x10, .imm, .any, false⟩,
  ⟨0x2012, 1, 0x0, 1, .u8, .const, 6, .imm, .any, false⟩,
  ⟨0x2012, 1, 0x1, 1, .u16, .rwp, 0x100, .boot, .range 0 4096, false⟩,
  ⟨0x2012, 1, 0x2, 1, .u8, .rw, 0x50, .imm, .range 50 95, false⟩,
  ⟨0x2012, 1, 0x3, 1, .u16, .rw, 0x1f4, .imm, .range 50 10000, false⟩,
  ⟨0x2012, 1, 0x4, 1, .u32, .ro, 0, .imm, .any, false⟩,
  ⟨0x2012, 1, 0x5, 1, .u32, .ro, 0, .imm, .any, false⟩,
  ⟨0x2012, 1, 0x6, 1, .u8, .ro, 0, .imm, .any, false⟩,
  ⟨0x2050, 1, 0x0, 1, .u8, .const, 6, .imm, .any, false⟩,
  ⟨0x2050, 1, 0x1, 1, .u8, .rwp, 0x10, .boot, .range 1 127, false⟩]

/-- Device entries, part 1. -/
def devEntries1 : List Entry := [
  ⟨0x2050, 1, 0x2, 1, .u8, .rwp, 0x11, .boot, .range 1 127, false⟩,
  ⟨0x2050, 1, 0x3, 1, .u16, .rwp, 0x3e8, .boot, .codes [125, 250, 500, 1000], false⟩,
  ⟨0x2050, 1, 0x4, 1, .u16, .rwp, 0x1388, .boot, .codes [2000, 4000, 5000, 8000], false⟩,
  ⟨0x2050, 1, 0x5, 1, .u8, .rwp, 3, .boot, .mask 0x3, false⟩,
  ⟨0x2050, 1, 0x6, 1, .u16, .ro, 0, .imm, .any, false⟩,
  ⟨0x2051, 1, 0x0, 1, .u8, .const, 6, .imm, .any, false⟩,
  ⟨0x2051, 1, 0x1, 1, .u32, .rwp, 0xc0a81010, .boot, .any, false⟩,
  ⟨0x2051, 1, 0x2, 1, .u32, .rwp, 0xffffff00, .boot, .any, false⟩,
  ⟨0x2051, 1, 0x3, 1, .u32, .rwp, 0, .boot, .any, false⟩,
  ⟨0x2051, 1, 0x4, 1, .u16, .rwp, 0x1e0a, .boot, .any, false⟩,
  ⟨0x2051, 1, 0x5, 1, .u32, .rw, 0, .imm, .any, false⟩,
  ⟨0x2051, 1, 0x6, 1, .u16, .rw, 0x1e0b, .imm, .any, false⟩,
  ⟨0x2052, 1, 0x0, 1, .u8, .const, 0xa, .imm, .any, false⟩,
  ⟨0x2052, 1, 0x1, 5, .u8, .ro, 0, .imm, .any, false⟩,
  ⟨0x2052, 1, 0x6, 5, .u32, .ro, 0, .imm, .any, false⟩,
  ⟨0x2053, 1, 0x0, 1, .u8, .const, 5, .imm, .any, false⟩,
  ⟨0x2053, 1, 0x1, 1, .u32, .ro, 0, .imm, .any, false⟩,
  ⟨0x2053, 1, 0x2, 1, .u32, .ro, 0, .imm, .any, false⟩,
  ⟨0x2053, 1, 0x3, 1, .time, .ro, 0, .imm, .any, false⟩,
  ⟨0x2053, 1, 0x4, 1, .u32, .ro, 0, .imm, .any, false⟩,
  ⟨0x2053, 1, 0x5, 1, .u8, .wo, 0, .imm, .any, false⟩,
  ⟨0x2054, 1, 0x0, 1, .u8, .const, 3, .imm, .any, false⟩,
  ⟨0x2054, 1, 0x1, 1, .u32, .rw, 0, .imm, .mask 0xffffff, false⟩,
  ⟨0x2054, 1, 0x2, 1, .u64, .ro, 0, .imm, .any, false⟩,
  ⟨0x2054, 1, 0x3, 1, .u8, .ro, 1, .imm, .any, false⟩,
  ⟨0x2055, 1, 0x0, 1, .u8, .const, 2, .imm, .any, false⟩,
  ⟨0x2055, 1, 0x1, 1, .u32, .ro, 0, .imm, .any, false⟩,
  ⟨0x2055, 1, 0x2, 1, .time, .ro, 0, .imm, .any, false⟩,
  ⟨0x2056, 1, 0x0, 1, .u8, .const, 4, .imm, .any, false⟩,
  ⟨0x2056, 1, 0x1, 1, .u32, .ro, 0, .imm, .any, false⟩,
  ⟨0x2056, 1, 0x2, 1, .u32, .ro, 0, .imm, .any, false⟩,
  ⟨0x2056, 1, 0x3, 1, .u32, .ro, 0, .imm, .any, false⟩,
  ⟨0x2056, 1, 0x4, 1, .u8, .ro, 0xff, .imm, .any, false⟩,
  ⟨0x2057, 1, 0x0, 1, .u8, .const, 3, .imm, .any, false⟩,
  ⟨0x2057, 1, 0x1, 3, .u32, .rw, 0, .imm, .aperture, false⟩,
  ⟨0x2080, 1, 0x0, 1, .u8, .const, 4, .imm, .any, false⟩,
  ⟨0x2080, 1, 0x1, 1, .u64, .ro, 0, .imm, .any, false⟩,
  ⟨0x2080, 1, 0x2, 1, .u16, .ro, 0, .imm, .any, false⟩,
  ⟨0x2080, 1, 0x3, 1, .u16, .ro, 0, .imm, .any, false⟩,
  ⟨0x2080, 1, 0x4, 1, .u32, .ro, 0, .imm, .any, false⟩]

/-- Device entries, part 2. -/
def devEntries2 : List Entry := [
  ⟨0x2081, 1, 0x0, 1, .u8, .const, 2, .imm, .any, false⟩,
  ⟨0x2081, 1, 0x1, 1, .u32, .rw, 0, .imm, .mask 0xffffff, false⟩,
  ⟨0x2081, 1, 0x2, 1, .u32, .ro, 0, .imm, .any, false⟩,
  ⟨0x2100, 1, 0x0, 1, .u8, .const, 0xf, .imm, .any, false⟩,
  ⟨0x2100, 1, 0x1, 1, .time, .ro, 0, .imm, .any, false⟩,
  ⟨0x2100, 1, 0x2, 1, .u8, .ro, 0, .imm, .any, false⟩,
  ⟨0x2100, 1, 0x3, 1, .u8, .rwp, 1, .imm, .codes [0, 1, 2], false⟩,
  ⟨0x2100, 1, 0x4, 1, .u8, .ro, 1, .imm, .any, false⟩,
  ⟨0x2100, 1, 0x5, 1, .i64, .ro, 0, .imm, .any, false⟩,
  ⟨0x2100, 1, 0x6, 1, .q16, .ro, 0, .imm, .any, false⟩,
  ⟨0x2100, 1, 0x7, 1, .u8, .rw, 0, .imm, .codes [0, 1], false⟩,
  ⟨0x2100, 1, 0x8, 1, .u32, .rw, 0xf4240, .imm, .range 1000 1000000000, false⟩,
  ⟨0x2100, 1, 0x9, 1, .u32, .rw, 0x12c, .imm, .any, false⟩,
  ⟨0x2100, 1, 0xa, 1, .u16, .rw, 0x64, .imm, .range 1 10000, false⟩,
  ⟨0x2100, 1, 0xb, 1, .u64, .ro, 0, .imm, .any, false⟩,
  ⟨0x2100, 1, 0xc, 1, .i16, .rw, 0x25, .imm, .any, false⟩,
  ⟨0x2100, 1, 0xd, 1, .time, .wo, 0, .imm, .any, false⟩,
  ⟨0x2100, 1, 0xe, 1, .u32, .ro, 0, .imm, .any, false⟩,
  ⟨0x2100, 1, 0xf, 1, .i64, .ro, 0, .imm, .any, false⟩,
  ⟨0x2101, 1, 0x0, 1, .u8, .const, 0xa, .imm, .any, false⟩,
  ⟨0x2101, 1, 0x1, 1, .u8, .rwp, 0x7f, .boot, .range 0 127, false⟩,
  ⟨0x2101, 1, 0x2, 1, .u8, .rwp, 0xff, .boot, .quadPortOr 0xFF, false⟩,
  ⟨0x2101, 1, 0x3, 1, .i8, .rwp, 0xfd, .boot, .range (-7) 0, false⟩,
  ⟨0x2101, 1, 0x4, 1, .u8, .rwp, 3, .boot, .range 2 10, false⟩,
  ⟨0x2101, 1, 0x5, 1, .bool, .rwp, 1, .boot, .any, false⟩,
  ⟨0x2101, 1, 0x6, 1, .u32, .rw, 0x64, .imm, .range 10 100000, false⟩,
  ⟨0x2101, 1, 0x7, 1, .u8, .ro, 1, .imm, .any, false⟩,
  ⟨0x2101, 1, 0x8, 1, .u64, .ro, 0, .imm, .any, false⟩,
  ⟨0x2101, 1, 0x9, 1, .u32, .ro, 0, .imm, .any, false⟩,
  ⟨0x2101, 1, 0xa, 1, .u16, .ro, 0, .imm, .any, false⟩,
  ⟨0x2102, 1, 0x0, 1, .u8, .const, 8, .imm, .any, false⟩,
  ⟨0x2102, 1, 0x1, 1, .u8, .rwp, 0, .imm, .codes [0, 1], false⟩,
  ⟨0x2102, 1, 0x2, 1, .bool, .rw, 1, .imm, .any, false⟩,
  ⟨0x2102, 1, 0x3, 1, .u16, .rw, 0x64, .imm, .range 1 900, false⟩,
  ⟨0x2102, 1, 0x4, 1, .i32, .rw, 0, .imm, .range (-500000) 500000, false⟩,
  ⟨0x2102, 1, 0x5, 1, .u32, .ro, 0, .imm, .any, false⟩,
  ⟨0x2102, 1, 0x6, 1, .u8, .ro, 0, .imm, .any, false⟩,
  ⟨0x2102, 1, 0x7, 1, .u32, .ro, 0xffffffff, .imm, .any, false⟩,
  ⟨0x2102, 1, 0x8, 1, .time, .ro, 0, .imm, .any, false⟩,
  ⟨0x2103, 1, 0x0, 1, .u8, .const, 7, .imm, .any, false⟩]

/-- Device entries, part 3. -/
def devEntries3 : List Entry := [
  ⟨0x2103, 1, 0x1, 1, .u8, .ro, 0, .imm, .any, false⟩,
  ⟨0x2103, 1, 0x2, 1, .u8, .rwp, 0, .imm, .any, false⟩,
  ⟨0x2103, 1, 0x3, 1, .u32, .ro, 0, .imm, .any, false⟩,
  ⟨0x2103, 1, 0x4, 1, .u32, .ro, 0, .imm, .any, false⟩,
  ⟨0x2103, 1, 0x5, 1, .i32, .ro, 0, .imm, .any, false⟩,
  ⟨0x2103, 1, 0x6, 1, .u16, .rw, 0x64, .imm, .range 20 10000, false⟩,
  ⟨0x2103, 1, 0x7, 1, .u32, .ro, 0, .imm, .any, false⟩,
  ⟨0x2110, 1, 0x0, 1, .u8, .const, 0xb, .imm, .any, false⟩,
  ⟨0x2110, 1, 0x1, 1, .u8, .rwp, 0, .imm, .codes [0, 1], false⟩,
  ⟨0x2110, 1, 0x2, 1, .u16, .rwp, 0xa, .imm, .range 1 250, false⟩,
  ⟨0x2110, 1, 0x3, 1, .u8, .ro, 4, .imm, .any, false⟩,
  ⟨0x2110, 1, 0x4, 1, .bool, .ro, 0, .imm, .any, false⟩,
  ⟨0x2110, 1, 0x5, 1, .u8, .wo, 0, .imm, .any, false⟩,
  ⟨0x2110, 1, 0x6, 1, .u8, .ro, 0, .imm, .any, false⟩,
  ⟨0x2110, 1, 0x7, 1, .time, .ro, 0, .imm, .any, false⟩,
  ⟨0x2110, 1, 0x8, 1, .time, .ro, 0, .imm, .any, false⟩,
  ⟨0x2110, 1, 0x9, 1, .u32, .ro, 0, .imm, .any, false⟩,
  ⟨0x2110, 1, 0xa, 1, .u32, .ro, 0, .imm, .any, false⟩,
  ⟨0x2110, 1, 0xb, 1, .time, .ro, 0, .imm, .any, false⟩,
  ⟨0x2200, 1, 0x0, 1, .u8, .const, 0xd, .imm, .any, false⟩,
  ⟨0x2200, 1, 0x1, 1, .u8, .ro, 0, .imm, .any, false⟩,
  ⟨0x2200, 1, 0x2, 1, .u8, .wo, 0, .imm, .any, false⟩,
  ⟨0x2200, 1, 0x3, 1, .bool, .rw, 1, .imm, .any, false⟩,
  ⟨0x2200, 1, 0x4, 1, .u16, .rw, 0x14, .imm, .range 5 1000, false⟩,
  ⟨0x2200, 1, 0x5, 1, .u8, .rw, 0x3f, .imm, .mask 0x3f, false⟩,
  ⟨0x2200, 1, 0x6, 1, .time, .rw, 0, .imm, .any, false⟩,
  ⟨0x2200, 1, 0x7, 1, .u32, .rw, 0, .imm, .any, false⟩,
  ⟨0x2200, 1, 0x8, 1, .u8, .ro, 0, .imm, .any, false⟩,
  ⟨0x2200, 1, 0x9, 1, .u8, .rw, 0x6e, .imm, .range 20 110, false⟩,
  ⟨0x2200, 1, 0xa, 1, .u8, .rw, 0xf, .imm, .range 5 50, false⟩,
  ⟨0x2200, 1, 0xb, 1, .bool, .rw, 0, .imm, .any, false⟩,
  ⟨0x2200, 1, 0xc, 1, .u32, .ro, 0, .imm, .any, false⟩,
  ⟨0x2200, 1, 0xd, 1, .u64, .ro, 0, .imm, .any, false⟩,
  ⟨0x2201, 1, 0x0, 1, .u8, .const, 0x20, .imm, .any, false⟩,
  ⟨0x2201, 1, 0x1, 32, .u16, .ro, 0x0, .imm, .any, false⟩,
  ⟨0x2202, 1, 0x0, 1, .u8, .const, 8, .imm, .any, false⟩,
  ⟨0x2202, 1, 0x1, 1, .u8, .rwp, 1, .boot, .codes [0, 1], false⟩,
  ⟨0x2202, 1, 0x2, 1, .u8, .rwp, 0x40, .boot, .range 8 119, false⟩,
  ⟨0x2202, 1, 0x3, 1, .u16, .rw, 0x3c, .imm, .range 30 150, false⟩,
  ⟨0x2202, 1, 0x4, 1, .u16, .ro, 0, .imm, .any, false⟩]

/-- Device entries, part 4. -/
def devEntries4 : List Entry := [
  ⟨0x2202, 1, 0x5, 1, .u32, .ro, 0, .imm, .any, false⟩,
  ⟨0x2202, 1, 0x6, 1, .i16, .ro, 0, .imm, .any, false⟩,
  ⟨0x2202, 1, 0x7, 1, .u16, .ro, 0, .imm, .any, false⟩,
  ⟨0x2202, 1, 0x8, 1, .u32, .ro, 0, .imm, .any, false⟩,
  ⟨0x2210, 1, 0x0, 1, .u8, .const, 9, .imm, .any, false⟩,
  ⟨0x2210, 1, 0x1, 1, .i16, .ro, 0, .imm, .any, false⟩,
  ⟨0x2210, 1, 0x2, 1, .u8, .ro, 0, .imm, .any, false⟩,
  ⟨0x2210, 1, 0x3, 1, .i16, .ro, 0, .imm, .any, false⟩,
  ⟨0x2210, 1, 0x4, 1, .u8, .rw, 0x64, .imm, .range 60 120, false⟩,
  ⟨0x2210, 1, 0x5, 1, .u8, .rw, 0x6e, .imm, .range 70 124, false⟩,
  ⟨0x2210, 1, 0x6, 1, .u8, .rwp, 0x7d, .imm, .range 105 125, false⟩,
  ⟨0x2210, 1, 0x7, 1, .u8, .rw, 0xa, .imm, .range 0 50, false⟩,
  ⟨0x2210, 1, 0x8, 1, .u16, .ro, 0x352, .imm, .any, false⟩,
  ⟨0x2210, 1, 0x9, 1, .u64, .ro, 0, .imm, .any, false⟩,
  ⟨0x2211, 1, 0x0, 1, .u8, .const, 0x20, .imm, .any, false⟩,
  ⟨0x2211, 1, 0x1, 32, .i16, .ro, 0x0, .imm, .any, false⟩,
  ⟨0x2212, 1, 0x0, 1, .u8, .const, 0x11, .imm, .any, false⟩,
  ⟨0x2212, 1, 0x1, 4, .u8, .rwp, 0, .imm, .codes [0, 1, 2], false⟩,
  ⟨0x2212, 1, 0x5, 4, .q16, .rw, 0x1020c, .imm, .range 62260 72089, false⟩,
  ⟨0x2212, 1, 0x9, 4, .i16, .ro, 0x8000, .imm, .any, false⟩,
  ⟨0x2212, 1, 0xd, 1, .u8, .ro, 0, .imm, .any, false⟩,
  ⟨0x2212, 1, 0xe, 4, .u32, .ro, 0, .imm, .any, false⟩,
  ⟨0x2220, 1, 0x0, 1, .u8, .const, 5, .imm, .any, false⟩,
  ⟨0x2220, 1, 0x1, 1, .u32, .ro, 0, .imm, .any, false⟩,
  ⟨0x2220, 1, 0x2, 1, .i16, .ro, 0, .imm, .any, false⟩,
  ⟨0x2220, 1, 0x3, 1, .u32, .ro, 0, .imm, .any, false⟩,
  ⟨0x2220, 1, 0x4, 1, .u32, .ro, 0, .imm, .any, false⟩,
  ⟨0x2220, 1, 0x5, 1, .u32, .ro, 0, .imm, .any, false⟩,
  ⟨0x2300, 1, 0x0, 1, .u8, .const, 7, .imm, .any, false⟩,
  ⟨0x2300, 1, 0x1, 1, .bool, .rw, 1, .imm, .any, false⟩,
  ⟨0x2300, 1, 0x2, 1, .u16, .rw, 0xa, .imm, .range 5 1000, false⟩,
  ⟨0x2300, 1, 0x3, 1, .u32, .rw, 0x1000, .imm, .range 256 16777216, false⟩,
  ⟨0x2300, 1, 0x4, 1, .u16, .rw, 0, .imm, .range 0 1000, false⟩,
  ⟨0x2300, 1, 0x5, 1, .u8, .rw, 2, .imm, .range 1 4, false⟩,
  ⟨0x2300, 1, 0x6, 1, .u16, .rw, 0x3c, .imm, .range 1 3600, false⟩,
  ⟨0x2300, 1, 0x7, 1, .u8, .rwp, 8, .imm, .range 4 168, false⟩,
  ⟨0x2301, 1, 0x0, 1, .u8, .const, 8, .imm, .any, false⟩,
  ⟨0x2301, 1, 0x1, 1, .u32, .ro, 0, .imm, .any, false⟩,
  ⟨0x2301, 1, 0x2, 1, .time, .ro, 0, .imm, .any, false⟩,
  ⟨0x2301, 1, 0x3, 1, .u32, .ro, 0, .imm, .any, false⟩]

/-- Device entries, part 5. -/
def devEntries5 : List Entry := [
  ⟨0x2301, 1, 0x4, 1, .u32, .ro, 0, .imm, .any, false⟩,
  ⟨0x2301, 1, 0x5, 1, .u32, .ro, 0, .imm, .any, false⟩,
  ⟨0x2301, 1, 0x6, 1, .u32, .ro, 0, .imm, .any, false⟩,
  ⟨0x2301, 1, 0x7, 1, .time, .ro, 0, .imm, .any, false⟩,
  ⟨0x2301, 1, 0x8, 1, .u8, .ro, 0, .imm, .any, false⟩,
  ⟨0x2400, 1, 0x0, 1, .u8, .const, 6, .imm, .any, false⟩,
  ⟨0x2400, 1, 0x1, 1, .u8, .ro, 0, .imm, .any, false⟩,
  ⟨0x2400, 1, 0x2, 1, .u16, .ro, 0, .imm, .any, false⟩,
  ⟨0x2400, 1, 0x3, 1, .u16, .wo, 0, .imm, .any, false⟩,
  ⟨0x2400, 1, 0x4, 1, .u8, .ro, 0, .imm, .any, false⟩,
  ⟨0x2400, 1, 0x5, 1, .u16, .rw, 0xa, .imm, .range 1 1000, false⟩,
  ⟨0x2400, 1, 0x6, 1, .u32, .ro, 0, .imm, .any, false⟩,
  ⟨0x2401, 1, 0x0, 1, .u8, .const, 8, .imm, .any, false⟩,
  ⟨0x2401, 1, 0x1, 8, .u64, .ro, 0, .imm, .any, false⟩,
  ⟨0x2402, 1, 0x0, 1, .u8, .const, 0xa, .imm, .any, false⟩,
  ⟨0x2402, 1, 0x1, 1, .u8, .rw, 0, .imm, .any, false⟩,
  ⟨0x2402, 1, 0x2, 8, .u64, .ro, 0, .imm, .any, false⟩,
  ⟨0x2402, 1, 0xa, 1, .u8, .wo, 0, .imm, .any, false⟩,
  ⟨0x2403, 1, 0x0, 1, .u8, .const, 0xff, .imm, .any, false⟩,
  ⟨0x2403, 1, 0x1, 255, .u64, .rw, 0x0, .imm, .any, false⟩,
  ⟨0x2404, 1, 0x0, 1, .u8, .const, 0xff, .imm, .any, false⟩,
  ⟨0x2404, 1, 0x1, 255, .u64, .rw, 0x0, .imm, .any, false⟩,
  ⟨0x2410, 1, 0x0, 1, .u8, .const, 7, .imm, .any, false⟩,
  ⟨0x2410, 1, 0x1, 1, .bool, .ro, 0, .imm, .any, false⟩,
  ⟨0x2410, 1, 0x2, 1, .u8, .ro, 0, .imm, .any, false⟩,
  ⟨0x2410, 1, 0x3, 1, .u16, .ro, 0, .imm, .any, false⟩,
  ⟨0x2410, 1, 0x4, 1, .time, .ro, 0, .imm, .any, false⟩,
  ⟨0x2410, 1, 0x5, 1, .u8, .ro, 0, .imm, .any, false⟩,
  ⟨0x2410, 1, 0x6, 1, .u8, .wo, 0, .imm, .any, false⟩,
  ⟨0x2410, 1, 0x7, 1, .bool, .rwp, 1, .imm, .any, false⟩,
  ⟨0x2500, 1, 0x0, 1, .u8, .const, 2, .imm, .any, false⟩,
  ⟨0x2500, 1, 0x1, 1, .u16, .rw, 0, .imm, .range 0 4094, false⟩,
  ⟨0x2500, 1, 0x2, 1, .u16, .rw, 0, .imm, .mask 0x3fff, false⟩,
  ⟨0x2501, 1, 0x0, 1, .u8, .const, 8, .imm, .any, false⟩,
  ⟨0x2501, 1, 0x1, 1, .u8, .rw, 0, .imm, .any, false⟩,
  ⟨0x2501, 1, 0x2, 1, .u8, .rw, 0, .imm, .range 0 63, false⟩,
  ⟨0x2501, 1, 0x3, 1, .u8, .rw, 1, .imm, .range 0 7, false⟩,
  ⟨0x2501, 1, 0x4, 1, .bool, .rw, 0, .imm, .any, false⟩,
  ⟨0x2501, 1, 0x5, 1, .bool, .ro, 0, .imm, .any, false⟩,
  ⟨0x2501, 1, 0x6, 1, .bool, .ro, 0, .imm, .any, false⟩]

/-- Device entries, part 6. -/
def devEntries6 : List Entry := [
  ⟨0x2501, 1, 0x7, 1, .u32, .ro, 0, .imm, .any, false⟩,
  ⟨0x2501, 1, 0x8, 1, .u32, .ro, 0, .imm, .any, false⟩,
  ⟨0x2502, 1, 0x0, 1, .u8, .const, 5, .imm, .any, false⟩,
  ⟨0x2502, 1, 0x1, 1, .u16, .rw, 0, .imm, .any, false⟩,
  ⟨0x2502, 1, 0x2, 1, .bool, .rw, 0, .imm, .any, false⟩,
  ⟨0x2502, 1, 0x3, 1, .u32, .ro, 0, .imm, .any, false⟩,
  ⟨0x2502, 1, 0x4, 1, .u32, .ro, 0, .imm, .any, false⟩,
  ⟨0x2502, 1, 0x5, 1, .u32, .ro, 0, .imm, .any, false⟩,
  ⟨0x2600, 1, 0x0, 1, .u8, .const, 0xa, .imm, .any, false⟩,
  ⟨0x2600, 1, 0x1, 1, .u16, .rwp, 0x1f40, .boot, .codes [4800, 5600, 6400, 7200, 8000], false⟩,
  ⟨0x2600, 1, 0x2, 1, .u8, .rwp, 0xff, .boot, .codes [255, 15, 240, 3, 12, 48, 192], false⟩,
  ⟨0x2600, 1, 0x3, 1, .u8, .rwp, 1, .boot, .codes [1, 2], false⟩,
  ⟨0x2600, 1, 0x4, 1, .u8, .rwp, 8, .boot, .codes [8, 16], false⟩,
  ⟨0x2600, 1, 0x5, 1, .u8, .rwp, 0x20, .boot, .codes [16, 24, 32], false⟩,
  ⟨0x2600, 1, 0x6, 1, .u32, .rwp, 0x4000, .boot, .step 1024 131072 2, false⟩,
  ⟨0x2600, 1, 0x7, 1, .u16, .rw, 0x64, .imm, .range 10 1000, false⟩,
  ⟨0x2600, 1, 0x8, 1, .u16, .rw, 4, .imm, .range 2 100, false⟩,
  ⟨0x2600, 1, 0x9, 1, .u16, .rw, 0x18, .imm, .rangeOr 0 1 720, false⟩,
  ⟨0x2600, 1, 0xa, 1, .u16, .rw, 0x64, .imm, .range 1 65535, false⟩,
  ⟨0x2601, 1, 0x0, 1, .u8, .const, 5, .imm, .any, false⟩,
  ⟨0x2601, 1, 0x1, 1, .u8, .ro, 0, .imm, .any, false⟩,
  ⟨0x2601, 1, 0x2, 1, .u8, .ro, 0, .imm, .any, false⟩,
  ⟨0x2601, 1, 0x3, 1, .u32, .ro, 0, .imm, .any, false⟩,
  ⟨0x2601, 1, 0x4, 1, .u16, .ro, 0, .imm, .any, false⟩,
  ⟨0x2601, 1, 0x5, 1, .time, .ro, 0, .imm, .any, false⟩,
  ⟨0x2602, 1, 0x0, 1, .u8, .const, 0xe, .imm, .any, false⟩,
  ⟨0x2602, 1, 0x1, 14, .u64, .ro, 0, .imm, .any, false⟩,
  ⟨0x2610, 1, 0x0, 1, .u8, .const, 5, .imm, .any, false⟩,
  ⟨0x2610, 1, 0x1, 1, .u32, .ro, 0, .imm, .any, false⟩,
  ⟨0x2610, 1, 0x2, 1, .u8, .rw, 0, .imm, .range 0 15, false⟩,
  ⟨0x2610, 1, 0x3, 1, .u64, .ro, 0, .imm, .any, false⟩,
  ⟨0x2610, 1, 0x4, 1, .u64, .ro, 0, .imm, .any, false⟩,
  ⟨0x2610, 1, 0x5, 1, .u8, .wo, 0, .imm, .any, false⟩,
  ⟨0x2700, 64, 0x0, 1, .u8, .const, 0xa, .imm, .any, false⟩,
  ⟨0x2700, 64, 0x1, 1, .u64, .rw, 0, .imm, .any, false⟩,
  ⟨0x2700, 64, 0x2, 1, .u64, .rw, 0, .imm, .any, false⟩,
  ⟨0x2700, 64, 0x3, 1, .u32, .rw, 0, .imm, .any, false⟩,
  ⟨0x2700, 64, 0x4, 1, .u32, .rw, 0, .imm, .dmaMode, false⟩,
  ⟨0x2700, 64, 0x5, 1, .u64, .rw, 0, .imm, .any, false⟩,
  ⟨0x2700, 64, 0x6, 1, .u8, .wo, 0, .imm, .any, false⟩]

/-- Device entries, part 7. -/
def devEntries7 : List Entry := [
  ⟨0x2700, 64, 0x7, 1, .u8, .ro, 0, .imm, .any, false⟩,
  ⟨0x2700, 64, 0x8, 1, .u64, .ro, 0, .imm, .any, false⟩,
  ⟨0x2700, 64, 0x9, 1, .u32, .ro, 0, .imm, .any, false⟩,
  ⟨0x2700, 64, 0xa, 1, .u64, .ro, 0, .imm, .any, false⟩,
  ⟨0x2800, 1, 0x0, 1, .u8, .const, 4, .imm, .any, false⟩,
  ⟨0x2800, 1, 0x1, 1, .u8, .rwp, 3, .boot, .codes [0, 1, 2, 3], false⟩,
  ⟨0x2800, 1, 0x2, 1, .u32, .rwp, 0x10000, .boot, .range 1024 5242880, false⟩,
  ⟨0x2800, 1, 0x3, 1, .u32, .rw, 0x400, .imm, .any, false⟩,
  ⟨0x2800, 1, 0x4, 1, .u32, .rw, 0x800, .imm, .any, false⟩,
  ⟨0x2801, 1, 0x0, 1, .u8, .const, 7, .imm, .any, false⟩,
  ⟨0x2801, 1, 0x1, 1, .u32, .ro, 0x40000, .imm, .any, false⟩,
  ⟨0x2801, 1, 0x2, 1, .u32, .ro, 0x10000, .imm, .any, false⟩,
  ⟨0x2801, 1, 0x3, 1, .u32, .ro, 0x10000, .imm, .any, false⟩,
  ⟨0x2801, 1, 0x4, 1, .u32, .ro, 0x10000, .imm, .any, false⟩,
  ⟨0x2801, 1, 0x5, 1, .u16, .ro, 0, .imm, .any, false⟩,
  ⟨0x2801, 1, 0x6, 1, .i32, .ro, 0x10000, .imm, .any, false⟩,
  ⟨0x2801, 1, 0x7, 1, .bool, .ro, 0, .imm, .any, false⟩,
  ⟨0x2900, 1, 0x0, 1, .u8, .const, 1, .imm, .any, false⟩,
  ⟨0x2900, 1, 0x1, 1, .u32, .rwp, 0x4000, .boot, .step 1024 196608 2, false⟩,
  ⟨0x2901, 1, 0x0, 1, .u8, .const, 4, .imm, .any, false⟩,
  ⟨0x2901, 1, 0x1, 1, .u32, .ro, 0x2000, .imm, .any, false⟩,
  ⟨0x2901, 1, 0x2, 1, .u32, .ro, 0x2000, .imm, .any, false⟩,
  ⟨0x2901, 1, 0x3, 1, .u16, .ro, 0, .imm, .any, false⟩,
  ⟨0x2901, 1, 0x4, 1, .u16, .ro, 0, .imm, .any, false⟩,
  ⟨0x2902, 1, 0x0, 1, .u8, .const, 4, .imm, .any, false⟩,
  ⟨0x2902, 1, 0x1, 1, .u8, .rw, 0, .imm, .any, false⟩,
  ⟨0x2902, 1, 0x2, 1, .u32, .rw, 0, .imm, .any, false⟩,
  ⟨0x2902, 1, 0x3, 1, .u8, .wo, 0, .imm, .any, false⟩,
  ⟨0x2902, 1, 0x4, 1, .u16, .ro, 0xffff, .imm, .any, false⟩,
  ⟨0x2a00, 24, 0x0, 1, .u8, .const, 0xc, .imm, .any, false⟩,
  ⟨0x2a00, 24, 0x1, 1, .u8, .rwp, 0, .boot, .codes [0, 1], false⟩,
  ⟨0x2a00, 24, 0x2, 1, .bool, .rwp, 1, .boot, .any, false⟩,
  ⟨0x2a00, 24, 0x3, 1, .u64, .rwp, 0, .boot, .mask 0xffffffffffff, false⟩,
  ⟨0x2a00, 24, 0x4, 1, .u32, .rwp, 0, .boot, .any, false⟩,
  ⟨0x2a00, 24, 0x5, 1, .u32, .rwp, 0xffffff00, .boot, .any, false⟩,
  ⟨0x2a00, 24, 0x6, 1, .u32, .rwp, 0, .boot, .any, false⟩,
  ⟨0x2a00, 24, 0x7, 1, .u8, .ro, 0, .imm, .any, false⟩,
  ⟨0x2a00, 24, 0x8, 1, .time, .rw, 0, .cycle, .any, false⟩,
  ⟨0x2a00, 24, 0x9, 1, .u32, .rw, 0xf4240, .cycle, .range 1000 1000000000, false⟩,
  ⟨0x2a00, 24, 0xa, 1, .u16, .rw, 0, .cycle, .range 0 1024, false⟩]

/-- Device entries, part 8. -/
def devEntries8 : List Entry := [
  ⟨0x2a00, 24, 0xb, 1, .u8, .wo, 0, .cycle, .any, false⟩,
  ⟨0x2a00, 24, 0xc, 1, .u16, .ro, 0, .imm, .any, false⟩,
  ⟨0x2a40, 1, 0x0, 1, .u8, .const, 1, .imm, .any, false⟩,
  ⟨0x2a40, 1, 0x1, 1, .u16, .rw, 0, .imm, .range 0 32767, false⟩,
  ⟨0x2a41, 1, 0x0, 1, .u8, .const, 0x14, .imm, .any, false⟩,
  ⟨0x2a41, 1, 0x1, 1, .bool, .rw, 0, .imm, .any, false⟩,
  ⟨0x2a41, 1, 0x2, 1, .u8, .rw, 0x10, .imm, .quadPort, false⟩,
  ⟨0x2a41, 1, 0x3, 1, .u8, .rw, 0, .imm, .codes [0, 1], false⟩,
  ⟨0x2a41, 1, 0x4, 1, .u8, .rw, 0, .imm, .range 0 7, false⟩,
  ⟨0x2a41, 1, 0x5, 1, .u16, .rw, 0x3e8, .imm, .range 1 65535, false⟩,
  ⟨0x2a41, 1, 0x6, 1, .u32, .rw, 0x10000, .imm, .range 0 16777215, false⟩,
  ⟨0x2a41, 1, 0x7, 1, .u64, .rw, 0, .refill, .range 0 400000000000, false⟩,
  ⟨0x2a41, 1, 0x8, 1, .u32, .rw, 0x10000, .refill, .range 2048 16777215, false⟩,
  ⟨0x2a41, 1, 0x9, 1, .u32, .rw, 0x4000000, .imm, .range 65536 1073741824, false⟩,
  ⟨0x2a41, 1, 0xa, 1, .u32, .rw, 0, .imm, .any, false⟩,
  ⟨0x2a41, 1, 0xb, 1, .u32, .rw, 0x138c138c, .imm, .any, false⟩,
  ⟨0x2a41, 1, 0xc, 1, .u64, .rw, 0, .imm, .mask 0xffffffffffff, false⟩,
  ⟨0x2a41, 1, 0xd, 1, .u16, .rw, 0xffff, .imm, .vlan, false⟩,
  ⟨0x2a41, 1, 0xe, 1, .u16, .rw, 0x2240, .imm, .mask 0x3fff, false⟩,
  ⟨0x2a41, 1, 0xf, 1, .u64, .rw, 0x6000000000, .imm, .rtp, false⟩,
  ⟨0x2a41, 1, 0x10, 1, .u16, .rw, 0x5dc, .imm, .range 576 9000, false⟩,
  ⟨0x2a41, 1, 0x11, 1, .u32, .rw, 0, .imm, .mask 0x1fff, false⟩,
  ⟨0x2a41, 1, 0x12, 1, .u8, .wo, 0, .imm, .any, false⟩,
  ⟨0x2a41, 1, 0x13, 1, .u8, .ro, 0, .imm, .any, false⟩,
  ⟨0x2a41, 1, 0x14, 1, .u64, .ro, 0, .imm, .any, false⟩,
  ⟨0x2a80, 1, 0x0, 1, .u8, .const, 1, .imm, .any, false⟩,
  ⟨0x2a80, 1, 0x1, 1, .u16, .rw, 0, .imm, .range 0 1023, false⟩,
  ⟨0x2a81, 1, 0x0, 1, .u8, .const, 8, .imm, .any, false⟩,
  ⟨0x2a81, 1, 0x1, 1, .u8, .rw, 0, .refill, .codes [0, 1, 2], false⟩,
  ⟨0x2a81, 1, 0x2, 1, .u64, .rw, 0, .refill, .range 0 400000000000, false⟩,
  ⟨0x2a81, 1, 0x3, 1, .u32, .rw, 0x10000, .refill, .range 2048 4294967295, false⟩,
  ⟨0x2a81, 1, 0x4, 1, .u64, .rw, 0, .refill, .any, false⟩,
  ⟨0x2a81, 1, 0x5, 1, .u32, .rw, 0x10000, .refill, .range 2048 4294967295, false⟩,
  ⟨0x2a81, 1, 0x6, 1, .u64, .ro, 0, .imm, .any, false⟩,
  ⟨0x2a81, 1, 0x7, 1, .u64, .ro, 0, .imm, .any, false⟩,
  ⟨0x2a81, 1, 0x8, 1, .u64, .ro, 0, .imm, .any, false⟩,
  ⟨0x2b00, 2, 0x0, 1, .u8, .const, 8, .imm, .any, false⟩,
  ⟨0x2b00, 2, 0x1, 1, .u8, .ro, 0, .imm, .any, false⟩,
  ⟨0x2b00, 2, 0x2, 1, .u64, .ro, 0, .imm, .any, false⟩,
  ⟨0x2b00, 2, 0x3, 1, .u64, .rw, 0xffffffffffffffff, .imm, .any, false⟩]

/-- Device entries, part 9. -/
def devEntries9 : List Entry := [
  ⟨0x2b00, 2, 0x4, 1, .u16, .rw, 0x64, .imm, .range 10 1000, false⟩,
  ⟨0x2b00, 2, 0x5, 1, .u64, .rw, 0, .imm, .any, false⟩,
  ⟨0x2b00, 2, 0x6, 1, .u32, .rw, 0x1000, .imm, .range 256 65536, false⟩,
  ⟨0x2b00, 2, 0x7, 1, .u16, .ro, 0, .imm, .any, false⟩,
  ⟨0x2b00, 2, 0x8, 1, .u64, .ro, 0, .imm, .any, false⟩,
  ⟨0x2c00, 1, 0x0, 1, .u8, .const, 5, .imm, .any, false⟩,
  ⟨0x2c00, 1, 0x1, 1, .bool, .rwp, 0, .boot, .any, false⟩,
  ⟨0x2c00, 1, 0x2, 1, .u8, .rwp, 1, .boot, .any, false⟩,
  ⟨0x2c00, 1, 0x3, 1, .u8, .rwp, 0, .boot, .any, false⟩,
  ⟨0x2c00, 1, 0x4, 1, .u8, .rwp, 0, .boot, .codes [0, 1, 2], false⟩,
  ⟨0x2c00, 1, 0x5, 1, .u16, .rwp, 0x1f4, .boot, .range 10 10000, false⟩,
  ⟨0x2c01, 1, 0x0, 1, .u8, .const, 7, .imm, .any, false⟩,
  ⟨0x2c01, 1, 0x1, 1, .u8, .ro, 0, .imm, .any, false⟩,
  ⟨0x2c01, 1, 0x2, 1, .u16, .ro, 0, .imm, .any, false⟩,
  ⟨0x2c01, 1, 0x3, 1, .u8, .ro, 0xff, .imm, .any, false⟩,
  ⟨0x2c01, 1, 0x4, 1, .u8, .ro, 0, .imm, .any, false⟩,
  ⟨0x2c01, 1, 0x5, 1, .u8, .ro, 0, .imm, .any, false⟩,
  ⟨0x2c01, 1, 0x6, 1, .u32, .ro, 0xffffffff, .imm, .any, false⟩,
  ⟨0x2c01, 1, 0x7, 1, .time, .ro, 0, .imm, .any, false⟩,
  ⟨0x2c02, 1, 0x0, 1, .u8, .const, 1, .imm, .any, false⟩,
  ⟨0x2c02, 1, 0x1, 1, .u8, .wo, 0, .imm, .any, false⟩,
  ⟨0x2d00, 1, 0x0, 1, .u8, .const, 6, .imm, .any, false⟩,
  ⟨0x2d00, 1, 0x1, 1, .u8, .rwp, 1, .boot, .any, false⟩,
  ⟨0x2d00, 1, 0x2, 5, .u8, .rwp, 0, .boot, .any, false⟩,
  ⟨0x2d01, 1, 0x0, 1, .u8, .const, 2, .imm, .any, false⟩,
  ⟨0x2d01, 1, 0x1, 1, .u8, .ro, 0, .imm, .any, false⟩,
  ⟨0x2d01, 1, 0x2, 1, .u8, .ro, 0xff, .imm, .any, false⟩,
  ⟨0x2e00, 1, 0x0, 1, .u8, .const, 9, .imm, .any, false⟩,
  ⟨0x2e00, 1, 0x1, 1, .u8, .ro, 0, .imm, .any, false⟩,
  ⟨0x2e00, 1, 0x2, 1, .u8, .ro, 1, .imm, .any, false⟩,
  ⟨0x2e00, 1, 0x3, 1, .u16, .ro, 0, .imm, .any, false⟩,
  ⟨0x2e00, 1, 0x4, 1, .u8, .ro, 0, .imm, .any, false⟩,
  ⟨0x2e00, 1, 0x5, 1, .u8, .ro, 0, .imm, .any, false⟩,
  ⟨0x2e00, 1, 0x6, 1, .u32, .ro, 0, .imm, .any, false⟩,
  ⟨0x2e00, 1, 0x7, 1, .u32, .rwp, 0, .imm, .any, false⟩,
  ⟨0x2e00, 1, 0x8, 1, .u8, .rwp, 0, .imm, .mask 0xf, false⟩,
  ⟨0x2e00, 1, 0x9, 1, .u32, .wo, 0, .imm, .any, false⟩,
  ⟨0x2e01, 1, 0x0, 1, .u8, .const, 8, .imm, .any, false⟩,
  ⟨0x2e01, 1, 0x1, 1, .u8, .rw, 2, .imm, .range 1 5, false⟩,
  ⟨0x2e01, 1, 0x2, 1, .u8, .wo, 0, .imm, .any, false⟩]

/-- Device entries, part 10. -/
def devEntries10 : List Entry := [
  ⟨0x2e01, 1, 0x3, 1, .dom, .wo, 0, .imm, .any, false⟩,
  ⟨0x2e01, 1, 0x4, 1, .u64, .rw, 0, .imm, .any, false⟩,
  ⟨0x2e01, 1, 0x5, 1, .u32, .rw, 0, .imm, .any, false⟩,
  ⟨0x2e01, 1, 0x6, 1, .u8, .ro, 0, .imm, .any, false⟩,
  ⟨0x2e01, 1, 0x7, 1, .u32, .ro, 0, .imm, .any, false⟩,
  ⟨0x2e01, 1, 0x8, 1, .u8, .ro, 0, .imm, .any, false⟩,
  ⟨0x2e10, 1, 0x0, 1, .u8, .const, 1, .imm, .any, false⟩,
  ⟨0x2e10, 1, 0x1, 1, .str, .ro, 0, .imm, .any, false⟩,
  ⟨0x2e11, 1, 0x0, 1, .u8, .const, 4, .imm, .any, false⟩,
  ⟨0x2e11, 1, 0x1, 1, .u8, .wo, 0, .imm, .any, false⟩,
  ⟨0x2e11, 1, 0x2, 1, .u8, .ro, 0, .imm, .any, false⟩,
  ⟨0x2e11, 1, 0x3, 1, .u8, .ro, 0, .imm, .any, false⟩,
  ⟨0x2e11, 1, 0x4, 1, .u8, .ro, 0, .imm, .any, false⟩,
  ⟨0x2f00, 1, 0x0, 1, .u8, .const, 6, .imm, .any, false⟩,
  ⟨0x2f00, 1, 0x1, 1, .u16, .const, 0xff, .imm, .any, false⟩,
  ⟨0x2f00, 1, 0x2, 1, .u16, .ro, 0, .imm, .any, false⟩,
  ⟨0x2f00, 1, 0x3, 1, .u8, .ro, 0, .imm, .any, false⟩,
  ⟨0x2f00, 1, 0x4, 1, .u8, .ro, 0, .imm, .any, false⟩,
  ⟨0x2f00, 1, 0x5, 1, .u32, .ro, 0, .imm, .any, false⟩,
  ⟨0x2f00, 1, 0x6, 1, .u16, .ro, 0, .imm, .any, false⟩,
  ⟨0x2f01, 1, 0x0, 1, .u8, .const, 1, .imm, .any, false⟩,
  ⟨0x2f01, 1, 0x1, 1, .u32, .wo, 0, .imm, .any, false⟩,
  ⟨0x2f02, 1, 0x0, 1, .u8, .const, 2, .imm, .any, false⟩,
  ⟨0x2f02, 1, 0x1, 1, .u8, .ro, 0, .imm, .any, false⟩,
  ⟨0x2f02, 1, 0x2, 1, .u16, .ro, 0x100, .imm, .any, false⟩,
  ⟨0x2f10, 1, 0x0, 1, .u8, .const, 1, .imm, .any, false⟩,
  ⟨0x2f10, 1, 0x1, 1, .u32, .ro, 0, .imm, .any, false⟩,
  ⟨0x2f20, 1, 0x0, 1, .u8, .const, 6, .imm, .any, false⟩,
  ⟨0x2f20, 1, 0x1, 1, .u32, .ro, 0, .imm, .any, false⟩,
  ⟨0x2f20, 1, 0x2, 1, .u32, .ro, 0, .imm, .any, false⟩,
  ⟨0x2f20, 1, 0x3, 1, .u32, .ro, 0, .imm, .any, false⟩,
  ⟨0x2f20, 1, 0x4, 1, .u32, .ro, 0, .imm, .any, false⟩,
  ⟨0x2f20, 1, 0x5, 1, .u32, .ro, 0, .imm, .any, false⟩,
  ⟨0x2f20, 1, 0x6, 1, .u32, .ro, 0, .imm, .any, false⟩,
  ⟨0x3000, 1, 0x0, 1, .u8, .const, 4, .imm, .any, false⟩,
  ⟨0x3000, 1, 0x1, 1, .u8, .wo, 0, .imm, .any, false⟩,
  ⟨0x3000, 1, 0x2, 1, .u32, .ro, 0, .imm, .any, false⟩,
  ⟨0x3000, 1, 0x3, 1, .time, .ro, 0, .imm, .any, false⟩,
  ⟨0x3000, 1, 0x4, 1, .time, .rw, 0, .imm, .any, false⟩,
  ⟨0x3040, 1, 0x0, 1, .u8, .const, 4, .imm, .any, false⟩]

/-- Device entries, part 11. -/
def devEntries11 : List Entry := [
  ⟨0x3040, 1, 0x1, 1, .u64, .ro, 0, .imm, .any, false⟩,
  ⟨0x3040, 1, 0x2, 1, .u64, .ro, 0, .imm, .any, false⟩,
  ⟨0x3040, 1, 0x3, 1, .u64, .ro, 0, .imm, .any, false⟩,
  ⟨0x3040, 1, 0x4, 1, .u64, .ro, 0, .imm, .any, false⟩,
  ⟨0x3050, 1, 0x0, 1, .u8, .const, 0xa, .imm, .any, false⟩,
  ⟨0x3050, 1, 0x1, 1, .u64, .ro, 0, .imm, .any, false⟩,
  ⟨0x3050, 1, 0x2, 1, .u64, .ro, 0, .imm, .any, false⟩,
  ⟨0x3050, 1, 0x3, 1, .u64, .ro, 0, .imm, .any, false⟩,
  ⟨0x3050, 1, 0x4, 1, .u64, .ro, 0, .imm, .any, false⟩,
  ⟨0x3050, 1, 0x5, 1, .u64, .ro, 0, .imm, .any, false⟩,
  ⟨0x3050, 1, 0x6, 1, .u64, .ro, 0, .imm, .any, false⟩,
  ⟨0x3050, 1, 0x7, 1, .u64, .ro, 0, .imm, .any, false⟩,
  ⟨0x3050, 1, 0x8, 1, .u64, .ro, 0, .imm, .any, false⟩,
  ⟨0x3050, 1, 0x9, 1, .u64, .ro, 0, .imm, .any, false⟩,
  ⟨0x3050, 1, 0xa, 1, .u64, .ro, 0, .imm, .any, false⟩,
  ⟨0x3060, 1, 0x0, 1, .u8, .const, 7, .imm, .any, false⟩,
  ⟨0x3060, 1, 0x1, 1, .u64, .ro, 0, .imm, .any, false⟩,
  ⟨0x3060, 1, 0x2, 1, .u64, .ro, 0, .imm, .any, false⟩,
  ⟨0x3060, 1, 0x3, 1, .u64, .ro, 0, .imm, .any, false⟩,
  ⟨0x3060, 1, 0x4, 1, .u64, .ro, 0, .imm, .any, false⟩,
  ⟨0x3060, 1, 0x5, 1, .u64, .ro, 0, .imm, .any, false⟩,
  ⟨0x3060, 1, 0x6, 1, .u64, .ro, 0, .imm, .any, false⟩,
  ⟨0x3060, 1, 0x7, 1, .u64, .ro, 0, .imm, .any, false⟩,
  ⟨0x3070, 1, 0x0, 1, .u8, .const, 8, .imm, .any, false⟩,
  ⟨0x3070, 1, 0x1, 1, .u64, .ro, 0, .imm, .any, false⟩,
  ⟨0x3070, 1, 0x2, 1, .u64, .ro, 0, .imm, .any, false⟩,
  ⟨0x3070, 1, 0x3, 1, .u64, .ro, 0, .imm, .any, false⟩,
  ⟨0x3070, 1, 0x4, 1, .u64, .ro, 0, .imm, .any, false⟩,
  ⟨0x3070, 1, 0x5, 1, .u64, .ro, 0, .imm, .any, false⟩,
  ⟨0x3070, 1, 0x6, 1, .u64, .ro, 0, .imm, .any, false⟩,
  ⟨0x3070, 1, 0x7, 1, .u64, .ro, 0, .imm, .any, false⟩,
  ⟨0x3070, 1, 0x8, 1, .u64, .ro, 0, .imm, .any, false⟩,
  ⟨0x3080, 1, 0x0, 1, .u8, .const, 4, .imm, .any, false⟩,
  ⟨0x3080, 1, 0x1, 1, .u64, .ro, 0, .imm, .any, false⟩,
  ⟨0x3080, 1, 0x2, 1, .u64, .ro, 0, .imm, .any, false⟩,
  ⟨0x3080, 1, 0x3, 1, .u64, .ro, 0, .imm, .any, false⟩,
  ⟨0x3080, 1, 0x4, 1, .u64, .ro, 0, .imm, .any, false⟩,
  ⟨0x3090, 1, 0x0, 1, .u8, .const, 4, .imm, .any, false⟩,
  ⟨0x3090, 1, 0x1, 1, .u64, .ro, 0, .imm, .any, false⟩,
  ⟨0x3090, 1, 0x2, 1, .u64, .ro, 0, .imm, .any, false⟩]

/-- Device entries, part 12. -/
def devEntries12 : List Entry := [
  ⟨0x3090, 1, 0x3, 1, .u64, .ro, 0, .imm, .any, false⟩,
  ⟨0x3090, 1, 0x4, 1, .u64, .ro, 0, .imm, .any, false⟩,
  ⟨0x30a0, 1, 0x0, 1, .u8, .const, 7, .imm, .any, false⟩,
  ⟨0x30a0, 1, 0x1, 1, .u64, .ro, 0, .imm, .any, false⟩,
  ⟨0x30a0, 1, 0x2, 1, .u64, .ro, 0, .imm, .any, false⟩,
  ⟨0x30a0, 1, 0x3, 1, .u64, .ro, 0, .imm, .any, false⟩,
  ⟨0x30a0, 1, 0x4, 1, .u64, .ro, 0, .imm, .any, false⟩,
  ⟨0x30a0, 1, 0x5, 1, .u64, .ro, 0, .imm, .any, false⟩,
  ⟨0x30a0, 1, 0x6, 1, .u64, .ro, 0, .imm, .any, false⟩,
  ⟨0x30a0, 1, 0x7, 1, .u64, .ro, 0, .imm, .any, false⟩,
  ⟨0x30c0, 1, 0x0, 1, .u8, .const, 7, .imm, .any, false⟩,
  ⟨0x30c0, 1, 0x1, 1, .u64, .ro, 0, .imm, .any, false⟩,
  ⟨0x30c0, 1, 0x2, 1, .u64, .ro, 0, .imm, .any, false⟩,
  ⟨0x30c0, 1, 0x3, 1, .u64, .ro, 0, .imm, .any, false⟩,
  ⟨0x30c0, 1, 0x4, 1, .u64, .ro, 0, .imm, .any, false⟩,
  ⟨0x30c0, 1, 0x5, 1, .u64, .ro, 0, .imm, .any, false⟩,
  ⟨0x30c0, 1, 0x6, 1, .u64, .ro, 0, .imm, .any, false⟩,
  ⟨0x30c0, 1, 0x7, 1, .u64, .ro, 0, .imm, .any, false⟩,
  ⟨0x30e0, 1, 0x0, 1, .u8, .const, 9, .imm, .any, false⟩,
  ⟨0x30e0, 1, 0x1, 1, .u64, .ro, 0, .imm, .any, false⟩,
  ⟨0x30e0, 1, 0x2, 1, .u64, .ro, 0, .imm, .any, false⟩,
  ⟨0x30e0, 1, 0x3, 1, .u64, .ro, 0, .imm, .any, false⟩,
  ⟨0x30e0, 1, 0x4, 1, .u64, .ro, 0, .imm, .any, false⟩,
  ⟨0x30e0, 1, 0x5, 1, .u64, .ro, 0, .imm, .any, false⟩,
  ⟨0x30e0, 1, 0x6, 1, .u64, .ro, 0, .imm, .any, false⟩,
  ⟨0x30e0, 1, 0x7, 1, .u64, .ro, 0, .imm, .any, false⟩,
  ⟨0x30e0, 1, 0x8, 1, .u64, .ro, 0, .imm, .any, false⟩,
  ⟨0x30e0, 1, 0x9, 1, .u64, .ro, 0, .imm, .any, false⟩]

/-- Device entries, in index order. -/
def devEntries : List Entry :=
  devEntries0 ++ devEntries1 ++ devEntries2 ++ devEntries3 ++ devEntries4 ++ devEntries5 ++ devEntries6 ++ devEntries7 ++ devEntries8 ++ devEntries9 ++ devEntries10 ++ devEntries11 ++ devEntries12

/-- Channel objects, part 0. -/
def chanEntries0 : List Entry := [
  ⟨0, 1, 0x0, 1, .u8, .const, 6, .imm, .any, false⟩,
  ⟨0, 1, 0x1, 1, .u8, .ro, 0, .imm, .any, false⟩,
  ⟨0, 1, 0x2, 1, .u8, .wo, 0, .imm, .any, false⟩,
  ⟨0, 1, 0x3, 1, .u8, .rw, 0, .imm, .any, false⟩,
  ⟨0, 1, 0x4, 1, .u8, .rw, 0, .frame, .codes [0, 1], true⟩,
  ⟨0, 1, 0x5, 1, .u8, .ro, 0, .imm, .any, false⟩,
  ⟨0, 1, 0x6, 1, .u32, .ro, 0, .imm, .any, false⟩,
  ⟨1, 1, 0x0, 1, .u8, .const, 0xd, .imm, .any, false⟩,
  ⟨1, 1, 0x1, 1, .u8, .rw, 2, .frame, .codes [1, 2, 3], true⟩,
  ⟨1, 1, 0x2, 1, .u8, .rw, 0x22, .frame, .codes [17, 18, 19, 20, 21, 33, 34, 35, 36, 37, 38, 39, 40, 41, 42, 43, 49, 50, 51, 52, 53, 54, 55], true⟩,
  ⟨1, 1, 0x3, 1, .u8, .rw, 0, .frame, .any, true⟩,
  ⟨1, 1, 0x4, 1, .u8, .rw, 0, .frame, .codes [0, 1], true⟩,
  ⟨1, 1, 0x5, 1, .u8, .rw, 0x40, .frame, .codes [16, 32, 64, 128], true⟩,
  ⟨1, 1, 0x6, 1, .u16, .rw, 0x32, .frame, .any, true⟩,
  ⟨1, 1, 0x7, 1, .u8, .rw, 0, .frame, .codes [0, 1, 3, 7], true⟩,
  ⟨1, 1, 0x8, 1, .u8, .rw, 0, .frame, .codes [0, 1], true⟩,
  ⟨1, 1, 0x9, 1, .u8, .rw, 0, .frame, .codes [0, 1], true⟩,
  ⟨1, 1, 0xa, 1, .u8, .rw, 0, .frame, .codes [0, 1, 2, 3], true⟩,
  ⟨1, 1, 0xb, 1, .bool, .rw, 1, .frame, .any, true⟩,
  ⟨1, 1, 0xc, 1, .bool, .rw, 0, .frame, .any, true⟩,
  ⟨1, 1, 0xd, 1, .bool, .rw, 0, .frame, .any, true⟩,
  ⟨2, 1, 0x0, 1, .u8, .const, 0xa, .imm, .any, false⟩,
  ⟨2, 1, 0x1, 1, .u16, .rw, 0x780, .frame, .range 64 16384, true⟩,
  ⟨2, 1, 0x2, 1, .u16, .rw, 0x438, .frame, .range 64 8640, true⟩,
  ⟨2, 1, 0x3, 1, .u8, .rw, 3, .frame, .codes [0, 1, 2, 3, 4, 5], true⟩,
  ⟨2, 1, 0x4, 1, .u8, .rw, 0xa, .frame, .range 8 16, true⟩,
  ⟨2, 1, 0x5, 1, .u32, .rw, 0x32, .frame, .any, true⟩,
  ⟨2, 1, 0x6, 1, .u32, .rw, 1, .frame, .range 1 4294967295, true⟩,
  ⟨2, 1, 0x7, 1, .u8, .rw, 1, .frame, .any, true⟩,
  ⟨2, 1, 0x8, 1, .u8, .rw, 1, .frame, .any, true⟩,
  ⟨2, 1, 0x9, 1, .u8, .rw, 1, .frame, .any, true⟩,
  ⟨2, 1, 0xa, 1, .bool, .rw, 0, .frame, .any, true⟩,
  ⟨3, 1, 0x0, 1, .u8, .const, 0xf, .imm, .any, false⟩,
  ⟨3, 1, 0x1, 1, .u8, .rw, 0, .frame, .codes [0, 1, 2, 3], true⟩,
  ⟨3, 1, 0x2, 1, .u8, .rw, 0, .frame, .any, true⟩,
  ⟨3, 1, 0x3, 1, .u8, .rw, 0, .frame, .any, true⟩,
  ⟨3, 1, 0x4, 1, .u8, .rw, 0, .frame, .codes [0, 1, 2], true⟩,
  ⟨3, 1, 0x5, 1, .u8, .rw, 0x10, .frame, .any, true⟩,
  ⟨3, 1, 0x6, 1, .u8, .rw, 1, .frame, .codes [0, 1, 2], true⟩,
  ⟨3, 1, 0x7, 1, .u32, .rw, 0, .frame, .rangeOr 0 100 1000000, true⟩]

/-- Channel objects, part 1. -/
def chanEntries1 : List Entry := [
  ⟨3, 1, 0x8, 1, .u8, .rw, 3, .frame, .range 2 8, true⟩,
  ⟨3, 1, 0x9, 1, .u32, .rw, 0, .frame, .any, true⟩,
  ⟨3, 1, 0xa, 1, .u32, .rw, 0, .frame, .any, true⟩,
  ⟨3, 1, 0xb, 1, .u16, .rw, 0x138c, .frame, .any, true⟩,
  ⟨3, 1, 0xc, 1, .u8, .rw, 0x60, .frame, .range 96 127, true⟩,
  ⟨3, 1, 0xd, 1, .u16, .rw, 0xffff, .frame, .rangeOr 0xFFFF 0 1023, true⟩,
  ⟨3, 1, 0xe, 1, .u8, .rw, 0x4b, .frame, .range 1 100, true⟩,
  ⟨3, 1, 0xf, 1, .u32, .rw, 0x800000, .frame, .range 1048576 268435456, true⟩,
  ⟨4, 1, 0x0, 1, .u8, .const, 8, .imm, .any, false⟩,
  ⟨4, 1, 0x1, 1, .u8, .rw, 1, .frame, .codes [1, 2], true⟩,
  ⟨4, 1, 0x2, 1, .u8, .rw, 0, .frame, .codes [0, 1, 2, 3], true⟩,
  ⟨4, 1, 0x3, 1, .bool, .rw, 0, .frame, .any, true⟩,
  ⟨4, 1, 0x4, 1, .u8, .rw, 0x10, .frame, .range 8 16, true⟩,
  ⟨4, 1, 0x5, 1, .u32, .rw, 0, .imm, .step 0 65532 4, false⟩,
  ⟨4, 1, 0x6, 1, .u64, .rw, 0, .imm, .any, false⟩,
  ⟨4, 1, 0x7, 1, .u8, .wo, 0, .frame, .any, false⟩,
  ⟨4, 1, 0x8, 1, .u8, .ro, 0xff, .imm, .any, false⟩,
  ⟨5, 1, 0x0, 1, .u8, .const, 6, .imm, .any, false⟩,
  ⟨5, 1, 0x1, 1, .u8, .rw, 0, .frame, .codes [0, 1], true⟩,
  ⟨5, 1, 0x2, 1, .u8, .rw, 1, .frame, .range 1 5, true⟩,
  ⟨5, 1, 0x3, 1, .u16, .rw, 0x100, .frame, .step 64 512 64, true⟩,
  ⟨5, 1, 0x4, 1, .q16, .rw, 0x10000, .frame, .range 16384 262144, false⟩,
  ⟨5, 1, 0x5, 1, .bool, .rw, 1, .frame, .any, false⟩,
  ⟨5, 1, 0x6, 1, .bool, .rw, 1, .frame, .any, false⟩,
  ⟨6, 1, 0x0, 1, .u8, .const, 7, .imm, .any, false⟩,
  ⟨6, 1, 0x1, 1, .u8, .rw, 1, .frame, .range 1 20, true⟩,
  ⟨6, 1, 0x2, 1, .u8, .rw, 1, .frame, .range 1 22, true⟩,
  ⟨6, 1, 0x3, 1, .bool, .rw, 0, .frame, .any, true⟩,
  ⟨6, 1, 0x4, 1, .u8, .rw, 1, .frame, .range 1 6, true⟩,
  ⟨6, 1, 0x5, 1, .u8, .rw, 1, .frame, .codes [0, 1], false⟩,
  ⟨6, 1, 0x6, 1, .u8, .rw, 1, .frame, .range 1 64, false⟩,
  ⟨6, 1, 0x7, 1, .u8, .rw, 4, .frame, .range 4 16, true⟩,
  ⟨7, 1, 0x0, 1, .u8, .const, 0xb, .imm, .any, false⟩,
  ⟨7, 1, 0x1, 1, .u8, .rw, 0, .frame, .codes [0, 1], true⟩,
  ⟨7, 1, 0x2, 1, .u8, .rw, 0, .frame, .codes [0, 1, 2], true⟩,
  ⟨7, 1, 0x3, 1, .u8, .rw, 0, .frame, .any, true⟩,
  ⟨7, 1, 0x4, 1, .u32, .rw, 0, .frame, .any, true⟩,
  ⟨7, 1, 0x5, 1, .u32, .rw, 0, .frame, .any, true⟩,
  ⟨7, 1, 0x6, 1, .u16, .rw, 0x138c, .frame, .any, true⟩,
  ⟨7, 1, 0x7, 1, .u8, .rw, 0x60, .frame, .range 96 127, true⟩]

/-- Channel objects, part 2. -/
def chanEntries2 : List Entry := [
  ⟨7, 1, 0x8, 1, .u16, .rw, 0x40, .frame, .range 0 1024, true⟩,
  ⟨7, 1, 0x9, 1, .u8, .rw, 0, .frame, .codes [0, 1, 2], false⟩,
  ⟨7, 1, 0xa, 1, .bool, .rw, 1, .frame, .any, false⟩,
  ⟨7, 1, 0xb, 1, .u32, .rw, 0x4000000, .frame, .range 1024 268435456, true⟩,
  ⟨8, 1, 0x0, 1, .u8, .const, 0xe, .imm, .any, false⟩,
  ⟨8, 1, 0x1, 1, .u8, .rw, 0, .frame, .codes [0, 1, 2, 3, 4, 5, 6], true⟩,
  ⟨8, 1, 0x2, 1, .i8, .rw, 0x1e, .frame, .any, false⟩,
  ⟨8, 1, 0x3, 1, .i8, .rw, 2, .frame, .range 0 12, false⟩,
  ⟨8, 1, 0x4, 1, .i8, .rw, 4, .frame, .range 0 12, false⟩,
  ⟨8, 1, 0x5, 1, .i8, .rw, 0x1e, .frame, .any, false⟩,
  ⟨8, 1, 0x6, 1, .u64, .rw, 0x2faf080, .frame, .range 100000 160000000000, true⟩,
  ⟨8, 1, 0x7, 1, .u64, .rw, 0, .frame, .rangeOr 0 100000 160000000000, true⟩,
  ⟨8, 1, 0x8, 1, .u16, .rw, 0x3e8, .frame, .range 10 10000, true⟩,
  ⟨8, 1, 0x9, 1, .i8, .rw, 0x80, .frame, .any, false⟩,
  ⟨8, 1, 0xa, 1, .i8, .rw, 0x7f, .frame, .any, false⟩,
  ⟨8, 1, 0xb, 1, .q16, .rw, 0x10000, .frame, .range 0 131072, false⟩,
  ⟨8, 1, 0xc, 1, .u8, .rw, 2, .frame, .range 1 8, false⟩,
  ⟨8, 1, 0xd, 1, .u8, .rw, 0, .frame, .codes [0, 1], true⟩,
  ⟨8, 1, 0xe, 1, .u32, .rw, 0, .frame, .rangeOr 0 1000 1000000, false⟩,
  ⟨9, 1, 0x0, 1, .u8, .const, 3, .imm, .any, false⟩,
  ⟨9, 1, 0x1, 1, .u8, .rw, 2, .frame, .any, false⟩,
  ⟨9, 1, 0x2, 1, .u8, .rw, 6, .frame, .range 2 12, false⟩,
  ⟨9, 1, 0x3, 1, .bool, .rw, 0, .frame, .any, true⟩,
  ⟨0xa, 1, 0x0, 1, .u8, .const, 7, .imm, .any, false⟩,
  ⟨0xa, 1, 0x1, 1, .u8, .rw, 4, .frame, .range 1 16, true⟩,
  ⟨0xa, 1, 0x2, 1, .u8, .rw, 2, .frame, .range 1 8, true⟩,
  ⟨0xa, 1, 0x3, 1, .u32, .ro, 0, .imm, .any, false⟩,
  ⟨0xa, 1, 0x4, 1, .u8, .ro, 0, .imm, .any, false⟩,
  ⟨0xa, 1, 0x5, 1, .u8, .ro, 0, .imm, .any, false⟩,
  ⟨0xa, 1, 0x6, 1, .u32, .ro, 0, .imm, .any, false⟩,
  ⟨0xa, 1, 0x7, 1, .u64, .ro, 0, .imm, .any, false⟩,
  ⟨0xc, 4, 0x0, 1, .u8, .const, 0x19, .imm, .any, false⟩,
  ⟨0xc, 4, 0x1, 1, .bool, .rw, 0, .frame, .any, false⟩,
  ⟨0xc, 4, 0x2, 1, .u16, .rw, 0x780, .frame, .step 64 8192 2, false⟩,
  ⟨0xc, 4, 0x3, 1, .u16, .rw, 0x438, .frame, .step 64 4320 2, false⟩,
  ⟨0xc, 4, 0x4, 1, .u8, .rw, 3, .frame, .codes [2, 3, 4, 5], false⟩,
  ⟨0xc, 4, 0x5, 1, .u8, .rw, 0xa, .frame, .codes [8, 10, 12], false⟩,
  ⟨0xc, 4, 0x6, 1, .u64, .rw, 0, .frame, .any, false⟩,
  ⟨0xc, 4, 0x7, 1, .q16, .rw, 0x10000, .frame, .range (-524288) 524288, false⟩,
  ⟨0xc, 4, 0x8, 1, .q16, .rw, 0, .frame, .range (-524288) 524288, false⟩]

/-- Channel objects, part 3. -/
def chanEntries3 : List Entry := [
  ⟨0xc, 4, 0x9, 1, .q16, .rw, 0, .frame, .range (-524288) 524288, false⟩,
  ⟨0xc, 4, 0xa, 1, .q16, .rw, 0, .frame, .range (-524288) 524288, false⟩,
  ⟨0xc, 4, 0xb, 1, .q16, .rw, 0x10000, .frame, .range (-524288) 524288, false⟩,
  ⟨0xc, 4, 0xc, 1, .q16, .rw, 0, .frame, .range (-524288) 524288, false⟩,
  ⟨0xc, 4, 0xd, 1, .q16, .rw, 0, .frame, .range (-524288) 524288, false⟩,
  ⟨0xc, 4, 0xe, 1, .q16, .rw, 0, .frame, .range (-524288) 524288, false⟩,
  ⟨0xc, 4, 0xf, 1, .q16, .rw, 0x10000, .frame, .range (-524288) 524288, false⟩,
  ⟨0xc, 4, 0x10, 3, .i32, .rw, 0, .frame, .range (-65536) 65535, false⟩,
  ⟨0xc, 4, 0x13, 1, .u16, .rw, 0, .imm, .lutIndex, false⟩,
  ⟨0xc, 4, 0x14, 1, .u64, .rw, 0, .imm, .any, false⟩,
  ⟨0xc, 4, 0x15, 1, .u8, .rw, 1, .frame, .codes [0, 1, 2], false⟩,
  ⟨0xc, 4, 0x16, 1, .u8, .rw, 1, .frame, .codes [0, 1, 2], false⟩,
  ⟨0xc, 4, 0x17, 1, .u8, .rw, 1, .frame, .range 1 8, false⟩,
  ⟨0xc, 4, 0x18, 1, .u8, .ro, 0, .imm, .any, false⟩,
  ⟨0xc, 4, 0x19, 1, .u8, .wo, 0, .frame, .any, false⟩,
  ⟨0x10, 1, 0x0, 1, .u8, .const, 0xe, .imm, .any, false⟩,
  ⟨0x10, 1, 0x1, 1, .u8, .rw, 0, .frame, .codes [0, 1, 2], true⟩,
  ⟨0x10, 1, 0x2, 1, .time, .rw, 0, .frame, .any, false⟩,
  ⟨0x10, 1, 0x3, 1, .u32, .rw, 0, .frame, .range 0 999999999, false⟩,
  ⟨0x10, 1, 0x4, 1, .u8, .rw, 0, .frame, .codes [0, 1], false⟩,
  ⟨0x10, 1, 0x5, 1, .u32, .rw, 0, .frame, .rangeOr 0 1 1000000, false⟩,
  ⟨0x10, 1, 0x6, 1, .u32, .rw, 0, .imm, .any, false⟩,
  ⟨0x10, 1, 0x7, 1, .u32, .ro, 0, .imm, .any, false⟩,
  ⟨0x10, 1, 0x8, 1, .time, .ro, 0, .imm, .any, false⟩,
  ⟨0x10, 1, 0x9, 1, .time, .ro, 0, .imm, .any, false⟩,
  ⟨0x10, 1, 0xa, 1, .u32, .ro, 0, .imm, .any, false⟩,
  ⟨0x10, 1, 0xb, 1, .u32, .ro, 0, .imm, .any, false⟩,
  ⟨0x10, 1, 0xc, 1, .u32, .ro, 0, .imm, .any, false⟩,
  ⟨0x10, 1, 0xd, 1, .u32, .ro, 0, .imm, .any, false⟩,
  ⟨0x10, 1, 0xe, 1, .u32, .ro, 0, .imm, .any, false⟩,
  ⟨0x11, 1, 0x0, 1, .u8, .const, 0xb, .imm, .any, false⟩,
  ⟨0x11, 1, 0x1, 1, .bool, .rw, 0, .frame, .any, true⟩,
  ⟨0x11, 1, 0x2, 1, .u32, .rw, 0, .frame, .range 64 65536, true⟩,
  ⟨0x11, 1, 0x3, 1, .u32, .rw, 0, .frame, .range 64 69120, true⟩,
  ⟨0x11, 1, 0x4, 1, .u8, .rw, 0x11, .frame, .grid, true⟩,
  ⟨0x11, 1, 0x5, 1, .u32, .rw, 0x76543210, .frame, .any, true⟩,
  ⟨0x11, 1, 0x6, 1, .u32, .rw, 0, .frame, .any, true⟩,
  ⟨0x11, 1, 0x7, 1, .u32, .ro, 0, .imm, .any, false⟩,
  ⟨0x11, 1, 0x8, 1, .u32, .ro, 0, .imm, .any, false⟩,
  ⟨0x11, 1, 0x9, 1, .u32, .ro, 0, .imm, .any, false⟩]

/-- Channel objects, part 4. -/
def chanEntries4 : List Entry := [
  ⟨0x11, 1, 0xa, 1, .u32, .ro, 0, .imm, .any, false⟩,
  ⟨0x11, 1, 0xb, 1, .u32, .ro, 0, .imm, .any, false⟩,
  ⟨0x12, 1, 0x0, 1, .u8, .const, 3, .imm, .any, false⟩,
  ⟨0x12, 1, 0x1, 1, .u8, .rw, 0, .frame, .codes [0, 1], false⟩,
  ⟨0x12, 1, 0x2, 1, .u64, .ro, 0, .imm, .any, false⟩,
  ⟨0x12, 1, 0x3, 1, .i32, .ro, 0, .imm, .any, false⟩,
  ⟨0x18, 1, 0x0, 1, .u8, .const, 7, .imm, .any, false⟩,
  ⟨0x18, 1, 0x1, 1, .u8, .rw, 0, .frame, .codes [0, 1], true⟩,
  ⟨0x18, 1, 0x2, 1, .bool, .rw, 1, .frame, .any, false⟩,
  ⟨0x18, 1, 0x3, 1, .u8, .rw, 0, .frame, .mask 0x3, false⟩,
  ⟨0x18, 1, 0x4, 4, .u16, .rw, 0xffff, .frame, .rangeOr 0xFFFF 0 32767, true⟩,
  ⟨0x19, 1, 0x0, 1, .u8, .const, 9, .imm, .any, false⟩,
  ⟨0x19, 1, 0x1, 1, .u16, .rw, 0, .imm, .range 0 4095, false⟩,
  ⟨0x19, 1, 0x2, 1, .u8, .wo, 0, .frame, .any, false⟩,
  ⟨0x19, 1, 0x3, 2, .u64, .wo, 0, .imm, .any, false⟩,
  ⟨0x19, 1, 0x5, 1, .u8, .ro, 0, .imm, .any, false⟩,
  ⟨0x19, 1, 0x6, 2, .time, .ro, 0, .imm, .any, false⟩,
  ⟨0x19, 1, 0x8, 1, .u32, .ro, 0xffffffff, .imm, .any, false⟩,
  ⟨0x19, 1, 0x9, 1, .u32, .ro, 0, .imm, .any, false⟩,
  ⟨0x20, 1, 0x0, 1, .u8, .const, 0x22, .imm, .any, false⟩,
  ⟨0x20, 1, 0x1, 16, .u64, .rw, 0xffffffff00000000, .imm, .any, false⟩,
  ⟨0x20, 1, 0x11, 16, .i8, .rw, 0, .imm, .range (-24) 24, false⟩,
  ⟨0x20, 1, 0x21, 1, .u8, .wo, 0, .frame, .any, false⟩,
  ⟨0x20, 1, 0x22, 1, .u32, .ro, 0, .imm, .any, false⟩,
  ⟨0x30, 1, 0x0, 1, .u8, .const, 7, .imm, .any, false⟩,
  ⟨0x30, 1, 0x1, 1, .u8, .ro, 0, .imm, .any, false⟩,
  ⟨0x30, 1, 0x2, 1, .u32, .ro, 0, .imm, .any, false⟩,
  ⟨0x30, 1, 0x3, 1, .u16, .ro, 0, .imm, .any, false⟩,
  ⟨0x30, 1, 0x4, 1, .u64, .ro, 0, .imm, .any, false⟩,
  ⟨0x30, 1, 0x5, 1, .u16, .ro, 0xffff, .imm, .any, false⟩,
  ⟨0x30, 1, 0x6, 1, .time, .ro, 0, .imm, .any, false⟩,
  ⟨0x30, 1, 0x7, 1, .time, .ro, 0, .imm, .any, false⟩,
  ⟨0x31, 1, 0x0, 1, .u8, .const, 9, .imm, .any, false⟩,
  ⟨0x31, 1, 0x1, 1, .u32, .ro, 0, .imm, .any, false⟩,
  ⟨0x31, 1, 0x2, 1, .u32, .ro, 0, .imm, .any, false⟩,
  ⟨0x31, 1, 0x3, 1, .u32, .ro, 0, .imm, .any, false⟩,
  ⟨0x31, 1, 0x4, 1, .u32, .ro, 0, .imm, .any, false⟩,
  ⟨0x31, 1, 0x5, 1, .u32, .ro, 0, .imm, .any, false⟩,
  ⟨0x31, 1, 0x6, 1, .u32, .ro, 0, .imm, .any, false⟩,
  ⟨0x31, 1, 0x7, 1, .time, .ro, 0, .imm, .any, false⟩]

/-- Channel objects, part 5. -/
def chanEntries5 : List Entry := [
  ⟨0x31, 1, 0x8, 1, .u64, .ro, 0, .imm, .any, false⟩,
  ⟨0x31, 1, 0x9, 1, .u16, .ro, 0, .imm, .any, false⟩,
  ⟨0x32, 1, 0x0, 1, .u8, .const, 5, .imm, .any, false⟩,
  ⟨0x32, 1, 0x1, 1, .u32, .ro, 0, .imm, .any, false⟩,
  ⟨0x32, 1, 0x2, 1, .u64, .ro, 0, .imm, .any, false⟩,
  ⟨0x32, 1, 0x3, 1, .u32, .ro, 0, .imm, .any, false⟩,
  ⟨0x32, 1, 0x4, 1, .u16, .ro, 0, .imm, .any, false⟩,
  ⟨0x32, 1, 0x5, 1, .u16, .ro, 0, .imm, .any, false⟩,
  ⟨0x33, 1, 0x0, 1, .u8, .const, 9, .imm, .any, false⟩,
  ⟨0x33, 1, 0x1, 1, .u32, .ro, 0, .imm, .any, false⟩,
  ⟨0x33, 1, 0x2, 1, .u32, .ro, 0, .imm, .any, false⟩,
  ⟨0x33, 1, 0x3, 1, .u32, .ro, 0, .imm, .any, false⟩,
  ⟨0x33, 1, 0x4, 1, .u32, .ro, 0, .imm, .any, false⟩,
  ⟨0x33, 1, 0x5, 1, .u32, .ro, 0, .imm, .any, false⟩,
  ⟨0x33, 1, 0x6, 1, .u32, .ro, 0, .imm, .any, false⟩,
  ⟨0x33, 1, 0x7, 1, .u32, .ro, 0, .imm, .any, false⟩,
  ⟨0x33, 1, 0x8, 1, .q16, .ro, 0, .imm, .any, false⟩,
  ⟨0x33, 1, 0x9, 1, .u64, .ro, 0, .imm, .any, false⟩,
  ⟨0x34, 1, 0x0, 1, .u8, .const, 0xb, .imm, .any, false⟩,
  ⟨0x34, 1, 0x1, 1, .i8, .ro, 0, .imm, .any, false⟩,
  ⟨0x34, 1, 0x2, 1, .u64, .ro, 0, .imm, .any, false⟩,
  ⟨0x34, 1, 0x3, 1, .u32, .ro, 0, .imm, .any, false⟩,
  ⟨0x34, 1, 0x4, 1, .u32, .ro, 0, .imm, .any, false⟩,
  ⟨0x34, 1, 0x5, 1, .u32, .ro, 0, .imm, .any, false⟩,
  ⟨0x34, 1, 0x6, 1, .u32, .ro, 0, .imm, .any, false⟩,
  ⟨0x34, 1, 0x7, 1, .u64, .ro, 0, .imm, .any, false⟩,
  ⟨0x34, 1, 0x8, 1, .u64, .ro, 0, .imm, .any, false⟩,
  ⟨0x34, 1, 0x9, 1, .u8, .ro, 0, .imm, .any, false⟩,
  ⟨0x34, 1, 0xa, 1, .u32, .ro, 0, .imm, .any, false⟩,
  ⟨0x34, 1, 0xb, 1, .u64, .ro, 0, .imm, .any, false⟩,
  ⟨0x35, 1, 0x0, 1, .u8, .const, 0xc, .imm, .any, false⟩,
  ⟨0x35, 1, 0x1, 1, .u32, .ro, 0, .imm, .any, false⟩,
  ⟨0x35, 1, 0x2, 1, .u32, .ro, 0, .imm, .any, false⟩,
  ⟨0x35, 1, 0x3, 1, .u32, .ro, 0, .imm, .any, false⟩,
  ⟨0x35, 1, 0x4, 1, .u32, .ro, 0, .imm, .any, false⟩,
  ⟨0x35, 1, 0x5, 1, .u32, .ro, 0, .imm, .any, false⟩,
  ⟨0x35, 1, 0x6, 1, .u32, .ro, 0, .imm, .any, false⟩,
  ⟨0x35, 1, 0x7, 1, .u64, .ro, 0, .imm, .any, false⟩,
  ⟨0x35, 1, 0x8, 1, .u32, .ro, 0, .imm, .any, false⟩,
  ⟨0x35, 1, 0x9, 1, .u64, .ro, 0, .imm, .any, false⟩]

/-- Channel objects, part 6. -/
def chanEntries6 : List Entry := [
  ⟨0x35, 1, 0xa, 1, .u32, .ro, 0, .imm, .any, false⟩,
  ⟨0x35, 1, 0xb, 1, .u32, .ro, 0, .imm, .any, false⟩,
  ⟨0x35, 1, 0xc, 1, .u32, .ro, 0, .imm, .any, false⟩,
  ⟨0x3e, 1, 0x0, 1, .u8, .const, 3, .imm, .any, false⟩,
  ⟨0x3e, 1, 0x1, 1, .u32, .ro, 0, .imm, .any, false⟩,
  ⟨0x3e, 1, 0x2, 1, .u16, .ro, 0, .imm, .any, false⟩,
  ⟨0x3e, 1, 0x3, 1, .time, .ro, 0, .imm, .any, false⟩]

/-- Channel objects, in index order. -/
def chanEntries : List Entry :=
  chanEntries0 ++ chanEntries1 ++ chanEntries2 ++ chanEntries3 ++ chanEntries4 ++ chanEntries5 ++ chanEntries6

end Sys2Proof.Machine
end

