-- ==== Sys2Proof/Machine/Types.lean ====
section
/-! DEFINITION. The records that State is made of: one structure for each kind of thing the manual names. Codes that
software reads as words keep their numbers; things of a fixed set of names are inductive types. -/

namespace Sys2Proof.Machine

/-! ### Requesters and requests (chapters 2 and 3) -/

/-- The state the Elvoz keeps for one requester (R61, R66, R71, R72, R74, R111). -/
structure ReqState where
  /-- LAST_ACCESS_ERROR CODE (0x2053:01). -/
  code : W32 := 0
  /-- LAST_ACCESS_ERROR ENTRY: index × 256 + subindex. -/
  entry : Nat := 0
  /-- LAST_ACCESS_ERROR TIME. -/
  errTime : Time := 0
  /-- LAST_ACCESS_ERROR ERROR_COUNT, modulo 2^32. -/
  errCount : W32 := 0
  /-- The per-requester selectors by dictionary key: TARGET, SELECT, SOURCE, GROUP, APERTURE, LUT_INDEX. -/
  sel : Store W64 := []
  /-- The read shadow of R72: the slot it is tagged with and the high word. -/
  shadow : Option (Nat × W32) := none
  /-- The write stage of R74: the slot it is tagged with and the low word. -/
  stage : Option (Nat × W32) := none
  /-- Fences completed (R111), modulo 2^32. -/
  fences : W32 := 0
  deriving DecidableEq, Repr

/-- One item of an OD/UDP packet (Table 2-8). -/
structure Item where
  index : Nat
  sub : Nat
  /-- TYPE of the request, 0 in a READ. -/
  type : Nat
  offset : Nat
  length : Nat
  data : List Byte
  /-- STATUS and data of a FENCE item, which is read as its packet arrives (R111). -/
  answer : Option (Nat × List Byte) := none
  deriving DecidableEq, Repr

/-- The part of a 64-bit BAR0 slot that an access covers (R72 to R75). -/
inductive Part where
  | whole | low | high
  deriving DecidableEq, Repr

/-- A request that waits in one of the queues of Table 2-12. -/
inductive Request where
  /-- A BAR0 write that needs a Shawm core (R50), or a firmware write. -/
  | write (who : Requester) (idx sub : Nat) (data : List Byte)
  /-- A USDO read of one client node. -/
  | usdoRead (can client idx sub : Nat)
  /-- A BAR0 read that waits for a LUT's copy (R136): the whole slot, its low word or its high word. -/
  | read (who : Requester) (idx sub : Nat) (part : Part)
  /-- A complete USDO write of one client node. -/
  | usdoWrite (can client idx sub : Nat) (data : List Byte)
  /-- A received RPDO: the mapped values, in mapping order. -/
  | rpdo (can : Nat) (vals : List (Nat × List Byte))
  /-- An OD/UDP READ or WRITE packet; each item is one request (R50). -/
  | udp (addr port : Nat) (seq : Nat) (isWrite : Bool) (items : List Item)
  deriving DecidableEq, Repr

/-- One of the five request queues. A blocked queue waits for an NVM slot write (R56). -/
structure Queue where
  items : List Request := []
  /-- An RWP write taken from this queue is still in progress. -/
  blocked : Bool := false
  deriving DecidableEq, Repr

/-- The NMT states of a CANopen node. -/
inductive Nmt where
  | preOperational | operational | stopped
  deriving DecidableEq, Repr

/-- A USDO session of one client node (R46). -/
structure Session where
  idx : Nat
  sub : Nat
  isWrite : Bool
  /-- The bytes of a segmented write received so far. -/
  data : List Byte
  /-- The write is complete and waits in the queue, or the read waits for its answer. -/
  queued : Bool
  deriving DecidableEq, Repr

/-- One CAN controller and its CANopen FD node. -/
structure CanNode where
  /-- The controller is on: enabled, and not kept off by R49. -/
  on : Bool := false
  busOff : Bool := false
  nmt : Nmt := .preOperational
  /-- Instant of the last heartbeat sent. -/
  lastHb : Time := 0
  sessions : Store Session := []
  /-- The instant and the bytes of the last transmission of each TPDO. -/
  tpdos : Store (Time × List Byte) := []
  deriving DecidableEq, Repr

/-- What an NVM slot write answers when it is done. -/
inductive NvmBack where
  /-- A queue request with its own answer. -/
  | request (q : Nat) (r : Request)
  /-- One item of an open packet: the queue and the item number. -/
  | packet (q item : Nat)
  /-- A value of an RPDO, which nobody answers: its queue goes on with the last one. -/
  | pdo (q : Nat)
  /-- A write made by RESTORE_DEFAULTS, which is answered already. -/
  | silent
  deriving DecidableEq, Repr

/-- An NVM slot write, waiting or in progress (R56, R60). -/
structure NvmJob where
  /-- The entry. -/
  key : Nat
  value : W64
  /-- The slot takes the "default restored" mark (LENGTH 0xFFFF). -/
  restored : Bool
  back : NvmBack
  /-- Its requester, for LAST_ACCESS_ERROR. -/
  who : Requester
  deriving DecidableEq, Repr

/-- The content of one 32-byte slot (Table 2-16). A slot the record does not list is blank. -/
inductive Slot where
  /-- The 32 bytes of a slot as programmed. -/
  | bytes (b : List Byte)
  /-- What an interrupted or failed write leaves: neither blank nor valid. -/
  | broken
  deriving DecidableEq, Repr

/-- The record of one RWP entry: 8 slots and its wear (R54, R57). -/
structure NvmRecord where
  slots : Store Slot := []
  /-- WEAR: slot writes consumed, interrupted and failed ones included. -/
  wear : Nat := 0
  deriving DecidableEq, Repr

/-- An OD/UDP packet whose items wait for NVM slot writes. -/
structure OpenPacket where
  addr : Nat
  port : Nat
  seq : Nat
  isWrite : Bool
  items : List Item
  /-- STATUS and data of each item answered, by item number. -/
  answers : Store (Nat × List Byte)
  /-- Slot writes still to be answered. -/
  left : Nat
  deriving DecidableEq, Repr

/-- A kept OD/UDP answer (R45). -/
structure KeptAnswer where
  seq : Nat
  bytes : List Byte
  deriving DecidableEq, Repr

/-- The access paths and their queues. -/
structure Access where
  queues : Store Queue := []
  can : Store CanNode := []
  kept : Store (List KeptAnswer) := []
  openPackets : Store OpenPacket := []
  /-- NOTIFY packets sent since reset, modulo 2^32 (Table 2-7). -/
  notifySeq : W32 := 0
  /-- Datagrams dropped under R43. -/
  dropped : Nat := 0
  /-- The next queue the arbiter serves (R39). -/
  arbiter : Nat := 0
  deriving DecidableEq, Repr

/-- The non-volatile memory (Table 2-15) beside the delay trims and the boot area, which their chapters hold. -/
structure Nvm where
  records : Store NvmRecord := []
  /-- The slot write in progress and the instant it started. -/
  current : Option (NvmJob × Time) := none
  waiting : List NvmJob := []
  /-- Slot writes since manufacture (0x2080:01). -/
  slotWrites : W64 := 0
  deriving DecidableEq, Repr

/-- The values of the dictionary (R67 to R71). -/
structure DictState where
  /-- Pending value of each RW or RWP entry written since its default. -/
  pend : Store W64 := []
  /-- Value in effect, where it differs from the default. -/
  appl : Store W64 := []
  /-- The entries and FRAME commands whose accepted value has not yet applied, oldest first: key, instant of acceptance, value. -/
  waiting : List (Nat × Time × W64) := []
  /-- Stored values of RO entries, where they differ from the default. -/
  ro : Store W64 := []
  /-- Live counters of 0x3001 to 0x3FFF, by the key of the held subindex. -/
  live : Store W64 := []
  /-- Held counters. -/
  held : Store W64 := []
  /-- Values of VISIBLE_STRING entries that are not constant. -/
  strs : Store (List Byte) := []
  /-- Configuration words that CFG_SHADOW_LOST left without a value: keys of entries (R83). -/
  lost : List Nat := []
  /-- Words of tables lost in the same way, as in a CfgBad. -/
  lostCells : List (Nat × Nat) := []
  deriving DecidableEq, Repr

/-- A block reset, or a restore of configuration words, in progress in a power domain (R82, R83): whether units are reset, and
the words to be restored. -/
structure BlockReset where
  pd : Nat
  restart : Bool := true
  keys : List Nat := []
  cells : List (Nat × Nat) := []
  deriving DecidableEq, Repr

/-! ### Faults, interrupts and the Moraine (chapter 15) -/

/-- A symbol record, or the room kept for it from the issue of its CTU: bytes, whether it is in the spill region, and whether
it has been written (R165 to R167). -/
structure FirnRecord where
  bytes : Nat
  spill : Bool
  written : Bool
  deriving DecidableEq, Repr

/-- A place: LOC_DEPTH and the fields of the location code (Table 1-6). DEV is filled in when the code is formed. -/
structure Loc where
  depth : Nat := 0
  chan : Nat := 0
  pic : Nat := 0
  tile : Nat := 0
  ctu : Nat := 0
  /-- Index of the coding unit in coding order, and its sample offset, which a record gives where BLK cannot (R18); or the
  whole CTU at depth 6. -/
  blk : Nat := 0
  whole : Bool := false
  sample : Nat := 0
  deriving DecidableEq, Repr

/-- A fault record (Table 15-7). -/
structure FaultRecord where
  fault : Nat
  /-- 1 raised, 2 cleared, 3 event. -/
  event : Nat
  reaction : Nat
  depth : Nat
  dev : Nat
  loc : Nat
  time : Time
  seq : W32
  /-- DETAIL, as words of 8 bytes from byte 28. -/
  detail : List Nat
  deriving DecidableEq, Repr

/-- The writable fields and RAISES of a fault reaction row (Table 15-5). -/
structure FaultRow where
  raises : Nat := 0
  irqSrc : Nat := 0xFFF
  irqEn : Bool := false
  notify : Bool := true
  errOut : Bool := false
  latch : Bool := false
  reaction : Nat := 0
  deriving DecidableEq, Repr

/-- An active condition source: the instances whose condition holds. None left and still active means latched (R352). -/
structure ActiveFault where
  holders : List Nat
  deriving DecidableEq, Repr

/-- DEVICE_STATE (0x2400:01). -/
inductive DeviceState where
  | normal | fatalDumping | fatal
  deriving DecidableEq, Repr

/-- The fault unit. -/
structure FaultSt where
  rows : Store FaultRow := []
  active : Store ActiveFault := []
  /-- The fault log, newest first, at most 256 records. -/
  log : List FaultRecord := []
  /-- Replacements since the log became full (R358). -/
  replaced : Nat := 0
  /-- Records made since reset, relayed ones included (RECORDS), and those of this device (the next SEQ). -/
  records : W32 := 0
  seq : W32 := 0
  device : DeviceState := .normal
  /-- The record of the first device-fatal fault (R357). -/
  cause : Option FaultRecord := none
  /-- Instant of the device-fatal fault. -/
  fatalAt : Time := 0
  /-- ERR_OUT_N driven asserted. -/
  errOut : Bool := true
  /-- The earliest instant at which the drive may be released (R359). -/
  errHold : Time := 0
  /-- The pin reads low. -/
  errPin : Bool := true
  /-- Dual-rail pairs ignored until reset (R351). -/
  ignored : List Nat := []
  /-- Records whose notices wait for a core that sends them (R356). -/
  unsent : List FaultRecord := []
  deriving DecidableEq, Repr

/-- The Moraine dump held (Table 15-9 to Table 15-11): what its header and sections are formed from. Section 7 and the
unit registers of section 3 hold what no rule gives. -/
structure Moraine where
  valid : Bool := false
  state : Nat := 0
  cause : Nat := 0
  causeLoc : Nat := 0
  causeDepth : Nat := 0
  dev : Nat := 0
  time : Time := 0
  doneTime : Time := 0
  writer : Nat := 0
  swVersion : List Byte := []
  /-- A DUMP_NOW is being written. -/
  dumping : Bool := false
  /-- TYPE of each section present. -/
  sections : List Nat := []
  /-- Section 1, fault log: 256 records at most, newest first. -/
  log : List FaultRecord := []
  /-- Section 2, reaction table rows in number order. -/
  rows : List W64 := []
  /-- Section 3, unit state: unit code, state, power domain, generation, location code, last handshake. -/
  units : List (Nat × Nat × Nat × Nat × Nat × Time) := []
  /-- Section 4, ring pointers: ring, PI, CI, bits [127:64] of its row. -/
  rings : List (Nat × W32 × W32 × W64) := []
  /-- Section 5, launch history: channel, and its last 64 launches oldest first. -/
  launches : List (Nat × List (Time × Nat × Nat)) := []
  /-- Section 6, dictionary snapshot: values in effect and pending values that differ from their defaults, and the keys of
  the entries omitted under R83. -/
  appl : Store W64 := []
  pend : Store W64 := []
  lost : List Nat := []
  deriving DecidableEq, Repr

/-- An interrupt source row (0x2501). -/
structure IntSource where
  func : Nat := 0
  group : Nat := 0
  prio : Nat := 1
  enable : Bool := false
  pending : Bool := false
  active : Bool := false
  signals : W32 := 0
  misrouted : W32 := 0
  deriving DecidableEq, Repr

/-- An interrupt group (0x2502) and its hold-off timer. -/
structure IntGroup where
  holdoffUs : Nat := 0
  bypassIdle : Bool := false
  messages : W32 := 0
  spurious : W32 := 0
  badCompletes : W32 := 0
  /-- The instant at which the running hold-off timer expires. -/
  timer : Option Time := none
  /-- The vector's MSI-X mask bit. PRESUMED set after reset, as PCIe gives it. -/
  masked : Bool := true
  /-- The vector's pending bit. -/
  msixPending : Bool := false
  deriving DecidableEq, Repr

/-- The interrupt unit: sources by number, groups by function × 64 + group. -/
structure IntSt where
  sources : Store IntSource := []
  groups : Store IntGroup := []
  deriving DecidableEq, Repr

/-! ### Functions and rings (chapter 4) -/

/-- STATE of a ring (Table 4-7). -/
inductive RingState where
  | disabled | enabled | error | stopping
  deriving DecidableEq, Repr

/-- A descriptor (Table 4-10). -/
structure Desc where
  addr : Nat
  len : Nat
  irq : Bool
  eof : Bool
  sof : Bool
  tag : W32
  time : Time
  deriving DecidableEq, Repr

/-- An emitted chunk, decoded picture or damage report on its way to an OUT ring. -/
structure OutChunk where
  stream : Nat
  data : List Byte
  bufs : List Nat
  picCount : Nat
  loc : Nat
  depth : Nat
  time : Time
  key : Bool := false
  late : Bool := false
  overrun : Bool := false
  /-- Its completions wait until the size of its picture tells whether it overruns (R194). -/
  waits : Bool := false
  skipped : Bool := false
  eop : Bool := false
  deriving DecidableEq, Repr

/-- One row of the queue table, and what its ring has in hand. -/
structure Ring where
  dbCount : W32 := 0
  errCount : W32 := 0
  pi : W32 := 0
  ci : W32 := 0
  size : Nat := 0
  type : Nat := 0
  enable : Bool := false
  state : RingState := .disabled
  errCause : Nat := 0
  chan : Nat := 0x1FF
  stream : Nat := 0
  /-- Owning function; none is 0x1FF in the row. -/
  owner : Option Nat := none
  loc : Nat := 0
  irqEn : Bool := false
  irqSrc : Nat := 0
  base : W64 := 0
  /-- Descriptors fetched and not completed, oldest first. -/
  fetched : List Desc := []
  /-- Bytes of the chunk in progress already moved to the host (OUT). -/
  chunkDone : Nat := 0
  /-- The chunk in progress was discarded, and the next posted descriptor ends it (R94). -/
  chunkAborted : Option OutChunk := none
  /-- A frame is open on this IN ring: its capture time and the bytes and buffers it holds (R108). -/
  frame : Option (Time × List Byte × List Nat) := none
  deriving DecidableEq, Repr

/-- The host link and the functions. -/
structure Host' where
  perstLow : Bool := false
  linkUp : Bool := false
  gen : Nat := 0
  width : Nat := 0
  vfEnable : Bool := false
  numVfs : Nat := 0
  flrCount : W32 := 0
  /-- Mailbox bytes by function × 4096 + offset. -/
  mailbox : Memory := []
  deriving DecidableEq, Repr

/-! ### Units and grants (chapters 1, 6, 7) -/

/-- A grant of work: a search row, a CTU, or a substream of one picture, with its generation (R182). -/
structure Grant where
  chan : Nat
  /-- Full picture count of the picture. -/
  pic : Nat
  /-- Row, CTU or substream number. -/
  idx : Nat
  /-- Reference number of a search grant; first CTU of an entropy grant's chunk in progress. -/
  ref : Nat := 0
  gen : Nat := 0
  /-- A front-end grant of a full verify (R201). -/
  verify : Bool := false
  /-- Pool buffers of the chunk in progress. -/
  bufs : List Nat := []
  deriving DecidableEq, Repr

/-- One pixel core, entropy engine, search engine or decode front end. -/
structure UnitSt where
  inService : Bool := true
  quarantined : Bool := false
  retired : Bool := false
  /-- Its self-test after leaving service has been made (R185). -/
  tested : Bool := false
  testing : Bool := false
  leftAt : Time := 0
  lastWrite : Time := 0
  lastHandshake : Time := 0
  grant : Option Grant := none
  deriving DecidableEq, Repr

/-! ### Frames and ingest (chapter 5) -/

/-- Whole-frame statistics the rate controller takes from a frame (R190): the sum of ACT and the samples covered. -/
structure FrameStat where
  act : Nat
  samples : Nat
  deriving DecidableEq, Repr

/-- A frame of a channel. Lines are keyed by plane × 65536 + line. -/
structure Frame where
  /-- The order in which the channel's frames opened, from 0 at OPEN. -/
  seq : Nat
  frameCount : Nat
  opened : Time
  capture : Time := 0
  /-- The lowest line whose CAPTURE_TIME the frame carries. -/
  captureLine : Nat := 0x1000000
  lines : Store (List Byte) := []
  /-- Sample row data of lines not yet whole (ST 2110-20): bytes by offset. -/
  parts : Store (Store Byte) := []
  /-- Lines declared lost. -/
  lost : List Nat := []
  /-- Lost lines whose replacement waits for a received line below (R126). -/
  owed : List Nat := []
  /-- It has begun to arrive (R263). -/
  begun : Bool := false
  closed : Bool := false
  accepted : Bool := false
  /-- Lines whose samples have been handed over to the devices that code them (R288). -/
  sent : List Nat := []
  /-- A launch has taken it. -/
  taken : Bool := false
  /-- Its derived pictures are made. -/
  derived : Bool := false
  /-- Pool buffers of its IN-ring data, held until it is coded (Table 10-3). -/
  bufs : List Nat := []
  /-- A picture of a decode channel: its cropped width and height, SAMPLING code and depth (R217). -/
  geom : Option (Nat × Nat × Nat × Nat) := none
  /-- Nothing more of it is to be coded: its pictures are complete, or no launch codes it. -/
  coded : Bool := false
  /-- Instants at which its CTU rows became ready, by part × 65536 + row (R130). -/
  rowAt : Store Time := []
  /-- First accepted frame after OPEN: its own statistics frame. -/
  first : Bool := false
  /-- Statistics of its statistics frame, once known (R190). -/
  stat : Option FrameStat := none
  /-- The LUT images that it uses throughout, by object (R136). -/
  images : Option (Store (Store Nat)) := none
  /-- Block statistics records beside it in DRAM, by block (R138). -/
  records : Store (BitVec 128) := []
  deriving DecidableEq, Repr

/-- An INGEST port (R117 to R120). -/
structure IngestPort where
  up : Bool := false
  creditTotal : Nat := 0
  /-- Credited flits received since link-up. -/
  credited : Nat := 0
  lastSeq : Option Nat := none
  /-- The line in progress: its header with the bytes so far, and whether no gap has been seen in it. -/
  line : Option (LineHead × Bool) := none
  lastCredit : Time := 0
  /-- FLIT_SEQ of the flits it sends. -/
  txSeq : W32 := 0
  deriving DecidableEq, Repr

/-- A LUT: its active and pending images, sparse against the default of its kind. -/
structure Lut where
  active : Store Nat := []
  pending : Store Nat := []
  /-- The copy after a swap is running. -/
  copying : Bool := false
  deriving DecidableEq, Repr

/-! ### Pictures, chunks and rate control (chapters 7 and 8) -/

/-- The type of a picture. -/
inductive PicType where
  | i | p | b
  deriving DecidableEq, Repr

/-- Picture types by number. -/
def PicType.code : PicType → Nat
  | .i => 0 | .p => 1 | .b => 2

/-- A chunk of a picture (R172). -/
structure Chunk where
  firstCtu : Nat
  lastRow : Nat
  data : List Byte
  bufs : List Nat
  emitted : Bool := false
  deriving DecidableEq, Repr

/-- A substream of a picture. -/
structure Sub where
  done : Bool := false
  /-- The first CTU of the chunk in progress, and the entropy state saved when it began (R183). -/
  chunkStart : Nat := 0
  saved : Contexts := []
  deriving DecidableEq, Repr

/-- A coded picture in work. -/
structure Pic where
  stream : Nat
  count : Nat
  /-- Number in its stream, from 0 at OPEN. -/
  num : Nat
  frameSeq : Nat
  frameCount : Nat
  capture : Time
  launch : Time
  type : PicType
  irap : Bool
  skipped : Bool
  isVoid : Bool := false
  refs : List Nat
  base : Int
  fb : Nat
  /-- Search grants (row × 16 + reference) complete. -/
  searched : List Nat := []
  /-- Generation at which each CTU was last issued. -/
  issued : Store Nat := []
  done : List Nat := []
  subs : Store Sub := []
  chunks : List Chunk := []
  adapted : List Nat := []
  maxErr : Nat := 0
  recoded1 : Nat := 0
  recoded2 : Nat := 0
  recoded3 : Nat := 0
  losslessCtus : Nat := 0
  /-- Bits of the access unit, known when the last chunk is coded. -/
  size : Option Nat := none
  overrun : Bool := false
  late : Bool := false
  /-- Place of its frame among the B pictures of a group, 0 for an anchor; a reference picture. -/
  j : Nat := 0
  isRef : Bool := true
  /-- Values in effect at its frame, and the ROI map. -/
  vals : Store W64 := []
  roi : List (Nat × Nat × Nat × Nat × Int) := []
  /-- Every CTU is intra: the first picture of a takeover (R296). -/
  allIntra : Bool := false
  /-- CTUs repeated, re-coded, spilled or held for a halo: their chunks have no latency bound (R174). -/
  unbound : List Nat := []
  /-- Instants from which CTUs wait for room in the spill region (R167). -/
  spillWaits : Store Time := []
  /-- Its parameter sets are emitted: the stream's first picture, an IRAP picture, or one that changes their content
  (Table 7-6). -/
  newParams : Bool := false
  /-- It has been counted in HALO_CLOSED_PICS. -/
  haloNoted : Bool := false
  /-- Bins of each substream, for PEAK_BINS_PER_SAMPLE. -/
  bins : Store Nat := []
  /-- APPLIED_SEQ in effect for its frame (Table 7-7). -/
  applied : Nat := 0
  deriving DecidableEq, Repr

/-- A picture of a stream as the rate controller remembers it (R191). -/
structure RatePic where
  num : Nat
  type : PicType
  base : Int
  c : Nat
  planned : Nat
  /-- Its channel has a ceiling; C × T of its stream, and QpBdOffset. -/
  ceiled : Bool := false
  drain : Nat := 0
  off : Nat := 0
  size : Option Nat := none
  /-- Bucket, bits spent and alpha of I, P and B after this picture. -/
  fAfter : Nat := 0
  spentAfter : Nat := 0
  alphaAfter : Nat × Nat × Nat := (131072, 52429, 32768)
  deriving DecidableEq, Repr

/-- The rate state of one stream (R191, R193). Bits and models carry 16 fraction bits. -/
structure RateStream where
  pics : List RatePic := []
  cSum : Nat := 0
  started : Nat := 0
  /-- Pictures since the last IRAP picture. -/
  sinceIrap : Nat := 0
  bucket : Nat := 0
  /-- Number of the first picture whose size the bucket does not yet hold. -/
  bucketAt : Nat := 0
  spent : Nat := 0
  alpha : Nat × Nat × Nat := (131072, 52429, 32768)
  /-- Pictures of the stream with a full verify: number, full count, and result once known (R201, R202). -/
  verified : List (Nat × Nat × Option Nat) := []
  /-- ALF filter sets derived from its latest pictures, by number (R175). -/
  alf : List (Nat × List Int) := []
  deriving DecidableEq, Repr

/-! ### Decoding (chapter 9) -/

/-- A picture of a decode channel. -/
structure DecPic where
  /-- Picture count in decoding order; a made-up reference stands under 2^32 and the number that names it. -/
  count : Nat
  irap : Bool := false
  inter : Bool := false
  refs : List Nat := []
  geom : PicGeom
  /-- CTUs decoded, and those of the slice in progress; those of a complete picture that were not are concealed. -/
  covered : List Nat := []
  sliceCtus : List Nat := []
  concealed : List Nat := []
  tainted : Bool := false
  origin : Nat := 0xFFFFFFFF
  firstClass : Nat := 0
  classMask : Nat := 0
  /-- SOURCE_POS: position of its first error. -/
  errPos : Nat := 0
  /-- Input was discarded in it, and decoding has resumed inside it since. -/
  broken : Bool := false
  resync : Bool := false
  /-- METHOD of the first concealed CTU. -/
  method : Nat := 0
  certs : List Cert := []
  /-- CAPTURE_TIME of its capture record, 0 for none. -/
  capture : Time := 0
  /-- Its samples at the size coded, concealed areas filled. -/
  data : List Byte := []
  fb : Nat
  decodedAt : Time := 0
  /-- Certificate result of Table 9-6. -/
  certResult : Nat := 0
  /-- Its output has been dealt with; TIME, and whether it was not output or frozen. -/
  dealt : Bool := false
  outTime : Time := 0
  withheld : Bool := false
  frozen : Bool := false
  /-- Its damage report is written or not due. -/
  reported : Bool := false
  deriving DecidableEq, Repr

/-- A decode channel's decoder. -/
structure Decoder where
  /-- Decoding has begun at an IRAP picture (R222), and its RASL pictures are still being discarded. -/
  started : Bool := false
  raslSkip : Bool := false
  /-- Parameter sets present and valid, and whether each is acceptable (R219). -/
  params : List (ParamSet × Bool) := []
  /-- The picture whose slices are arriving is discarded. -/
  ignoring : Bool := false
  /-- Dependent slice segments of a damaged slice are concealed whole (R220). -/
  badSlice : Bool := false
  /-- After a SLICE_DATA error: discarding up to the next NAL unit that starts its own arithmetic-coding state (Table 9-4). -/
  seek : Bool := false
  /-- RAW_MODE of the latest capture record (R212). -/
  rawMode : Option Nat := none
  /-- Input bytes received and not yet parsed. -/
  input : List Byte := []
  /-- Pool buffers of the input, oldest first, with the bytes of each not yet parsed. -/
  bufs : List (Nat × Nat) := []
  /-- Position of the next byte to parse. -/
  pos : Nat := 0
  /-- Positions at which an access unit of a clip, or the first NAL unit of a packet, begins (Table 9-4). -/
  starts : List Nat := []
  /-- Positions at which input is missing: a TRANSPORT error. -/
  gaps : List Nat := []
  /-- What begins at a position of the input: on input 1 the offset of an access unit in the clip's essence, on input 2 the
  RTP sequence number of a packet. -/
  seqs : Store Nat := []
  /-- Discarding input: the first position at which it can resume. -/
  skipping : Option Nat := none
  /-- CAPTURE_TIME of a capture record that precedes its picture. -/
  capture : Time := 0
  cur : Option DecPic := none
  /-- Pictures decoded, in decoding order, while their output, their report or their buffer still needs them. -/
  pics : List DecPic := []
  /-- Last clean picture output: its geometry, output bytes and frame buffer. -/
  lastClean : Option (PicGeom × List Byte × Nat) := none
  /-- The latest picture of each size in decoding order: its geometry and samples (Table 9-5 row 3). -/
  last : List (PicGeom × List Byte) := []
  /-- Next RTP packet in order, counted without wrap, and the payloads of packets that wait for one before them. -/
  rtpNext : Option Nat := none
  reorder : Store (List Byte) := []
  /-- The NAL unit that fragments have begun, as far as they have come (Table 9-2). -/
  fragment : List Byte := []
  /-- Index entry of the clip that is read next. -/
  clipNext : Nat := 0
  /-- Launches that wait for a picture in output order. -/
  owed : List Time := []
  deriving DecidableEq, Repr

/-! ### Channels (chapter 4) -/

/-- STATE of a channel (Table 4-4). -/
inductive ChState where
  | closed | open_ | draining | faulted
  deriving DecidableEq, Repr

/-- An exact non-negative fraction, for the loads of R23. DESIGN CHOICE, log entry 56. -/
structure Frac where
  n : Nat
  d : Nat
  deriving DecidableEq, Repr

/-- The load a channel was admitted with: PX, MS, entropy and front ends in ‰, and its ingest rate of R115. -/
structure Load where
  px : Frac := ⟨0, 1⟩
  ms : Frac := ⟨0, 1⟩
  ee : Frac := ⟨0, 1⟩
  df : Frac := ⟨0, 1⟩
  ingest : Frac := ⟨0, 1⟩
  deriving DecidableEq, Repr

/-- A launch that waits for its frame (R263): launch time, end of the pairing window, and what it will do. -/
structure PairWait where
  time : Time
  limit : Time
  force : Bool
  /-- Idle or not, once the record inputs decide it (R274, R276). -/
  idle : Option Bool
  /-- At the launch, the oldest launched frame not fully emitted was past its deadline (R206). -/
  overdue : Bool := false
  /-- Full count of its first picture, where a LAUNCH carries it. -/
  base : Option Nat := none
  /-- APPLIED_SEQ in effect for its frame (Table 7-7). -/
  applied : Nat := 0
  vals : Store W64 := []
  roi : List (Nat × Nat × Nat × Nat × Int) := []
  /-- The LUT images in effect at the launch. -/
  images : Store (Store Nat) := []
  deriving DecidableEq, Repr

/-- A coded launch of a channel, from its launch to the emission of its last chunk. -/
structure Launched where
  /-- The frame it took; a void launch of an array takes a number of its own. -/
  frameSeq : Nat
  time : Time
  type : PicType
  irap : Bool
  skip : Bool
  /-- Place among the B pictures of a group, 0 for an anchor. -/
  j : Nat
  isRef : Bool
  /-- Full count of its first picture, once it has one. -/
  base : Option Nat := none
  /-- Coded here as void by an array member without the frame (R291). -/
  isVoid : Bool := false
  /-- Phases whose picture has started. -/
  startedPhases : Nat := 0
  vals : Store W64 := []
  roi : List (Nat × Nat × Nat × Nat × Int) := []
  allIntra : Bool := false
  applied : Nat := 0
  deriving DecidableEq, Repr

/-- A coding channel. -/
structure Chan where
  state : ChState := .closed
  owner : Nat := 0
  wide : Bool := false
  load : Load := {}
  bufNeed : Nat := 0
  openedAt : Time := 0
  /-- The instant from which the next PERIODIC launch is planned: the last OPEN, launch or step of TIME_NOW (R260). -/
  planFrom : Time := 0
  /-- Full picture count that the next coded picture will take. -/
  picCount : Nat := 0
  frames : List Frame := []
  frameSeq : Nat := 0
  /-- Frames accepted since OPEN. -/
  accepted : Nat := 0
  lastStat : Option FrameStat := none
  /-- Lines of the last accepted frame, for PREVIOUS_FRAME. -/
  lastLines : Store (List Byte) := []
  lastFrameCount : Option Nat := none
  /-- FRAME_COUNT and opening instant of a dropped frame that is still open: its lines are absorbed, and those that have come
  are kept by number to tell duplicates. -/
  absorbing : Option (Nat × Time × List Nat) := none
  /-- FRAME_COUNTs of the frames closed (R124). -/
  closedCounts : List Nat := []
  /-- RTP timestamp of the last ST 2110-20 frame. -/
  lastRtp : Option Nat := none
  /-- Rows handed over by other devices, by FRAME_COUNT: part × 65536 + row, and samples (R288). -/
  handed : Store (Store (List Byte)) := []
  launched : List Launched := []
  pics : List Pic := []
  rate : Store RateStream := []
  outQ : List OutChunk := []
  /-- The next launch, read from the launch list or planned for an array and held: time and FORCE_IRAP (R261, R286). -/
  listHead : Option (Time × Bool) := none
  /-- Launches that wait for a frame, oldest first. -/
  pairs : List PairWait := []
  /-- Launched frames that wait for their pictures to start, in coding order; B frames that wait for their anchor. -/
  order : List Nat := []
  gop : List Nat := []
  /-- Frames since the last IRAP frame, and whether a frame has been coded since OPEN. -/
  gopPos : Nat := 0
  coded : Bool := false
  /-- Launches of an array channel sent by the time master and not yet fired: time, FORCE_IRAP, picture count. -/
  sched : List (Time × Bool × Nat) := []
  /-- Launches up to this instant were sent before this device took cells over: it codes nothing for them (R296). -/
  quiet : Time := 0
  lastLaunch : Option Time := none
  /-- The launch before it, for a DRAIN that prevents the last one (R93). -/
  launchBefore : Option Time := none
  /-- LAST_DONE_PIC: the newest picture whose chunks of this device have all been emitted (Table 12-2). -/
  lastDone : Option Nat := none
  /-- Launch time of the last completed frame of each picture type (R369). -/
  workOf : Store Time := []
  /-- The last 64 launches: time, full picture count, kind (Table 15-11). -/
  history : List (Time × Nat × Nat) := []
  /-- An idle launch came last: the next coded launch is IRAP (R274). -/
  forceIrap : Bool := false
  lutStore : Option Nat := none
  luts : Store Lut := []
  /-- The ROI map in effect: rectangle and offset of each entry not empty. -/
  roi : List (Nat × Nat × Nat × Nat × Int) := []
  /-- Accepted frames so far, for FRAME_DIV of each derived output. -/
  derivedSeen : Nat := 0
  /-- Working space taken, in bytes: ingest, then each derived output. -/
  space : Nat := 0
  derivedSpace : Store Nat := []
  /-- The instant since which the next picture has waited for a frame buffer; and whether every picture started since
  REF_POOL_STARVED was raised has waited (R245). -/
  fbWait : Option Time := none
  starved : Bool := false
  qpWait : Option Time := none
  /-- Instants from which the next chunk of each stream has waited for the output path (R196). -/
  outWaits : Store Time := []
  /-- What the parameter sets last emitted in each stream say (Table 7-6). -/
  sentParams : Store ParamFacts := []
  /-- Streams whose end of sequence has been handed over (Table 7-6). -/
  ended : List Nat := []
  /-- A chunk waits for a destination; the last picture emitted carried LATE, and OVERRUN (Table 4-17). -/
  destWait : Bool := false
  lastLate : Bool := false
  lastOverrun : Bool := false
  /-- FLAGS of CH_STATUS at its close, kept until the next OPEN (R113). -/
  flagsKept : Nat := 0
  haloWait : Option Time := none
  dec : Decoder := {}
  deriving DecidableEq, Repr

/-! ### Pools (chapter 10) -/

/-- A pool buffer out of the pool (Table 10-4). -/
structure Buf where
  freed : Bool := false
  /-- OWNER codes of the sharers that have not released; SHARES is their number. -/
  sharers : List Nat := []
  chan : Nat := 0x1FF
  use : Nat := 0
  owner : Nat := 0
  bytes : Nat := 0
  /-- Obtained by a request and not yet put to use, and the unit that asked: the engine of a chunk. -/
  ready : Bool := false
  unit : Nat := 0
  deriving DecidableEq, Repr

/-- An allocation request that waits (R232). -/
structure BufWaiter where
  chan : Nat
  use : Nat
  unit : Nat
  since : Time
  deriving DecidableEq, Repr

/-- The buffer pool. -/
structure Pool where
  bufBytes : Nat := 262144
  total : Nat := 65536
  minFree : Nat := 65536
  low : Bool := false
  bufs : Store Buf := []
  waiters : List BufWaiter := []
  /-- FREE has been above 0 since a request last waited. -/
  seenFree : Bool := true
  /-- Buffers that have been out of the pool since reset: what they hold is what their units wrote. -/
  used : List Nat := []
  deriving DecidableEq, Repr

/-- A candidate of the motion search: vector in samples of its level, and cost with 16 fraction bits (R142, R144). -/
structure Cand where
  x : Int
  y : Int
  cost : Nat
  deriving DecidableEq, Repr

/-- Halo samples of one rectangle of a plane of a reference, on the plane's grid (R157, R290). -/
structure HaloPart where
  owner : Nat
  plane : Nat
  x : Nat
  y : Nat
  w : Nat
  h : Nat
  data : List Byte
  deriving DecidableEq, Repr

/-- A frame buffer (Table 10-9). -/
structure FrameBuf where
  /-- Holding channel; an orphan has none. -/
  chan : Option Nat
  /-- The channel whose picture it holds, under which it was exported. -/
  of_ : Nat
  granules : Nat
  shortRef : Bool := false
  longRef : Bool := false
  outHold : Bool := false
  verifyHold : Bool := false
  exportHold : Bool := false
  haloHold : Bool := false
  haloPeers : Nat := 0
  /-- FINALs that have come: peer, and the number of the picture among the frame's (R158, R290). -/
  haloFinals : List (Nat × Nat) := []
  launch : Time := 0
  /-- Full count of the first picture of the frame held, and how many pictures the frame has. -/
  pic : Option (Nat × Nat) := none
  compBytes : Nat := 0
  /-- Pictures whose verify is still to come. -/
  verifyLeft : List Nat := []
  /-- Pictures of which a substream failed to decode in a full verify. -/
  verifyBad : List Nat := []
  /-- Pictures of the frame that the standard's marking has made unused for reference. -/
  unrefd : List Nat := []
  /-- P0 of the frame held, row by row, once its pictures are complete (R240, R147). -/
  p0 : List (List Nat) := []
  /-- The exporting requester's export view shows this buffer. -/
  exportedTo : Option Nat := none
  /-- Reconstructed sample bytes of each picture, as an IN-ring frame. -/
  recon : Store (List Byte) := []
  /-- CTUs of the frame held that have been coded: picture × 2^20 + CTU (R198, R242), with the tools of the frame and the ALF
  filter sets of each picture. -/
  codes : Store CtuCode := []
  tools : Option Tools := none
  alf : Store (List Int) := []
  /-- Instants at which the CTU rows of its pictures were reconstructed: picture × 65536 + row. -/
  rowAt : Store Time := []
  /-- Halo samples fetched of the frame held (R157). -/
  halo : List HaloPart := []
  /-- Motion field of the frame held: reference × 2^32 + block row × 65536 + block column of P0, and the candidates kept
  there, best first (R142). -/
  field : Store (List Cand) := []
  /-- Place of the frame held in picture order, and that of the first reference it was searched in (R143). -/
  order : Nat := 0
  firstRef : Option Nat := none
  deriving DecidableEq, Repr

/-! ### Time base and record inputs (chapter 11) -/

/-- Time-base states (Table 11-2). -/
inductive TbState where
  | freerun | acquiring | locked | holdover
  deriving DecidableEq, Repr

/-- A REC_STATUS message (Table 11-7): sender, BUGLE_SEQ, RECORDING, FINAL_TIME, AGREE_TIME and EDGE_TIME. -/
structure RecMessage where
  from_ : Nat
  seq : Nat
  recording : Bool
  final : Time
  agree : Time
  edge : Time
  deriving DecidableEq, Repr

/-- The time base, its PTP port, 1PPS, LTC and Bugle. -/
structure TimeBase where
  state : TbState := .freerun
  offset : Int := 0
  freq : Int := 0
  /-- Frequency corrections applied, newest first, with the instant of each, back to the last 64 s. -/
  freqLog : List (Time × Int) := []
  /-- Consecutive measurements within the lock window, and beyond four of them. -/
  inRun : Nat := 0
  outRun : Nat := 0
  /-- Instant of the last accepted measurement of the source. -/
  lastMeas : Time := 0
  holdStart : Time := 0
  /-- TIME_STEP_DEFERRED raised since the reference last locked. -/
  deferred : Bool := false
  /-- A Sync that waits for its Follow_Up, or a complete one: sequence, receive time. -/
  sync : Option (Nat × Time) := none
  /-- Master-to-slave difference of the last Sync. -/
  ms : Option Int := none
  delayReq : Option Time := none
  /-- meanPathDelay, once measured. -/
  path : Option Int := none
  lastDelayReq : Time := 0
  lastAnnounce : Time := 0
  /-- TOD_SET names the instant of the next 1PPS edge. -/
  tod : Option Time := none
  ppsKnown : Bool := false
  lastPps : Time := 0
  lastPpsOut : Time := 0
  /-- Valid LTC codewords, newest first: start of bit 0, packed code and rate code; 64 at most. -/
  ltc : List (Time × W32 × Nat) := []
  /-- TIME_OF_DAY: the edge named by the last message. -/
  todEdge : Option Time := none
  bugleSeq : W32 := 0
  /-- BUGLE_SEQ of the messages received, by sender, newest first; and the first one not received yet. -/
  applied : Store (List Nat) := []
  bugleNext : Store Nat := []
  /-- REC_STATUS messages that wait for an earlier message. -/
  recWaiting : List RecMessage := []
  lastSync : Time := 0
  /-- FINAL_TIME applied from the time master (R276). -/
  finalTime : Time := 0
  lastRecSend : Time := 0
  lastTodSend : Time := 0
  deriving DecidableEq, Repr

/-- The record-input machine (Table 11-9). -/
structure RecInput where
  /-- 0 STOPPED, 1 START_PENDING, 2 RECORDING, 3 STOP_PENDING, 4 LOCKED. -/
  state : Nat := 4
  /-- Prior state of LOCKED: RECORDING when set. -/
  prior : Bool := false
  t1 : Time := 0
  td : Time := 0
  pinA : Bool := false
  pinB : Bool := false
  /-- In LOCKED: since when both channels have shown the prior state, and the Td of that re-arm. -/
  rearm : Option (Time × Time) := none
  /-- Accepted changes, newest first: agreement instant, edge time, start. -/
  changes : List (Time × Time × Bool) := []
  deriving DecidableEq, Repr

/-! ### Arrays and Ronox ports (chapter 12) -/

/-- A device-link flit (Table 12-1) without its FLIT_SEQ, which each port gives. -/
structure Flit where
  type : Nat
  flags : Nat := 0
  epoch : Nat
  src : Nat
  dst : Nat
  hops : Nat := 0
  cls : Nat
  body : List Byte
  deriving DecidableEq, Repr

/-- A RONOX device-link port (R277 to R283), named by its quad. -/
structure RonoxPort where
  up : Bool := false
  retraining : Bool := false
  retrainAt : Time := 0
  /-- Neighbour DEV admitted by HELLO; none before. -/
  neighbour : Option Nat := none
  /-- Next FLIT_SEQ to send, and the last ACK_SEQ received. -/
  txSeq : Nat := 0
  acked : Nat := 0
  /-- Next FLIT_SEQ expected. -/
  rxSeq : Nat := 0
  /-- NAKs received for the present ACK_SEQ, and the last instant of ACK progress. -/
  naks : Nat := 0
  ackAt : Time := 0
  /-- Credited flits received by class, and the CREDIT_TOTAL sent by class. -/
  rxCount : Nat × Nat × Nat := (0, 0, 0)
  rxCredit : Nat × Nat × Nat := (0, 0, 0)
  /-- Credited flits sent by class, and the CREDIT_TOTAL received by class. -/
  txCount : Nat × Nat × Nat := (0, 0, 0)
  txCredit : Nat × Nat × Nat := (0, 0, 0)
  lastCredit : Time := 0
  /-- Flits that wait for credit or replay room, oldest first, and the class last sent of 1 and 2 (R280). -/
  waiting : List Flit := []
  lastBulk : Nat := 2
  /-- The replay buffer: FLIT_SEQ and flit, oldest first (R281). -/
  replay : List (Nat × Flit) := []
  deriving DecidableEq, Repr

/-- What the array knows of a member. -/
structure Member where
  lastHb : Option Time := none
  /-- Its HEARD set, and the last instant at which it listed this device. -/
  heardMe : Option Time := none
  state : Nat := 0
  neighbours : List Nat := []
  slots : List HbSlot := []
  /-- LAST_DONE_PIC by channel, kept while the channel is absent from the slots (R278). -/
  lastDone : Store Nat := []
  epoch : Nat := 0
  fenced : Bool := false
  deriving DecidableEq, Repr

/-- A HALO_REQ that waits for its data. -/
structure HaloWait where
  owner : Nat
  req : HaloReq
  /-- Bytes received so far, and those expected. -/
  got : Nat
  want : Nat
  lastData : Time
  /-- The bytes received. -/
  data : List Byte := []
  deriving DecidableEq, Repr

/-- The array state of the device (Table 12-4, Table 12-5). -/
structure ArraySt where
  /-- Table 12-5. -/
  state : Nat := 0
  epoch : Nat := 0
  coordinator : Nat := 0xFF
  members : Nat := 0
  standby : Nat := 0
  epochTime : Time := 0
  /-- Instant the first RONOX link came up. -/
  firstUp : Option Time := none
  peers : Store Member := []
  /-- HEARD bits this device sends. -/
  heard : Nat := 0
  lastHbSend : Time := 0
  /-- The last EPOCH this coordinator declared, and the end of its repeats. -/
  declared : Option (EpochMsg × Time) := none
  lastRepeat : Time := 0
  halos : Store HaloWait := []
  /-- Halos received whole: channel, picture, PLANE and owner; and FINAL copies sent: channel, picture, owner, copies and
  the instant of the last (R290). -/
  halosDone : List (Nat × Nat × Nat × Nat) := []
  finals : List (Nat × Nat × Nat × Nat × Time) := []
  nextReq : Nat := 0
  /-- Devices declared dead, with the instant: the halo of what they coded before it is closed (R159). -/
  closedHalo : List (Nat × Time) := []
  /-- Takeovers of the array channels open then, oldest first: channel, dead device, taker, 0xFF for none, and the last launch
  sent before (R296). -/
  taken : List (Nat × Nat × Nat × Time) := []
  /-- Launches of array channels held for a channel mismatch. -/
  mismatch : List Nat := []
  bugleSent : Nat := 0
  deriving DecidableEq, Repr

/-! ### Egress and magazines (chapter 13) -/

/-- Addressing of a packet as it was formed: destination MAC, none where ARP resolves the next hop; destination address,
ports, VLAN and DSCP_TTL words of EQ_CONFIG. -/
structure EthHead where
  mac : Option Nat
  /-- MAC and IP_ADDR of the sending port. -/
  src : Nat × Nat
  ip : Nat
  ports : Nat
  vlan : Nat
  dscpTtl : Nat
  deriving DecidableEq, Repr

/-- One packet of an egress queue: wire length, header, and its UDP payload. -/
structure Packet where
  wire : Nat
  head : EthHead
  payload : List Byte
  deriving DecidableEq, Repr

/-- A chunk held by an egress queue, with its packets not yet on the wire. -/
structure HeldChunk where
  chan : Nat
  bufs : List Nat
  bytes : Nat
  packets : List Packet
  deriving DecidableEq, Repr

/-- An egress queue (R302 to R306). Its configuration stands in the dictionary under the queue's own keys. -/
structure EgressQ where
  /-- STATE (Table 13-3). -/
  state : Nat := 0
  sent : W32 := 0
  dropped : W32 := 0
  held : List HeldChunk := []
  /-- Packets formed since enable: the RTP sequence number with its extension. -/
  seq : W32 := 0
  /-- Finish tag of the head packet, and Flast. -/
  tag : W64 := 0
  last : W64 := 0
  /-- Shaper tokens, in bytes with 16 fraction bits. -/
  tokens : Nat := 0
  lastDrop : Option Time := none
  /-- Codec of an offload, and its access units still to be packetised: launch time and bytes. -/
  codec : Nat := 0
  offload : List (Time × List Byte) := []
  deriving DecidableEq, Repr

/-- A gate list (R308 to R310). -/
structure GateList where
  base : Time := 0
  cycle : Nat := 1000000
  /-- GATES and INTERVAL_NS of each entry. -/
  entries : List (Nat × Nat) := []
  deriving DecidableEq, Repr

/-- An Ethernet port, keyed by quad × 16 + port. -/
structure EthPort where
  link : Bool := false
  active : GateList := {}
  /-- Pending list as BAR2 table bytes: entry words by number. -/
  pendingList : Store W64 := []
  /-- The instant a committed list takes over. -/
  commitAt : Option Time := none
  /-- Cycle start and entry number in effect. -/
  cycleStart : Time := 0
  entry : Nat := 0
  /-- Virtual time V of each TC. -/
  virt : Store W64 := []
  /-- A packet on the wire: its queue. -/
  busy : Option Nat := none
  /-- ARP entries: IPv4 address, MAC and the instant of the last refresh. -/
  arp : List (Nat × Nat × Time) := []
  deriving DecidableEq, Repr

/-- An ingress meter's buckets (R315), in millionths of a bit so that each refill is exact, and the settings in effect. -/
structure Meter where
  c : Nat := 524288000000
  e : Nat := 524288000000
  type : Nat := 0
  cir : Nat := 0
  cbs : Nat := 65536
  eir : Nat := 0
  ebs : Nat := 65536
  deriving DecidableEq, Repr

/-- An extent of a clip (Table 13-9). -/
structure Extent where
  start : Nat
  blocks : Nat
  isIndex : Bool
  deriving DecidableEq, Repr

/-- A frame index entry (Table 13-10). -/
structure IndexEntry where
  pic : Nat
  flags : Nat
  offset : Nat
  length : Nat
  launch : Time
  deriving DecidableEq, Repr

/-- A clip of one stream on one magazine. -/
structure Clip where
  number : Nat
  /-- 0 NONE, 1 OPEN, 2 CLOSED, 3 FULL, 4 ABORTED. -/
  state : Nat := 0
  extents : List Extent := []
  seq : Nat := 0
  firstLaunch : Time := 0
  /-- Essence bytes written, padding included; bytes of the access unit in progress. -/
  essence : Nat := 0
  au : Nat := 0
  auStart : Nat := 0
  index : List IndexEntry := []
  /-- Entries and essence bytes covered by the Flush in progress, then durable. -/
  flushing : Nat × Nat := (0, 0)
  durable : Nat × Nat := (0, 0)
  durablePic : Nat := 0xFFFFFFFF
  durableLaunch : Time := 0
  lowRaised : Bool := false
  deriving DecidableEq, Repr

/-- A chunk the magazine writer holds: its buffers, bytes, the magazines on which it is written and not yet durable, and
those whose Flush in progress covers it. -/
structure MagChunk where
  chan : Nat
  stream : Nat
  bufs : List Nat
  bytes : Nat
  onMags : List Nat
  flushing : List Nat := []
  deriving DecidableEq, Repr

/-- A channel's recording on the magazines (Table 13-8). -/
structure Recording where
  /-- CLIP_STATE. -/
  state : Nat := 0
  /-- An OPEN or a CLOSE that waits for the frame boundary. -/
  cmd : Option Nat := none
  /-- Magazines and streams of the clips, fixed at OPEN. -/
  mags : Nat := 0
  streams : Nat := 1
  /-- Clips by magazine × 4 + stream. -/
  clips : Store Clip := []
  /-- Launch time of the first frame recorded, and of the first one after a CLOSE. -/
  openAt : Time := 0
  closeAt : Option Time := none
  /-- Instant of the next checkpoint of each magazine. -/
  next : Store Time := []
  /-- Magazines that take no further frame, and the state their clips take after the final checkpoint. -/
  ending : Store Nat := []
  /-- Checkpoints that wait for Writes: magazine and the number of Writes that must complete. -/
  waits : Store Nat := []
  /-- Magazines with a Flush in progress. -/
  flushing : List Nat := []
  /-- Clip records being written: magazine and stream. -/
  records : List (Nat × Nat) := []
  deriving DecidableEq, Repr

/-- A magazine port (Table 13-7): 0 ABSENT, 1 READY, 2 UNSUPPORTED, 3 REMOVED, 4 FAILED. -/
structure Mag where
  state : Nat := 0
  capacity : Nat := 0
  /-- Content of the magazine by byte address, as the writer has written it. -/
  content : Memory := []
  /-- Writes issued and completed. -/
  issued : Nat := 0
  done : Nat := 0
  /-- Commands in flight, oldest first: opcode and instant of issue. -/
  inFlight : List (Nat × Time) := []
  deriving DecidableEq, Repr

/-! ### DRAM and DMA (chapter 14) -/

/-- The DRAM controllers. TRAINED, IN_USE, CAPACITY_MIB, INIT_MS, LAST_RETRAIN and TOTAL stand among the RO values. -/
structure Dram where
  /-- Base and size of each region of Table 14-2. -/
  regions : List (Nat × Nat) := [(0, 0), (0, 0), (0, 0), (0, 0), (0, 0), (0, 0), (0, 0)]
  /-- Instant at which each channel becomes, or became, due for its next retrain (R331). -/
  due : Store Time := []
  /-- Instants of each channel's corrected errors within the last second (R332). -/
  ceTimes : Store (List Time) := []
  /-- Instants of corrected reads that located one device, by channel, subchannel, rank and device (R333). -/
  located : Store (List Time) := []
  /-- Devices marked, by the same key. -/
  marked : List Nat := []
  /-- The error log, newest first: at most 16 records of 128 bits. -/
  errLog : List (BitVec 128) := []
  /-- Uncorrectable lines by address (R335). -/
  badLines : List Nat := []
  /-- Replays by channel × 2 + subchannel: command and instant (R336). -/
  replays : Store (List (Nat × Time)) := []
  /-- Working region bytes taken. -/
  workUsed : Nat := 0
  /-- Bytes of device DRAM written by DMA. -/
  mem : Memory := []
  /-- The launch list table, by its own offsets (R261). -/
  lists : Memory := []
  deriving DecidableEq, Repr

/-- The transfer a DMA channel has in hand. -/
structure DmaXfer where
  src : Nat
  dst : Nat
  count : Nat
  last : Bool
  irq : Bool
  dstHost : Bool
  srcHost : Bool
  dstWidth : Nat
  srcWidth : Nat
  next : Nat
  deriving DecidableEq, Repr

/-- A DMA channel (Table 14-8). SRC, DST, COUNT_BYTES, MODE and DESC_ADDR stand in the dictionary. -/
structure Dma where
  status : Nat := 0
  bytesDone : W64 := 0
  descDone : W32 := 0
  errAddr : W64 := 0
  cur : Option DmaXfer := none
  /-- The run has written to host memory. -/
  hostDst : Bool := false
  /-- DONE or STOPPED once the final read completes (R343). -/
  ending : Option Nat := none
  deriving DecidableEq, Repr

/-- The transaction trackers (R112). -/
structure Txn where
  /-- In flight by class (0 DRAM, 1 host, 2 magazines, 3 network, 4 links), and host requests by 16 + function. -/
  inUse : Store Nat := []
  /-- Trackers that waiting requests have been given and not yet used: class and function. -/
  given : List (Nat × Nat) := []
  /-- Waiting requests by class: function and since when. -/
  waiting : Store (List (Nat × Time)) := []
  peak : Nat := 0
  deriving DecidableEq, Repr

/-! ### Power, thermal control and calibration (chapter 16) -/

/-- A remote-diode channel (R378). -/
structure Tdiode where
  valid : Bool := false
  temp : Int := -32768
  /-- A result whose publication waits for the next end step. -/
  unpublished : Option Int := none
  passes : Nat := 0
  outOfRange : Nat := 0
  discards : W32 := 0
  deriving DecidableEq, Repr

/-- A set of delay trims: those that differ from its base, by line: ((domain × 8 + class) × 4 + band) × 64 + line. The base
is the factory set, or trim 15 everywhere (R387). -/
structure TrimSet where
  factory : Bool := false
  diff : Store Nat := []
  deriving DecidableEq, Repr

/-- Calibration of one trim group: domain, class and band. -/
structure CalGroup where
  /-- Probe offset of the next window, from 1 to 8. -/
  probe : Nat := 1
  /-- Late and transition counts of the windows of this run, newest first. -/
  windows : List (List Nat × List Nat) := []
  prev : Option (List Nat) := none
  fails : Nat := 0
  backoff : Option Time := none
  deriving DecidableEq, Repr

/-- The power manager, thermal control and margin calibrator. Values that only a dictionary entry shows stand among the RO
values. -/
structure Power where
  /-- Ladder state, 0 to 5. -/
  ladder : Nat := 0
  /-- Target of an entry in progress. -/
  entering : Option Nat := none
  frostSince : Time := 0
  /-- Setpoint and present voltage of each domain in mV. -/
  setpoint : Store Nat := []
  mv : Store Nat := []
  /-- VCORE_IN as commanded, in µV, what it was before, and the instant of the change (R366). -/
  vin : Nat := 0
  vinWas : Nat := 0
  vinAt : Time := 0
  /-- The voltage each raised domain goes to once VCORE_IN is confirmed. -/
  raising : Store Nat := []
  powerCap : Nat := 850
  thermalCap : Nat := 850
  /-- S(v) with 16 fraction bits: class × 64 + step. -/
  speed : Store Nat := []
  pmbusFails : Nat := 0
  powerMw : Nat := 0
  /-- The last READ_VOUT, READ_IOUT, READ_TEMPERATURE_1 and STATUS_WORD. -/
  pmbus : Nat × Nat × Int × Nat := (0, 0, 0, 0)
  /-- The sensor of each domain, in 1/8 °C. -/
  temps : Store Int := []
  throttleSince : Option Time := none
  /-- A thermal shutdown is in progress or done (Table 16-6). -/
  shutdown : Bool := false
  /-- The instant at which the thermal shutdown arrived. -/
  stopAt : Time := 0
  /-- Everything but PD30 and PD31 is off (Table 16-6 step 5). -/
  off : Bool := false
  diodes : Store Tdiode := []
  /-- The trims in effect. -/
  trims : TrimSet := {}
  groups : Store CalGroup := []
  /-- The class being calibrated in each domain. -/
  calClass : Store Nat := []
  /-- Accepted groups that wait for the next launch: group key and trims. -/
  accepted : List (Nat × List Nat) := []
  /-- The two trim banks of NVM: SEQ, TIME and trims. -/
  banks : Store (Nat × Time × TrimSet) := []
  /-- STORES: bank writes since manufacture. -/
  stores : Nat := 0
  lastStore : Time := 0
  /-- LIFE_STATUS: hours, sum of mean TJ in 1/8 °C, hours above 105 °C, boost hours, weighted hours with 16 fraction bits. -/
  lifeHours : Nat := 0
  lifeTj : Int := 0
  lifeHot : Nat := 0
  lifeBoost : Nat := 0
  lifeUsed : Nat := 0
  /-- Any domain ran above 0.75 V in this hour. -/
  boosted : Bool := false
  deriving DecidableEq, Repr

/-! ### Boot, firmware and microcode (chapter 17) -/

/-- BOOT_STATE (Table 17-4). -/
inductive BootState where
  | booting | ready | degraded | failed
  deriving DecidableEq, Repr

/-- A flash region's update state (Table 17-5). -/
structure FlashRegion where
  /-- 0 IDLE, 1 ERASING, 2 WRITING, 3 COMMITTED, 4 ERROR. -/
  state : Nat := 0
  written : Nat := 0
  /-- Selected copy, 0 A or 1 B, and a pending trial. -/
  selected : Nat := 0
  trial : Bool := false
  /-- Bytes written to the inactive copy since BEGIN. -/
  data : Memory := []
  /-- A FETCH in progress: offset and length. -/
  fetching : Option (Nat × Nat) := none
  deriving DecidableEq, Repr

/-- Boot, flash and patch state. -/
structure Boot where
  state : BootState := .booting
  /-- RESET_CAUSE. -/
  cause : Nat := 1
  readyMs : Nat := 0
  copyB : Nat := 0
  trialRun : Nat := 0
  bootCount : Nat := 0
  regions : Store FlashRegion := []
  swVersion : List Byte := []
  pixelName : List Byte := []
  entropyName : List Byte := []
  patchName : List Byte := []
  patchState : Nat := 0
  clustersDone : Nat := 0
  rejectCause : Nat := 0
  /-- The patch being applied: SAME_OUTPUT, its NAME and its records. -/
  patch : Option (Bool × List Byte × List (Nat × Nat)) := none
  /-- Patch records in each cluster's control stores: store code and address. -/
  patched : Store (List (Nat × Nat)) := []
  /-- Channels whose OPEN waits for a patch without SAME_OUTPUT (R399). -/
  heldOpens : List Nat := []
  /-- A boot that R381 holds, and the instant since which TC has been low enough. -/
  held : Option BootFacts := none
  coolSince : Option Time := none
  /-- A reset after TEMP_SHUTDOWN has happened (RESET_CAUSE 5). -/
  afterShutdown : Bool := false
  deriving DecidableEq, Repr

/-- Pins of Table 18-2 that events sample or the device drives. -/
structure Pins where
  resetLow : Bool := true
  supplyBad : Bool := false
  tcxoLost : Bool := false
  straps : Nat := 0
  mainEn : Bool := false
  xspiHighZ : Bool := true
  /-- PPS_OUT is high before this instant. -/
  ppsHigh : Time := 0
  wakeN : Bool := false
  deriving DecidableEq, Repr

/-- The management cores (R52, R361). DESIGN CHOICE, log entry 203. -/
structure Core' where
  stalled : Bool := false
  /-- Reset and reloaded, its loop not yet running. -/
  restarting : Bool := false
  /-- The instant it last returned to service. -/
  returned : Option Time := none
  deriving DecidableEq, Repr

/-- What leaves the device: the model's own log, newest last. -/
inductive Output where
  | canHeartbeat (can : Nat) (state : Nat)
  | canBootUp (can : Nat)
  | usdo (can client idx sub : Nat) (abort : W32) (data : List Byte)
  | tpdo (can pdo : Nat) (data : List Byte)
  | emcy (can : Nat) (bytes : List Byte)
  | udp (addr port : Nat) (bytes : List Byte)
  | bar0 (f : Nat) (value : W64)
  | fence (who : Requester) (count : W32)
  | msix (f vector : Nat)
  | claim (f g value : Nat)
  | hostWrite (addr : Nat) (bytes : List Byte)
  | ingestCredit (quad : Nat) (flit : List Byte)
  | ethFrame (port queue : Nat) (head : EthHead) (payload : List Byte)
  | arp (port mac ip : Nat) (reply : Bool)
  | icmp (port ip : Nat) (payload : List Byte)
  | igmp (port addr src : Nat)
  | ptpDelayReq (unicast : Bool)
  | ppsOut (at_ : Time) (widthMs : Nat)
  | syncIo
  | bugle (bytes : List Byte)
  | ronox (port : Nat) (type flags epoch seq src dst hops cls : Nat) (body : List Byte)
  | nvme (mag : Nat) (op : Nat) (lba : Nat) (bytes : List Byte)
  | pmbus (cmd : Nat) (value : Nat)
  | dramRefresh (dc : Nat)
  deriving DecidableEq, Repr

end Sys2Proof.Machine
end

