-- ==== Sys2Proof/Machine/State.lean ====
section
/-! DEFINITION. The state of the Elvoz, its stop reasons, and the machine right after reset. -/

namespace Sys2Proof.Machine

/-- Why a step stops with a fault. -/
inductive Fault where
  /-- A command that names a unit outside its listed range, which names no unit at all (R4): the manual gives such a command
  no effect. Raised by the meanings of events that name a unit. Safe: the hardware has no such unit and sees no event. -/
  | noUnit (what : String) (num : Nat)
  deriving DecidableEq, Repr

/-- Why a step refuses a command. -/
inductive Refusal where
  /-- A row of the table that has no meaning in the model. Raised by no arm once the model is whole. Safe. -/
  | notModelled (mnemonic : String)
  deriving DecidableEq, Repr

/-- The whole state of the device. -/
structure State where
  /-- TIME_NOW, in ns (R250). -/
  time : Time := 0
  /-- The commands that wait, first in, first out: the model's own queue. -/
  pending : List Instr := []
  dict : DictState := {}
  reqs : Store ReqState := []
  access : Access := {}
  nvm : Nvm := {}
  faults : FaultSt := {}
  moraine : Moraine := {}
  ints : IntSt := {}
  host : Host' := {}
  rings : Store Ring := []
  txn : Txn := {}
  chans : Store Chan := []
  units : Store UnitSt := []
  /-- Grants of dead units that wait to be issued again: unit kind code and grant. -/
  reissue : List (Nat × Grant) := []
  /-- Symbol records held, or room kept for them, by channel, picture, CTU and cluster. -/
  firn : Store FirnRecord := []
  /-- What each cluster is owed of the search grants, by cluster: in grants × engines in service (R160). -/
  msCredit : Store Int := []
  /-- Bits × ns up to which the output path is taken: 160 for each nanosecond (R196). -/
  outBusy : Nat := 0
  ports : Store IngestPort := []
  pool : Pool := {}
  fbs : Store FrameBuf := []
  tb : TimeBase := {}
  recIn : RecInput := {}
  array : ArraySt := {}
  ronox : Store RonoxPort := []
  queues : Store EgressQ := []
  eth : Store EthPort := []
  meters : Store Meter := []
  /-- Instant of the last meter refill. -/
  meterAt : Time := 0
  /-- Instant of the last shaper refill. -/
  shaperAt : Time := 0
  mags : Store Mag := []
  recs : Store Recording := []
  magChunks : List MagChunk := []
  dram : Dram := {}
  dma : Store Dma := []
  power : Power := {}
  boot : Boot := {}
  pins : Pins := {}
  cores : Store Core' := []
  /-- Slow-domain copies frozen (R80), and the copies by dictionary key. -/
  slowFrozen : Bool := false
  slow : Store W64 := []
  /-- Block resets and restores in progress (R82). -/
  blockReset : List BlockReset := []
  /-- Free-value counter: how many open values the run has drawn. -/
  free : Nat := 0
  /-- What has left the device, oldest first. -/
  out : List Output := []
  deriving DecidableEq, Repr

/-- The machine right after reset: RESET_N asserted, BOOT_STATE BOOTING, every table empty, every entry at the default
of its table. The boot sequence of Table 17-3 is the meaning of RESET_N_RELEASE. DESIGN CHOICE, log entry 3. -/
def State.reset : State := {}

end Sys2Proof.Machine
end

