-- ==== Sys2Proof/Machine/FaultTable.lean ====
section
/-! DEFINITION. The fault sources of Table 15-3: their numbers by name, and class, default and least reaction and kind. -/

namespace Sys2Proof.Machine

namespace F
abbrev CFG_PARITY : Nat := 0x000
abbrev CFG_SHADOW_LOST : Nat := 0x001
abbrev QUAD_ROLE_INVALID : Nat := 0x002
abbrev NVM_WEAR : Nat := 0x003
abbrev MGMT_STALL : Nat := 0x004
abbrev MGMT_STALL_REPEAT : Nat := 0x005
abbrev SHAWM_MEM_ERROR : Nat := 0x006
abbrev AO_CLOCK_STOP : Nat := 0x007
abbrev CAN_ID_CONFLICT : Nat := 0x008
abbrev UNIT_QUARANTINED : Nat := 0x009
abbrev FAULT_PATH : Nat := 0x00A
abbrev ERR_OUT_PATH : Nat := 0x00B
abbrev CAL_DISAGREE : Nat := 0x00C
abbrev FAULT_LOG_WRAP : Nat := 0x00D
abbrev TEMP_WARNING : Nat := 0x020
abbrev TEMP_THROTTLE : Nat := 0x021
abbrev TEMP_SHUTDOWN : Nat := 0x022
abbrev TDIODE_OPEN : Nat := 0x023
abbrev VREG_FAULT : Nat := 0x040
abbrev PMBUS_FAULT : Nat := 0x041
abbrev PX_RETIRED : Nat := 0x060
abbrev EE_RETIRED : Nat := 0x061
abbrev MS_RETIRED : Nat := 0x062
abbrev WORK_REISSUE_LIMIT : Nat := 0x063
abbrev FIRN_SPILL_FULL : Nat := 0x064
abbrev HALO_CLOSED : Nat := 0x065
abbrev DF_RETIRED : Nat := 0x066
abbrev INGEST_LINK_DOWN : Nat := 0x080
abbrev INGEST_CREDIT_VIOLATION : Nat := 0x081
abbrev INGEST_LINE_LOST : Nat := 0x082
abbrev INGEST_FRAME_DROPPED : Nat := 0x083
abbrev INGEST_OVERFLOW : Nat := 0x084
abbrev RATE_CEILING_MISS : Nat := 0x0A0
abbrev BOUND_LOSSLESS_MISMATCH : Nat := 0x0A1
abbrev BOUND_VERIFY_MISMATCH : Nat := 0x0A2
abbrev DEC_DAMAGE : Nat := 0x0A3
abbrev DEC_CERT_MISMATCH : Nat := 0x0A4
abbrev POOL_REDUCED : Nat := 0x0C0
abbrev POOL_EMPTY : Nat := 0x0C1
abbrev POOL_LOW : Nat := 0x0C2
abbrev BPM_DOUBLE_FREE : Nat := 0x0C3
abbrev BPM_WRONG_OWNER : Nat := 0x0C4
abbrev REF_POOL_STARVED : Nat := 0x0C5
abbrev TIME_REF_LOST : Nat := 0x0E0
abbrev TIME_FREERUN : Nat := 0x0E1
abbrev TIME_STEP_DEFERRED : Nat := 0x0E2
abbrev LAUNCH_ABANDONED : Nat := 0x0E3
abbrev BUGLE_LATE : Nat := 0x0E4
abbrev REC_DISCREPANCY : Nat := 0x0E5
abbrev RONOX_CREDIT_VIOLATION : Nat := 0x100
abbrev RONOX_LINK_RETRAIN : Nat := 0x101
abbrev RONOX_LINK_DOWN : Nat := 0x102
abbrev ARRAY_CONFIG_MISMATCH : Nat := 0x103
abbrev ARRAY_FORM_FAILED : Nat := 0x104
abbrev ARRAY_ID_CONFLICT : Nat := 0x105
abbrev ARRAY_MEMBER_MISSING : Nat := 0x106
abbrev ARRAY_CHANNEL_MISMATCH : Nat := 0x107
abbrev ARRAY_REGION_VOID : Nat := 0x108
abbrev ARRAY_FENCED : Nat := 0x109
abbrev ARRAY_MEMBER_DEAD : Nat := 0x10A
abbrev ARRAY_DEGRADED : Nat := 0x10B
abbrev ARRAY_PICTURE_LOST : Nat := 0x10C
abbrev EGRESS_DROP : Nat := 0x120
abbrev MAG_UNSUPPORTED : Nat := 0x121
abbrev MAG_CAPACITY_CLIPPED : Nat := 0x122
abbrev MAG_FULL : Nat := 0x123
abbrev MAG_LOW_SPACE : Nat := 0x124
abbrev MAG_REMOVED : Nat := 0x125
abbrev MAG_FAILED : Nat := 0x126
abbrev MAG_MIRROR_LOST : Nat := 0x127
abbrev HOST_LINK_DOWN : Nat := 0x128
abbrev DRAM_CAPACITY_CLIPPED : Nat := 0x140
abbrev DRAM_REGIONS_REDUCED : Nat := 0x141
abbrev DRAM_TRAIN_FAIL : Nat := 0x142
abbrev DRAM_RETRAIN_FORCED : Nat := 0x143
abbrev DRAM_CE_RATE : Nat := 0x144
abbrev DRAM_UNCORRECTABLE : Nat := 0x145
abbrev DRAM_CA_FAIL : Nat := 0x146
abbrev DMA_ERROR : Nat := 0x147
abbrev BOOT_REGION_FALLBACK : Nat := 0x160
abbrev IMAGE_AUTH_FAIL : Nat := 0x161
abbrev UCODE_PATCH_REJECTED : Nat := 0x162
end F

/-- What Table 15-3 says of a source: CLASS, default reaction, least reaction (R356) and whether it is an event source. -/
structure FaultInfo where
  cls : Nat
  dflt : Nat
  min : Nat
  event : Bool
  deriving DecidableEq, Repr

/-- Fault sources, part 0. -/
def faultTable0 : Store FaultInfo := [
  (0x000, ⟨0, 1, 0, true⟩),
  (0x001, ⟨0, 3, 3, false⟩),
  (0x002, ⟨0, 0, 0, false⟩),
  (0x003, ⟨0, 0, 0, true⟩),
  (0x004, ⟨0, 0, 0, false⟩),
  (0x005, ⟨0, 3, 3, false⟩),
  (0x006, ⟨0, 3, 0, false⟩),
  (0x007, ⟨0, 0, 0, false⟩),
  (0x008, ⟨0, 0, 0, false⟩),
  (0x009, ⟨0, 0, 0, true⟩),
  (0x00A, ⟨0, 0, 0, false⟩),
  (0x00B, ⟨0, 0, 0, false⟩),
  (0x00C, ⟨0, 0, 0, true⟩),
  (0x00D, ⟨0, 0, 0, true⟩),
  (0x020, ⟨3, 0, 0, false⟩),
  (0x021, ⟨3, 0, 0, false⟩),
  (0x022, ⟨3, 3, 3, false⟩),
  (0x023, ⟨3, 0, 0, false⟩),
  (0x040, ⟨2, 3, 0, false⟩),
  (0x041, ⟨2, 0, 0, false⟩),
  (0x060, ⟨0, 0, 0, true⟩),
  (0x061, ⟨0, 0, 0, true⟩),
  (0x062, ⟨0, 0, 0, true⟩),
  (0x063, ⟨0, 2, 2, true⟩),
  (0x064, ⟨0, 0, 0, true⟩),
  (0x065, ⟨0, 0, 0, true⟩),
  (0x066, ⟨0, 0, 0, true⟩),
  (0x080, ⟨4, 0, 0, false⟩),
  (0x081, ⟨4, 0, 0, true⟩),
  (0x082, ⟨4, 0, 0, true⟩),
  (0x083, ⟨4, 0, 0, true⟩),
  (0x084, ⟨4, 0, 0, true⟩)]

/-- Fault sources, part 1. -/
def faultTable1 : Store FaultInfo := [
  (0x0A0, ⟨7, 0, 0, true⟩),
  (0x0A1, ⟨7, 2, 2, true⟩),
  (0x0A2, ⟨7, 0, 0, true⟩),
  (0x0A3, ⟨7, 0, 0, true⟩),
  (0x0A4, ⟨7, 0, 0, true⟩),
  (0x0C0, ⟨7, 0, 0, false⟩),
  (0x0C1, ⟨7, 0, 0, true⟩),
  (0x0C2, ⟨7, 0, 0, false⟩),
  (0x0C3, ⟨7, 0, 0, true⟩),
  (0x0C4, ⟨7, 0, 0, true⟩),
  (0x0C5, ⟨7, 0, 0, true⟩),
  (0x0E0, ⟨7, 0, 0, false⟩),
  (0x0E1, ⟨7, 0, 0, false⟩),
  (0x0E2, ⟨7, 0, 0, true⟩),
  (0x0E3, ⟨7, 0, 0, true⟩),
  (0x0E4, ⟨7, 0, 0, true⟩),
  (0x0E5, ⟨7, 0, 0, false⟩),
  (0x100, ⟨4, 0, 0, true⟩),
  (0x101, ⟨4, 0, 0, true⟩),
  (0x102, ⟨4, 0, 0, false⟩),
  (0x103, ⟨4, 0, 0, false⟩),
  (0x104, ⟨4, 0, 0, false⟩),
  (0x105, ⟨4, 0, 0, false⟩),
  (0x106, ⟨4, 0, 0, false⟩),
  (0x107, ⟨4, 0, 0, false⟩),
  (0x108, ⟨4, 0, 0, true⟩),
  (0x109, ⟨4, 0, 0, false⟩),
  (0x10A, ⟨4, 0, 0, true⟩),
  (0x10B, ⟨4, 0, 0, false⟩),
  (0x10C, ⟨4, 0, 0, true⟩),
  (0x120, ⟨4, 0, 0, true⟩),
  (0x121, ⟨4, 0, 0, false⟩)]

/-- Fault sources, part 2. -/
def faultTable2 : Store FaultInfo := [
  (0x122, ⟨4, 0, 0, false⟩),
  (0x123, ⟨4, 0, 0, true⟩),
  (0x124, ⟨4, 0, 0, true⟩),
  (0x125, ⟨4, 0, 0, false⟩),
  (0x126, ⟨4, 0, 0, false⟩),
  (0x127, ⟨4, 0, 0, true⟩),
  (0x128, ⟨4, 0, 0, false⟩),
  (0x140, ⟨7, 0, 0, false⟩),
  (0x141, ⟨7, 0, 0, false⟩),
  (0x142, ⟨7, 0, 0, false⟩),
  (0x143, ⟨7, 0, 0, true⟩),
  (0x144, ⟨7, 0, 0, true⟩),
  (0x145, ⟨7, 2, 2, true⟩),
  (0x146, ⟨7, 3, 3, true⟩),
  (0x147, ⟨7, 0, 0, true⟩),
  (0x160, ⟨0, 0, 0, false⟩),
  (0x161, ⟨0, 0, 0, true⟩),
  (0x162, ⟨0, 0, 0, true⟩)]

/-- Table 15-3. -/
def faultTable : Store FaultInfo := faultTable0 ++ faultTable1 ++ faultTable2

/-- A listed source; a number not listed is reserved and never raised. -/
def faultInfo? (n : Nat) : Option FaultInfo := Store.find? faultTable n

end Sys2Proof.Machine
end

