-- ==== Sys2Proof/Machine/Keys.lean ====
section
/-! DEFINITION. The dictionary keys of the Elvoz by the manual's names: index × 256 + subindex for a device entry, and
object × 256 + subindex for a channel object. Where an entry has several alike subindices, the key is the first. -/

namespace Sys2Proof.Machine.K

/-- Table 1-4. -/
abbrev CLUSTER_STATE_CL_UNITS : Nat := 0x201101
/-- Table 1-4. -/
abbrev CLUSTER_STATE_PX_ACTIVE : Nat := 0x201109
/-- Table 1-4. -/
abbrev CLUSTER_STATE_EE_ACTIVE : Nat := 0x20110A
/-- Table 1-4. -/
abbrev CLUSTER_STATE_MS_ACTIVE : Nat := 0x20110B
/-- Table 1-4. -/
abbrev CLUSTER_STATE_DF_ACTIVE : Nat := 0x20110C
/-- Table 1-7. -/
abbrev QUAD_ROLE_QUAD_ROLE : Nat := 0x2D0001
/-- Table 1-7. -/
abbrev QUAD_ROLE_QUAD_ROLE_1 : Nat := 0x2D0002
/-- Table 1-7. -/
abbrev QUAD_ROLE_STATUS_ROLE_CHECK : Nat := 0x2D0101
/-- Table 1-7. -/
abbrev QUAD_ROLE_STATUS_FIRST_BAD_QUAD : Nat := 0x2D0102
/-- Table 2-9. -/
abbrev UDP_CONFIG_IP_ADDR : Nat := 0x205101
/-- Table 2-9. -/
abbrev UDP_CONFIG_IP_MASK : Nat := 0x205102
/-- Table 2-9. -/
abbrev UDP_CONFIG_GATEWAY : Nat := 0x205103
/-- Table 2-9. -/
abbrev UDP_CONFIG_UDP_PORT : Nat := 0x205104
/-- Table 2-9. -/
abbrev UDP_CONFIG_NOTIFY_ADDR : Nat := 0x205105
/-- Table 2-9. -/
abbrev UDP_CONFIG_NOTIFY_PORT : Nat := 0x205106
/-- Table 2-11. -/
abbrev CAN_CONFIG_CAN0_NODE_ID : Nat := 0x205001
/-- Table 2-11. -/
abbrev CAN_CONFIG_CAN1_NODE_ID : Nat := 0x205002
/-- Table 2-11. -/
abbrev CAN_CONFIG_NOMINAL_RATE : Nat := 0x205003
/-- Table 2-11. -/
abbrev CAN_CONFIG_DATA_RATE : Nat := 0x205004
/-- Table 2-11. -/
abbrev CAN_CONFIG_CAN_ENABLE : Nat := 0x205005
/-- Table 2-11. -/
abbrev CAN_CONFIG_BUS_OFF_COUNT : Nat := 0x205006
/-- Table 2-13. -/
abbrev DICT_QUEUE_DEPTH : Nat := 0x205201
/-- Table 2-13. -/
abbrev DICT_QUEUE_BUSY_COUNT : Nat := 0x205206
/-- Table 2-17. -/
abbrev NVM_STATUS_SLOT_WRITES : Nat := 0x208001
/-- Table 2-17. -/
abbrev NVM_STATUS_WORN_ENTRIES : Nat := 0x208002
/-- Table 2-17. -/
abbrev NVM_STATUS_NEAR_WORN_ENTRIES : Nat := 0x208003
/-- Table 2-17. -/
abbrev NVM_STATUS_FAILED_SLOTS : Nat := 0x208004
/-- Table 2-17. -/
abbrev NVM_WEAR_QUERY_TARGET : Nat := 0x208101
/-- Table 2-17. -/
abbrev NVM_WEAR_QUERY_WEAR : Nat := 0x208102
/-- Table 3-1. -/
abbrev LAST_ACCESS_ERROR_CODE : Nat := 0x205301
/-- Table 3-1. -/
abbrev LAST_ACCESS_ERROR_ENTRY : Nat := 0x205302
/-- Table 3-1. -/
abbrev LAST_ACCESS_ERROR_TIME : Nat := 0x205303
/-- Table 3-1. -/
abbrev LAST_ACCESS_ERROR_ERROR_COUNT : Nat := 0x205304
/-- Table 3-1. -/
abbrev LAST_ACCESS_ERROR_CLEAR : Nat := 0x205305
/-- Table 3-2. -/
abbrev CH_APPLY_APPLIED_SEQ : Nat := 0x003E01
/-- Table 3-2. -/
abbrev CH_APPLY_PENDING_COUNT : Nat := 0x003E02
/-- Table 3-2. -/
abbrev CH_APPLY_APPLIED_TIME : Nat := 0x003E03
/-- Table 3-3. -/
abbrev APPLIED_VIEW_TARGET : Nat := 0x205401
/-- Table 3-3. -/
abbrev APPLIED_VIEW_VALUE : Nat := 0x205402
/-- Table 3-3. -/
abbrev APPLIED_VIEW_STATUS : Nat := 0x205403
/-- Table 3-4. -/
abbrev SNAPSHOT_TRIGGER : Nat := 0x300001
/-- Table 3-4. -/
abbrev SNAPSHOT_SNAP_SEQ : Nat := 0x300002
/-- Table 3-4. -/
abbrev SNAPSHOT_SNAP_TIME : Nat := 0x300003
/-- Table 3-4. -/
abbrev SNAPSHOT_SNAP_AT : Nat := 0x300004
/-- Table 3-5. -/
abbrev SLOW_COPY_REFRESH_COUNT : Nat := 0x205501
/-- Table 3-5. -/
abbrev SLOW_COPY_LAST_REFRESH : Nat := 0x205502
/-- Table 3-6. -/
abbrev CFG_PARITY_STATUS_SWEEP_COUNT : Nat := 0x205601
/-- Table 3-6. -/
abbrev CFG_PARITY_STATUS_PARITY_EVENTS : Nat := 0x205602
/-- Table 3-6. -/
abbrev CFG_PARITY_STATUS_LAST_WORD : Nat := 0x205603
/-- Table 3-6. -/
abbrev CFG_PARITY_STATUS_LAST_PD : Nat := 0x205604
/-- Table 3-7. -/
abbrev BAR2_SELECT_APERTURE : Nat := 0x205701
/-- Table 4-1. -/
abbrev HOST_FUNC_TOTAL_VFS : Nat := 0x2F0001
/-- Table 4-1. -/
abbrev HOST_FUNC_NUM_VFS : Nat := 0x2F0002
/-- Table 4-1. -/
abbrev HOST_FUNC_LINK_GEN : Nat := 0x2F0003
/-- Table 4-1. -/
abbrev HOST_FUNC_LINK_WIDTH : Nat := 0x2F0004
/-- Table 4-1. -/
abbrev HOST_FUNC_FLR_COUNT : Nat := 0x2F0005
/-- Table 4-1. -/
abbrev HOST_FUNC_RINGS_GRANTED : Nat := 0x2F0006
/-- Table 4-2. -/
abbrev RING_GRANT_GRANT : Nat := 0x2F0101
/-- Table 4-2. -/
abbrev FUNC_SELF_RINGS_HELD : Nat := 0x2F0201
/-- Table 4-2. -/
abbrev FUNC_SELF_CHANNELS_HELD : Nat := 0x2F0202
/-- Table 4-4. -/
abbrev CH_STATE_STATE : Nat := 0x000001
/-- Table 4-4. -/
abbrev CH_STATE_COMMAND : Nat := 0x000002
/-- Table 4-4. -/
abbrev CH_STATE_OWNER : Nat := 0x000003
/-- Table 4-4. -/
abbrev CH_STATE_MODE : Nat := 0x000004
/-- Table 4-4. -/
abbrev CH_STATE_ADMIT_RESULT : Nat := 0x000005
/-- Table 4-4. -/
abbrev CH_STATE_BUF_NEED : Nat := 0x000006
/-- Table 4-14. -/
abbrev MAILBOX_FENCE_FENCE : Nat := 0x2F1001
/-- Table 4-15. -/
abbrev TXN_STATUS_DRAM_IN_USE : Nat := 0x2F2001
/-- Table 4-15. -/
abbrev TXN_STATUS_HOST_IN_USE : Nat := 0x2F2002
/-- Table 4-15. -/
abbrev TXN_STATUS_MAG_IN_USE : Nat := 0x2F2003
/-- Table 4-15. -/
abbrev TXN_STATUS_NET_IN_USE : Nat := 0x2F2004
/-- Table 4-15. -/
abbrev TXN_STATUS_LINK_IN_USE : Nat := 0x2F2005
/-- Table 4-15. -/
abbrev TXN_STATUS_PEAK_IN_USE : Nat := 0x2F2006
/-- Table 4-16. -/
abbrev HOST_COUNTERS_DOORBELLS : Nat := 0x304001
/-- Table 4-16. -/
abbrev HOST_COUNTERS_COMPLETIONS : Nat := 0x304002
/-- Table 4-16. -/
abbrev HOST_COUNTERS_ERR_COMPLETIONS : Nat := 0x304003
/-- Table 4-16. -/
abbrev HOST_COUNTERS_TXN_WAIT_NS : Nat := 0x304004
/-- Table 4-17. -/
abbrev CH_STATUS_STATE : Nat := 0x003001
/-- Table 4-17. -/
abbrev CH_STATUS_NEXT_PIC : Nat := 0x003002
/-- Table 4-17. -/
abbrev CH_STATUS_FLAGS : Nat := 0x003003
/-- Table 4-17. -/
abbrev CH_STATUS_BYTES_OUT : Nat := 0x003004
/-- Table 4-17. -/
abbrev CH_STATUS_LAST_FAULT : Nat := 0x003005
/-- Table 4-17. -/
abbrev CH_STATUS_LAST_FAULT_TIME : Nat := 0x003006
/-- Table 4-17. -/
abbrev CH_STATUS_LAST_EMIT_TIME : Nat := 0x003007
/-- Table 5-1. -/
abbrev CH_SOURCE_KIND : Nat := 0x000301
/-- Table 5-1. -/
abbrev CH_SOURCE_PORT : Nat := 0x000302
/-- Table 5-1. -/
abbrev CH_SOURCE_SOURCE_CHANNEL : Nat := 0x000303
/-- Table 5-1. -/
abbrev CH_SOURCE_LAYOUT : Nat := 0x000304
/-- Table 5-1. -/
abbrev CH_SOURCE_MAX_LOST_LINES : Nat := 0x000305
/-- Table 5-1. -/
abbrev CH_SOURCE_REPAIR : Nat := 0x000306
/-- Table 5-1. -/
abbrev CH_SOURCE_FRAME_TIMEOUT : Nat := 0x000307
/-- Table 5-1. -/
abbrev CH_SOURCE_INGEST_DEPTH : Nat := 0x000308
/-- Table 5-1. -/
abbrev CH_SOURCE_MCAST_ADDR : Nat := 0x000309
/-- Table 5-1. -/
abbrev CH_SOURCE_SRC_ADDR : Nat := 0x00030A
/-- Table 5-1. -/
abbrev CH_SOURCE_UDP_PORT : Nat := 0x00030B
/-- Table 5-1. -/
abbrev CH_SOURCE_PAYLOAD_TYPE : Nat := 0x00030C
/-- Table 5-1. -/
abbrev CH_SOURCE_METER : Nat := 0x00030D
/-- Table 5-1. -/
abbrev CH_SOURCE_YELLOW_THRESH : Nat := 0x00030E
/-- Table 5-1. -/
abbrev CH_SOURCE_BUF_BYTES : Nat := 0x00030F
/-- Table 5-2. -/
abbrev CH_FORMAT_WIDTH : Nat := 0x000201
/-- Table 5-2. -/
abbrev CH_FORMAT_HEIGHT : Nat := 0x000202
/-- Table 5-2. -/
abbrev CH_FORMAT_SAMPLING : Nat := 0x000203
/-- Table 5-2. -/
abbrev CH_FORMAT_DEPTH : Nat := 0x000204
/-- Table 5-2. -/
abbrev CH_FORMAT_RATE_NUM : Nat := 0x000205
/-- Table 5-2. -/
abbrev CH_FORMAT_RATE_DEN : Nat := 0x000206
/-- Table 5-2. -/
abbrev CH_FORMAT_COLOUR_PRIMARIES : Nat := 0x000207
/-- Table 5-2. -/
abbrev CH_FORMAT_TRANSFER : Nat := 0x000208
/-- Table 5-2. -/
abbrev CH_FORMAT_MATRIX : Nat := 0x000209
/-- Table 5-2. -/
abbrev CH_FORMAT_FULL_RANGE : Nat := 0x00020A
/-- Table 5-8. -/
abbrev CH_RAW_RAW_MODE : Nat := 0x000401
/-- Table 5-8. -/
abbrev CH_RAW_CFA : Nat := 0x000402
/-- Table 5-8. -/
abbrev CH_RAW_LUT_EN : Nat := 0x000403
/-- Table 5-8. -/
abbrev CH_RAW_CODED_DEPTH : Nat := 0x000404
/-- Table 5-8. -/
abbrev CH_RAW_LUT_INDEX : Nat := 0x000405
/-- Table 5-8. -/
abbrev CH_RAW_LUT_DATA : Nat := 0x000406
/-- Table 5-8. -/
abbrev CH_RAW_LUT_COMMIT : Nat := 0x000407
/-- Table 5-8. -/
abbrev CH_RAW_LUT_STORE : Nat := 0x000408
/-- Table 5-11. -/
abbrev CH_DERIVEDk_ENABLE : Nat := 0x000C01
/-- Table 5-11. -/
abbrev CH_DERIVEDk_OUT_WIDTH : Nat := 0x000C02
/-- Table 5-11. -/
abbrev CH_DERIVEDk_OUT_HEIGHT : Nat := 0x000C03
/-- Table 5-11. -/
abbrev CH_DERIVEDk_OUT_SAMPLING : Nat := 0x000C04
/-- Table 5-11. -/
abbrev CH_DERIVEDk_OUT_DEPTH : Nat := 0x000C05
/-- Table 5-11. -/
abbrev CH_DERIVEDk_CROP : Nat := 0x000C06
/-- Table 5-11. -/
abbrev CH_DERIVEDk_M11 : Nat := 0x000C07
/-- Table 5-11. -/
abbrev CH_DERIVEDk_M12 : Nat := 0x000C08
/-- Table 5-11. -/
abbrev CH_DERIVEDk_M13 : Nat := 0x000C09
/-- Table 5-11. -/
abbrev CH_DERIVEDk_M21 : Nat := 0x000C0A
/-- Table 5-11. -/
abbrev CH_DERIVEDk_M22 : Nat := 0x000C0B
/-- Table 5-11. -/
abbrev CH_DERIVEDk_M23 : Nat := 0x000C0C
/-- Table 5-11. -/
abbrev CH_DERIVEDk_M31 : Nat := 0x000C0D
/-- Table 5-11. -/
abbrev CH_DERIVEDk_M32 : Nat := 0x000C0E
/-- Table 5-11. -/
abbrev CH_DERIVEDk_M33 : Nat := 0x000C0F
/-- Table 5-11. -/
abbrev CH_DERIVEDk_O1 : Nat := 0x000C10
/-- Table 5-11. -/
abbrev CH_DERIVEDk_LUT_INDEX : Nat := 0x000C13
/-- Table 5-11. -/
abbrev CH_DERIVEDk_LUT_DATA : Nat := 0x000C14
/-- Table 5-11. -/
abbrev CH_DERIVEDk_OUT_MATRIX : Nat := 0x000C15
/-- Table 5-11. -/
abbrev CH_DERIVEDk_FILTER : Nat := 0x000C16
/-- Table 5-11. -/
abbrev CH_DERIVEDk_FRAME_DIV : Nat := 0x000C17
/-- Table 5-11. -/
abbrev CH_DERIVEDk_STATUS : Nat := 0x000C18
/-- Table 5-11. -/
abbrev CH_DERIVEDk_LUT_COMMIT : Nat := 0x000C19
/-- Table 5-12. -/
abbrev CH_INGEST_STATUS_FRAMES_ACCEPTED : Nat := 0x003101
/-- Table 5-12. -/
abbrev CH_INGEST_STATUS_FRAMES_DROPPED : Nat := 0x003102
/-- Table 5-12. -/
abbrev CH_INGEST_STATUS_FRAMES_MISSING : Nat := 0x003103
/-- Table 5-12. -/
abbrev CH_INGEST_STATUS_LINES_LOST : Nat := 0x003104
/-- Table 5-12. -/
abbrev CH_INGEST_STATUS_LINES_REPAIRED : Nat := 0x003105
/-- Table 5-12. -/
abbrev CH_INGEST_STATUS_LAST_FRAME_COUNT : Nat := 0x003106
/-- Table 5-12. -/
abbrev CH_INGEST_STATUS_LAST_CAPTURE_TIME : Nat := 0x003107
/-- Table 5-12. -/
abbrev CH_INGEST_STATUS_LAST_LOSS_LOC : Nat := 0x003108
/-- Table 5-12. -/
abbrev CH_INGEST_STATUS_LAST_LOSS_LINE : Nat := 0x003109
/-- Table 5-13. -/
abbrev INGEST_COUNTERS_FLITS : Nat := 0x305001
/-- Table 5-13. -/
abbrev INGEST_COUNTERS_FLITS_HI : Nat := 0x305006
/-- Table 5-13. -/
abbrev INGEST_COUNTERS_CHECK_DROPS : Nat := 0x305002
/-- Table 5-13. -/
abbrev INGEST_COUNTERS_CHECK_DROPS_HI : Nat := 0x305007
/-- Table 5-13. -/
abbrev INGEST_COUNTERS_SEQ_GAPS : Nat := 0x305003
/-- Table 5-13. -/
abbrev INGEST_COUNTERS_SEQ_GAPS_HI : Nat := 0x305008
/-- Table 5-13. -/
abbrev INGEST_COUNTERS_CREDIT_DROPS : Nat := 0x305004
/-- Table 5-13. -/
abbrev INGEST_COUNTERS_CREDIT_DROPS_HI : Nat := 0x305009
/-- Table 5-13. -/
abbrev INGEST_COUNTERS_DISCARDS : Nat := 0x305005
/-- Table 5-13. -/
abbrev INGEST_COUNTERS_DISCARDS_HI : Nat := 0x30500A
/-- Table 6-1. -/
abbrev CH_SEARCH_PRESET : Nat := 0x000501
/-- Table 6-1. -/
abbrev CH_SEARCH_SEARCH_REFS : Nat := 0x000502
/-- Table 6-1. -/
abbrev CH_SEARCH_HALO_WIDTH : Nat := 0x000503
/-- Table 6-1. -/
abbrev CH_SEARCH_LAMBDA_SCALE : Nat := 0x000504
/-- Table 6-1. -/
abbrev CH_SEARCH_COLOCATED_EN : Nat := 0x000505
/-- Table 6-1. -/
abbrev CH_SEARCH_EARLY_TERM : Nat := 0x000506
/-- Table 6-6. -/
abbrev CH_SEARCH_STATUS_CLIPPED : Nat := 0x003201
/-- Table 6-6. -/
abbrev CH_SEARCH_STATUS_HALO_WAIT_NS : Nat := 0x003202
/-- Table 6-6. -/
abbrev CH_SEARCH_STATUS_HALO_CLOSED_PICS : Nat := 0x003203
/-- Table 6-6. -/
abbrev CH_SEARCH_STATUS_MAX_MV_X : Nat := 0x003204
/-- Table 6-6. -/
abbrev CH_SEARCH_STATUS_MAX_MV_Y : Nat := 0x003205
/-- Table 6-7. -/
abbrev SEARCH_COUNTERS_MS_GRANTS : Nat := 0x306001
/-- Table 6-7. -/
abbrev SEARCH_COUNTERS_MS_REISSUED : Nat := 0x306002
/-- Table 6-7. -/
abbrev SEARCH_COUNTERS_CACHE_HITS : Nat := 0x306003
/-- Table 6-7. -/
abbrev SEARCH_COUNTERS_CACHE_MISSES : Nat := 0x306004
/-- Table 6-7. -/
abbrev SEARCH_COUNTERS_CACHE_REFETCH : Nat := 0x306005
/-- Table 6-7. -/
abbrev SEARCH_COUNTERS_HALO_BYTES_IN : Nat := 0x306006
/-- Table 6-7. -/
abbrev SEARCH_COUNTERS_HALO_BYTES_OUT : Nat := 0x306007
/-- Table 7-1. -/
abbrev CH_CODEC_CODEC : Nat := 0x000101
/-- Table 7-1. -/
abbrev CH_CODEC_PROFILE : Nat := 0x000102
/-- Table 7-1. -/
abbrev CH_CODEC_LEVEL : Nat := 0x000103
/-- Table 7-1. -/
abbrev CH_CODEC_TIER : Nat := 0x000104
/-- Table 7-1. -/
abbrev CH_CODEC_CTU_SIZE : Nat := 0x000105
/-- Table 7-1. -/
abbrev CH_CODEC_INTRA_PERIOD : Nat := 0x000106
/-- Table 7-1. -/
abbrev CH_CODEC_B_PICTURES : Nat := 0x000107
/-- Table 7-1. -/
abbrev CH_CODEC_IRAP_KIND : Nat := 0x000108
/-- Table 7-1. -/
abbrev CH_CODEC_STREAM_FORMAT : Nat := 0x000109
/-- Table 7-1. -/
abbrev CH_CODEC_HASH_SEI : Nat := 0x00010A
/-- Table 7-1. -/
abbrev CH_CODEC_CAPTURE_SEI : Nat := 0x00010B
/-- Table 7-1. -/
abbrev CH_CODEC_HRD_SEI : Nat := 0x00010C
/-- Table 7-1. -/
abbrev CH_CODEC_TIME_ADAPT : Nat := 0x00010D
/-- Table 7-4. -/
abbrev CODING_CONFIG_SPILL_MIB : Nat := 0x201201
/-- Table 7-4. -/
abbrev CODING_CONFIG_SPILL_THRESH : Nat := 0x201202
/-- Table 7-4. -/
abbrev CODING_CONFIG_WATCHDOG_US : Nat := 0x201203
/-- Table 7-4. -/
abbrev CODING_CONFIG_SPILL_IN_USE : Nat := 0x201204
/-- Table 7-4. -/
abbrev CODING_CONFIG_SPILL_PEAK : Nat := 0x201205
/-- Table 7-4. -/
abbrev CODING_CONFIG_FIRN_PEAK : Nat := 0x201206
/-- Table 7-5. -/
abbrev CH_TILING_TILE_COLS : Nat := 0x000601
/-- Table 7-5. -/
abbrev CH_TILING_TILE_ROWS : Nat := 0x000602
/-- Table 7-5. -/
abbrev CH_TILING_WAVEFRONT : Nat := 0x000603
/-- Table 7-5. -/
abbrev CH_TILING_WPP_ENGINES : Nat := 0x000604
/-- Table 7-5. -/
abbrev CH_TILING_CHUNK_MODE : Nat := 0x000605
/-- Table 7-5. -/
abbrev CH_TILING_CHUNK_ROWS : Nat := 0x000606
/-- Table 7-5. -/
abbrev CH_TILING_BIN_BUDGET : Nat := 0x000607
/-- Table 7-9. -/
abbrev CH_CODE_STATUS_PICTURES_CODED : Nat := 0x003301
/-- Table 7-9. -/
abbrev CH_CODE_STATUS_CHUNKS_EMITTED : Nat := 0x003302
/-- Table 7-9. -/
abbrev CH_CODE_STATUS_MAX_LATENCY_NS : Nat := 0x003303
/-- Table 7-9. -/
abbrev CH_CODE_STATUS_LATENCY_MISSES : Nat := 0x003304
/-- Table 7-9. -/
abbrev CH_CODE_STATUS_CTU_REPEATS : Nat := 0x003305
/-- Table 7-9. -/
abbrev CH_CODE_STATUS_SUBSTREAM_RESTARTS : Nat := 0x003306
/-- Table 7-9. -/
abbrev CH_CODE_STATUS_ADAPTED_ROWS : Nat := 0x003307
/-- Table 7-9. -/
abbrev CH_CODE_STATUS_PEAK_BINS_PER_SAMPLE : Nat := 0x003308
/-- Table 7-9. -/
abbrev CH_CODE_STATUS_SPILL_BYTES : Nat := 0x003309
/-- Table 7-10. -/
abbrev CODING_COUNTERS_PX_GRANTS : Nat := 0x307001
/-- Table 7-10. -/
abbrev CODING_COUNTERS_EE_GRANTS : Nat := 0x307002
/-- Table 7-10. -/
abbrev CODING_COUNTERS_BINS : Nat := 0x307003
/-- Table 7-10. -/
abbrev CODING_COUNTERS_CTU_REPEATS : Nat := 0x307004
/-- Table 7-10. -/
abbrev CODING_COUNTERS_SUBSTREAM_RESTARTS : Nat := 0x307005
/-- Table 7-10. -/
abbrev CODING_COUNTERS_STALE_WRITES : Nat := 0x307006
/-- Table 7-10. -/
abbrev CODING_COUNTERS_SPILL_BYTES_OUT : Nat := 0x307007
/-- Table 7-10. -/
abbrev CODING_COUNTERS_SPILL_WAIT_NS : Nat := 0x307008
/-- Table 8-1. -/
abbrev CH_RATE_MODE : Nat := 0x000801
/-- Table 8-1. -/
abbrev CH_RATE_QP_I : Nat := 0x000802
/-- Table 8-1. -/
abbrev CH_RATE_QP_P_OFFSET : Nat := 0x000803
/-- Table 8-1. -/
abbrev CH_RATE_QP_B_OFFSET : Nat := 0x000804
/-- Table 8-1. -/
abbrev CH_RATE_QUALITY : Nat := 0x000805
/-- Table 8-1. -/
abbrev CH_RATE_TARGET_BITRATE : Nat := 0x000806
/-- Table 8-1. -/
abbrev CH_RATE_MAX_BITRATE : Nat := 0x000807
/-- Table 8-1. -/
abbrev CH_RATE_CPB_MS : Nat := 0x000808
/-- Table 8-1. -/
abbrev CH_RATE_QP_MIN : Nat := 0x000809
/-- Table 8-1. -/
abbrev CH_RATE_QP_MAX : Nat := 0x00080A
/-- Table 8-1. -/
abbrev CH_RATE_AQ_STRENGTH : Nat := 0x00080B
/-- Table 8-1. -/
abbrev CH_RATE_LAG : Nat := 0x00080C
/-- Table 8-1. -/
abbrev CH_RATE_OVERLOAD : Nat := 0x00080D
/-- Table 8-1. -/
abbrev CH_RATE_DEADLINE_US : Nat := 0x00080E
/-- Table 8-4. -/
abbrev CH_BOUND_E : Nat := 0x000901
/-- Table 8-4. -/
abbrev CH_BOUND_STEP : Nat := 0x000902
/-- Table 8-4. -/
abbrev CH_BOUND_VERIFY : Nat := 0x000903
/-- Table 8-6. -/
abbrev CH_RATE_STATUS_LAST_BASE_QP : Nat := 0x003401
/-- Table 8-6. -/
abbrev CH_RATE_STATUS_BUCKET_MAX : Nat := 0x003402
/-- Table 8-6. -/
abbrev CH_RATE_STATUS_OVERRUN_PICS : Nat := 0x003403
/-- Table 8-6. -/
abbrev CH_RATE_STATUS_CEILING_MISSES : Nat := 0x003404
/-- Table 8-6. -/
abbrev CH_RATE_STATUS_LATE_PICS : Nat := 0x003405
/-- Table 8-6. -/
abbrev CH_RATE_STATUS_SKIPPED_PICS : Nat := 0x003406
/-- Table 8-6. -/
abbrev CH_RATE_STATUS_RECODED_CTUS : Nat := 0x003407
/-- Table 8-6. -/
abbrev CH_RATE_STATUS_LOSSLESS_CTUS : Nat := 0x003408
/-- Table 8-6. -/
abbrev CH_RATE_STATUS_MAX_ERR : Nat := 0x003409
/-- Table 8-6. -/
abbrev CH_RATE_STATUS_VERIFY_FAILS : Nat := 0x00340A
/-- Table 8-6. -/
abbrev CH_RATE_STATUS_QP_WAIT_NS : Nat := 0x00340B
/-- Table 8-7. -/
abbrev RATE_COUNTERS_OUTPUT_BITS : Nat := 0x308001
/-- Table 8-7. -/
abbrev RATE_COUNTERS_OUTPUT_WAIT_NS : Nat := 0x308002
/-- Table 8-7. -/
abbrev RATE_COUNTERS_RECODE_ATTEMPTS : Nat := 0x308003
/-- Table 8-7. -/
abbrev RATE_COUNTERS_VERIFIED_PICS : Nat := 0x308004
/-- Table 8-8. -/
abbrev CH_ROI_RECT : Nat := 0x002001
/-- Table 8-8. -/
abbrev CH_ROI_DELTA : Nat := 0x002011
/-- Table 8-8. -/
abbrev CH_ROI_ROI_COMMIT : Nat := 0x002021
/-- Table 8-8. -/
abbrev CH_ROI_SUPERSEDED : Nat := 0x002022
/-- Table 9-1. -/
abbrev CH_DECODE_DIRECTION : Nat := 0x000701
/-- Table 9-1. -/
abbrev CH_DECODE_INPUT : Nat := 0x000702
/-- Table 9-1. -/
abbrev CH_DECODE_PORT : Nat := 0x000703
/-- Table 9-1. -/
abbrev CH_DECODE_CLIP : Nat := 0x000704
/-- Table 9-1. -/
abbrev CH_DECODE_MCAST_ADDR : Nat := 0x000705
/-- Table 9-1. -/
abbrev CH_DECODE_UDP_PORT : Nat := 0x000706
/-- Table 9-1. -/
abbrev CH_DECODE_PAYLOAD_TYPE : Nat := 0x000707
/-- Table 9-1. -/
abbrev CH_DECODE_REORDER_PKTS : Nat := 0x000708
/-- Table 9-1. -/
abbrev CH_DECODE_CONCEAL : Nat := 0x000709
/-- Table 9-1. -/
abbrev CH_DECODE_CHECK_CERT : Nat := 0x00070A
/-- Table 9-1. -/
abbrev CH_DECODE_NAL_MAX : Nat := 0x00070B
/-- Table 9-8. -/
abbrev CH_DECODE_STATUS_PICTURES_DECODED : Nat := 0x003501
/-- Table 9-8. -/
abbrev CH_DECODE_STATUS_PICTURES_OUTPUT : Nat := 0x003502
/-- Table 9-8. -/
abbrev CH_DECODE_STATUS_DAMAGED_PICS : Nat := 0x003503
/-- Table 9-8. -/
abbrev CH_DECODE_STATUS_TAINTED_PICS : Nat := 0x003504
/-- Table 9-8. -/
abbrev CH_DECODE_STATUS_MADE_UP_REFS : Nat := 0x003505
/-- Table 9-8. -/
abbrev CH_DECODE_STATUS_DISCARDED_PICS : Nat := 0x003506
/-- Table 9-8. -/
abbrev CH_DECODE_STATUS_CONCEALED_CTUS : Nat := 0x003507
/-- Table 9-8. -/
abbrev CH_DECODE_STATUS_RESYNCS : Nat := 0x003508
/-- Table 9-8. -/
abbrev CH_DECODE_STATUS_BYTES_SKIPPED : Nat := 0x003509
/-- Table 9-8. -/
abbrev CH_DECODE_STATUS_CERT_MATCHES : Nat := 0x00350A
/-- Table 9-8. -/
abbrev CH_DECODE_STATUS_CERT_FAILS : Nat := 0x00350B
/-- Table 9-8. -/
abbrev CH_DECODE_STATUS_REPORTS_LOST : Nat := 0x00350C
/-- Table 9-9. -/
abbrev DECODE_COUNTERS_DECODED_PICS : Nat := 0x309001
/-- Table 9-9. -/
abbrev DECODE_COUNTERS_ERRORS : Nat := 0x309002
/-- Table 9-9. -/
abbrev DECODE_COUNTERS_CONCEALED_CTUS : Nat := 0x309003
/-- Table 9-9. -/
abbrev DECODE_COUNTERS_RTP_LOST : Nat := 0x309004
/-- Table 10-1. -/
abbrev POOL_CONFIG_BUF_SIZE : Nat := 0x280001
/-- Table 10-1. -/
abbrev POOL_CONFIG_BUF_COUNT : Nat := 0x280002
/-- Table 10-1. -/
abbrev POOL_CONFIG_LOW_WATER : Nat := 0x280003
/-- Table 10-1. -/
abbrev POOL_CONFIG_HIGH_WATER : Nat := 0x280004
/-- Table 10-2. -/
abbrev POOL_STATUS_BUF_BYTES : Nat := 0x280101
/-- Table 10-2. -/
abbrev POOL_STATUS_BUF_TOTAL : Nat := 0x280102
/-- Table 10-2. -/
abbrev POOL_STATUS_FREE : Nat := 0x280103
/-- Table 10-2. -/
abbrev POOL_STATUS_MIN_FREE : Nat := 0x280104
/-- Table 10-2. -/
abbrev POOL_STATUS_WAITERS : Nat := 0x280105
/-- Table 10-2. -/
abbrev POOL_STATUS_HEADROOM : Nat := 0x280106
/-- Table 10-2. -/
abbrev POOL_STATUS_LOW : Nat := 0x280107
/-- Table 10-5. -/
abbrev CH_REFS_DPB_FRAMES : Nat := 0x000A01
/-- Table 10-5. -/
abbrev CH_REFS_FB_EXTRA : Nat := 0x000A02
/-- Table 10-5. -/
abbrev CH_REFS_FB_BYTES : Nat := 0x000A03
/-- Table 10-5. -/
abbrev CH_REFS_FB_COUNT : Nat := 0x000A04
/-- Table 10-5. -/
abbrev CH_REFS_FB_IN_USE : Nat := 0x000A05
/-- Table 10-5. -/
abbrev CH_REFS_BUFFERS_HELD : Nat := 0x000A06
/-- Table 10-5. -/
abbrev CH_REFS_FB_WAIT_NS : Nat := 0x000A07
/-- Table 10-6. -/
abbrev REF_CONFIG_REGION_MIB : Nat := 0x290001
/-- Table 10-6. -/
abbrev REF_STATUS_GRANULES_TOTAL : Nat := 0x290101
/-- Table 10-6. -/
abbrev REF_STATUS_GRANULES_FREE : Nat := 0x290102
/-- Table 10-6. -/
abbrev REF_STATUS_FB_ALLOCATED : Nat := 0x290103
/-- Table 10-6. -/
abbrev REF_STATUS_ORPHANS : Nat := 0x290104
/-- Table 10-8. -/
abbrev REF_EXPORT_CHAN : Nat := 0x290201
/-- Table 10-8. -/
abbrev REF_EXPORT_PIC_COUNT : Nat := 0x290202
/-- Table 10-8. -/
abbrev REF_EXPORT_COMMAND : Nat := 0x290203
/-- Table 10-8. -/
abbrev REF_EXPORT_FB : Nat := 0x290204
/-- Table 10-10. -/
abbrev POOL_COUNTERS_ALLOCS : Nat := 0x30A001
/-- Table 10-10. -/
abbrev POOL_COUNTERS_RETURNS : Nat := 0x30A002
/-- Table 10-10. -/
abbrev POOL_COUNTERS_RELEASES : Nat := 0x30A003
/-- Table 10-10. -/
abbrev POOL_COUNTERS_ALLOC_WAIT_NS : Nat := 0x30A004
/-- Table 10-10. -/
abbrev POOL_COUNTERS_BAD_FREES : Nat := 0x30A005
/-- Table 10-10. -/
abbrev POOL_COUNTERS_REF_BYTES_RAW : Nat := 0x30A006
/-- Table 10-10. -/
abbrev POOL_COUNTERS_REF_BYTES_STORED : Nat := 0x30A007
/-- Table 11-1. -/
abbrev TIME_BASE_TIME_NOW : Nat := 0x210001
/-- Table 11-1. -/
abbrev TIME_BASE_STATE : Nat := 0x210002
/-- Table 11-1. -/
abbrev TIME_BASE_SOURCE : Nat := 0x210003
/-- Table 11-1. -/
abbrev TIME_BASE_EFFECTIVE_SOURCE : Nat := 0x210004
/-- Table 11-1. -/
abbrev TIME_BASE_OFFSET_NS : Nat := 0x210005
/-- Table 11-1. -/
abbrev TIME_BASE_FREQ_PPM : Nat := 0x210006
/-- Table 11-1. -/
abbrev TIME_BASE_STEP_POLICY : Nat := 0x210007
/-- Table 11-1. -/
abbrev TIME_BASE_STEP_THRESH_NS : Nat := 0x210008
/-- Table 11-1. -/
abbrev TIME_BASE_HOLDOVER_MAX_S : Nat := 0x210009
/-- Table 11-1. -/
abbrev TIME_BASE_TCXO_PPB : Nat := 0x21000A
/-- Table 11-1. -/
abbrev TIME_BASE_HOLDOVER_EST_NS : Nat := 0x21000B
/-- Table 11-1. -/
abbrev TIME_BASE_UTC_OFFSET : Nat := 0x21000C
/-- Table 11-1. -/
abbrev TIME_BASE_TOD_SET : Nat := 0x21000D
/-- Table 11-1. -/
abbrev TIME_BASE_STEPS : Nat := 0x21000E
/-- Table 11-1. -/
abbrev TIME_BASE_LAST_STEP_NS : Nat := 0x21000F
/-- Table 11-3. -/
abbrev PTP_CONFIG_DOMAIN : Nat := 0x210101
/-- Table 11-3. -/
abbrev PTP_CONFIG_PTP_PORT : Nat := 0x210102
/-- Table 11-3. -/
abbrev PTP_CONFIG_LOG_DELAY_REQ : Nat := 0x210103
/-- Table 11-3. -/
abbrev PTP_CONFIG_ANNOUNCE_TIMEOUT : Nat := 0x210104
/-- Table 11-3. -/
abbrev PTP_CONFIG_UNICAST_DELAY : Nat := 0x210105
/-- Table 11-3. -/
abbrev PTP_CONFIG_LOCK_NS : Nat := 0x210106
/-- Table 11-3. -/
abbrev PTP_CONFIG_PORT_STATE : Nat := 0x210107
/-- Table 11-3. -/
abbrev PTP_CONFIG_GM_IDENTITY : Nat := 0x210108
/-- Table 11-3. -/
abbrev PTP_CONFIG_MEAN_PATH_NS : Nat := 0x210109
/-- Table 11-3. -/
abbrev PTP_CONFIG_STEPS_REMOVED : Nat := 0x21010A
/-- Table 11-4. -/
abbrev PPS_LTC_PPS_IN_EDGE : Nat := 0x210201
/-- Table 11-4. -/
abbrev PPS_LTC_PPS_OUT_EN : Nat := 0x210202
/-- Table 11-4. -/
abbrev PPS_LTC_PPS_OUT_WIDTH_MS : Nat := 0x210203
/-- Table 11-4. -/
abbrev PPS_LTC_PPS_OUT_OFFSET_NS : Nat := 0x210204
/-- Table 11-4. -/
abbrev PPS_LTC_PPS_IN_EDGES : Nat := 0x210205
/-- Table 11-4. -/
abbrev PPS_LTC_LTC_RATE : Nat := 0x210206
/-- Table 11-4. -/
abbrev PPS_LTC_LTC_LAST : Nat := 0x210207
/-- Table 11-4. -/
abbrev PPS_LTC_LTC_LAST_TIME : Nat := 0x210208
/-- Table 11-5. -/
abbrev CH_LAUNCH_MODE : Nat := 0x001001
/-- Table 11-5. -/
abbrev CH_LAUNCH_START_TIME : Nat := 0x001002
/-- Table 11-5. -/
abbrev CH_LAUNCH_OFFSET_NS : Nat := 0x001003
/-- Table 11-5. -/
abbrev CH_LAUNCH_GATE : Nat := 0x001004
/-- Table 11-5. -/
abbrev CH_LAUNCH_PAIR_WINDOW_US : Nat := 0x001005
/-- Table 11-5. -/
abbrev CH_LAUNCH_LIST_WR : Nat := 0x001006
/-- Table 11-5. -/
abbrev CH_LAUNCH_LIST_RD : Nat := 0x001007
/-- Table 11-5. -/
abbrev CH_LAUNCH_NEXT_LAUNCH : Nat := 0x001008
/-- Table 11-5. -/
abbrev CH_LAUNCH_LAST_LAUNCH : Nat := 0x001009
/-- Table 11-5. -/
abbrev CH_LAUNCH_LAUNCHES : Nat := 0x00100A
/-- Table 11-5. -/
abbrev CH_LAUNCH_VOID_LAUNCHES : Nat := 0x00100B
/-- Table 11-5. -/
abbrev CH_LAUNCH_IDLE_LAUNCHES : Nat := 0x00100C
/-- Table 11-5. -/
abbrev CH_LAUNCH_LATE_FIRES : Nat := 0x00100D
/-- Table 11-5. -/
abbrev CH_LAUNCH_LIST_ERRORS : Nat := 0x00100E
/-- Table 11-8. -/
abbrev ARRAY_TIME_SYNC_ROLE : Nat := 0x210301
/-- Table 11-8. -/
abbrev ARRAY_TIME_SYNC_DELAY_NS : Nat := 0x210302
/-- Table 11-8. -/
abbrev ARRAY_TIME_SYNC_EDGES : Nat := 0x210303
/-- Table 11-8. -/
abbrev ARRAY_TIME_SYNC_REJECTED : Nat := 0x210304
/-- Table 11-8. -/
abbrev ARRAY_TIME_SYNC_LAST_ERR_NS : Nat := 0x210305
/-- Table 11-8. -/
abbrev ARRAY_TIME_BUGLE_LEAD_US : Nat := 0x210306
/-- Table 11-8. -/
abbrev ARRAY_TIME_BUGLE_LATE : Nat := 0x210307
/-- Table 11-10. -/
abbrev REC_INPUT_REC_SOURCE : Nat := 0x211001
/-- Table 11-10. -/
abbrev REC_INPUT_TD_MS : Nat := 0x211002
/-- Table 11-10. -/
abbrev REC_INPUT_STATE : Nat := 0x211003
/-- Table 11-10. -/
abbrev REC_INPUT_RECORDING : Nat := 0x211004
/-- Table 11-10. -/
abbrev REC_INPUT_COMMAND : Nat := 0x211005
/-- Table 11-10. -/
abbrev REC_INPUT_PIN_LEVELS : Nat := 0x211006
/-- Table 11-10. -/
abbrev REC_INPUT_LAST_EDGE : Nat := 0x211007
/-- Table 11-10. -/
abbrev REC_INPUT_LAST_AGREE : Nat := 0x211008
/-- Table 11-10. -/
abbrev REC_INPUT_DISCREPANCIES : Nat := 0x211009
/-- Table 11-10. -/
abbrev REC_INPUT_GLITCHES : Nat := 0x21100A
/-- Table 11-10. -/
abbrev REC_INPUT_LAST_DISCREPANCY : Nat := 0x21100B
/-- Table 12-3. -/
abbrev ARRAY_CONFIG_ARRAY_EN : Nat := 0x2C0001
/-- Table 12-3. -/
abbrev ARRAY_CONFIG_MEMBERS : Nat := 0x2C0002
/-- Table 12-3. -/
abbrev ARRAY_CONFIG_STANDBY : Nat := 0x2C0003
/-- Table 12-3. -/
abbrev ARRAY_CONFIG_TOPOLOGY : Nat := 0x2C0004
/-- Table 12-3. -/
abbrev ARRAY_CONFIG_FORM_TIMEOUT_MS : Nat := 0x2C0005
/-- Table 12-4. -/
abbrev ARRAY_STATUS_STATE : Nat := 0x2C0101
/-- Table 12-4. -/
abbrev ARRAY_STATUS_EPOCH : Nat := 0x2C0102
/-- Table 12-4. -/
abbrev ARRAY_STATUS_COORDINATOR : Nat := 0x2C0103
/-- Table 12-4. -/
abbrev ARRAY_STATUS_ACTIVE_SET : Nat := 0x2C0104
/-- Table 12-4. -/
abbrev ARRAY_STATUS_STANDBY_SET : Nat := 0x2C0105
/-- Table 12-4. -/
abbrev ARRAY_STATUS_NEIGHBOURS : Nat := 0x2C0106
/-- Table 12-4. -/
abbrev ARRAY_STATUS_EPOCH_TIME : Nat := 0x2C0107
/-- Table 12-4. -/
abbrev ARRAY_CMD_READMIT : Nat := 0x2C0201
/-- Table 12-6. -/
abbrev CH_ARRAY_ARRAY_EN : Nat := 0x001101
/-- Table 12-6. -/
abbrev CH_ARRAY_FRAME_WIDTH : Nat := 0x001102
/-- Table 12-6. -/
abbrev CH_ARRAY_FRAME_HEIGHT : Nat := 0x001103
/-- Table 12-6. -/
abbrev CH_ARRAY_GRID : Nat := 0x001104
/-- Table 12-6. -/
abbrev CH_ARRAY_CELL_MAP : Nat := 0x001105
/-- Table 12-6. -/
abbrev CH_ARRAY_SEAM_UP : Nat := 0x001106
/-- Table 12-6. -/
abbrev CH_ARRAY_REGION_SAMPLES : Nat := 0x001107
/-- Table 12-6. -/
abbrev CH_ARRAY_TAKEOVER_PIC : Nat := 0x001108
/-- Table 12-6. -/
abbrev CH_ARRAY_LOST_FIRST : Nat := 0x001109
/-- Table 12-6. -/
abbrev CH_ARRAY_LOST_COUNT : Nat := 0x00110A
/-- Table 12-6. -/
abbrev CH_ARRAY_VOID_REGIONS : Nat := 0x00110B
/-- Table 12-7. -/
abbrev ARRAY_COUNTERS_FLIT_ERRORS : Nat := 0x30C001
/-- Table 12-7. -/
abbrev ARRAY_COUNTERS_NAKS : Nat := 0x30C002
/-- Table 12-7. -/
abbrev ARRAY_COUNTERS_CREDIT_DROPS : Nat := 0x30C003
/-- Table 12-7. -/
abbrev ARRAY_COUNTERS_STALE_FLITS : Nat := 0x30C004
/-- Table 12-7. -/
abbrev ARRAY_COUNTERS_EPOCH_AHEAD : Nat := 0x30C005
/-- Table 12-7. -/
abbrev ARRAY_COUNTERS_HB_LATE : Nat := 0x30C006
/-- Table 12-7. -/
abbrev ARRAY_COUNTERS_HALO_REISSUES : Nat := 0x30C007
/-- Table 13-1. -/
abbrev CH_OUTPUT_ESSENCE : Nat := 0x001801
/-- Table 13-1. -/
abbrev CH_OUTPUT_HOST : Nat := 0x001802
/-- Table 13-1. -/
abbrev CH_OUTPUT_MAGAZINES : Nat := 0x001803
/-- Table 13-1. -/
abbrev CH_OUTPUT_QUEUE : Nat := 0x001804
/-- Table 13-2. -/
abbrev ETH_PORT_MEDIA : Nat := 0x2A0001
/-- Table 13-2. -/
abbrev ETH_PORT_AUTONEG : Nat := 0x2A0002
/-- Table 13-2. -/
abbrev ETH_PORT_MAC : Nat := 0x2A0003
/-- Table 13-2. -/
abbrev ETH_PORT_IP_ADDR : Nat := 0x2A0004
/-- Table 13-2. -/
abbrev ETH_PORT_IP_MASK : Nat := 0x2A0005
/-- Table 13-2. -/
abbrev ETH_PORT_GATEWAY : Nat := 0x2A0006
/-- Table 13-2. -/
abbrev ETH_PORT_LINK : Nat := 0x2A0007
/-- Table 13-2. -/
abbrev ETH_PORT_GATE_BASE : Nat := 0x2A0008
/-- Table 13-2. -/
abbrev ETH_PORT_GATE_CYCLE_NS : Nat := 0x2A0009
/-- Table 13-2. -/
abbrev ETH_PORT_GATE_COUNT : Nat := 0x2A000A
/-- Table 13-2. -/
abbrev ETH_PORT_GATE_COMMIT : Nat := 0x2A000B
/-- Table 13-2. -/
abbrev ETH_PORT_GATE_ACTIVE : Nat := 0x2A000C
/-- Table 13-3. -/
abbrev EQ_SELECT_TARGET : Nat := 0x2A4001
/-- Table 13-3. -/
abbrev EQ_CONFIG_ENABLE : Nat := 0x2A4101
/-- Table 13-3. -/
abbrev EQ_CONFIG_PORT : Nat := 0x2A4102
/-- Table 13-3. -/
abbrev EQ_CONFIG_KIND : Nat := 0x2A4103
/-- Table 13-3. -/
abbrev EQ_CONFIG_TC : Nat := 0x2A4104
/-- Table 13-3. -/
abbrev EQ_CONFIG_WEIGHT : Nat := 0x2A4105
/-- Table 13-3. -/
abbrev EQ_CONFIG_BURST : Nat := 0x2A4106
/-- Table 13-3. -/
abbrev EQ_CONFIG_SHAPE_RATE : Nat := 0x2A4107
/-- Table 13-3. -/
abbrev EQ_CONFIG_SHAPE_BURST : Nat := 0x2A4108
/-- Table 13-3. -/
abbrev EQ_CONFIG_MAX_BYTES : Nat := 0x2A4109
/-- Table 13-3. -/
abbrev EQ_CONFIG_DST_IP : Nat := 0x2A410A
/-- Table 13-3. -/
abbrev EQ_CONFIG_UDP_PORTS : Nat := 0x2A410B
/-- Table 13-3. -/
abbrev EQ_CONFIG_DST_MAC : Nat := 0x2A410C
/-- Table 13-3. -/
abbrev EQ_CONFIG_VLAN : Nat := 0x2A410D
/-- Table 13-3. -/
abbrev EQ_CONFIG_DSCP_TTL : Nat := 0x2A410E
/-- Table 13-3. -/
abbrev EQ_CONFIG_RTP : Nat := 0x2A410F
/-- Table 13-3. -/
abbrev EQ_CONFIG_MTU : Nat := 0x2A4110
/-- Table 13-3. -/
abbrev EQ_CONFIG_OFFLOAD : Nat := 0x2A4111
/-- Table 13-3. -/
abbrev EQ_CONFIG_OFFLOAD_CMD : Nat := 0x2A4112
/-- Table 13-3. -/
abbrev EQ_CONFIG_STATE : Nat := 0x2A4113
/-- Table 13-3. -/
abbrev EQ_CONFIG_COUNTS : Nat := 0x2A4114
/-- Table 13-6. -/
abbrev METER_SELECT_TARGET : Nat := 0x2A8001
/-- Table 13-6. -/
abbrev METER_TYPE : Nat := 0x2A8101
/-- Table 13-6. -/
abbrev METER_CIR : Nat := 0x2A8102
/-- Table 13-6. -/
abbrev METER_CBS : Nat := 0x2A8103
/-- Table 13-6. -/
abbrev METER_EIR : Nat := 0x2A8104
/-- Table 13-6. -/
abbrev METER_EBS : Nat := 0x2A8105
/-- Table 13-6. -/
abbrev METER_GREEN : Nat := 0x2A8106
/-- Table 13-6. -/
abbrev METER_YELLOW : Nat := 0x2A8107
/-- Table 13-6. -/
abbrev METER_RED : Nat := 0x2A8108
/-- Table 13-7. -/
abbrev MAG_STATE : Nat := 0x2B0001
/-- Table 13-7. -/
abbrev MAG_CAPACITY : Nat := 0x2B0002
/-- Table 13-7. -/
abbrev MAG_CLIP_TABLE_LBA : Nat := 0x2B0003
/-- Table 13-7. -/
abbrev MAG_CHECKPOINT_MS : Nat := 0x2B0004
/-- Table 13-7. -/
abbrev MAG_LOW_BLOCKS : Nat := 0x2B0005
/-- Table 13-7. -/
abbrev MAG_BACKLOG_MIB : Nat := 0x2B0006
/-- Table 13-7. -/
abbrev MAG_NVME_STATUS : Nat := 0x2B0007
/-- Table 13-7. -/
abbrev MAG_BYTES_WRITTEN : Nat := 0x2B0008
/-- Table 13-8. -/
abbrev CH_MAG_CLIP : Nat := 0x001901
/-- Table 13-8. -/
abbrev CH_MAG_CLIP_CMD : Nat := 0x001902
/-- Table 13-8. -/
abbrev CH_MAG_EXTENT_ADD : Nat := 0x001903
/-- Table 13-8. -/
abbrev CH_MAG_CLIP_STATE : Nat := 0x001905
/-- Table 13-8. -/
abbrev CH_MAG_DURABLE_LAUNCH : Nat := 0x001906
/-- Table 13-8. -/
abbrev CH_MAG_DURABLE_PIC : Nat := 0x001908
/-- Table 13-8. -/
abbrev CH_MAG_NOT_SENT : Nat := 0x001909
/-- Table 14-1. -/
abbrev DRAM_CONFIG_DATA_RATE : Nat := 0x260001
/-- Table 14-1. -/
abbrev DRAM_CONFIG_DC_ENABLE : Nat := 0x260002
/-- Table 14-1. -/
abbrev DRAM_CONFIG_RANKS : Nat := 0x260003
/-- Table 14-1. -/
abbrev DRAM_CONFIG_DEVICE_WIDTH : Nat := 0x260004
/-- Table 14-1. -/
abbrev DRAM_CONFIG_DENSITY_GBIT : Nat := 0x260005
/-- Table 14-1. -/
abbrev DRAM_CONFIG_WORK_MIB : Nat := 0x260006
/-- Table 14-1. -/
abbrev DRAM_CONFIG_RETRAIN_MS : Nat := 0x260007
/-- Table 14-1. -/
abbrev DRAM_CONFIG_GAP_US : Nat := 0x260008
/-- Table 14-1. -/
abbrev DRAM_CONFIG_SCRUB_HOURS : Nat := 0x260009
/-- Table 14-1. -/
abbrev DRAM_CONFIG_CE_THRESH : Nat := 0x26000A
/-- Table 14-3. -/
abbrev DRAM_STATUS_TRAINED : Nat := 0x260101
/-- Table 14-3. -/
abbrev DRAM_STATUS_IN_USE : Nat := 0x260102
/-- Table 14-3. -/
abbrev DRAM_STATUS_CAPACITY_MIB : Nat := 0x260103
/-- Table 14-3. -/
abbrev DRAM_STATUS_INIT_MS : Nat := 0x260104
/-- Table 14-3. -/
abbrev DRAM_STATUS_LAST_RETRAIN : Nat := 0x260105
/-- Table 14-3. -/
abbrev DRAM_REGIONS_BASE : Nat := 0x260201
/-- Table 14-6. -/
abbrev DRAM_ERR_LOG_TOTAL : Nat := 0x261001
/-- Table 14-6. -/
abbrev DRAM_ERR_LOG_SELECT : Nat := 0x261002
/-- Table 14-6. -/
abbrev DRAM_ERR_LOG_REC_LO : Nat := 0x261003
/-- Table 14-6. -/
abbrev DRAM_ERR_LOG_REC_HI : Nat := 0x261004
/-- Table 14-6. -/
abbrev DRAM_ERR_LOG_CLEAR : Nat := 0x261005
/-- Table 14-8. -/
abbrev DMA_CH_SRC : Nat := 0x270001
/-- Table 14-8. -/
abbrev DMA_CH_DST : Nat := 0x270002
/-- Table 14-8. -/
abbrev DMA_CH_COUNT_BYTES : Nat := 0x270003
/-- Table 14-8. -/
abbrev DMA_CH_MODE : Nat := 0x270004
/-- Table 14-8. -/
abbrev DMA_CH_DESC_ADDR : Nat := 0x270005
/-- Table 14-8. -/
abbrev DMA_CH_CONTROL : Nat := 0x270006
/-- Table 14-8. -/
abbrev DMA_CH_STATUS : Nat := 0x270007
/-- Table 14-8. -/
abbrev DMA_CH_BYTES_DONE : Nat := 0x270008
/-- Table 14-8. -/
abbrev DMA_CH_DESC_DONE : Nat := 0x270009
/-- Table 14-8. -/
abbrev DMA_CH_ERR_ADDR : Nat := 0x27000A
/-- Table 14-12. -/
abbrev MEMORY_COUNTERS_READ_BYTES : Nat := 0x30E001
/-- Table 14-12. -/
abbrev MEMORY_COUNTERS_WRITE_BYTES : Nat := 0x30E002
/-- Table 14-12. -/
abbrev MEMORY_COUNTERS_CE : Nat := 0x30E003
/-- Table 14-12. -/
abbrev MEMORY_COUNTERS_UE : Nat := 0x30E004
/-- Table 14-12. -/
abbrev MEMORY_COUNTERS_CA_REPLAYS : Nat := 0x30E005
/-- Table 14-12. -/
abbrev MEMORY_COUNTERS_FORWARDS : Nat := 0x30E006
/-- Table 14-12. -/
abbrev MEMORY_COUNTERS_RETRAINS : Nat := 0x30E007
/-- Table 14-12. -/
abbrev MEMORY_COUNTERS_RETRAINS_FORCED : Nat := 0x30E008
/-- Table 14-12. -/
abbrev MEMORY_COUNTERS_DMA_BYTES : Nat := 0x30E009
/-- Table 15-1. -/
abbrev INT_SELECT_SOURCE : Nat := 0x250001
/-- Table 15-1. -/
abbrev INT_SELECT_GROUP : Nat := 0x250002
/-- Table 15-1. -/
abbrev INT_SOURCE_FUNC : Nat := 0x250101
/-- Table 15-1. -/
abbrev INT_SOURCE_GROUP : Nat := 0x250102
/-- Table 15-1. -/
abbrev INT_SOURCE_PRIO : Nat := 0x250103
/-- Table 15-1. -/
abbrev INT_SOURCE_ENABLE : Nat := 0x250104
/-- Table 15-1. -/
abbrev INT_SOURCE_PENDING : Nat := 0x250105
/-- Table 15-1. -/
abbrev INT_SOURCE_ACTIVE : Nat := 0x250106
/-- Table 15-1. -/
abbrev INT_SOURCE_SIGNALS : Nat := 0x250107
/-- Table 15-1. -/
abbrev INT_SOURCE_MISROUTED : Nat := 0x250108
/-- Table 15-1. -/
abbrev INT_GROUP_HOLDOFF_US : Nat := 0x250201
/-- Table 15-1. -/
abbrev INT_GROUP_BYPASS_IDLE : Nat := 0x250202
/-- Table 15-1. -/
abbrev INT_GROUP_MESSAGES : Nat := 0x250203
/-- Table 15-1. -/
abbrev INT_GROUP_SPURIOUS : Nat := 0x250204
/-- Table 15-1. -/
abbrev INT_GROUP_BAD_COMPLETES : Nat := 0x250205
/-- Table 15-8. -/
abbrev FAULT_STATUS_DEVICE_STATE : Nat := 0x240001
/-- Table 15-8. -/
abbrev FAULT_STATUS_ACTIVE_COUNT : Nat := 0x240002
/-- Table 15-8. -/
abbrev FAULT_STATUS_ACK : Nat := 0x240003
/-- Table 15-8. -/
abbrev FAULT_STATUS_ERR_OUT_LEVEL : Nat := 0x240004
/-- Table 15-8. -/
abbrev FAULT_STATUS_ERR_OUT_MIN_MS : Nat := 0x240005
/-- Table 15-8. -/
abbrev FAULT_STATUS_RECORDS : Nat := 0x240006
/-- Table 15-8. -/
abbrev FAULT_ACTIVE_ACTIVE : Nat := 0x240101
/-- Table 15-8. -/
abbrev FAULT_LOG_SELECT : Nat := 0x240201
/-- Table 15-8. -/
abbrev FAULT_LOG_WORD : Nat := 0x240202
/-- Table 15-8. -/
abbrev FAULT_LOG_CLEAR : Nat := 0x24020A
/-- Table 15-9. -/
abbrev MORAINE_VALID : Nat := 0x241001
/-- Table 15-9. -/
abbrev MORAINE_STATE : Nat := 0x241002
/-- Table 15-9. -/
abbrev MORAINE_CAUSE : Nat := 0x241003
/-- Table 15-9. -/
abbrev MORAINE_TIME : Nat := 0x241004
/-- Table 15-9. -/
abbrev MORAINE_WRITER : Nat := 0x241005
/-- Table 15-9. -/
abbrev MORAINE_COMMAND : Nat := 0x241006
/-- Table 15-9. -/
abbrev MORAINE_KEEP_FIRST : Nat := 0x241007
/-- Table 16-2. -/
abbrev PMBUS_CONFIG_EXT_MODE : Nat := 0x220201
/-- Table 16-2. -/
abbrev PMBUS_CONFIG_ADDRESS : Nat := 0x220202
/-- Table 16-2. -/
abbrev PMBUS_CONFIG_VIN_HEADROOM_MV : Nat := 0x220203
/-- Table 16-2. -/
abbrev PMBUS_CONFIG_VIN_MV : Nat := 0x220204
/-- Table 16-2. -/
abbrev PMBUS_CONFIG_IIN_MA : Nat := 0x220205
/-- Table 16-2. -/
abbrev PMBUS_CONFIG_EXT_TEMP_C : Nat := 0x220206
/-- Table 16-2. -/
abbrev PMBUS_CONFIG_STATUS_WORD : Nat := 0x220207
/-- Table 16-2. -/
abbrev PMBUS_CONFIG_ERRORS : Nat := 0x220208
/-- Table 16-3. -/
abbrev CH_POWER_POLICY : Nat := 0x001201
/-- Table 16-3. -/
abbrev CH_POWER_WORK_EST : Nat := 0x001202
/-- Table 16-3. -/
abbrev CH_POWER_SLACK_US : Nat := 0x001203
/-- Table 16-5. -/
abbrev POWER_CONFIG_STATE : Nat := 0x220001
/-- Table 16-5. -/
abbrev POWER_CONFIG_TARGET : Nat := 0x220002
/-- Table 16-5. -/
abbrev POWER_CONFIG_FROST_AUTO : Nat := 0x220003
/-- Table 16-5. -/
abbrev POWER_CONFIG_FROST_MIN_GAP_US : Nat := 0x220004
/-- Table 16-5. -/
abbrev POWER_CONFIG_WAKE_MASK : Nat := 0x220005
/-- Table 16-5. -/
abbrev POWER_CONFIG_WAKE_AT : Nat := 0x220006
/-- Table 16-5. -/
abbrev POWER_CONFIG_WAKE_AFTER_S : Nat := 0x220007
/-- Table 16-5. -/
abbrev POWER_CONFIG_WAKE_CAUSE : Nat := 0x220008
/-- Table 16-5. -/
abbrev POWER_CONFIG_POWER_LIMIT_W : Nat := 0x220009
/-- Table 16-5. -/
abbrev POWER_CONFIG_VGUARD_PCT : Nat := 0x22000A
/-- Table 16-5. -/
abbrev POWER_CONFIG_BOOST_EN : Nat := 0x22000B
/-- Table 16-5. -/
abbrev POWER_CONFIG_POWER_MW : Nat := 0x22000C
/-- Table 16-5. -/
abbrev POWER_CONFIG_FROST_TIME_NS : Nat := 0x22000D
/-- Table 16-7. -/
abbrev THERMAL_TJ_MAX : Nat := 0x221001
/-- Table 16-7. -/
abbrev THERMAL_TJ_DOMAIN : Nat := 0x221002
/-- Table 16-7. -/
abbrev THERMAL_TC : Nat := 0x221003
/-- Table 16-7. -/
abbrev THERMAL_WARN_C : Nat := 0x221004
/-- Table 16-7. -/
abbrev THERMAL_THROTTLE_C : Nat := 0x221005
/-- Table 16-7. -/
abbrev THERMAL_SHUTDOWN_C : Nat := 0x221006
/-- Table 16-7. -/
abbrev THERMAL_FALLBACK_C : Nat := 0x221007
/-- Table 16-7. -/
abbrev THERMAL_THERMAL_CAP_MV : Nat := 0x221008
/-- Table 16-7. -/
abbrev THERMAL_THROTTLE_NS : Nat := 0x221009
/-- Table 16-8. -/
abbrev TDIODE_ROLE : Nat := 0x221201
/-- Table 16-8. -/
abbrev TDIODE_IDEALITY : Nat := 0x221205
/-- Table 16-8. -/
abbrev TDIODE_TEMP : Nat := 0x221209
/-- Table 16-8. -/
abbrev TDIODE_VALID : Nat := 0x22120D
/-- Table 16-8. -/
abbrev TDIODE_DISCARDS : Nat := 0x22120E
/-- Table 16-9. -/
abbrev CAL_CONFIG_CAL_EN : Nat := 0x230001
/-- Table 16-9. -/
abbrev CAL_CONFIG_CAL_GAP_US : Nat := 0x230002
/-- Table 16-9. -/
abbrev CAL_CONFIG_CAL_MIN_TRANS : Nat := 0x230003
/-- Table 16-9. -/
abbrev CAL_CONFIG_CAL_LATE_PPM : Nat := 0x230004
/-- Table 16-9. -/
abbrev CAL_CONFIG_CAL_GUARD : Nat := 0x230005
/-- Table 16-9. -/
abbrev CAL_CONFIG_CAL_BACKOFF_S : Nat := 0x230006
/-- Table 16-9. -/
abbrev CAL_CONFIG_CAL_STORE_H : Nat := 0x230007
/-- Table 16-9. -/
abbrev CAL_STATUS_CAL_COUNT : Nat := 0x230101
/-- Table 16-9. -/
abbrev CAL_STATUS_CAL_LAST_TIME : Nat := 0x230102
/-- Table 16-9. -/
abbrev CAL_STATUS_RUNS : Nat := 0x230103
/-- Table 16-9. -/
abbrev CAL_STATUS_DISAGREE_COUNT : Nat := 0x230104
/-- Table 16-9. -/
abbrev CAL_STATUS_EMERGENCY : Nat := 0x230105
/-- Table 16-9. -/
abbrev CAL_STATUS_STORES : Nat := 0x230106
/-- Table 16-9. -/
abbrev CAL_STATUS_LAST_STORE : Nat := 0x230107
/-- Table 16-9. -/
abbrev CAL_STATUS_TRIM_SOURCE : Nat := 0x230108
/-- Table 17-4. -/
abbrev BOOT_STATUS_BOOT_STATE : Nat := 0x2E0001
/-- Table 17-4. -/
abbrev BOOT_STATUS_RESET_CAUSE : Nat := 0x2E0002
/-- Table 17-4. -/
abbrev BOOT_STATUS_READY_MS : Nat := 0x2E0003
/-- Table 17-4. -/
abbrev BOOT_STATUS_COPY_B : Nat := 0x2E0004
/-- Table 17-4. -/
abbrev BOOT_STATUS_TRIAL : Nat := 0x2E0005
/-- Table 17-4. -/
abbrev BOOT_STATUS_BOOT_COUNT : Nat := 0x2E0006
/-- Table 17-4. -/
abbrev BOOT_STATUS_MIN_SEC_VERSION : Nat := 0x2E0007
/-- Table 17-4. -/
abbrev BOOT_STATUS_KEY_REVOKED : Nat := 0x2E0008
/-- Table 17-4. -/
abbrev BOOT_STATUS_WARM_RESET : Nat := 0x2E0009
/-- Table 17-5. -/
abbrev FLASH_UPDATE_REGION : Nat := 0x2E0101
/-- Table 17-5. -/
abbrev FLASH_UPDATE_COMMAND : Nat := 0x2E0102
/-- Table 17-5. -/
abbrev FLASH_UPDATE_DATA : Nat := 0x2E0103
/-- Table 17-5. -/
abbrev FLASH_UPDATE_FETCH_ADDR : Nat := 0x2E0104
/-- Table 17-5. -/
abbrev FLASH_UPDATE_FETCH_LEN : Nat := 0x2E0105
/-- Table 17-5. -/
abbrev FLASH_UPDATE_STATE : Nat := 0x2E0106
/-- Table 17-5. -/
abbrev FLASH_UPDATE_WRITTEN : Nat := 0x2E0107
/-- Table 17-5. -/
abbrev FLASH_UPDATE_SELECTED : Nat := 0x2E0108
/-- Table 17-8. -/
abbrev UCODE_VERSION_UCODE_VERSION : Nat := 0x2E1001
/-- Table 17-8. -/
abbrev PATCH_COMMAND : Nat := 0x2E1101
/-- Table 17-8. -/
abbrev PATCH_STATE : Nat := 0x2E1102
/-- Table 17-8. -/
abbrev PATCH_CLUSTERS_DONE : Nat := 0x2E1103
/-- Table 17-8. -/
abbrev PATCH_REJECT_CAUSE : Nat := 0x2E1104
/-- Table 18-9. -/
abbrev LIFE_STATUS_POWER_ON_H : Nat := 0x222001
/-- Table 18-9. -/
abbrev LIFE_STATUS_TJ_AVG : Nat := 0x222002
/-- Table 18-9. -/
abbrev LIFE_STATUS_HOURS_ABOVE_105 : Nat := 0x222003
/-- Table 18-9. -/
abbrev LIFE_STATUS_BOOST_H : Nat := 0x222004
/-- Table 18-9. -/
abbrev LIFE_STATUS_LIFE_USED_PPM : Nat := 0x222005
/-- Table 2-2. -/
abbrev DEVICE_TYPE : Nat := 0x100000
/-- Table 2-2. -/
abbrev ERROR_REGISTER : Nat := 0x100100
/-- Table 2-2. -/
abbrev DEVICE_NAME : Nat := 0x100800
/-- Table 2-2. -/
abbrev HW_VERSION : Nat := 0x100900
/-- Table 2-2. -/
abbrev SW_VERSION : Nat := 0x100A00
/-- Table 2-2. -/
abbrev RESTORE_DEFAULTS : Nat := 0x101101
/-- Table 2-2. -/
abbrev HEARTBEAT_TIME : Nat := 0x101700
/-- Table 2-2. -/
abbrev IDENTITY : Nat := 0x101801
/-- Table 15-5. -/
abbrev FAULT_ROW_A : Nat := 0x240301
/-- Table 15-5. -/
abbrev FAULT_ROW_B : Nat := 0x240401
/-- Table 16-2. -/
abbrev DOMAIN_MV : Nat := 0x220101
/-- Table 16-7. -/
abbrev TJ : Nat := 0x221101

end Sys2Proof.Machine.K
end

