-- ==== Sys2Proof/Machine/Ops.lean ====
section
/-! DEFINITION. The named operations over the state: time, the values of the dictionary, counters, what leaves the device,
location codes, and the two forms a meaning takes. -/

namespace Sys2Proof

/-- Code of a unit kind (Table 15-11). -/
def UnitKind.code : UnitKind → Nat
  | .px => 0 | .ee => 1 | .ms => 2 | .df => 4

/-- Units of a kind in one cluster that work at one time (R10). -/
def UnitKind.working : UnitKind → Nat
  | .px => 8 | .ee => 6 | .ms => 2 | .df => 2

/-- Key of a requester. -/
def Requester.key : Requester → Nat
  | .func n => n
  | .can k => 256 + k
  | .shawm => 258
  | .udp a p => 512 + a * 65536 + p

end Sys2Proof

namespace Sys2Proof.Machine

/-! ### Time and the forms of a meaning -/

/-- Bits as a number. -/
def bitsOf (l : List Bool) : Nat := l.foldr (fun b n => 2 * n + b.toNat) 0

/-- The instant of a command: 0 means "not set" and 2^64 − 1 "never", and neither is an instant (R32). DEDUCED, log entry 217. -/
def instant (t : Time) : Time := min (max t 1) (2 ^ 64 - 2)

/-- The state at an instant. TIME_NOW never runs backwards except by a step of the time base (R250). DESIGN CHOICE, log entry 4. -/
def State.at (s : State) (t : Time) : State := { s with time := max s.time (instant t) }

/-- In service: out of reset, supplied, booted, and in L0 or L1. In the other ladder states and in reset the blocks that a
row names are off or held (R373, R374, R405, R406). -/
def State.up (s : State) : Bool :=
  !s.pins.resetLow && !s.pins.supplyBad && !s.power.off &&
    (s.boot.state == .ready || s.boot.state == .degraded) && s.power.ladder ≤ 1

/-- PD30 and PD31 are supplied: what the always-on domains do goes on in every ladder state. -/
def State.supplied (s : State) : Bool := !s.pins.supplyBad

/-- Leaves L1 for L0 when anything unplanned happens (R373). The time spent counts in FROST_TIME_NS. DEDUCED, log entry 186. -/
def State.awake (s : State) : State :=
  if s.power.ladder = 1 then
    let key := K.POWER_CONFIG_FROST_TIME_NS
    let old := (Store.find? s.dict.ro key).getD 0
    { s with
      power := { s.power with ladder := 0 }
      dict := { s.dict with ro := Store.put s.dict.ro key (old + w64 (s.time - s.power.frostSince)) } }
  else s

/-- What a step answers. -/
abbrev Out := Host.Outcome State Fault Refusal

/-- A meaning that needs the device in service: time advances, and the effect runs if the device is up. DESIGN CHOICE, log entry 8. -/
def live (t : Time) (s : State) (f : State → State) : Out :=
  .next (if (s.at t).up then f (s.at t).awake else s.at t)

/-- A meaning of the always-on part: time advances, and the effect runs. -/
def always (t : Time) (s : State) (f : State → State) : Out := .next (f (s.at t))

/-- A meaning that names a unit: a name outside its listed range names no unit (R4). DESIGN CHOICE, log entry 7. -/
def inRange (what : String) (n bound : Nat) (k : Out) : Out :=
  if n < bound then k else .fault (.noUnit what n)

/-! ### The dictionary's entries -/

/-- The table row of a subindex among rows of one table. -/
def findEntry (es : List Entry) (idx sub : Nat) : Option Entry :=
  es.find? (fun e => e.idx ≤ idx && idx < e.idx + e.idxN && e.sub ≤ sub && sub < e.sub + e.subN)

/-- Whether any row of a table has the index. -/
def hasIndex (es : List Entry) (idx : Nat) : Bool := es.any (fun e => e.idx ≤ idx && idx < e.idx + e.idxN)

/-- A channel object's index (R29). -/
def isChanIdx (idx : Nat) : Bool := 0x4000 ≤ idx && idx < 0x8000

/-- Channel and object number of a channel index (R29). -/
def chanOf (idx : Nat) : Nat := (idx - 0x4000) / 0x40
def objOf (idx : Nat) : Nat := (idx - 0x4000) % 0x40

/-- The table row of an entry; a live counter has the row of its held subindex (R77). -/
def lookup (idx sub : Nat) : Except Abort Entry :=
  let (es, i) := if isChanIdx idx then (chanEntries, objOf idx) else (devEntries, idx)
  let counter := 0x3001 ≤ idx && idx < 0x4000
  let j := if counter && 0x81 ≤ sub then sub - 0x80 else sub
  match findEntry es i j with
  | some e => .ok e
  | none => if hasIndex es i then .error A.subindex else .error A.index

/-- Key of an entry: index × 256 + subindex. -/
def keyOf (idx sub : Nat) : Nat := idx * 256 + sub

/-- Key of a channel entry, from its object key. -/
def chKey (n k : Nat) : Nat := 0x400000 + 0x4000 * n + k

/-- Key of an entry behind a selector, such as EQ_CONFIG of the queue selected. -/
def winKey (sel k : Nat) : Nat := (sel + 1) * 2 ^ 24 + k

/-- The row of a key. -/
def entryOfKey (key : Nat) : Option Entry := (lookup (key % 2 ^ 24 / 256) (key % 256)).toOption

/-- The default of an entry. IP_ADDR adds the ID straps (Table 2-9). -/
def State.dflt (s : State) (key : Nat) : Nat :=
  let d := match entryOfKey key with
    | some e => e.dflt
    | none => 0
  if key = K.UDP_CONFIG_IP_ADDR then d + s.pins.straps % 8 else d

/-- The value in effect of an entry (R67). -/
def State.v (s : State) (key : Nat) : Nat :=
  match Store.find? s.dict.appl key with
  | some x => x.toNat
  | none => s.dflt key

/-- The pending value of an entry: the last value accepted (R67). -/
def State.pv (s : State) (key : Nat) : Nat :=
  match Store.find? s.dict.pend key with
  | some x => x.toNat
  | none => s.dflt key

/-- The value in effect of a channel entry. -/
def State.cv (s : State) (n k : Nat) : Nat := s.v (chKey n k)

/-- A value in effect read as signed, with the width of its type. -/
def State.vi (s : State) (key : Nat) : Int :=
  match entryOfKey key with
  | some e => e.ty.toInt (s.v key)
  | none => s.v key

/-- A table with a value stored, listing no default. -/
def putDflt (m : Store W64) (d key v : Nat) : Store W64 :=
  if v = d then Store.erase m key else Store.put m key (w64 v)

/-- Sets the value in effect. -/
def State.setV (s : State) (key v : Nat) : State :=
  { s with dict := { s.dict with appl := putDflt s.dict.appl (s.dflt key) key v } }

/-- Sets the pending value. -/
def State.setPv (s : State) (key v : Nat) : State :=
  { s with dict := { s.dict with pend := putDflt s.dict.pend (s.dflt key) key v } }

/-- Accepts an IMM value: pending and in effect at once (Table 2-5). -/
def State.setImm (s : State) (key v : Nat) : State := (s.setPv key v).setV key v

/-- A key has an accepted value that has not yet applied. -/
def State.waits (s : State) (key : Nat) : Bool := s.dict.waiting.any (fun e => e.1 == key)

/-- A key's pending value, accepted now, has not yet applied. One accepted at the same instant is replaced (R69). -/
def State.setWaiting (s : State) (key : Nat) : State :=
  { s with dict := { s.dict with
      waiting := s.dict.waiting.filter (fun e => !(e.1 == key && e.2.1 == s.time)) ++ [(key, s.time, w64 (s.pv key))] } }

/-- Nothing of a key accepted before an instant waits any more. -/
def State.unwait (s : State) (key : Nat) (before : Time) : State :=
  { s with dict := { s.dict with waiting := s.dict.waiting.filter (fun e => !(e.1 == key && e.2.1 < before)) } }

/-- A key's accepted value takes effect. -/
def State.applyKey (s : State) (key : Nat) : State := (s.setV key (s.pv key)).unwait key (s.time + 1)

/-- The last value of a key accepted before an instant takes effect (R68, R69). -/
def State.applyBefore (s : State) (key : Nat) (before : Time) : State :=
  match (s.dict.waiting.filter (fun e => e.1 == key && e.2.1 < before)).getLast? with
  | some e => (s.setV key e.2.2.toNat).unwait key before
  | none => s

/-- The stored value of an RO entry. -/
def State.ro (s : State) (key : Nat) : Nat :=
  match Store.find? s.dict.ro key with
  | some x => x.toNat
  | none => s.dflt key

/-- Stores the value of an RO entry. -/
def State.setRo (s : State) (key v : Nat) : State :=
  { s with dict := { s.dict with ro := putDflt s.dict.ro (s.dflt key) key v } }

/-- The number of values an entry's type can hold. -/
def rangeOf (key : Nat) : Nat :=
  match (entryOfKey key).bind (fun e => e.ty.size) with
  | some n => 2 ^ (8 * n)
  | none => 2 ^ 64

/-- Counts in an RO entry that wraps at its width. -/
def State.bump (s : State) (key n : Nat) : State := s.setRo key ((s.ro key + n) % rangeOf key)

/-- Counts in an RO entry that stops at its largest value. -/
def State.bumpSat (s : State) (key n : Nat) : State := s.setRo key (min (s.ro key + n) (rangeOf key - 1))

/-- Raises an RO entry to a value. -/
def State.raiseRo (s : State) (key n : Nat) : State := s.setRo key (max (s.ro key) n)

/-- Counts in a channel's RO entry. -/
def State.cbump (s : State) (ch k n : Nat) : State := s.bump (chKey ch k) n

/-- The live value of a counter of 0x3001 to 0x3FFF (R77). -/
def State.count (s : State) (key : Nat) : Nat := (Store.get s.dict.live 0 key).toNat

/-- Counts in a live counter, which wraps at its width. -/
def State.tick (s : State) (key n : Nat) : State :=
  { s with dict := { s.dict with live := putDflt s.dict.live 0 key ((s.count key + n) % rangeOf key) } }

/-- Counts a span of nanoseconds that began at an instant. -/
def State.since (s : State) (t : Time) : Nat := s.time - t

/-! ### What leaves the device, and open values -/

/-- Something leaves the device. DESIGN CHOICE, log entry 11. -/
def State.emit (s : State) (o : Output) : State := { s with out := s.out ++ [o] }

/-- The number of the next open value to be drawn. DESIGN CHOICE, log entry 2. -/
def State.draws (s : State) : State := { s with free := s.free + 1 }

/-! ### Places and units -/

/-- The device's array position: its ID straps (R14). -/
def State.dev (s : State) : Nat := s.pins.straps % 8

/-- The location code of a place (Table 1-6): fields finer than LOC_DEPTH read 0, BLK reads 0xFF at depth 5
(R19), and 0xFE for a coding unit of index 254 or more (R18). -/
def locCode (dev : Nat) (l : Loc) : Nat :=
  (if 1 ≤ l.depth then dev % 8 * 2 ^ 61 else 0) +
  (if 2 ≤ l.depth then l.chan % 256 * 2 ^ 53 else 0) +
  (if 3 ≤ l.depth then l.pic % 65536 * 2 ^ 37 else 0) +
  (if 4 ≤ l.depth then l.tile % 1024 * 2 ^ 27 else 0) +
  (if 5 ≤ l.depth then l.ctu % 2 ^ 19 * 256 else 0) +
  (if l.depth = 5 ∨ (6 ≤ l.depth ∧ l.whole) then 0xFF else if 6 ≤ l.depth then min l.blk 0xFE else 0)

/-- The location of a channel. -/
def Loc.ofChan (n : Nat) : Loc := { depth := 2, chan := n }

/-- The location of a picture. -/
def Loc.ofPic (n pic : Nat) : Loc := { depth := 3, chan := n, pic := pic }

/-- Key of a unit in the table of units. -/
def unitKey (k : UnitKind) (n : Nat) : Nat := k.code * 256 + n

/-- Cluster of a unit. -/
def clusterOf (k : UnitKind) (n : Nat) : Nat := n / k.perCluster

/-- A unit's record. -/
def State.unit (s : State) (k : UnitKind) (n : Nat) : UnitSt := Store.get s.units {} (unitKey k n)

/-- Sets a unit's record. -/
def State.setUnit (s : State) (k : UnitKind) (n : Nat) (u : UnitSt) : State :=
  { s with units := Store.put s.units (unitKey k n) u }

/-- In-service units of a kind in a cluster. -/
def State.inServiceOf (s : State) (k : UnitKind) (c : Nat) : Nat :=
  ((List.range k.perCluster).filter (fun i => (s.unit k (c * k.perCluster + i)).inService)).length

/-- PX_ACTIVE, EE_ACTIVE, MS_ACTIVE and DF_ACTIVE (Table 1-4). -/
def State.activeOf (s : State) (k : UnitKind) : Nat :=
  ((List.range 8).map (fun c => min k.working (s.inServiceOf k c))).sum

/-! ### Channels, rings and other tables -/

def State.chan (s : State) (n : Nat) : Chan := Store.get s.chans {} n
def State.setChan (s : State) (n : Nat) (c : Chan) : State := { s with chans := Store.put s.chans n c }
def State.modChan (s : State) (n : Nat) (f : Chan → Chan) : State := s.setChan n (f (s.chan n))

def State.ring (s : State) (n : Nat) : Ring := Store.get s.rings {} n
def State.setRing (s : State) (n : Nat) (r : Ring) : State := { s with rings := Store.put s.rings n r }
def State.modRing (s : State) (n : Nat) (f : Ring → Ring) : State := s.setRing n (f (s.ring n))

def State.req (s : State) (r : Requester) : ReqState := Store.get s.reqs {} r.key
def State.setReq (s : State) (r : Requester) (q : ReqState) : State :=
  { s with reqs := Store.put s.reqs r.key q }
def State.modReq (s : State) (r : Requester) (f : ReqState → ReqState) : State := s.setReq r (f (s.req r))

/-- Records a refused access in the requester's LAST_ACCESS_ERROR (R66). DEDUCED, log entry 12. -/
def State.accessError (s : State) (r : Requester) (code : Abort) (idx sub : Nat) : State :=
  s.modReq r (fun q => { q with code := code, entry := keyOf idx sub, errTime := s.time, errCount := q.errCount + 1 })

/-- The device is stopping or stopped by a device-fatal fault. -/
def State.fatal (s : State) : Bool := s.faults.device ≠ .normal

/-- Elements of a list, one after another, through a state. -/
def State.each {α : Type} (s : State) (l : List α) (f : State → α → State) : State := l.foldl f s

end Sys2Proof.Machine
end

