-- ==== Sys2Proof/Machine/Buckets.lean ====
section
/-! DEFINITION. What a stream's rate state makes of picture sizes: the bucket of R193, bits spent, and the model's alpha
(R191). Bits and alpha carry 16 fraction bits. -/

namespace Sys2Proof.Machine

/-- Division rounded to nearest (R191). DEDUCED, log entry 98. -/
def rdiv (n d : Nat) : Nat := (2 * n + d) / max 1 (2 * d)

/-- A value in 48 integer and 16 fraction bits; what a value beyond them becomes the manual leaves open (R191). -/
def fix48 (x : Nat) : Nat := if x < 2 ^ 64 then x else Config.beyond48 x

/-- Largest number whose power `e` is at most `n`, tried bit by bit from bit `b` down. -/
def rootFrom (e n : Nat) : Nat → Nat → Nat
  | 0, r => r
  | b + 1, r => rootFrom e n b (if (r + 2 ^ b) ^ e ≤ n then r + 2 ^ b else r)

/-- Root of a number, rounded down. -/
def rootOf (e n : Nat) : Nat := rootFrom e n (Nat.log2 n / max 1 e + 1) 0

/-- Entry `i` of the table of log2: log2 of 1 + i / 1024 with 16 fraction bits, to nearest; half of log2 of its 2^17-th power. -/
def log2Entry (i : Nat) : Nat := (Nat.log2 ((1024 + i) ^ 131072) - 1310720 + 1) / 2

/-- Entry `i` of the table of 2^x: 2 to the power of i / 1024 with 16 fraction bits, to nearest. -/
def exp2Entry (i : Nat) : Nat := (rootOf 1024 (2 ^ (i + 17 * 1024)) + 1) / 2

/-- log2 of a value with 16 fraction bits, in 16 fraction bits: the entry nearest to it (R191); log2 of 0 the manual leaves
open. DESIGN CHOICE, log entry 99. -/
def log2Fix (v : Nat) : Int :=
  if v = 0 then Config.log2Zero
  else
    let n := Nat.log2 v
    ((n : Int) - 16) * 65536 + log2Entry ((v * 2048 / 2 ^ n + 1) / 2 - 1024)

/-- 2 to the power of a value with 16 fraction bits, in 16 fraction bits: the entry nearest to it (R191). -/
def exp2Fix (x : Int) : Nat :=
  let e := exp2Entry (((x % 65536).toNat + 32) / 64)
  let n := x / 65536
  fix48 (if 0 ≤ n then e * 2 ^ n.toNat else rdiv e (2 ^ (-n).toNat))

/-- One of three values by picture type. -/
def byType (a : Nat × Nat × Nat) (t : PicType) : Nat :=
  match t with
  | .i => a.1
  | .p => a.2.1
  | .b => a.2.2

/-- Three values with one replaced. -/
def setType (a : Nat × Nat × Nat) (t : PicType) (v : Nat) : Nat × Nat × Nat :=
  match t with
  | .i => (v, a.2)
  | .p => (a.1, v, a.2.2)
  | .b => (a.1, a.2.1, v)

/-- 2^((base + QpBdOffset − 12) / 6), or its inverse, with 16 fraction bits (R191). -/
def qpScale (base : Int) (off : Nat) (inverse : Bool) : Nat :=
  let e := (base + off - 12) * 65536 / 6
  exp2Fix (if inverse then -e else e)

/-- alpha after a picture of an actual size, from 0.001 to 1,000 (R191). -/
def alphaNext (a : Nat × Nat × Nat) (r : RatePic) (size : Nat) : Nat × Nat × Nat :=
  let term := rdiv (size * qpScale r.base r.off false) r.c
  setType a r.type (min 65536000 (max 66 (rdiv (7 * byType a r.type + term) 8)))

/-- The bucket after a picture (R193). -/
def bucketAfter (bucket drain size : Nat) : Nat := (bucket - drain) + size * 65536

/-- A picture whose size is known enters the bucket, in picture order; a stream without a ceiling has none (R193). -/
def RateStream.take (x : RateStream) (r : RatePic) (size : Nat) : RateStream :=
  let bucket := if r.ceiled then bucketAfter x.bucket r.drain size else 0
  let spent := x.spent + size * 65536
  let alpha := alphaNext x.alpha r size
  { x with
    bucket := bucket, spent := spent, alpha := alpha, bucketAt := r.num + 1
    pics := x.pics.map (fun (p : RatePic) =>
      if p.num = r.num then { p with fAfter := bucket, spentAfter := spent, alphaAfter := alpha } else p) }

/-- Every picture that is next in order and whose size is known enters the bucket. -/
def RateStream.roll (x : RateStream) (fuel : Nat) : RateStream :=
  match fuel with
  | 0 => x
  | n + 1 =>
    match x.pics.find? (fun p => p.num == x.bucketAt) with
    | none => x
    | some r => match r.size with
      | some size => (x.take r size).roll n
      | none => x

/-- The actual size of a picture becomes known. -/
def RateStream.known (x : RateStream) (num size : Nat) : RateStream :=
  let x := { x with pics := x.pics.map (fun (p : RatePic) => if p.num = num then { p with size := some size } else p) }
  let x := x.roll x.pics.length
  { x with pics := x.pics.filter (fun (p : RatePic) => x.bucketAt ≤ p.num + 24) }

/-- An abandoned picture counts with the bits already emitted, and its verify never comes. DESIGN CHOICE, log entry 104. -/
def RateStream.abandon (x : RateStream) (num bits : Nat) : RateStream :=
  let x := x.known num bits
  { x with verified := x.verified.filter (fun v => v.1 ≠ num) }

end Sys2Proof.Machine
end

