-- ==== Sys2Proof/Machine/Link.lean ====
section
/-! DEFINITION. Sending on the Ronox device links: the link graph and its shortest paths, credit, and the replay buffer
(R277 to R283). -/

namespace Sys2Proof.Machine

/-! ### Ports and the link graph -/

/-- Role in effect of a quad (Table 1-8). -/
def State.role (s : State) (q : Nat) : Nat := s.v (K.QUAD_ROLE_QUAD_ROLE + q)

/-- The RONOX quads in quad order. -/
def State.ronoxQuads (s : State) : List Nat := (List.range 6).filter (fun q => s.role q == 0x30)

def State.port (s : State) (q : Nat) : RonoxPort := Store.get s.ronox {} q
def State.setPort (s : State) (q : Nat) (p : RonoxPort) : State := { s with ronox := Store.put s.ronox q p }

/-- Neighbour DEV of each RONOX port in quad order, 0xFF for none (NEIGHBOURS of Table 12-4). -/
def State.neighbourList (s : State) : List Nat :=
  s.ronoxQuads.map (fun q => if (s.port q).up then (s.port q).neighbour.getD 0xFF else 0xFF)

/-- What the array knows of a member. -/
def State.peer (s : State) (d : Nat) : Member := Store.get s.array.peers {} d
def State.setPeer (s : State) (d : Nat) (m : Member) : State :=
  { s with array := { s.array with peers := Store.put s.array.peers d m } }

/-- Neighbours of a device in the link graph, in quad order. -/
def State.adj (s : State) (d : Nat) : List Nat :=
  (if d = s.dev then s.neighbourList else (s.peer d).neighbours).filter (· < 8)

/-- Devices by distance from a set: each layer holds the devices not seen that list one of the layer before. -/
def layers (adj : Nat → List Nat) (fuel : Nat) (seen front : List Nat) : List (List Nat) :=
  match fuel with
  | 0 => []
  | n + 1 =>
    let next := (List.range 8).filter (fun d => !seen.contains d && (adj d).any front.contains)
    front :: layers adj n (seen ++ next) next

/-- Links between two devices on the shortest path; 8 stands for no path. -/
def State.dist (s : State) (a b : Nat) : Nat :=
  (layers s.adj 8 [b] [b]).findIdx (·.contains a)

/-- Next device on the shortest path from `a` to `b`; ties go to the lower quad number (R283). DEDUCED, log entry 154. -/
def State.nextHop (s : State) (a b : Nat) : Option Nat :=
  let d := s.dist a b
  if d = 0 ∨ 8 ≤ d then none else (s.adj a).find? (fun n => s.dist n b + 1 == d)

/-- The device before `b` on the path from `a` to `b`. -/
def State.beforeOnPath (s : State) (fuel a b : Nat) : Option Nat :=
  match fuel with
  | 0 => none
  | n + 1 =>
    match s.nextHop a b with
    | none => none
    | some h => if h = b then some a else s.beforeOnPath n h b

/-- The lowest RONOX quad that is up towards a neighbour. -/
def State.quadTo (s : State) (nbr : Nat) : Option Nat :=
  s.ronoxQuads.find? (fun q => (s.port q).up && (s.port q).neighbour == some nbr)

/-- Quads on which a flit leaves this device: the next hop of a unicast, the children in the tree rooted at SRC of a
broadcast (R283). -/
def State.outQuads (s : State) (src dst : Nat) : List Nat :=
  let nbrs :=
    if dst = 0xFF then
      ((List.range 8).filter (fun n => n ≠ s.dev && s.beforeOnPath 8 src n == some s.dev))
    else (s.nextHop s.dev dst).toList
  nbrs.filterMap s.quadTo

/-! ### Credit and the replay buffer -/

/-- A component of a triple by class. -/
def cls3 (t : Nat × Nat × Nat) (c : Nat) : Nat :=
  match c with
  | 0 => t.1
  | 1 => t.2.1
  | _ => t.2.2

/-- A triple with one class raised. -/
def addCls3 (t : Nat × Nat × Nat) (c n : Nat) : Nat × Nat × Nat :=
  match c with
  | 0 => ((t.1 + n) % 2 ^ 32, t.2)
  | 1 => (t.1, (t.2.1 + n) % 2 ^ 32, t.2.2)
  | _ => (t.1, t.2.1, (t.2.2 + n) % 2 ^ 32)

/-- Credit of a class is left: flits sent lie before CREDIT_TOTAL, modulo 2^32 (R119, R279). -/
def creditLeft (total sent : Nat) : Bool :=
  let d := (total + 2 ^ 32 - sent) % 2 ^ 32
  0 < d && d < 2 ^ 31

/-- The class a port sends next: class 0 first, then 1 and 2 in turn while both have credit (R280). -/
def RonoxPort.nextClass (p : RonoxPort) : Option Nat :=
  let ok := fun c => p.waiting.any (·.cls == c) && creditLeft (cls3 p.txCredit c) (cls3 p.txCount c)
  if 1024 ≤ p.replay.length then none
  else if ok 0 then some 0
  else
    let first := if p.lastBulk = 2 then 1 else 2
    if ok first then some first else if ok (3 - first) then some (3 - first) else none

/-- A list without its first element that meets a condition, and that element. -/
def takeFirst {α : Type} (p : α → Bool) : List α → Option (α × List α)
  | [] => none
  | x :: r => if p x then some (x, r) else (takeFirst p r).map (fun y => (y.1, x :: y.2))

/-- The flit as it leaves a port. -/
def Flit.output (q seq : Nat) (f : Flit) : Output :=
  .ronox q f.type f.flags f.epoch seq f.src f.dst f.hops f.cls f.body

/-- Sends what a port may send now, in order. -/
def State.drainPort (s : State) (q fuel : Nat) : State :=
  match fuel with
  | 0 => s
  | n + 1 =>
    let p := s.port q
    match if p.up && !p.retraining then p.nextClass else none with
    | none => s
    | some c =>
      match takeFirst (·.cls == c) p.waiting with
      | none => s
      | some (f, rest) =>
        let p := { p with
          waiting := rest, txSeq := (p.txSeq + 1) % 2 ^ 32, txCount := addCls3 p.txCount c 1
          lastBulk := if c = 0 then p.lastBulk else c
          replay := p.replay ++ [(p.txSeq, f)]
          ackAt := if p.replay.isEmpty then s.time else p.ackAt }
        ((s.setPort q p).emit (f.output q (s.port q).txSeq)).drainPort q n

/-- Hands a sequenced flit to a port. -/
def State.pushFlit (s : State) (q : Nat) (f : Flit) : State :=
  let p := s.port q
  (s.setPort q { p with waiting := p.waiting ++ [f] }).drainPort q (p.waiting.length + 1)

/-- A fenced device sends only HEARTBEAT, CREDIT, IDLE and HELLO (R294). -/
def State.maySend (s : State) (type : Nat) : Bool := s.array.state ≠ 4 || type == 0x10

/-- Sends or forwards a flit towards its destination. -/
def State.route (s : State) (f : Flit) : State :=
  if s.maySend f.type then s.each (s.outQuads f.src f.dst) (fun s q => s.pushFlit q f) else s

/-- Sends a message of this device. -/
def State.ronoxSend (s : State) (type flags cls dst : Nat) (body : List Byte) : State :=
  s.route { type := type, flags := flags, epoch := s.array.epoch, src := s.dev, dst := dst, cls := cls, body := body }

/-- Sends an IDLE, CREDIT or HELLO, which carries the next FLIT_SEQ without advancing it (Table 12-1). -/
def State.sendUnsequenced (s : State) (q type flags : Nat) (body : List Byte) : State :=
  s.emit (.ronox q type flags s.array.epoch (s.port q).txSeq s.dev 0xFE 0 0 body)

/-- The body of CREDIT: ACK_SEQ, the last sequenced flit accepted, and CREDIT_TOTAL of each class (Table 12-2). -/
def RonoxPort.creditBody (p : RonoxPort) : List Byte :=
  leBytes 4 ((p.rxSeq + 2 ^ 32 - 1) % 2 ^ 32) ++ leBytes 4 p.rxCredit.1 ++ leBytes 4 p.rxCredit.2.1 ++
    leBytes 4 p.rxCredit.2.2

/-- Sends CREDIT on a port, with or without NAK. -/
def State.sendCredit (s : State) (q : Nat) (nak : Bool) : State :=
  (s.sendUnsequenced q 0x02 (if nak then 1 else 0) (s.port q).creditBody).setPort q
    { s.port q with lastCredit := s.time }

/-- In an array: ACTIVE or STANDBY. -/
def State.inArray (s : State) : Bool := s.array.state == 2 || s.array.state == 3

end Sys2Proof.Machine
end

