-- ==== Sys2Proof/Machine/Interrupts.lean ====
section
/-! DEFINITION. Interrupt sources, groups and their hold-off timers, claims and completions (R344 to R350). -/

namespace Sys2Proof.Machine

def State.intSource (s : State) (n : Nat) : IntSource := Store.get s.ints.sources {} n
def State.setIntSource (s : State) (n : Nat) (r : IntSource) : State :=
  { s with ints := { s.ints with sources := Store.put s.ints.sources n r } }

/-- Key of a group: [13:6] function, [5:0] group, as INT_SELECT GROUP names it. -/
def groupKey (f g : Nat) : Nat := f * 64 + g

def State.intGroup (s : State) (f g : Nat) : IntGroup := Store.get s.ints.groups {} (groupKey f g)
def State.setIntGroup (s : State) (f g : Nat) (r : IntGroup) : State :=
  { s with ints := { s.ints with groups := Store.put s.ints.groups (groupKey f g) r } }

/-- A source is eligible while PENDING is set, ENABLE is 1, PRIO is above 0 and ACTIVE is 0 (R344). -/
def IntSource.eligible (r : IntSource) : Bool := r.pending && r.enable && 0 < r.prio && !r.active

/-- Sources of a function's group that a condition holds for. -/
def State.groupAny (s : State) (f g : Nat) (p : IntSource → Bool) : Bool :=
  s.ints.sources.any (fun e => e.2.func == f && e.2.group == g && p e.2)

/-- The group's vector is sent, or its pending bit set if masked, and the hold-off timer starts (R346). It counts whole
microseconds of TIME_NOW. -/
def State.sendVector (s : State) (f g : Nat) : State :=
  let r := s.intGroup f g
  let timer := if r.holdoffUs = 0 then none else some ((s.time / 1000 + r.holdoffUs) * 1000)
  if r.masked then s.setIntGroup f g { r with msixPending := true, timer := timer }
  else (s.setIntGroup f g { r with messages := r.messages + 1, timer := timer }).emit (.msix f g)

/-- The hold-off timer runs. -/
def IntGroup.running (r : IntGroup) (now : Time) : Bool :=
  match r.timer with
  | some e => now < e
  | none => false

/-- A source of the group has become eligible (R346, R347). DEDUCED, log entry 181. -/
def State.becameEligible (s : State) (f g : Nat) : State :=
  let r := s.intGroup f g
  if !r.running s.time || (r.bypassIdle && !s.groupAny f g (·.active)) then s.sendVector f g else s

/-- Sets a source's row, and sends its group's vector if that made it eligible. -/
def State.updateSource (s : State) (n : Nat) (r : IntSource) : State :=
  let was := (s.intSource n).eligible
  let s := s.setIntSource n r
  if r.eligible && !was then s.becameEligible r.func r.group else s

/-- A signal of a source, from the function that a ring's owner or a DMA channel names, or from a fault source. -/
def State.signal (s : State) (n : Nat) (from_ : Option Nat) : State :=
  if 4095 ≤ n then s
  else
    let r := s.intSource n
    if from_.isSome && from_ ≠ some r.func then s.setIntSource n { r with misrouted := r.misrouted + 1 }
    else s.updateSource n { r with signals := r.signals + 1, pending := true }

/-- A signal is withdrawn before its claim (R349). -/
def State.withdraw (s : State) (n : Nat) : State :=
  match Store.find? s.ints.sources n with
  | some r => s.setIntSource n { r with pending := false }
  | none => s

/-- Withdraws every signal of a function, as a function-level reset does (R349). -/
def State.withdrawFunc (s : State) (f : Nat) : State :=
  { s with ints := { s.ints with
      sources := Store.map s.ints.sources (fun _ r => if r.func = f then { r with pending := false } else r) } }

/-- The eligible source that a claim returns: the highest PRIO, then the lowest number (R348). -/
def State.claimable (s : State) (f g : Nat) : Option Nat :=
  (s.ints.sources.foldl
    (fun (best : Option (Nat × Nat)) e =>
      if e.2.func == f && e.2.group == g && e.2.eligible then
        match best with
        | some (_, p) => if p < e.2.prio then some (e.1, e.2.prio) else best
        | none => some (e.1, e.2.prio)
      else best) none).map Prod.fst

/-- A 4-byte read of CLAIM (R348). -/
def State.claim (s : State) (f g : Nat) : State :=
  match s.claimable f g with
  | some n =>
    (s.setIntSource n { s.intSource n with pending := false, active := true }).emit (.claim f g n)
  | none =>
    let r := s.intGroup f g
    (s.setIntGroup f g { r with spurious := r.spurious + 1 }).emit (.claim f g 4095)

/-- A 4-byte write of CLAIM (R350). A source that is still PENDING becomes eligible on completion (R344). -/
def State.complete (s : State) (f g n : Nat) : State :=
  let r := s.intSource n
  if n < 4095 ∧ r.active ∧ r.func = f ∧ r.group = g then s.updateSource n { r with active := false }
  else
    let q := s.intGroup f g
    s.setIntGroup f g { q with badCompletes := q.badCompletes + 1 }

/-- Expiry of a hold-off timer: if any source of the group is eligible the vector is sent again and the timer restarts. -/
def State.holdoff (s : State) (f g : Nat) : State :=
  let r := s.intGroup f g
  match r.timer with
  | some e =>
    if e ≤ s.time then
      let s := s.setIntGroup f g { r with timer := none }
      if s.groupAny f g IntSource.eligible then s.sendVector f g else s
    else s
  | none => s

/-- An MSI-X vector is unmasked: a pending message follows (R346). -/
def State.unmask (s : State) (f g : Nat) : State :=
  let r := s.intGroup f g
  if r.msixPending then
    (s.setIntGroup f g { r with masked := false, msixPending := false, messages := r.messages + 1 }).emit (.msix f g)
  else s.setIntGroup f g { r with masked := false }

/-- Function `f` exists: F000, or a virtual function while VF Enable is set (R87). -/
def State.funcExists (s : State) (f : Nat) : Bool := f == 0 || (s.host.vfEnable && f ≤ s.host.numVfs)

/-- Q0 holds a host role. -/
def State.hostRole (s : State) : Bool := [0x01, 0x02, 0x03].contains (s.role 0)

/-- A function's accesses arrive: it exists, and the device has a host link (R22). DEDUCED, log entry 216. -/
def State.funcReaches (s : State) (f : Nat) : Bool := s.funcExists f && s.hostRole && s.host.linkUp

/-- HOLDOFF_EXPIRY (R346). -/
def execHoldoffExpiry (t : Time) (f g : Nat) (s : State) : Out :=
  inRange "F" f 256 <| inRange "group" g 64 <| live t s (fun s => s.holdoff f g)

/-- MSIX_UNMASK (R346). -/
def execMsixUnmask (t : Time) (f vector : Nat) (s : State) : Out :=
  inRange "F" f 256 <| inRange "vector" vector 64 <| live t s (fun s => s.unmask f vector)

/-- CLAIM_READ (R348). A function that does not exist answers nothing (R87). -/
def execClaimRead (t : Time) (f g : Nat) (s : State) : Out :=
  inRange "F" f 256 <| inRange "group" g 64 <|
    live t s (fun s => if s.funcReaches f then s.claim f g else s)

/-- CLAIM_COMPLETE (R350). -/
def execClaimComplete (t : Time) (f g src : Nat) (s : State) : Out :=
  inRange "F" f 256 <| inRange "group" g 64 <|
    live t s (fun s => if s.funcReaches f then s.complete f g src else s)

end Sys2Proof.Machine
end

