-- ==== Sys2Proof/Machine/Faults.lean ====
section
/-! DEFINITION. Fault sources, records, reactions and reporting, and ERR_OUT_N (R351 to R360). Raising a fault is one
operation, `State.raise`, that every block uses. -/

namespace Sys2Proof.Machine

/-! ### Rows -/

/-- The reset value of a reaction row's writable fields (Table 15-5). -/
def rowReset (n : Nat) : FaultRow :=
  match faultInfo? n with
  | some i => { reaction := i.dflt, errOut := i.dflt == 3 }
  | none => {}

def State.faultRow (s : State) (n : Nat) : FaultRow := Store.get s.faults.rows (rowReset n) n

def State.setFaultRow (s : State) (n : Nat) (r : FaultRow) : State :=
  { s with faults := { s.faults with rows := Store.put s.faults.rows n r } }

/-- MIN_REACTION and CLASS of a source. -/
def minReaction (n : Nat) : Nat := ((faultInfo? n).map (·.min)).getD 0
def classOf (n : Nat) : Nat := ((faultInfo? n).map (·.cls)).getD 0

/-- A condition source that is active: its condition holds, or it is latched (R352). -/
def State.faultActive (s : State) (n : Nat) : Bool := (Store.find? s.faults.active n).isSome

/-- ERROR_REGISTER: a bit reads 1 while any fault of its class is active (Table 2-2). -/
def State.errorRegister (s : State) : Nat :=
  ((List.range 8).filter (fun b => s.faults.active.any (fun e => classOf e.1 == b))).foldl (fun a b => a + 2 ^ b) 0

/-- A row as its 8 bytes read (Table 15-5). -/
def State.faultRowWord (s : State) (n : Nat) : Nat :=
  let r := s.faultRow n
  r.raises * 2 ^ 32 + r.irqSrc * 2 ^ 20 + (if r.irqEn then 2 ^ 19 else 0) + (if r.notify then 2 ^ 18 else 0) +
    (if r.errOut then 2 ^ 17 else 0) + (if r.latch then 2 ^ 16 else 0) + (if s.faultActive n then 2 ^ 15 else 0) +
    classOf n * 2 ^ 8 + minReaction n * 2 ^ 4 + r.reaction

/-! ### ERR_OUT_N (R359) -/

/-- Whether the drive must be asserted: in reset and until the boot ROM has loaded the reaction table, while a source whose
row has ERR_OUT set is active, in every device-fatal state, and after a failed boot (R393). -/
def State.errWanted (s : State) : Bool :=
  s.pins.resetLow || s.boot.state == .booting || s.boot.state == .failed || s.fatal ||
    s.faults.active.any (fun e => (s.faultRow e.1).errOut)

/-- The pin follows its drive, but where ERR_OUT_PATH says that it differs. DEDUCED, log entry 254. -/
def State.setErrOut (s : State) (on : Bool) : State :=
  { s with faults := { s.faults with
    errOut := on, errPin := if s.faultActive F.ERR_OUT_PATH then s.faults.errPin else on } }

/-- The drive asserted, held for ERR_OUT_MIN_MS from its assertion. -/
def State.assertErr (s : State) : State :=
  if s.faults.errOut then s
  else { s.setErrOut true with faults := { (s.setErrOut true).faults with
    errHold := s.time + s.v K.FAULT_STATUS_ERR_OUT_MIN_MS * 1000000 } }

/-- The drive brought to what the sources ask, no earlier than its hold allows. -/
def State.driveErr (s : State) : State :=
  if s.errWanted then s.assertErr
  else if s.faults.errOut && s.faults.errHold ≤ s.time then s.setErrOut false
  else s

/-! ### Records -/

/-- What a fault names: its instance, place, DETAIL, and the power domain of the unit it names. -/
structure Site where
  inst : Nat := 0
  loc : Loc := {}
  detail : List Nat := []
  pd : Option Nat := none
  /-- What the storage word that a configuration fault names holds: entries by key, and table words. -/
  keys : List Nat := []
  cells : List (Nat × Nat) := []
  /-- The device whose DEV the location carries, where it is not this one (R297). -/
  locDev : Option Nat := none
  /-- The fault is recorded only, whatever its row says (Table 14-5). -/
  recordOnly : Bool := false
  deriving DecidableEq, Repr

/-- DETAIL of a record: its last word is the sample offset of a coding unit that BLK cannot name (R18). DEDUCED, log entry 214. -/
def Site.details (x : Site) : List Nat :=
  if 6 ≤ x.loc.depth ∧ 254 ≤ x.loc.blk then (x.detail ++ [0, 0, 0]).take 3 ++ [x.loc.sample] else x.detail

/-- The 64 bytes of a record (Table 15-7). DETAIL holds one 8-byte word for each thing named. DEDUCED, log entry 174. -/
def FaultRecord.bytes (r : FaultRecord) : List Byte :=
  let body := leBytes 2 r.fault ++ leBytes 1 r.event ++ leBytes 1 r.reaction ++ leBytes 1 r.depth ++
    leBytes 1 r.dev ++ leBytes 2 0 ++ leBytes 8 r.loc ++ leBytes 8 r.time ++ leBytes 4 r.seq.toNat ++
    ((r.detail ++ List.replicate 4 0).take 4).flatMap (leBytes 8)
  body ++ leBytes 4 (crc32c body).toNat

/-- EEC of an EMCY (R358). -/
def eec (event cls : Nat) : Nat :=
  if event = 2 then 0
  else match cls with
    | 0 => 0x1000 | 1 => 0x2000 | 2 => 0x3000 | 3 => 0x4000 | 4 => 0x8100 | _ => 0xFF00

/-- The bytes of an EMCY (R358). -/
def State.emcyBytes (s : State) (r : FaultRecord) : List Byte :=
  leBytes 2 (eec r.event (classOf r.fault)) ++ leBytes 1 s.errorRegister ++ leBytes 1 r.event ++
    leBytes 2 r.fault ++ leBytes 1 r.depth ++ leBytes 1 0 ++ leBytes 8 r.loc ++ leBytes 8 r.time

/-- An OD/UDP packet header (Table 2-6). -/
def udpHeader (opcode seq count flags : Nat) : List Byte :=
  leBytes 2 0x485A ++ leBytes 1 1 ++ leBytes 1 opcode ++ leBytes 4 seq ++ leBytes 2 count ++ leBytes 2 flags

/-- An item header (Table 2-8). -/
def itemHeader (idx sub type offset len status : Nat) : List Byte :=
  leBytes 2 idx ++ leBytes 1 sub ++ leBytes 1 type ++ leBytes 4 offset ++ leBytes 2 len ++ leBytes 2 0 ++
    leBytes 4 status

def State.canNode (s : State) (k : Nat) : CanNode := Store.get s.access.can {} k
def State.setCan (s : State) (k : Nat) (c : CanNode) : State :=
  { s with access := { s.access with can := Store.put s.access.can k c } }

/-- A node that may send: its controller is on and not bus-off. -/
def CanNode.sends (c : CanNode) : Bool := c.on && !c.busOff

/-- One OD/UDP NOTIFY packet and one EMCY on each CAN controller in NMT operational or pre-operational state (R358). -/
def State.notifyNow (s : State) (r : FaultRecord) : State :=
  let s :=
    if s.v K.UDP_CONFIG_NOTIFY_ADDR = 0 then s
    else
      let seq := s.access.notifySeq + 1
      ({ s with access := { s.access with notifySeq := seq } }).emit
        (.udp (s.v K.UDP_CONFIG_NOTIFY_ADDR) (s.v K.UDP_CONFIG_NOTIFY_PORT)
          (udpHeader 0x90 seq.toNat 1 0 ++ itemHeader 0x2402 0 0x0F 0 64 0 ++ r.bytes))
  s.each [0, 1] (fun s k =>
    let c := s.canNode k
    if c.sends && c.nmt ≠ .stopped then s.emit (.emcy k (s.emcyBytes r)) else s)

/-- SH0 or SH1, which serve the CAN FD and OD/UDP paths, is in service. -/
def State.pathsServed (s : State) : Bool :=
  [0, 1].any (fun k => let c : Core' := Store.get s.cores {} k; !c.stalled && !c.restarting)

/-- A notice goes out, or waits for the core that sends notices (R356). -/
def State.notify (s : State) (r : FaultRecord) : State :=
  if s.pathsServed then s.notifyNow r
  else { s with faults := { s.faults with unsent := s.faults.unsent ++ [r] } }

/-- The notices that waited go out, oldest first. -/
def State.flushNotices (s : State) : State :=
  if s.pathsServed then
    ({ s with faults := { s.faults with unsent := [] } }).each s.faults.unsent State.notifyNow
  else s

/-- A record enters the log (R358). Once the log is full, replacements are counted from the first. -/
def State.logRecord (s : State) (r : FaultRecord) : State :=
  let f := s.faults
  let full := 256 ≤ f.log.length
  { s with faults := { f with
      log := r :: (if full then f.log.take 255 else f.log)
      replaced := if full then f.replaced + 1 else f.replaced
      records := f.records + 1 } }

/-- The channel fields that show the newest record naming the channel (Table 4-17). -/
def State.lastFault (s : State) (r : FaultRecord) (chan : Nat) : State :=
  if 2 ≤ r.depth then
    (s.setRo (chKey chan K.CH_STATUS_LAST_FAULT) r.fault).setRo (chKey chan K.CH_STATUS_LAST_FAULT_TIME) r.time
  else s

/-- One record of this device, and what its row reports: log, notice, relay to the coordinator, signal (R358, R360). -/
def State.recordOne (s : State) (src event reaction : Nat) (x : Site) : State :=
  let row := s.faultRow src
  let r : FaultRecord :=
    { fault := src, event := event, reaction := reaction, depth := x.loc.depth, dev := s.dev
      loc := locCode (x.locDev.getD s.dev) x.loc, time := s.time, seq := s.faults.seq, detail := x.details }
  let s := s.logRecord r
  let s := { s with faults := { s.faults with seq := s.faults.seq + 1 } }
  let s := if event = 2 then s else s.setFaultRow src { row with raises := min (row.raises + 1) 0xFFFF }
  let s := s.lastFault r x.loc.chan
  let s := if row.notify then s.notify r else s
  let s :=
    if row.notify && s.inArray && s.array.coordinator < 8 && s.array.coordinator ≠ s.dev then
      s.ronoxSend 0x13 0 0 s.array.coordinator r.bytes
    else s
  if row.irqEn then s.signal row.irqSrc none else s

/-! ### Reactions -/

/-- A channel-fatal fault: an open or draining channel becomes FAULTED, and its work in flight stops (R355). What it holds
is kept for inspection. -/
def State.chanFatal (s : State) (n : Nat) : State :=
  let c := s.chan n
  if c.state = .open_ ∨ c.state = .draining then
    { s.setChan n { c with state := .faulted, pairs := [], sched := [] } with
      units := Store.map s.units (fun _ u =>
        if (u.grant.map (·.chan)) = some n then { u with grant := none } else u)
      reissue := s.reissue.filter (fun g => g.2.chan ≠ n) }
  else s

/-- A device-fatal fault acts: FATAL_DUMPING, ERR_OUT_N asserted, every open channel FAULTED, and no grant left in flight
(R356, Table 15-6). -/
def State.deviceFatal (s : State) (cause : FaultRecord) : State :=
  let s := { s with faults := { s.faults with device := .fatalDumping, cause := some cause, fatalAt := s.time } }
  let s := s.each (List.map Prod.fst s.chans) State.chanFatal
  s.assertErr

/-- The reaction that a source takes now, from the REACTION of a row: BLOCK_RESET without a unit and CHANNEL_FATAL above
the channel level act as REPORT (R353), and a device-fatal fault while another is handled is recorded only (R357). -/
def State.reactionTaken (s : State) (code : Nat) (x : Site) : Nat :=
  if x.recordOnly then 0
  else match code with
  | 1 => if x.pd.isSome then 1 else 0
  | 2 => if 2 ≤ x.loc.depth then 2 else 0
  | 3 => if s.fatal then 0 else 3
  | _ => 0

/-- What a reaction does beside its record. -/
def State.react (s : State) (code : Nat) (x : Site) : State :=
  match code with
  | 1 => match x.pd with
    | some p => { s with blockReset := s.blockReset ++ [{ pd := p, keys := x.keys, cells := x.cells }] }
    | none => s
  | 2 => s.chanFatal x.loc.chan
  | 3 => match s.faults.log with
    | r :: _ => s.deviceFatal r
    | [] => s
  | _ => s

/-- A record with the reaction it carries. -/
def State.recordAct (s : State) (src event code : Nat) (x : Site) : State :=
  let taken := s.reactionTaken code x
  let s' := s.recordOne src event taken x
  (if event = 2 then s' else s'.react taken x).driveErr

/-- ERR_OUT_N is asserted within 1 µs of any event whose row has ERR_OUT set (R359). -/
def State.errEvent (s : State) (src : Nat) : State := if (s.faultRow src).errOut then s.assertErr else s

/-- FAULT_LOG_WRAP at the 256th replacement since the log became full and at every 256th one after it (R358). -/
def State.wrapCheck (before s : State) : State :=
  if s.faults.replaced ≠ before.faults.replaced ∧ s.faults.replaced % 256 = 0 ∧ s.faults.replaced ≠ 0 ∧
      !s.faults.ignored.contains F.FAULT_LOG_WRAP then
    (s.errEvent F.FAULT_LOG_WRAP).recordAct F.FAULT_LOG_WRAP 3 (s.faultRow F.FAULT_LOG_WRAP).reaction {}
  else s

/-- A record, its reaction, and FAULT_LOG_WRAP where it falls due. -/
def State.record (s : State) (src event code : Nat) (x : Site) : State :=
  State.wrapCheck s (s.recordAct src event code x)

/-- Raises a fault, with a reaction at least as strict as `atLeast` (R353). -/
def State.raiseWith (s : State) (src atLeast : Nat) (x : Site) : State :=
  match faultInfo? src with
  | none => s
  | some i =>
    if s.faults.ignored.contains src then s
    else
      let code := max (s.faultRow src).reaction atLeast
      if i.event then (s.errEvent src).record src 3 code x
      else match Store.find? s.faults.active src with
        | some a =>
          { s with faults := { s.faults with
              active := Store.put s.faults.active src
                { holders := if a.holders.contains x.inst then a.holders else a.holders ++ [x.inst] } } }
        | none =>
          State.record
            { s with faults := { s.faults with active := Store.put s.faults.active src { holders := [x.inst] } } }
            src 1 code x

/-- Raises a fault source (R352): an event makes one record; a condition source that is not active becomes active and makes
one; a raise of an active one makes none. -/
def State.raise (s : State) (src : Nat) (x : Site) : State := s.raiseWith src 0 x

/-- A condition source stops being active and makes its clear record (R352). -/
def State.clearFault (s : State) (src : Nat) : State :=
  State.record { s with faults := { s.faults with active := Store.erase s.faults.active src } } src 2 0 {}

/-- The condition of one instance ends. The source stays active while another instance holds it, or latched (R352), and where
its pair is ignored (R351). DEDUCED, log entry 175. -/
def State.endFault (s : State) (src inst : Nat) : State :=
  match Store.find? s.faults.active src with
  | none => s
  | some a =>
    if !a.holders.contains inst || s.faults.ignored.contains src then s
    else
      let left := a.holders.filter (· ≠ inst)
      if left.isEmpty && !(s.faultRow src).latch then s.clearFault src
      else { s with faults := { s.faults with active := Store.put s.faults.active src { holders := left } } }

/-- A write of a source number to ACK: a latched source whose condition has ended stops being active (R352). -/
def State.ackFault (s : State) (src : Nat) : State :=
  match Store.find? s.faults.active src with
  | some a => if a.holders.isEmpty then s.clearFault src else s
  | none => s

/-- A path fault of a dual-rail pair: the source is treated as raised, FAULT_PATH is raised with its number in DETAIL, and
the pair is ignored until reset (R351). -/
def State.faultPath (s : State) (src : Nat) : State :=
  if (faultInfo? src).isNone || s.faults.ignored.contains src then s
  else
    let s := s.raise src {}
    let s := s.raise F.FAULT_PATH { inst := src, detail := [src] }
    { s with faults := { s.faults with ignored := s.faults.ignored ++ [src] } }

/-- The writable fields of a reaction row written (R354, Table 15-5): REACTION is kept, and the write recorded, where it is
above 3 or weaker than MIN_REACTION; the other fields take effect. Clearing IRQ_EN withdraws the signal (R349). -/
def State.writeFaultRow (s : State) (n v : Nat) : State × Option Abort :=
  let r := s.faultRow n
  let code := v % 8
  let bad := if 3 < code then some A.value else if code < minReaction n then some A.below else none
  let r' : FaultRow :=
    { r with
      irqSrc := bits v 31 20, irqEn := bit v 19, notify := bit v 18, errOut := bit v 17, latch := bit v 16
      reaction := if bad.isSome then r.reaction else code }
  let s := s.setFaultRow n r'
  let s := if r.irqEn && !r'.irqEn then s.withdraw r.irqSrc else s
  (s.driveErr, bad)

/-- The bits of a row that are Reserved or read-only: a dictionary write refuses a Reserved bit (R33). -/
def faultRowReserved : Nat := 0xFFFF000000007888

/-- A 256-byte window of the log as WORD shows it: 8 bytes of the record that SELECT names; 0 for an empty entry. -/
def State.logWord (s : State) (sel w : Nat) : Nat :=
  match s.faults.log[sel]? with
  | some r => leNat ((r.bytes.drop (8 * w)).take 8)
  | none => 0

/-- A relayed record is logged, notified and counted as its own by the coordinator, keeping DEV and SEQ; its reaction is
never applied (R360). DEDUCED, log entry 176. -/
def State.relayRecord (s : State) (r : FaultRecord) : State :=
  let before := s
  let row := s.faultRow r.fault
  let s := s.logRecord r
  let s := s.setFaultRow r.fault
    (if r.event = 2 then row else { row with raises := min (row.raises + 1) 0xFFFF })
  State.wrapCheck before (if row.notify then s.notify r else s)

/-! ### Commands -/

/-- FAULT_RAISE (R352). Numbers not listed are reserved and never raised. -/
def execFaultRaise (t : Time) (src inst depth chan pic tile ctu : Nat) (blk : UnitPlace) (detail : List Nat) (s : State) : Out :=
  inRange "CH" chan 256 <| live t s (fun s =>
    s.raise src
      { inst := inst, detail := detail
        loc := { depth := min depth 6, chan := chan, pic := pic, tile := tile, ctu := ctu, blk := blk.index, sample := blk.sample } })

/-- FAULT_CONDITION_END (R352). -/
def execFaultConditionEnd (t : Time) (src inst : Nat) (s : State) : Out := live t s (fun s => s.endFault src inst)

/-- FAULT_PATH (R351). -/
def execFaultPath (t : Time) (src : Nat) (s : State) : Out := live t s (fun s => s.faultPath src)

/-- ERR_OUT_PATH (R359): the pin and its drive differ for 10 µs. -/
def execErrOutPath (t : Time) (pinLow : Bool) (s : State) : Out :=
  live t s (fun s =>
    let s := { s with faults := { s.faults with errPin := pinLow } }
    if pinLow = s.faults.errOut then s else s.raise F.ERR_OUT_PATH {})

/-- ERR_OUT_AGREE (R359): the two agree for 10 µs. -/
def execErrOutAgree (t : Time) (s : State) : Out :=
  live t s (fun s =>
    ({ s with faults := { s.faults with errPin := s.faults.errOut } }).endFault F.ERR_OUT_PATH 0)

/-- ERR_OUT_HOLD_EXPIRY (R359). -/
def execErrOutHoldExpiry (t : Time) (s : State) : Out := live t s State.driveErr

end Sys2Proof.Machine
end

