-- ==== Sys2Proof/Machine/Pools.lean ====
section
/-! DEFINITION. The buffer pool and the frame buffers of the reference region (chapter 10). -/

namespace Sys2Proof.Machine

/-! ### Choosing a free number -/

/-- The `k`-th number that does not stand among rising numbers. -/
def kthMissing (keys : List Nat) (k : Nat) : Nat :=
  match keys with
  | [] => k
  | j :: r => if j ≤ k then kthMissing r (k + 1) else k

/-! ### The buffer pool -/

/-- FREE: buffers in the pool. -/
def Pool.free (p : Pool) : Nat := p.total - p.bufs.length

/-- Owner on allocation, by use (Table 10-3, Table 10-4). -/
def useOwner (use : Nat) : Nat := if use = 1 then 1 else if use = 2 then 2 else 3

/-- LOW follows FREE: below LOW_WATER it sets and raises POOL_LOW, above HIGH_WATER it ends (R237). MIN_FREE follows. -/
def State.poolLevel (s : State) : State :=
  let p := { s.pool with minFree := min s.pool.minFree s.pool.free }
  if !p.low ∧ p.free < s.v K.POOL_CONFIG_LOW_WATER then
    State.raise { s with pool := { p with low := true } } F.POOL_LOW {}
  else if p.low ∧ s.v K.POOL_CONFIG_HIGH_WATER < p.free then
    State.endFault { s with pool := { p with low := false } } F.POOL_LOW 0
  else { s with pool := p }

/-- One buffer leaves the pool for a request. Which free one the manual does not say: a free value picks it (R232). -/
def State.grantBuf (s : State) (chan use unit : Nat) : State :=
  let n := kthMissing (List.map Prod.fst s.pool.bufs) (Config.bufferChoice s.free % s.pool.free)
  let b : Buf := { chan := chan, use := use, owner := useOwner use, ready := true, unit := unit }
  (({ s with pool := { s.pool with bufs := Store.put s.pool.bufs n b, used := if s.pool.used.contains n then s.pool.used else n :: s.pool.used } }).draws).tick K.POOL_COUNTERS_ALLOCS 1

/-- A request waits. The first to wait after FREE has been above 0 raises POOL_EMPTY (R232). -/
def State.waitBuf (s : State) (chan use unit : Nat) : State :=
  let w : BufWaiter := { chan := chan, use := use, unit := unit, since := s.time }
  let first := s.pool.seenFree
  let s := { s with pool := { s.pool with waiters := s.pool.waiters ++ [w], seenFree := false } }
  if first then s.raise F.POOL_EMPTY { loc := Loc.ofChan chan } else s

/-- A unit requests one buffer: granted while any is free, or the request waits in arrival order (R232). -/
def State.requestBuf (s : State) (chan use unit : Nat) : State :=
  if 0 < s.pool.free then (s.grantBuf chan use unit).poolLevel else s.waitBuf chan use unit

/-- The buffers that a unit has obtained and not yet put to use. -/
def Pool.ready (p : Pool) (chan use unit : Nat) : List Nat :=
  (p.bufs.filter (fun e => e.2.ready && e.2.chan == chan && e.2.use == use && e.2.unit == unit)).map Prod.fst

/-- A request of the unit already waits. -/
def Pool.waits (p : Pool) (chan use unit : Nat) : Bool :=
  p.waiters.any (fun w => w.chan == chan && w.use == use && w.unit == unit)

/-- A unit asks for buffers one at a time until it has `n`, keeping those it has obtained (R232). -/
def State.askBufs (s : State) (chan use unit n : Nat) : State :=
  s.each (List.range (n - (s.pool.ready chan use unit).length)) (fun s _ =>
    if s.pool.waits chan use unit then s else s.requestBuf chan use unit)

/-- Puts `n` buffers of a unit to use, if it has them after asking; otherwise it waits with those obtained. -/
def State.obtain (s : State) (chan use unit n : Nat) : Option (List Nat) × State :=
  let s := s.askBufs chan use unit n
  let have_ := s.pool.ready chan use unit
  if n ≤ have_.length then
    let taken := have_.take n
    (some taken, { s with pool := { s.pool with
      bufs := Store.map s.pool.bufs (fun k b => if taken.contains k then { b with ready := false } else b) } })
  else (none, s)

/-- The first waiting request is served from the pool. -/
def State.serveWaiter (s : State) : State :=
  match s.pool.waiters with
  | [] => s
  | w :: r =>
    if 0 < s.pool.free then
      ((({ s with pool := { s.pool with waiters := r } }).grantBuf w.chan w.use w.unit).tick
        K.POOL_COUNTERS_ALLOC_WAIT_NS (s.since w.since))
    else s

/-- A buffer returns to the pool, and the oldest waiting request takes one (R232, R234). -/
def State.returnBuf (s : State) (n : Nat) : State :=
  let s := ({ s with pool := { s.pool with bufs := Store.erase s.pool.bufs n } }).tick K.POOL_COUNTERS_RETURNS 1
  let s := s.serveWaiter
  let s := if 0 < s.pool.free then { s with pool := { s.pool with seenFree := true } } else s
  s.poolLevel

/-- An operation on a buffer that R235 ignores. -/
def State.badFree (s : State) (fault n : Nat) : State :=
  let c := match Store.find? s.pool.bufs n with
    | some b => b.chan
    | none => 0x1FF
  let loc := if c < 256 then Loc.ofChan c else {}
  (s.raise fault { loc := loc, detail := [n] }).tick K.POOL_COUNTERS_BAD_FREES 1

/-- The buffer's record changed; it returns once it is freed and no share is left (R234). -/
def State.settleBuf (s : State) (n : Nat) (b : Buf) : State :=
  if b.freed && b.sharers.isEmpty then s.returnBuf n
  else { s with pool := { s.pool with bufs := Store.put s.pool.bufs n b } }

/-- The final owner frees a buffer (R234, R235). -/
def State.freeBuf (s : State) (n owner : Nat) : State :=
  match Store.find? s.pool.bufs n with
  | none => s.badFree F.BPM_DOUBLE_FREE n
  | some b =>
    if b.freed then s.badFree F.BPM_DOUBLE_FREE n
    else if b.owner ≠ owner then s.badFree F.BPM_WRONG_OWNER n
    else s.settleBuf n { b with freed := true }

/-- A sharer releases its share (R234, R235). -/
def State.releaseBuf (s : State) (n owner : Nat) : State :=
  match Store.find? s.pool.bufs n with
  | none => s.badFree F.BPM_DOUBLE_FREE n
  | some b =>
    if b.sharers.isEmpty then s.badFree F.BPM_DOUBLE_FREE n
    else if !b.sharers.contains owner then s.badFree F.BPM_WRONG_OWNER n
    else (s.tick K.POOL_COUNTERS_RELEASES 1).settleBuf n { b with sharers := b.sharers.erase owner }

/-- A destination is done with a buffer: the final owner frees it, a sharer releases its share. -/
def State.doneBuf (s : State) (n owner : Nat) : State :=
  match Store.find? s.pool.bufs n with
  | some b => if b.owner = owner then s.freeBuf n owner else s.releaseBuf n owner
  | none => s

/-- At emission each buffer of a chunk is shared among its destinations (R233): `dests` holds their OWNER codes, the final
owner first. -/
def State.handOver (s : State) (bufs dests : List Nat) : State :=
  s.each bufs (fun s n =>
    match Store.find? s.pool.bufs n, dests with
    | some b, d :: r => { s with pool := { s.pool with
        bufs := Store.put s.pool.bufs n { b with owner := d, sharers := r } } }
    | _, _ => s)

/-- Bytes in use of each of a chunk's buffers. -/
def State.fillBufs (s : State) (bufs : List Nat) (bytes : Nat) : State :=
  { s with pool := { s.pool with
      bufs := Store.map s.pool.bufs (fun k b =>
        if bufs.contains k then
          { b with bytes := min s.pool.bufBytes (bytes - s.pool.bufBytes * bufs.findIdx (· == k)) }
        else b) } }

/-- ABORT and a function-level reset free the channel's buffers owned by its engines, its IN-ring data and its decoder, and
withdraw its waiting requests (R236). -/
def State.freeChanBufs (s : State) (chan : Nat) : State :=
  let s := { s with pool := { s.pool with waiters := s.pool.waiters.filter (·.chan ≠ chan) } }
  s.each ((s.pool.bufs.filter (fun e => e.2.chan == chan && 1 ≤ e.2.owner && e.2.owner ≤ 3 && !e.2.freed)).map Prod.fst)
    (fun s n => match Store.find? s.pool.bufs n with
      | some b => s.freeBuf n b.owner
      | none => s)

/-- BUFFERS_HELD: pool buffers charged to a channel, from allocation until return. -/
def State.buffersHeld (s : State) (chan : Nat) : Nat := (s.pool.bufs.filter (fun e => e.2.chan == chan)).length

/-- A row of the buffer state table (Table 10-4). -/
def State.bufRow (s : State) (n : Nat) : Nat :=
  match Store.find? s.pool.bufs n with
  | none => 0x1FF * 2 ^ 50
  | some b =>
    2 ^ 63 + (if b.freed then 2 ^ 62 else 0) + b.sharers.length % 8 * 2 ^ 59 + b.chan * 2 ^ 50 + b.use * 2 ^ 46 +
      b.owner * 2 ^ 43 + b.bytes % 2 ^ 19

/-- Buffer size by code (Table 10-1). -/
def bufSizeOf (code : Nat) : Nat := 4096 * 4 ^ code

/-- The pool created at reset in the bytes of DRAM left after the regions (R231). A count above 256 GiB or above what fits
is lowered, and POOL_REDUCED raised. -/
def State.createPool (s : State) (room : Nat) : State :=
  let size := bufSizeOf (s.v K.POOL_CONFIG_BUF_SIZE)
  let want := s.v K.POOL_CONFIG_BUF_COUNT
  let n := min want (min (2 ^ 38 / size) (room / size))
  let s := { s with pool := { bufBytes := size, total := n, minFree := n } }
  if n < want then s.raise F.POOL_REDUCED { detail := [n] } else s

/-! ### Frame buffers -/

/-- Any of the six marks. -/
def FrameBuf.marked (b : FrameBuf) : Bool :=
  b.shortRef || b.longRef || b.outHold || b.verifyHold || b.exportHold || b.haloHold

/-- A frame buffer's record. -/
def State.fb? (s : State) (n : Nat) : Option FrameBuf := Store.find? s.fbs n

/-- VERIFY_HOLD clears once the verify of the picture and of every picture referring to it is complete (Table 10-7): none is
still to come, and no later picture can refer to the buffer. -/
def FrameBuf.verifySettled (b : FrameBuf) : FrameBuf :=
  { b with verifyHold := b.verifyHold && (b.shortRef || b.longRef || !b.verifyLeft.isEmpty) }

/-- Sets a frame buffer's record. An orphan whose last mark clears gives its granules back (R247). -/
def State.setFb (s : State) (n : Nat) (b : FrameBuf) : State :=
  let b := b.verifySettled
  if b.chan.isNone && !b.marked then { s with fbs := Store.erase s.fbs n }
  else { s with fbs := Store.put s.fbs n b }

/-- A change of one frame buffer's marks (R244). -/
def State.modFb (s : State) (n : Nat) (f : FrameBuf → FrameBuf) : State :=
  match s.fb? n with
  | some b => s.setFb n (f b)
  | none => s

/-- Granules of the region, and those held by no frame buffer. -/
def State.granulesTotal (s : State) : Nat :=
  let placed := s.dram.regions.any (fun g => decide (g.2 ≠ 0))
  if placed then (s.dram.regions.getD 3 (0, 0)).2 / 2097152 else s.v K.REF_CONFIG_REGION_MIB / 2
def State.granulesFree (s : State) : Nat :=
  s.granulesTotal - ((List.map (fun e => e.2.granules) s.fbs).sum)

/-- The frame buffers of a channel. -/
def State.fbsOf (s : State) (chan : Nat) : List (Nat × FrameBuf) := s.fbs.filter (fun e => e.2.chan == some chan)

/-- Frame buffers taken for a channel at OPEN (R239). -/
def State.takeFbs (s : State) (chan count granules : Nat) : State :=
  s.each (List.range count) (fun s _ =>
    let n := kthMissing (List.map Prod.fst s.fbs) (Config.frameBufferChoice s.free % (4096 - s.fbs.length))
    ({ s with fbs := Store.put s.fbs n { chan := some chan, of_ := chan, granules := granules } }).draws)

/-- The frame buffer of a channel, or an orphan exported under it, that holds a picture count. -/
def FrameBuf.holds (b : FrameBuf) (pic : Nat) : Bool :=
  match b.pic with
  | some (p, n) => p ≤ pic && pic < p + n
  | none => false

/-- A buffer holds a picture named by the low 32 bits of its count, as in RONOX bodies (Table 12-2). -/
def FrameBuf.holds32 (b : FrameBuf) (pic : Nat) : Bool :=
  match b.pic with
  | some (p, n) => (pic + 2 ^ 32 - p % 2 ^ 32) % 2 ^ 32 < n
  | none => false

/-- An UNUSED frame buffer of a channel. -/
def State.unusedFb (s : State) (chan : Nat) : Option Nat :=
  ((s.fbsOf chan).find? (fun e => !e.2.marked)).map Prod.fst

/-- A picture begins to wait for an UNUSED frame buffer; the first such wait after a picture started without one is raised
(R245). -/
def State.awaitFb (s : State) (chan pic : Nat) : State :=
  let s' := s.modChan chan (fun c => { c with fbWait := some s.time, starved := true })
  if (s.chan chan).starved then s' else s'.raise F.REF_POOL_STARVED { loc := Loc.ofPic chan pic }

/-- A picture starts: its wait is over. -/
def Chan.fbFound (c : Chan) : Chan := { c with fbWait := none, starved := c.starved && c.fbWait.isSome }

/-- The frame buffer of a channel that holds a picture. -/
def State.fbOfPic (s : State) (chan pic : Nat) : Option Nat :=
  ((s.fbsOf chan).find? (fun e => e.2.holds pic)).map Prod.fst

/-- At close or ABORT a channel's frame buffers lose every mark but EXPORT_HOLD and VERIFY_HOLD; those still marked become
orphans, the others go back to the region (R247). -/
def State.closeFbs (s : State) (chan : Nat) : State :=
  s.each (s.fbsOf chan) (fun s e =>
    s.setFb e.1 { e.2 with
      chan := none, shortRef := false, longRef := false, outHold := false, haloHold := false, haloPeers := 0 })

/-- EXPORT of the frame buffer of a picture (R246). DEDUCED, log entry 128. -/
def State.exportFb (s : State) (r : Requester) (chan pic : Nat) : Except Abort State :=
  match (s.fbsOf chan).find? (fun e => e.2.holds pic) with
  | none => .error A.value
  | some (n, b) =>
    let held := ((s.fbsOf chan).filter (fun e => e.2.exportHold)).length
    if b.exportHold || s.cv chan K.CH_REFS_FB_EXTRA ≤ held + 1 then .error A.value
    else
      let s := { s with fbs := Store.map s.fbs (fun _ b =>
        if b.exportedTo = some r.key then { b with exportedTo := none } else b) }
      .ok ((s.modFb n (fun b => { b with exportHold := true, exportedTo := some r.key })).setRo K.REF_EXPORT_FB n)

/-- RETURN of the buffer exported under a channel and picture, orphans included (R246). -/
def State.returnFb (s : State) (chan pic : Nat) : Except Abort State :=
  match List.find? (fun e => e.2.of_ == chan && e.2.holds pic && e.2.exportHold) s.fbs with
  | none => .error A.value
  | some (n, _) =>
    .ok ((s.modFb n (fun b => { b with exportHold := false, exportedTo := none })).setRo K.REF_EXPORT_FB n)

/-- A function-level reset of F000 clears every EXPORT_HOLD (R247). -/
def State.clearExports (s : State) : State :=
  s.each (List.map Prod.fst s.fbs) (fun s n =>
    s.modFb n (fun b => { b with exportHold := false, exportedTo := none }))

/-- A peer's HALO_PEERS bit clears; with the last one HALO_HOLD clears (Table 10-7). -/
def FrameBuf.dropPeer (b : FrameBuf) (d : Nat) : FrameBuf :=
  let p := setBit b.haloPeers d false
  { b with haloPeers := p, haloHold := b.haloHold && p ≠ 0 }

/-- The verify of a picture is complete: it leaves each buffer's list, and an emptied list clears VERIFY_HOLD. -/
def State.verifyDone (s : State) (chan pic : Nat) : State :=
  s.each (List.map Prod.fst s.fbs) (fun s n =>
    s.modFb n (fun b =>
      if b.of_ = chan && b.verifyLeft.contains pic then
        { b with verifyLeft := b.verifyLeft.filter (· ≠ pic) }
      else b))

/-- A row of the reference pool table (Table 10-9). -/
def State.fbRow (s : State) (n : Nat) : Nat :=
  match s.fb? n with
  | none => 0x1FF * 2 ^ 95
  | some b =>
    b.launch * 2 ^ 192 + (b.pic.map Prod.fst).getD 0 % 2 ^ 32 * 2 ^ 160 + b.compBytes % 2 ^ 32 * 2 ^ 128 +
      b.granules % 2 ^ 16 * 2 ^ 112 + b.haloPeers % 256 * 2 ^ 104 + b.chan.getD 0x1FF * 2 ^ 95 +
      (if b.shortRef then 2 ^ 89 else 0) + (if b.longRef then 2 ^ 90 else 0) + (if b.outHold then 2 ^ 91 else 0) +
      (if b.verifyHold then 2 ^ 92 else 0) + (if b.exportHold then 2 ^ 93 else 0) +
      (if b.haloHold then 2 ^ 94 else 0)

/-- The export view of a function: the exported buffer's pictures in phase order, decompressed (R249). -/
def State.exportView (s : State) (r : Requester) : List Byte :=
  match List.find? (fun e => e.2.exportedTo == some r.key) s.fbs with
  | some (_, b) => b.recon.flatMap Prod.snd
  | none => []

/-! ### Commands -/

/-- The channel does work: OPEN or DRAINING. -/
def Chan.working (c : Chan) : Bool := c.state = .open_ || c.state = .draining

/-- BUFFER_ALLOC (R232). -/
def execBufferAlloc (t : Time) (ch use ee : Nat) (s : State) : Out :=
  inRange "CH" ch 256 <| inRange "EE" ee 56 <| inRange "USE" use 6 <|
    live t s (fun s =>
      if s.fatal || !(s.chan ch).working || use = 0 then s else s.requestBuf ch use (if use = 1 then ee else 0))

/-- BUFFER_FREE (R234). DEDUCED, log entry 126. -/
def execBufferFree (t : Time) (buf owner : Nat) (s : State) : Out :=
  inRange "BUF" buf (2 ^ 26) <| live t s (fun s => s.freeBuf buf owner)

/-- BUFFER_RELEASE (R234). -/
def execBufferRelease (t : Time) (buf owner : Nat) (s : State) : Out :=
  inRange "BUF" buf (2 ^ 26) <| live t s (fun s => s.releaseBuf buf owner)

end Sys2Proof.Machine
end

