-- ==== Sys2Proof/Machine/TimeBase.lean ====
section
/-! DEFINITION. The time base, PTP, 1PPS, LTC, SYNC_IO and the record inputs (R250 to R257, R266 to R276). -/

namespace Sys2Proof.Machine

/-! ### Roles -/

/-- Time master of the array: its coordinator (R293). -/
def State.timeMaster (s : State) : Bool := s.inArray && s.array.coordinator == s.dev

/-- Array follower: EFFECTIVE_SOURCE is SYNC_IO. -/
def State.follower (s : State) : Bool := s.inArray && s.array.coordinator ≠ s.dev

/-- EFFECTIVE_SOURCE (Table 11-1). -/
def State.source (s : State) : Nat := if s.follower then 3 else s.v K.TIME_BASE_SOURCE

/-- SYNC_ROLE (Table 11-8). -/
def State.syncRole (s : State) : Nat := if s.timeMaster then 1 else if s.follower then 2 else 0

/-- A channel is open or draining. -/
def State.anyOpen (s : State) : Bool := s.chans.any (fun e => e.2.state = .open_ || e.2.state = .draining)

/-! ### Measurements -/

/-- A step of TIME_NOW (R254): PERIODIC launches are planned anew from it (R260). -/
def State.stepTo (s : State) (t : Time) : State :=
  let size : Int := (t : Int) - s.time
  (({ s with time := t, chans := Store.map s.chans (fun _ c => { c with planFrom := t }) }).bump K.TIME_BASE_STEPS 1).setRo K.TIME_BASE_LAST_STEP_NS (ofSigned 64 size)

/-- STEP_POLICY permits a step now. -/
def State.stepAllowed (s : State) : Bool := s.v K.TIME_BASE_STEP_POLICY = 1 || !s.anyOpen

/-- A frequency correction, from −200 to 200 ppm in Q16.16. -/
def clampPpm (x : Int) : Int := max (-13107200) (min 13107200 x)

/-- A frequency correction is applied; what ended more than 64 s ago is forgotten. -/
def TimeBase.correct (tb : TimeBase) (now : Time) (f : Int) : TimeBase :=
  let recent := tb.freqLog.takeWhile (fun e => now - 64000000000 < e.1)
  let older := (tb.freqLog.drop recent.length).take 1
  { tb with freq := f, freqLog := (now, f) :: (recent ++ older) }

/-- Sum of correction × time from an instant to another, over a log with the newest first. -/
def freqSum (from_ until_ : Time) : List (Time × Int) → Int
  | [] => 0
  | (t, f) :: r =>
    ((until_ - max t from_ : Nat) : Int) * f + (if t ≤ from_ then 0 else freqSum from_ (min until_ t) r)

/-- The mean frequency correction of the last 64 s (R251). DEDUCED, log entry 250. -/
def TimeBase.meanFreq (tb : TimeBase) (now : Time) : Int :=
  if now = 0 then tb.freq else freqSum (now - 64000000000) now tb.freqLog / (min now 64000000000 : Nat)

/-- Slewing: the servo changes the frequency correction. The manual names no servo, so the correction is a free value. DEDUCED, log entry 131. -/
def State.slew (s : State) : State :=
  ({ s with tb := s.tb.correct s.time (clampPpm (Config.servo s.free)) }).draws

/-- Lock and unlock by runs of measurements (R253). -/
def TimeBase.run (tb : TimeBase) (off : Int) (lockNs : Nat) : TimeBase :=
  let within := off.natAbs ≤ lockNs
  let beyond := 4 * lockNs < off.natAbs
  let inRun := if within then tb.inRun + 1 else 0
  let outRun := if beyond then tb.outRun + 1 else 0
  if tb.state = .acquiring ∧ 16 ≤ inRun then { tb with state := .locked, inRun := 0, outRun := 0, deferred := false }
  else if tb.state = .locked ∧ 4 ≤ outRun then { tb with state := .acquiring, inRun := 0, outRun := 0 }
  else { tb with inRun := inRun, outRun := outRun }

/-- A reference delivers a measurement: FREERUN and HOLDOVER become ACQUIRING, which ends the conditions they hold. -/
def State.referencePresent (s : State) : State :=
  match s.tb.state with
  | .freerun | .holdover =>
    let s := { s with tb := { s.tb with state := .acquiring, inRun := 0, outRun := 0, deferred := false } }
    (s.endFault F.TIME_REF_LOST 0).endFault F.TIME_FREERUN 0
  | _ => s

/-- An offset measurement (R251, R253, R254). -/
def State.measure (s : State) (off : Int) : State :=
  let s := s.referencePresent
  let s := { s with tb := { s.tb with offset := off, lastMeas := s.time } }
  let s := { s with tb := s.tb.run off (s.v K.PTP_CONFIG_LOCK_NS) }
  if off.natAbs ≤ s.v K.TIME_BASE_STEP_THRESH_NS then s.slew
  else if s.stepAllowed then s.stepTo ((s.time : Int) - off).toNat
  else
    let s := s.slew
    if s.tb.deferred then s
    else State.raise { s with tb := { s.tb with deferred := true } } F.TIME_STEP_DEFERRED {}

/-- Loss of the reference: HOLDOVER with the mean correction of the last 64 s (R251). -/
def State.referenceLost (s : State) : State :=
  match s.tb.state with
  | .locked | .acquiring =>
    State.raise { s with tb := { s.tb.correct s.time (s.tb.meanFreq s.time) with
      state := .holdover, holdStart := s.time } } F.TIME_REF_LOST {}
  | _ => s

/-- HOLDOVER_EST_NS: whole seconds in holdover × TCXO_PPB. -/
def State.holdoverEst (s : State) : Nat :=
  if s.tb.state = .holdover then s.since s.tb.holdStart / 1000000000 * s.v K.TIME_BASE_TCXO_PPB else 0

/-! ### PTP (R252) -/

/-- The master-to-slave difference of a Sync is known: the offset is measured once a path delay is. -/
def State.syncMeasured (s : State) (d : Int) : State :=
  let s := { s with tb := { s.tb with ms := some d, sync := none } }
  match s.tb.path with
  | some p => (s.setRo K.PTP_CONFIG_PORT_STATE 9).measure (d - p)
  | none => s

/-- PTP_SYNC. -/
def execPtpSync (t : Time) (seq : Nat) (origin rx : Time) (twoStep : Bool) (s : State) : Out :=
  live t s (fun s =>
    if s.source ≠ 1 then s
    else if twoStep then { s with tb := { s.tb with sync := some (seq, rx) } }
    else s.syncMeasured ((rx : Int) - origin))

/-- PTP_FOLLOW_UP. -/
def execPtpFollowUp (t : Time) (seq : Nat) (origin : Time) (s : State) : Out :=
  live t s (fun s =>
    match s.tb.sync with
    | some (q, rx) => if s.source = 1 ∧ q = seq then s.syncMeasured ((rx : Int) - origin) else s
    | none => s)

/-- PTP_DELAY_REQ_SEND: a Delay_Req leaves, multicast or unicast, timestamped. -/
def execPtpDelayReqSend (t : Time) (s : State) : Out :=
  live t s (fun s =>
    if s.source ≠ 1 then s
    else
      ({ s with tb := { s.tb with delayReq := some s.time, lastDelayReq := s.time } }).emit
        (.ptpDelayReq (s.v K.PTP_CONFIG_UNICAST_DELAY = 1)))

/-- PTP_DELAY_RESP: the mean path delay is half the sum of both differences. -/
def execPtpDelayResp (t : Time) (rx : Time) (s : State) : Out :=
  live t s (fun s =>
    match s.tb.delayReq, s.tb.ms with
    | some q, some d =>
      if s.source ≠ 1 then s
      else
        let p := (d + ((rx : Int) - q)) / 2
        let s := { s with tb := { s.tb with delayReq := none, path := some p } }
        let s := s.setRo K.PTP_CONFIG_MEAN_PATH_NS (p.toNat % 2 ^ 32)
        (s.setRo K.PTP_CONFIG_PORT_STATE 9).measure (d - p)
    | some _, none => { s with tb := { s.tb with delayReq := none } }
    | _, _ => s)

/-- PTP_ANNOUNCE: the master the BMCA prefers names the grandmaster, and UTC_OFFSET is overwritten. -/
def execPtpAnnounce (t : Time) (gm steps : Nat) (utcOffset : Int) (best : Bool) (s : State) : Out :=
  live t s (fun s =>
    if s.source ≠ 1 || !best then s
    else
      let s := { s with tb := { s.tb with lastAnnounce := s.time } }
      let s := (s.setRo K.PTP_CONFIG_GM_IDENTITY gm).setRo K.PTP_CONFIG_STEPS_REMOVED (steps % 65536)
      let s := s.setImm K.TIME_BASE_UTC_OFFSET (ofSigned 16 utcOffset)
      if s.ro K.PTP_CONFIG_PORT_STATE = 9 then s else s.setRo K.PTP_CONFIG_PORT_STATE 8)

/-- PTP_ANNOUNCE_TIMEOUT: no Announce message for ANNOUNCE_TIMEOUT of the master's intervals (R251). -/
def execPtpAnnounceTimeout (t : Time) (s : State) : Out :=
  live t s (fun s =>
    if s.source ≠ 1 || decide (s.time < s.tb.lastAnnounce + s.v K.PTP_CONFIG_ANNOUNCE_TIMEOUT * Config.announceInterval)
    then s
    else
      let s := { s with tb := { s.tb with sync := none, ms := none, path := none, delayReq := none } }
      (s.setRo K.PTP_CONFIG_PORT_STATE 4).referenceLost)

/-- HOLDOVER_TIMEOUT: HOLDOVER becomes FREERUN after HOLDOVER_MAX_S (R251). -/
def execHoldoverTimeout (t : Time) (s : State) : Out :=
  live t s (fun s =>
    let m := s.v K.TIME_BASE_HOLDOVER_MAX_S
    if s.tb.state = .holdover ∧ m ≠ 0 ∧ s.tb.holdStart + m * 1000000000 ≤ s.time then
      State.raise { s with tb := { s.tb with state := .freerun } } F.TIME_FREERUN {}
    else s)

/-- A TOD_SET write (R254, R255). -/
def State.todSet (s : State) (v : Nat) : Except Abort State :=
  match s.v K.TIME_BASE_SOURCE with
  | 1 => .error A.value
  | 0 => if s.stepAllowed then .ok (s.stepTo v) else .error A.state
  | _ => if v % 1000000000 = 0 then .ok { s with tb := { s.tb with tod := some v } } else .error A.value

/-! ### 1PPS and LTC (R255, R256) -/

/-- The whole second nearest to an instant, and how far the instant lies after it. -/
def nearest (unit t : Nat) : Nat := (t + unit / 2) / unit * unit
def distTo (unit t : Nat) : Int := (t : Int) - nearest unit t

/-- PPS_IN_EDGE: the selected edge marks a whole TAI second. -/
def execPpsInEdge (t : Time) (falling : Bool) (s : State) : Out :=
  live t s (fun s =>
    if s.source ≠ 2 || falling ≠ (s.v K.PPS_LTC_PPS_IN_EDGE = 1) then s
    else
      let d := distTo 1000000000 s.time
      if s.tb.state = .locked ∧ 100000 < d.natAbs then s
      else
        let off : Int := match s.tb.tod with
          | some e => (s.time : Int) - e
          | none => d
        let s := { s with tb := { s.tb with lastPps := s.time, tod := none, ppsKnown := s.tb.ppsKnown || s.tb.tod.isSome } }
        (s.bump K.PPS_LTC_PPS_IN_EDGES 1).measure off)

/-- PPS_LOSS_TIMEOUT: 3 s without an accepted edge (R251). -/
def execPpsLossTimeout (t : Time) (s : State) : Out :=
  live t s (fun s => if s.source = 2 ∧ s.tb.lastPps + 3000000000 ≤ s.time then s.referenceLost else s)

/-- PPS_OUT rises at each whole TAI second plus PPS_OUT_OFFSET_NS while PPS_OUT_EN is set, and stays high for
PPS_OUT_WIDTH_MS. -/
def execPpsOutPulse (t : Time) (s : State) : Out :=
  live t s (fun s =>
    if s.v K.PPS_LTC_PPS_OUT_EN = 1 ∧ ((s.time : Int) - s.vi K.PPS_LTC_PPS_OUT_OFFSET_NS) % 1000000000 = 0 then
      (State.emit { s with
        tb := { s.tb with lastPpsOut := s.time }
        pins := { s.pins with ppsHigh := s.time + s.v K.PPS_LTC_PPS_OUT_WIDTH_MS * 1000000 } }
        (.ppsOut s.time (s.v K.PPS_LTC_PPS_OUT_WIDTH_MS)))
    else s)

/-- LTC_RATE code, and the rate as a fraction (Table 11-4). -/
def ltcCode : LtcRate → Nat
  | .fps24 => 1 | .fps25 => 2 | .fps2997df => 3 | .fps30 => 4
def ltcFrac : Nat → Nat × Nat
  | 1 => (24, 1) | 2 => (25, 1) | 3 => (30000, 1001) | _ => (30, 1)

/-- The code is the four BCD bytes of Table 7-7, hours at the top: bit 6 of the frames byte is set for drop-frame and clear otherwise (R256). -/
def ltcPack (rate : LtcRate) (code : W32) : W32 := w32 (setBit code.toNat 6 (rate = .fps2997df))

/-- LTC_CODEWORD: a codeword with a wrong sync word is discarded. -/
def execLtcCodeword (t : Time) (syncOk : Bool) (rate : LtcRate) (code : W32) (start : Time) (s : State) : Out :=
  live t s (fun s =>
    if syncOk then
      let c := ltcPack rate code
      let s := { s with tb := { s.tb with ltc := (start, c, ltcCode rate) :: s.tb.ltc } }
      ((s.setRo K.PPS_LTC_LTC_RATE (ltcCode rate)).setRo K.PPS_LTC_LTC_LAST c.toNat).setRo K.PPS_LTC_LTC_LAST_TIME start
    else s)

/-- LTC_TIMEOUT: 4 LTC frame periods without a valid codeword. -/
def execLtcTimeout (t : Time) (s : State) : Out :=
  live t s (fun s =>
    match s.tb.ltc with
    | (start, _, r) :: _ =>
      let (n, d) := ltcFrac r
      if 4 * d * 1000000000 ≤ (s.time - start) * n then s.setRo K.PPS_LTC_LTC_RATE 0 else s
    | [] => s)

/-- The time code of an instant (R256). DEDUCED, log entry 132. -/
def State.timeCode (s : State) (t : Time) : Nat :=
  match s.tb.ltc.find? (fun e => e.1 ≤ t) with
  | some (start, c, r) =>
    let (n, d) := ltcFrac r
    if (t - start) * n < 2 * d * 1000000000 then c.toNat else 0xFFFFFFFF
  | none => 0xFFFFFFFF

/-! ### Bugle messages and SYNC_IO (R268, R269) -/

/-- A Bugle message in the layout of Table 11-7. -/
def bugleBytes (kind chan flags seq time pic agree edge : Nat) : List Byte :=
  leBytes 1 kind ++ leBytes 1 chan ++ leBytes 1 flags ++ leBytes 1 0 ++ leBytes 4 seq ++ leBytes 8 time ++
    leBytes 4 pic ++ leBytes 4 0 ++ leBytes 8 agree ++ leBytes 8 edge ++ leBytes 8 0

/-- Sends one Bugle message to every peer. -/
def State.bugleSend (s : State) (kind chan flags time pic agree edge : Nat) : State :=
  let seq := s.tb.bugleSeq
  let s := { s with tb := { s.tb with bugleSeq := seq + 1 } }
  s.ronoxSend 0x14 1 0 0xFF (bugleBytes kind chan flags seq.toNat time pic agree edge)

/-- The first number from `n` on, modulo 2^32, that does not stand in a list. -/
def firstMissing (l : List Nat) (fuel n : Nat) : Nat :=
  match fuel with
  | 0 => n
  | k + 1 => if l.contains n then firstMissing l k ((n + 1) % 2 ^ 32) else n

/-- A message that has not yet been applied, and its BUGLE_SEQ noted (R267). -/
def State.bugleFresh (s : State) (from_ seq : Nat) : Option State :=
  let seen := Store.get s.tb.applied [] from_
  if seen.contains seq then none
  else
    let l := (seq :: seen).take 1024
    some { s with tb := { s.tb with
      applied := Store.put s.tb.applied from_ l
      bugleNext := Store.put s.tb.bugleNext from_ (firstMissing l 1024 ((Store.find? s.tb.bugleNext from_).getD seq)) } }

/-- TIME_OF_DAY_SEND: the time master names the next whole-second edge. -/
def execTimeOfDaySend (t : Time) (s : State) : Out :=
  live t s (fun s =>
    if s.timeMaster then
      let edge := (s.time / 1000000000 + 1) * 1000000000
      (State.bugleSend { s with tb := { s.tb with lastTodSend := s.time } } 3 0 0 edge 0 0 0)
    else s)

/-- BUGLE_UNKNOWN_KIND: discarded and counted as a flit error (R268). -/
def execBugleUnknownKind (t : Time) (port kind : Nat) (s : State) : Out :=
  inRange "Q" port 6 <| live t s (fun s =>
    if 1 ≤ kind ∧ kind ≤ 3 then s else s.tick K.ARRAY_COUNTERS_FLIT_ERRORS 1)

/-- SYNC_IO_DRIVE: the time master drives SYNC_IO low at each whole millisecond of TIME_NOW. -/
def execSyncIoDrive (t : Time) (s : State) : Out :=
  live t s (fun s => if s.timeMaster ∧ s.time % 1000000 = 0 then s.emit .syncIo else s)

/-- SYNC_IO_EDGE: a follower disciplines its time base to the edge (R269, R253). -/
def execSyncIoEdge (t : Time) (s : State) : Out :=
  live t s (fun s =>
    if !s.follower then s
    else
      let at_ := s.time - s.v K.ARRAY_TIME_SYNC_DELAY_NS
      let d := distTo 1000000 at_
      if s.tb.state = .locked ∧ 1000 < d.natAbs then s.bump K.ARRAY_TIME_SYNC_REJECTED 1
      else
        let off : Int := match s.tb.todEdge with
          | some e => if s.tb.state = .locked ∧ (at_ : Int) - e < -500000 then d else (at_ : Int) - e
          | none => d
        let s := { s with tb := { s.tb with lastSync := s.time, todEdge := if off = d then s.tb.todEdge else none } }
        ((s.bump K.ARRAY_TIME_SYNC_EDGES 1).setRo K.ARRAY_TIME_SYNC_LAST_ERR_NS (ofSigned 32 d)).measure off)

/-- SYNC_LOSS_TIMEOUT: 3 ms without an accepted SYNC_IO edge (R251). -/
def execSyncLossTimeout (t : Time) (s : State) : Out :=
  live t s (fun s => if s.follower ∧ s.tb.lastSync + 3000000 ≤ s.time then s.referenceLost else s)

/-! ### Record inputs (R271 to R276) -/

/-- REC_A shows RUN when high, REC_B when low. -/
def RecInput.runA (r : RecInput) : Bool := r.pinA
def RecInput.runB (r : RecInput) : Bool := !r.pinB

/-- Both channels show a state. -/
def RecInput.both (r : RecInput) (run : Bool) : Bool := r.runA = run && r.runB = run

/-- RECORDING: states 2 and 3, and LOCKED with prior state RECORDING. -/
def RecInput.recording (r : RecInput) : Bool := r.state = 2 || r.state = 3 || (r.state = 4 && r.prior)

/-- The first sample that shows a level set at an instant. DEDUCED, log entry 141. -/
def sampleAt (t : Time) : Time := (t + 999) / 1000 * 1000

def State.td (s : State) : Nat := s.v K.REC_INPUT_TD_MS * 1000000

/-- An accepted change (R275). -/
def State.recAccept (s : State) (run : Bool) (agree edge : Time) : State :=
  let s := { s with recIn := { s.recIn with
    state := if run then 2 else 0, rearm := none, changes := (agree, edge, run) :: s.recIn.changes } }
  (s.setRo K.REC_INPUT_LAST_EDGE edge).setRo K.REC_INPUT_LAST_AGREE agree

/-- Enters LOCKED with a prior state; re-arm timing starts at once where both channels show it. -/
def State.recLock (s : State) (prior : Bool) (from_ : Time) : State :=
  let r := { s.recIn with state := 4, prior := prior }
  { s with recIn := { r with rearm := if r.both prior then some (from_, s.td) else none } }

/-- The sample at t1 + Td with one channel still at the new level. -/
def State.recDiscrepancy (s : State) : State :=
  let at_ := s.recIn.t1 + s.recIn.td
  let s := s.recLock (s.recIn.state = 3) at_
  let s := (s.bump K.REC_INPUT_DISCREPANCIES 1).setRo K.REC_INPUT_LAST_DISCREPANCY at_
  s.raise F.REC_DISCREPANCY {}

/-- The recording machine's answer to the levels of one sample (Table 11-9). -/
def State.recSample (s : State) (ts : Time) : State :=
  let r := s.recIn
  match r.state with
  | 0 =>
    if r.both true then s.recAccept true ts ts
    else if r.both false then s
    else { s with recIn := { r with state := 1, t1 := ts, td := s.td } }
  | 1 =>
    if r.both false then ({ s with recIn := { r with state := 0 } }).bump K.REC_INPUT_GLITCHES 1
    else if r.t1 + r.td ≤ ts then s.recDiscrepancy
    else if r.both true then s.recAccept true ts r.t1
    else s
  | 2 =>
    if r.both false then s.recAccept false ts ts
    else if r.both true then s
    else { s with recIn := { r with state := 3, t1 := ts, td := s.td } }
  | 3 =>
    if r.both true then ({ s with recIn := { r with state := 2 } }).bump K.REC_INPUT_GLITCHES 1
    else if r.t1 + r.td ≤ ts then s.recDiscrepancy
    else if r.both false then s.recAccept false ts r.t1
    else s
  | _ =>
    if r.both r.prior then
      if r.rearm.isSome then s else { s with recIn := { r with rearm := some (ts, s.td) } }
    else { s with recIn := { r with rearm := none } }

/-- The samples up to an instant show the present levels: a disagreement that has lasted Td locks (Table 11-9). -/
def State.recExpire (s : State) (now : Time) : State :=
  if (s.recIn.state = 1 ∨ s.recIn.state = 3) ∧ s.recIn.t1 + s.recIn.td ≤ now then s.recDiscrepancy else s

/-- Both channels have shown the prior state for Td: the machine re-arms, which ends REC_DISCREPANCY. -/
def State.recRearm (s : State) (now : Time) : State :=
  match s.recIn.state, s.recIn.rearm with
  | 4, some (since, td) =>
    if since + td ≤ now then
      State.endFault { s with recIn := { s.recIn with state := if s.recIn.prior then 2 else 0, rearm := none } }
        F.REC_DISCREPANCY 0
    else s
  | _, _ => s

/-- The pins are sampled and count: REC_SOURCE 0, and no array follower (R273, R276). -/
def State.pinsCount (s : State) : Bool := s.v K.REC_INPUT_REC_SOURCE = 0 && !s.follower

/-- REC_INPUT_CHANGE (R271). -/
def execRecInputChange (t : Time) (a b : Bool) (s : State) : Out :=
  live t s (fun s =>
    let ts := sampleAt s.time
    let s := if s.pinsCount then (s.recExpire (ts - 1)).recRearm (ts - 1) else s
    let s := { s with recIn := { s.recIn with pinA := a, pinB := b } }
    if s.pinsCount then s.recSample ts else s)

/-- REC_TD_EXPIRY (R271). -/
def execRecTdExpiry (t : Time) (s : State) : Out :=
  live t s (fun s => if s.pinsCount then s.recExpire s.time else s)

/-- REC_REARM (R271). -/
def execRecRearm (t : Time) (s : State) : Out :=
  live t s (fun s => if s.pinsCount then s.recRearm s.time else s)

/-- A COMMAND write (R273). DEDUCED, log entry 142. -/
def State.recCommand (s : State) (v : Nat) : Except Abort State :=
  if s.v K.REC_INPUT_REC_SOURCE = 0 ∨ v = 0 ∨ 2 < v then .error A.value
  else if s.follower ∨ s.recIn.recording = (v == 1) then .ok s
  else .ok (s.recAccept (v == 1) s.time s.time)

/-- An accepted REC_SOURCE write: a change to 0 enters LOCKED with the present state as prior (R273). -/
def State.recSourceChanged (s : State) (old : Nat) : State :=
  if old ≠ 0 ∧ s.v K.REC_INPUT_REC_SOURCE = 0 then s.recLock s.recIn.recording s.time else s

/-- FINAL_TIME: the latest instant up to which no further change can take effect: the last one before the next sample, or
before the present one where COMMAND may still follow in it (R276). -/
def State.finalTime (s : State) : Time :=
  if s.v K.REC_INPUT_REC_SOURCE = 0 then sampleAt s.time - 1 else s.time - 1

/-- REC_STATUS_SEND (R276). -/
def execRecStatusSend (t : Time) (s : State) : Out :=
  live t s (fun s =>
    if s.timeMaster then
      let s := { s with tb := { s.tb with lastRecSend := s.time } }
      let (agree, edge) := match s.recIn.changes with
        | (a, e, _) :: _ => (a, e)
        | [] => (0, 0)
      s.bugleSend 2 0 (if s.recIn.recording then 1 else 0) s.finalTime 0 agree edge
    else s)

/-- The gate of a channel at a launch time: the latest accepted change whose agreement instant is at or before it is a
start (R274). -/
def RecInput.gateOpen (r : RecInput) (t : Time) : Bool :=
  match r.changes.find? (fun c => c.1 ≤ t) with
  | some (_, _, run) => run
  | none => false

end Sys2Proof.Machine
end

