-- ==== Sys2Proof/Machine/Rings.lean ====
section
/-! DEFINITION. Rings: the queue table, doorbells, descriptors and completions (R99 to R110), and the transaction trackers
(R112). -/

namespace Sys2Proof.Machine

/-! ### Transaction trackers -/

/-- Class code of a transaction, and its reserve (Table 4-15). -/
def txnCode : TxnClass → Nat
  | .dram => 0 | .host => 1 | .mag => 2 | .net => 3 | .link => 4
def txnReserve (c : Nat) : Nat := if c = 0 then 32768 else if c = 1 then 16384 else 8192

def Txn.used (x : Txn) (c : Nat) : Nat := Store.get x.inUse 0 c

/-- Shared trackers taken: what each class holds beyond its reserve. -/
def Txn.sharedUsed (x : Txn) : Nat := ((List.range 5).map (fun c => x.used c - txnReserve c)).sum

/-- Transactions in flight in all. -/
def Txn.totalUsed (x : Txn) : Nat := ((List.range 5).map x.used).sum

/-- A tracker is free for a class, and a function stays within 1,024 host requests and its PCIe tags (R112). -/
def Txn.room (x : Txn) (c f : Nat) : Bool :=
  let n := Store.get x.inUse 0 (16 + f)
  (x.used c < txnReserve c || x.sharedUsed < 57344) && (c ≠ 1 || (n < 1024 && n < Config.extraTags f + 32))

/-- The classes whose oldest waiting request has room. -/
def Txn.heads (x : Txn) : List (Nat × Nat × Time) :=
  (List.range 5).filterMap (fun k => match Store.get x.waiting [] k with
    | (g, since) :: _ => if x.room k g then some (k, g, since) else none
    | [] => none)

/-- The one of them that has waited longest. -/
def oldestHead (l : List (Nat × Nat × Time)) : Option (Nat × Nat × Time) :=
  l.foldl (fun m x => match m with
    | some y => if x.2.2 < y.2.2 then some x else m
    | none => some x) none

/-- A tracker taken. -/
def Txn.take (x : Txn) (c f : Nat) : Txn :=
  let u := Store.put x.inUse c (x.used c + 1)
  let u := if c = 1 then Store.put u (16 + f) (Store.get x.inUse 0 (16 + f) + 1) else u
  let y := { x with inUse := u }
  { y with peak := max y.peak y.totalUsed }

/-- A request asks for a tracker: it uses one given to it, takes a free one, or waits (R112). DESIGN CHOICE, log entry 34. -/
def State.takeTxn (s : State) (c f : Nat) : Option State × State :=
  let x := s.txn
  if x.given.contains (c, f) then
    let s' := { s with txn := { x with given := x.given.erase (c, f) } }
    (some s', s')
  else if x.room c f && (Store.get x.waiting [] c).isEmpty then
    let s' := { s with txn := x.take c f }
    (some s', s')
  else
    (none, { s with txn := { x with
      waiting := Store.put x.waiting c (Store.get x.waiting [] c ++ [(f, s.time)]) } })

/-- The waiting request that a freed tracker suits is given it, and its wait is counted: the one that has waited longest, of
any class (R112). DEDUCED, log entries 64 and 232. -/
def State.serveTxn (s : State) : State :=
  let x := s.txn
  match oldestHead x.heads with
  | some (k, g, since) =>
    let y := { (x.take k g) with
      waiting := Store.put x.waiting k ((Store.get x.waiting [] k).drop 1), given := x.given ++ [(k, g)] }
    ({ s with txn := y }).tick K.HOST_COUNTERS_TXN_WAIT_NS (s.since since)
  | none => s

/-- A tracker of a class comes back. -/
def Txn.release (x : Txn) (c f : Nat) : Txn :=
  let u := Store.put x.inUse c (x.used c - 1)
  { x with inUse := if c = 1 then Store.put u (16 + f) (Store.get x.inUse 0 (16 + f) - 1) else u }

/-- TXN_TRACKER_FREED: a transaction of a class ends. -/
def execTxnTrackerFreed (t : Time) (c : TxnClass) (f : Nat) (s : State) : Out :=
  inRange "F" f 256 <| live t s (fun s =>
    if s.txn.used (txnCode c) = 0 then s else State.serveTxn { s with txn := s.txn.release (txnCode c) f })

/-! ### The queue table (R99, R100) -/

/-- STATE code of a ring. -/
def RingState.code : RingState → Nat
  | .disabled => 0 | .enabled => 1 | .error => 2 | .stopping => 3

/-- A row of the queue table as it reads (Table 4-7). -/
def Ring.row (r : Ring) : Nat :=
  r.dbCount.toNat * 2 ^ 224 + r.errCount.toNat * 2 ^ 192 + r.pi.toNat * 2 ^ 160 + r.ci.toNat * 2 ^ 128 +
    r.size * 2 ^ 124 + r.type * 2 ^ 122 + (if r.enable then 2 ^ 121 else 0) + r.state.code * 2 ^ 119 +
    r.errCause * 2 ^ 115 + r.chan * 2 ^ 106 + r.stream * 2 ^ 104 + r.owner.getD 0x1FF * 2 ^ 95 + r.loc * 2 ^ 88 +
    (if r.irqEn then 2 ^ 87 else 0) + r.irqSrc * 2 ^ 75 + r.base.toNat

/-- Another enabled IN ring is bound to the channel, or another enabled OUT ring to the channel and stream. A ring in ERROR
whose ENABLE is 1 counts. DEDUCED, log entry 223. -/
def State.ringClash (s : State) (n : Nat) (r : Ring) : Bool :=
  s.rings.any (fun e => e.1 ≠ n && e.2.enable && e.2.chan == r.chan && e.2.type == r.type &&
    (r.type = 0 || e.2.stream == r.stream))

/-- ERR_CAUSE of the first failing check of Table 4-8 when ENABLE is set. CHAN 0x100 to 0x1FE names no channel, so no
channel of the ring's owner. DESIGN CHOICE, log entry 51. -/
def State.ringCause (s : State) (n : Nat) (r : Ring) : Nat :=
  if r.base.toNat % 4096 ≠ 0 then 1
  else if r.size < 4 then 2
  else if 2 ≤ r.type then 3
  else if r.chan ≠ 0x1FF ∧ (256 ≤ r.chan ∨ r.owner ≠ some (s.chan r.chan).owner) then 4
  else if r.chan ≠ 0x1FF ∧ s.ringClash n r then 5
  else if r.irqSrc = 4095 then 6
  else if r.owner.isNone then 8
  else 0

/-- ENABLE set (R100). A ring in STOPPING first completes what it has fetched. DEDUCED, log entry 211. -/
def State.ringEnable (s : State) (n : Nat) : State :=
  let r := s.ring n
  let cause := s.ringCause n { r with enable := true }
  if r.state = .stopping then s.setRing n { r with enable := true }
  else if cause = 0 then
    s.setRing n { r with
      enable := true, pi := 0, ci := 0, state := .enabled, errCause := 0, fetched := [], chunkDone := 0,
      chunkAborted := none, frame := none }
  else s.setRing n { r with enable := true, state := .error, errCause := cause }

/-- ENABLE cleared (R100): an ENABLED ring stops after its fetched descriptors, a ring in ERROR is DISABLED at once, and its
ERR_CAUSE is 0 again (DESIGN CHOICE, log entry 224). Its signal is withdrawn (R349). -/
def State.ringDisable (s : State) (n : Nat) : State :=
  let r := s.ring n
  let s := match r.state with
    | .enabled => s.setRing n { r with enable := false, state := .stopping }
    | .error => s.setRing n { r with enable := false, state := .disabled, errCause := 0, fetched := [] }
    | _ => s.setRing n { r with enable := false }
  s.withdraw r.irqSrc

/-- The RW fields other than ENABLE of a row. -/
def Ring.withFields (r : Ring) (v : Nat) : Ring :=
  { r with
    size := bits v 127 124, type := bits v 123 122, chan := bits v 114 106, stream := bits v 105 104
    irqEn := bit v 87, irqSrc := bits v 86 75, base := w64 (bits v 63 0) }

/-- A row written whole, read-only fields ignored (R99): a change of a field other than ENABLE is ignored and answered
0x0609_0030 unless STATE is DISABLED and ENABLE is 0. DEDUCED, log entry 52. -/
def State.writeRingRow (s : State) (n v : Nat) : State × Option Abort :=
  let r := s.ring n
  let r' := r.withFields v
  let en := bit v 121
  let blocked := r' ≠ r ∧ ¬(r.state = .disabled ∧ !r.enable)
  let s := if blocked then s else s.setRing n r'
  let s := if en && !r.enable then s.ringEnable n else if !en && r.enable then s.ringDisable n else s
  (s, if blocked then some A.value else none)

/-- Rings that have an owner, and those a function holds. -/
def State.ringsGranted (s : State) : Nat := (s.rings.filter (fun e => e.2.owner.isSome)).length
def State.ringsHeld (s : State) (f : Nat) : Nat := (s.rings.filter (fun e => e.2.owner == some f)).length

/-- A ring by the local number of its owner. -/
def State.ringOf (s : State) (f loc : Nat) : Option Nat :=
  (List.find? (fun e => e.2.owner == some f && e.2.loc == loc) s.rings).map Prod.fst

/-- A GRANT write (R90). -/
def State.grantRing (s : State) (v : Nat) : Except Abort State :=
  let n := bits v 14 0
  let f := bits v 23 16
  let loc := bits v 30 24
  let r := s.ring n
  if bit v 15 then .error A.value
  else if bit v 31 then
    if r.state = .disabled then
      .ok ((s.setRing n { r with owner := none, loc := 0, enable := false }).withdraw r.irqSrc)
    else .error A.value
  else if r.owner.isSome || !s.funcExists f || 128 ≤ s.ringsHeld f || (s.ringOf f loc).isSome then .error A.value
  else .ok (s.setRing n { r with owner := some f, loc := loc })

/-! ### Doorbells (R101, R103) -/

/-- A 4-byte doorbell write. -/
def State.doorbell (s : State) (n : Nat) (v : W32) : State :=
  let r := s.ring n
  let r := { r with dbCount := r.dbCount + 1 }
  let s := s.tick K.HOST_COUNTERS_DOORBELLS 1
  if r.state ≠ .enabled then s.setRing n { r with pi := v }
  else if 2 ^ r.size < (v - r.ci).toNat then
    s.setRing n { r with pi := v, state := .error, errCause := 7 }
  else s.setRing n { r with pi := v }

/-- DOORBELL_WRITE: an 8-byte access, or a doorbell the function does not hold, is ignored. -/
def execDoorbellWrite (t : Time) (f loc : Nat) (data : List Byte) (s : State) : Out :=
  inRange "F" f 256 <| inRange "LOCAL" loc 128 <| live t s (fun s =>
    if s.fatal || data.length ≠ 4 || !s.funcReaches f then s
    else match s.ringOf f loc with
      | some n => s.doorbell n (w32 (leNat data))
      | none => s)

/-! ### Descriptors and completions (R102 to R106) -/

/-- A descriptor from its slot (Table 4-10); Reserved bits are ignored. -/
def decodeDesc (w : BitVec 256) : Desc :=
  let v := w.toNat
  { addr := bits v 255 192, len := bits v 191 168, irq := bit v 162, eof := bit v 161, sof := bit v 160
    tag := w32 (bits v 159 128), time := bits v 127 64 }

/-- Descriptors a doorbell covers that have not been fetched. -/
def Ring.unfetched (r : Ring) : Nat := (r.pi - r.ci).toNat - r.fetched.length

/-- A decode channel that cannot place a picture fetches no further IN descriptors (R214). -/
def State.inPaused (s : State) (r : Ring) : Bool :=
  r.type = 0 && s.cv r.chan K.CH_DECODE_DIRECTION = 1 && (s.chan r.chan).fbWait.isSome

/-- DESCRIPTOR_FETCH: the next slot in order, once a doorbell covers it. DEDUCED, log entry 55. -/
def execDescriptorFetch (t : Time) (ring : Nat) (slot : BitVec 256) (s : State) : Out :=
  inRange "ring" ring 32768 <| live t s (fun s =>
    let r := s.ring ring
    if r.state ≠ .enabled ∨ r.unfetched = 0 ∨ s.inPaused r then s
    else match s.takeTxn 1 (r.owner.getD 0) with
      | (some s, _) => s.setRing ring { r with fetched := r.fetched ++ [decodeDesc slot] }
      | (none, s) => s)

/-- What a completion says beside what its descriptor gives (Table 4-11). -/
structure Done where
  status : Nat := 0
  len : Nat := 0
  depth : Nat := 2
  loc : Nat := 0
  pic : Nat := 0
  time : Time := 0
  skipped : Bool := false
  late : Bool := false
  overrun : Bool := false
  key : Bool := false
  eop : Bool := false
  eoc : Bool := false
  soc : Bool := false
  deriving DecidableEq, Repr

/-- The completion's 256 bits. PHASE is 1 on the first pass after enable and alternates (R105). -/
def completionWord (r : Ring) (d : Desc) (x : Done) : Nat :=
  let b := fun (c : Bool) (k : Nat) => if c then 2 ^ k else 0
  b (r.ci.toNat / 2 ^ r.size % 2 = 0) 255 + x.depth * 2 ^ 252 + x.status * 2 ^ 240 + b x.skipped 238 + b x.late 237 +
    b x.overrun 236 + b x.key 235 + b x.eop 234 + b x.eoc 233 + b x.soc 232 + x.len % 2 ^ 24 * 2 ^ 208 +
    d.tag.toNat * 2 ^ 160 + x.pic % 2 ^ 32 * 2 ^ 128 + x.loc * 2 ^ 64 + x.time

/-- Writes the completion of a ring's oldest fetched descriptor: bytes 0 to 23, then bytes 24 to 31, then the interrupt
(R105). DEDUCED, log entry 123. -/
def State.completeHead (s : State) (n : Nat) (x : Done) : State :=
  let r := s.ring n
  match r.fetched with
  | [] => s
  | d :: rest =>
    let bytes := leBytes 32 (completionWord r d x)
    let at_ := r.base.toNat + 32 * (r.ci.toNat % 2 ^ r.size)
    let bad := x.status ≠ 0
    let s := s.setRing n { r with
      fetched := rest, ci := r.ci + 1, errCount := if bad then r.errCount + 1 else r.errCount }
    let s := (s.emit (.hostWrite at_ (bytes.take 24))).emit (.hostWrite (at_ + 24) (bytes.drop 24))
    let s := s.tick K.HOST_COUNTERS_COMPLETIONS 1
    let s := if bad then s.tick K.HOST_COUNTERS_ERR_COMPLETIONS 1 else s
    if d.irq && r.irqEn then s.signal r.irqSrc r.owner else s

/-- RING_STOPPING_DONE: the fetched descriptors have completed, and the ring becomes DISABLED (R100). -/
def execRingStoppingDone (t : Time) (ring : Nat) (s : State) : Out :=
  inRange "ring" ring 32768 <| live t s (fun s =>
    let r := s.ring ring
    if r.state = .stopping ∧ r.fetched.isEmpty then
      let s := s.setRing ring { r with state := .disabled }
      if r.enable then s.ringEnable ring else s
    else s)

/-- The enabled IN ring of a channel, and the enabled OUT ring of a channel and stream (R107). -/
def State.inRing (s : State) (ch : Nat) : Option Nat :=
  (List.find? (fun e => e.2.enable && e.2.state ≠ .error && e.2.type == 0 && e.2.chan == ch) s.rings).map Prod.fst
def State.outRing (s : State) (ch stream : Nat) : Option Nat :=
  (List.find? (fun e => e.2.enable && e.2.state ≠ .error && e.2.type == 1 && e.2.chan == ch && e.2.stream == stream)
    s.rings).map Prod.fst

/-- Stops a ring without writing to host memory (R88). -/
def State.killRing (s : State) (n : Nat) : State :=
  s.modRing n (fun r => { r with
    enable := false, state := .disabled, errCause := 0, fetched := [], chunkDone := 0, chunkAborted := none,
    frame := none })

/-- The rings of a function stopped under R88, and their signals withdrawn. -/
def State.killRingsOf (s : State) (f : Nat) : State :=
  (s.each ((s.rings.filter (fun e => e.2.owner == some f)).map Prod.fst) State.killRing).withdrawFunc f

end Sys2Proof.Machine
end

