-- ==== Sys2Proof/Machine/Format.lean ====
section
/-! DEFINITION. What a channel's settings make of its frames and pictures: sizes, lines, phases, CTUs, tiles and substreams
(chapters 5, 7 and 12). -/

namespace Sys2Proof

/-! ### Decoded pictures -/

/-- Horizontal and vertical subsampling of a component. -/
def PicGeom.scale (g : PicGeom) (comp : Nat) : Nat × Nat :=
  if comp = 0 then (1, 1) else match g.chroma with
    | 1 => (2, 2) | 2 => (2, 1) | _ => (1, 1)

/-- CTU columns, CTUs, and the CTU of a sample. -/
def PicGeom.cols (g : PicGeom) : Nat := Machine.ceilDiv g.w g.ctu
def PicGeom.total (g : PicGeom) : Nat := Machine.ceilDiv g.w g.ctu * Machine.ceilDiv g.h g.ctu
def PicGeom.ctuAt (g : PicGeom) (comp x y : Nat) : Nat :=
  y * (g.scale comp).2 / max 1 g.ctu * g.cols + x * (g.scale comp).1 / max 1 g.ctu

/-- TILE of a CTU: its subpicture, or its tile in raster order (R16). -/
def PicGeom.tile (g : PicGeom) (c : Nat) : Nat :=
  let x := c % max 1 g.cols
  let y := c / max 1 g.cols
  let at_ := fun (l : List Nat) (v : Nat) => (l.filter (fun b => 0 < b ∧ b ≤ v)).length
  if g.subpics.isEmpty then at_ g.tileRows y * max 1 g.tileCols.length + at_ g.tileCols x
  else g.subpics.findIdx (fun r => r.1 ≤ x && x < r.1 + r.2.2.1 && r.2.1 ≤ y && y < r.2.1 + r.2.2.2)

end Sys2Proof

namespace Sys2Proof.Machine

/-- The format settings of a channel (CH_SOURCE, CH_FORMAT, CH_RAW, CH_CODEC, CH_TILING, CH_ARRAY and ESSENCE). -/
structure Fmt where
  kind : Nat
  port : Nat
  srcChan : Nat
  layout : Nat
  width : Nat
  height : Nat
  sampling : Nat
  depth : Nat
  num : Nat
  den : Nat
  rawMode : Nat
  cfa : Nat
  lutEn : Bool
  lutDepth : Nat
  pass : Bool
  codec : Nat
  ctu : Nat
  tileCols : Nat
  tileRows : Nat
  wavefront : Bool
  wpp : Nat
  array : Bool
  frameW : Nat
  frameH : Nat
  grid : Nat
  cellMap : Nat
  seamUp : Nat
  deriving DecidableEq, Repr

/-- The settings as a reader of channel entries gives them: in effect or pending. -/
def fmtOf (rd : Nat → Nat) : Fmt :=
  { kind := rd K.CH_SOURCE_KIND, port := rd K.CH_SOURCE_PORT, srcChan := rd K.CH_SOURCE_SOURCE_CHANNEL
    layout := rd K.CH_SOURCE_LAYOUT, width := rd K.CH_FORMAT_WIDTH, height := rd K.CH_FORMAT_HEIGHT
    sampling := rd K.CH_FORMAT_SAMPLING, depth := rd K.CH_FORMAT_DEPTH, num := rd K.CH_FORMAT_RATE_NUM
    den := rd K.CH_FORMAT_RATE_DEN, rawMode := rd K.CH_RAW_RAW_MODE, cfa := rd K.CH_RAW_CFA
    lutEn := rd K.CH_RAW_LUT_EN = 1, lutDepth := rd K.CH_RAW_CODED_DEPTH, pass := rd K.CH_OUTPUT_ESSENCE = 1
    codec := rd K.CH_CODEC_CODEC, ctu := rd K.CH_CODEC_CTU_SIZE, tileCols := rd K.CH_TILING_TILE_COLS
    tileRows := rd K.CH_TILING_TILE_ROWS, wavefront := rd K.CH_TILING_WAVEFRONT = 1
    wpp := rd K.CH_TILING_WPP_ENGINES, array := rd K.CH_ARRAY_ARRAY_EN = 1, frameW := rd K.CH_ARRAY_FRAME_WIDTH
    frameH := rd K.CH_ARRAY_FRAME_HEIGHT, grid := rd K.CH_ARRAY_GRID, cellMap := rd K.CH_ARRAY_CELL_MAP
    seamUp := rd K.CH_ARRAY_SEAM_UP }

/-- The settings in effect of a channel. -/
def State.fmt (s : State) (ch : Nat) : Fmt := fmtOf (s.cv ch)

/-- A fenced device dispatches no array work (R294). -/
def State.arrayStopped (s : State) (ch : Nat) : Bool := s.array.state == 4 && (s.fmt ch).array

/-! ### Frames and lines (R116, R131) -/

/-- A raw channel: SAMPLING 0. -/
def Fmt.raw (f : Fmt) : Bool := f.sampling == 0

/-- Lines of a raw frame arrive as four phase planes. -/
def Fmt.planar (f : Fmt) : Bool := f.kind == 1 && f.layout == 1 && f.raw

/-- Key of a line: plane and line number. Chroma lines of 4:2:0 follow the luma lines. -/
def lineKey (plane line : Nat) : Nat := plane * 65536 + line
def keyPlane (k : Nat) : Nat := k / 65536
def keyLine (k : Nat) : Nat := k % 65536

/-- Planes of a frame as received, and lines of each. -/
def Fmt.planes (f : Fmt) : Nat := if f.planar then 4 else 1
def Fmt.planeLines (f : Fmt) : Nat :=
  if f.planar then f.height / 2 else if f.sampling = 2 then f.height + f.height / 2 else f.height

/-- The keys of a frame's lines, in order. -/
def Fmt.lineKeys (f : Fmt) : List Nat :=
  (List.range f.planes).flatMap (fun p => (List.range f.planeLines).map (lineKey p))

/-- Samples of a line as packed (R116). -/
def Fmt.lineSamples (f : Fmt) : Nat :=
  if f.planar then f.width / 2
  else match f.sampling with
    | 3 => 2 * f.width
    | 4 | 5 => 3 * f.width
    | _ => f.width

/-- Bytes of a line. -/
def Fmt.lineBytes (f : Fmt) : Nat := ceilDiv (f.lineSamples * f.depth) 8

/-- Bytes of a frame as received. -/
def Fmt.frameBytes (f : Fmt) : Nat := f.planes * f.planeLines * f.lineBytes

/-- A line outside the format. -/
def Fmt.lineOk (f : Fmt) (k : Nat) : Bool := keyPlane k < f.planes && keyLine k < f.planeLines

/-- Two lines of one phase or plane: the same parity in a mosaic, the same component plane in 4:2:0. -/
def Fmt.sameKind (f : Fmt) (a b : Nat) : Bool :=
  keyPlane a == keyPlane b &&
    (if f.raw && !f.planar then keyLine a % 2 == keyLine b % 2
     else if f.sampling = 2 then (keyLine a < f.height) == (keyLine b < f.height) else true)

/-- Sample `i` of a packed line. -/
def sampleOf (depth : Nat) (bs : List Byte) (i : Nat) : Nat :=
  let lo := depth * i
  leNat ((bs.drop (lo / 8)).take ((lo + depth - 1) / 8 + 1 - lo / 8)) / 2 ^ (lo % 8) % 2 ^ depth

/-! ### Pictures -/

/-- Pictures of one frame, streams of a channel, and parts of a picture (R132, R133). -/
def Fmt.pictures (f : Fmt) : Nat := if f.raw && f.rawMode = 1 && !f.pass then 4 else 1
def Fmt.parts (f : Fmt) : Nat := if f.raw && f.rawMode = 2 && !f.pass then 4 else 1

/-- Coded depth (R162). -/
def Fmt.codedDepth (f : Fmt) : Nat := if f.lutEn && f.sampling ≤ 1 && !f.pass then f.lutDepth else f.depth

/-- Coded chroma format: 0 4:0:0, 1 4:2:0, 2 4:2:2, 3 4:4:4. -/
def Fmt.chroma (f : Fmt) : Nat :=
  match f.sampling with
  | 0 | 1 => 0 | 2 => 1 | 3 => 2 | _ => 3

/-- Coded samples of `n` luma samples, all components included. -/
def Fmt.withChroma (f : Fmt) (n : Nat) : Nat :=
  match f.sampling with
  | 0 | 1 => n | 2 => n * 3 / 2 | 3 => 2 * n | _ => 3 * n

/-- Samples of one frame of this device's cell. -/
def Fmt.samples (f : Fmt) : Nat := f.withChroma (f.width * f.height)

/-- Width and height of one part: a phase plane of a raw frame, the frame otherwise, of the whole array frame in an array
channel. -/
def Fmt.partW (f : Fmt) : Nat :=
  let w := if f.array then f.frameW else f.width
  if f.raw && !f.pass then w / 2 else w
def Fmt.partH (f : Fmt) : Nat :=
  let h := if f.array then f.frameH else f.height
  if f.raw && !f.pass then h / 2 else h

/-- Luma size of a picture. -/
def Fmt.picW (f : Fmt) : Nat := f.parts * f.partW
def Fmt.picH (f : Fmt) : Nat := f.partH

/-- The cell's own size within a part. -/
def Fmt.cellW (f : Fmt) : Nat := if f.raw && !f.pass then f.width / 2 else f.width
def Fmt.cellH (f : Fmt) : Nat := if f.raw && !f.pass then f.height / 2 else f.height

/-- Width and height of P0 (R137). -/
def Fmt.p0W (f : Fmt) : Nat := if f.raw then f.width / 2 else f.width
def Fmt.p0H (f : Fmt) : Nat := if f.raw then f.height / 2 else f.height

/-- CTU columns and rows of a part, and CTUs of a picture (R17). -/
def Fmt.cols (f : Fmt) : Nat := ceilDiv f.partW f.ctu
def Fmt.rows (f : Fmt) : Nat := ceilDiv f.partH f.ctu
def Fmt.ctus (f : Fmt) : Nat := f.parts * f.cols * f.rows

/-- CTU index of a place (R17), and the part, column and row of a CTU. -/
def Fmt.ctuIndex (f : Fmt) (part col row : Nat) : Nat := row * (f.parts * f.cols) + part * f.cols + col
def Fmt.ctuRow (f : Fmt) (c : Nat) : Nat := c / (f.parts * f.cols)
def Fmt.ctuPart (f : Fmt) (c : Nat) : Nat := c % (f.parts * f.cols) / f.cols
def Fmt.ctuCol (f : Fmt) (c : Nat) : Nat := c % f.cols

/-- Luma samples of a CTU, clipped at the part's edge. -/
def Fmt.ctuLuma (f : Fmt) (c : Nat) : Nat :=
  min f.ctu (f.partW - f.ctuCol c * f.ctu) * min f.ctu (f.partH - f.ctuRow c * f.ctu)

/-- Samples of a CTU, all components. -/
def Fmt.ctuSamples (f : Fmt) (c : Nat) : Nat := f.withChroma (f.ctuLuma c)

/-! ### Tiles (R168, R287) -/

/-- Bounds of `n` units divided into `t` runs, from `base` (R168). -/
def splitEven (base n t : Nat) : List Nat := (List.range t).map (fun i => base + i * n / t)

/-- Cell columns and rows of an array frame; one of each outside an array. -/
def Fmt.cellCols (f : Fmt) : Nat := if f.array then f.grid / 16 else 1
def Fmt.cellRows (f : Fmt) : Nat := if f.array then f.grid % 16 else 1

/-- A row edge of the cell grid that falls inside a CTU row makes that row a seam (R287). -/
def Fmt.seamRow (f : Fmt) (e : Nat) : Option Nat :=
  if (e + 1) * f.cellH % f.ctu = 0 then none else some ((e + 1) * f.cellH / f.ctu)

/-- The row of a part at which the region of cell row `e` ends and that of the next begins: the cell edge, or the edge of the
seam on the side that SEAM_UP leaves free (R287). -/
def Fmt.regionEdge (f : Fmt) (part e : Nat) : Nat :=
  match f.seamRow e with
  | none => (e + 1) * f.cellH
  | some r => if bit f.seamUp (4 * e + part) then (r + 1) * f.ctu else r * f.ctu

/-- Rows of a part in the region of a cell row: the first, and the one after the last. -/
def Fmt.regionRows (f : Fmt) (part r : Nat) : Nat × Nat :=
  (if r = 0 then 0 else f.regionEdge part (r - 1), if r + 1 = f.cellRows then f.partH else min f.partH (f.regionEdge part r))

/-- Tile column starts of a part, in CTUs: each cell's columns divided by TILE_COLS. -/
def Fmt.colStarts (f : Fmt) : List Nat :=
  (List.range f.cellCols).flatMap (fun c =>
    let a := c * f.cellW / f.ctu
    let b := if c + 1 = f.cellCols then f.cols else (c + 1) * f.cellW / f.ctu
    splitEven a (b - a) f.tileCols)

/-- Tile row starts of a part, in CTUs: each cell's rows outside its seams divided by TILE_ROWS, and each seam. -/
def Fmt.rowStarts (f : Fmt) : List Nat :=
  (List.range f.cellRows).flatMap (fun r =>
    let a := if r = 0 then 0 else ceilDiv (r * f.cellH) f.ctu
    let b := if r + 1 = f.cellRows then f.rows else (r + 1) * f.cellH / f.ctu
    splitEven a (b - a) f.tileRows ++
      (if r + 1 = f.cellRows then [] else (f.seamRow r).toList))

/-- Index of the run of rising starts that holds a unit. -/
def runOf (starts : List Nat) (x : Nat) : Nat := (starts.filter (· ≤ x)).length - 1

/-- Tile column and row of a CTU within its part. -/
def Fmt.tileCol (f : Fmt) (c : Nat) : Nat := runOf f.colStarts (f.ctuCol c)
def Fmt.tileRow (f : Fmt) (c : Nat) : Nat := runOf f.rowStarts (f.ctuRow c)

/-- Tiles of a part. -/
def Fmt.tilesPerPart (f : Fmt) : Nat := f.colStarts.length * f.rowStarts.length

/-- Number of a CTU's tile among all the picture's tiles. -/
def Fmt.tileNum (f : Fmt) (c : Nat) : Nat :=
  f.ctuPart c * f.tilesPerPart + f.tileRow c * f.colStarts.length + f.tileCol c

/-- TILE of a location code (R16): the subpicture in a subpicture bitstream, else the tile index; the band of a wide H.264 picture
(DEDUCED, log entry 213). -/
def Fmt.tileCode (f : Fmt) (c : Nat) : Nat := if f.parts = 4 then f.ctuPart c else f.tileNum c

/-- First CTU column and row of a CTU's tile, and its last row. -/
def Fmt.tileFirstCol (f : Fmt) (c : Nat) : Nat := f.colStarts.getD (f.tileCol c) 0
def Fmt.tileFirstRow (f : Fmt) (c : Nat) : Nat := f.rowStarts.getD (f.tileRow c) 0
def Fmt.tileEndCol (f : Fmt) (c : Nat) : Nat := f.colStarts.getD (f.tileCol c + 1) f.cols
def Fmt.tileEndRow (f : Fmt) (c : Nat) : Nat := f.rowStarts.getD (f.tileRow c + 1) f.rows

/-- Substream of a CTU (R164, R169): its tile, and with wavefronts its CTU row in the tile. -/
def Fmt.subOf (f : Fmt) (c : Nat) : Nat :=
  f.tileNum c * 4096 + (if f.wavefront then f.ctuRow c - f.tileFirstRow c else 0)

/-- CTUs of a tile in coding order. -/
def Fmt.tileCtus (f : Fmt) (c : Nat) : List Nat :=
  (List.range (f.tileEndRow c - f.tileFirstRow c)).flatMap (fun r =>
    (List.range (f.tileEndCol c - f.tileFirstCol c)).map (fun x =>
      f.ctuIndex (f.ctuPart c) (f.tileFirstCol c + x) (f.tileFirstRow c + r)))

/-- CTUs of a CTU's substream in coding order. -/
def Fmt.subCtus (f : Fmt) (c : Nat) : List Nat := (f.tileCtus c).filter (fun x => f.subOf x = f.subOf c)

/-- The cell that codes a CTU: its cell column, and its cell row or, in a seam, the one SEAM_UP names (R287). The part of a
PHASE_SPLIT picture is its phase. -/
def Fmt.cellOf (f : Fmt) (phase c : Nat) : Nat :=
  let part := if f.parts = 4 then f.ctuPart c else phase
  let cc := runOf ((List.range f.cellCols).map (fun k => k * f.cellW / f.ctu)) (f.ctuCol c)
  let row := f.ctuRow c
  let edge := (List.range (f.cellRows - 1)).find? (fun e => f.seamRow e == some row)
  let cr := match edge with
    | some e => if bit f.seamUp (4 * e + part) then e else e + 1
    | none => runOf ((List.range f.cellRows).map (fun k => if k = 0 then 0 else ceilDiv (k * f.cellH) f.ctu)) row
  cr * f.cellCols + cc

/-- The device that codes a cell for a launch: the one CELL_MAP names, or the one that had taken its cells over (R296). -/
def State.cellDevAt (s : State) (ch : Nat) (f : Fmt) (launch : Option Time) (cell : Nat) : Nat :=
  s.array.taken.foldl (fun d e => if e.1 = ch ∧ e.2.1 = d ∧ launch.all (e.2.2.2 < ·) then e.2.2.1 else d)
    (bits f.cellMap (4 * cell + 3) (4 * cell))

/-- The device that codes a cell now. -/
def State.cellDev (s : State) (ch : Nat) (f : Fmt) (cell : Nat) : Nat := s.cellDevAt ch f none cell

/-- The cells that this device codes. -/
def State.codesCell (s : State) (ch : Nat) (f : Fmt) (cell : Nat) : Bool := s.cellDev ch f cell == s.dev

/-- The CTUs of a picture that this device codes, in raster order: its region (R287). -/
def State.regionCtus (s : State) (ch : Nat) (f : Fmt) (phase : Nat) : List Nat :=
  (List.range f.ctus).filter (fun c => !f.array || s.codesCell ch f (f.cellOf phase c))

/-- Coded samples per frame of this device's region: REGION_SAMPLES (Table 12-6). -/
def State.regionSamples (s : State) (ch : Nat) (f : Fmt) : Nat :=
  if f.array then
    ((List.range f.pictures).flatMap (fun p => (s.regionCtus ch f p).map f.ctuSamples)).sum
  else f.samples

/-- The device that the cell map names for a cell, before any takeover. -/
def Fmt.mapDev (f : Fmt) (cell : Nat) : Nat := bits f.cellMap (4 * cell + 3) (4 * cell)

/-- Location of a CTU of a picture (R17 to R19). -/
def Fmt.ctuLoc (f : Fmt) (ch pic c : Nat) : Loc :=
  { depth := 5, chan := ch, pic := pic, tile := f.tileCode c, ctu := c }

/-! ### Level (R163) -/

/-- A level admits luma picture size, luma sample rate and tile grid of one stream. -/
def levelFits (f : Fmt) (cols rows level : Nat) : Bool :=
  let (ps, sr, tc, tr) := Config.levelLimits f.codec level
  decide (f.picW * f.picH ≤ ps ∧ f.picW * f.picH * f.num ≤ sr * max 1 f.den) &&
    (f.codec == 1 || (cols ≤ tc && rows ≤ tr))

/-- level_idc of level 6.2, and the level codes of a standard up to it. -/
def topLevel (codec : Nat) : Nat := if codec = 1 then 62 else if codec = 2 then 186 else 102
def levelCodes (codec : Nat) : List Nat := (Config.levels codec).filter (· ≤ topLevel codec)

/-- Profiles of Table 7-2: codec, lowest and highest chroma format, highest depth, intra only. -/
def profileInfo (p : Nat) : Option (Nat × Nat × Nat × Nat × Bool) :=
  match p with
  | 0x11 => some (1, 0, 1, 8, false) | 0x12 => some (1, 0, 1, 10, false) | 0x13 => some (1, 0, 2, 10, false)
  | 0x14 => some (1, 0, 1, 10, true) | 0x15 => some (1, 0, 2, 10, true) | 0x21 => some (2, 1, 1, 8, false)
  | 0x22 => some (2, 1, 1, 10, false) | 0x23 => some (2, 0, 1, 12, false) | 0x24 => some (2, 0, 2, 10, false)
  | 0x25 => some (2, 0, 2, 12, false) | 0x26 => some (2, 0, 3, 8, false) | 0x27 => some (2, 0, 3, 10, false)
  | 0x28 => some (2, 0, 3, 12, false) | 0x29 => some (2, 0, 3, 16, true) | 0x2A => some (2, 0, 0, 12, false)
  | 0x2B => some (2, 0, 0, 16, false) | 0x31 => some (3, 0, 1, 10, false) | 0x32 => some (3, 0, 1, 12, false)
  | 0x33 => some (3, 0, 3, 12, false) | 0x34 => some (3, 0, 3, 16, false) | 0x35 => some (3, 0, 1, 12, true)
  | 0x36 => some (3, 0, 3, 12, true) | 0x37 => some (3, 0, 3, 16, true)
  | _ => none

/-- Chroma format and depth lie inside the profile, and the profile belongs to the codec. -/
def profileOk (codec profile chroma depth : Nat) : Bool :=
  match profileInfo profile with
  | some (c, lo, hi, d, _) => c == codec && lo ≤ chroma && chroma ≤ hi && 8 ≤ depth && depth ≤ d
  | none => false

/-- The level in use: LEVEL, or the lowest that admits the format; 255 in SUBPICTURE (R133, R163). DEDUCED, log entry 113. -/
def Fmt.levelOf (f : Fmt) (l : Nat) : Nat :=
  if l ≠ 0 then l
  else if f.parts = 4 then 255
  else ((levelCodes f.codec).find? (levelFits f f.colStarts.length f.rowStarts.length)).getD 0

/-! ### Lines and CTU rows -/

/-- A frame line's row in its picture's luma grid: the row of a phase plane, or the luma row of a line. -/
def Fmt.lumaRow (f : Fmt) (k : Nat) : Nat :=
  if f.planar then keyLine k
  else if f.raw then keyLine k / 2
  else if f.sampling = 2 ∧ f.height ≤ keyLine k then (keyLine k - f.height) * 2
  else keyLine k

/-- Phases that a line feeds. -/
def Fmt.linePhases (f : Fmt) (k : Nat) : List Nat :=
  if f.planar then [keyPlane k] else if f.raw then [2 * (keyLine k % 2), 2 * (keyLine k % 2) + 1] else [0]

/-- The cell that this device receives in an array channel. -/
def State.ownCell (s : State) (ch : Nat) (f : Fmt) : Option Nat :=
  (List.range (f.cellCols * f.cellRows)).find? (s.codesCell ch f)

/-- The first row and column of this device's cell in a picture. -/
def State.cellRow0 (s : State) (ch : Nat) (f : Fmt) : Nat :=
  if f.array then ((s.ownCell ch f).map (fun k => k / f.cellCols * f.cellH)).getD 0 else 0
def State.cellCol0 (s : State) (ch : Nat) (f : Fmt) : Nat :=
  if f.array then ((s.ownCell ch f).map (fun k => k % f.cellCols * f.cellW)).getD 0 else 0

/-- The first CTU of each CTU row that a line affects, with the picture of the frame it belongs to (R127). -/
def State.lossPlaces (s : State) (ch : Nat) (f : Fmt) (k : Nat) : List (Nat × Nat) :=
  if f.pass then []
  else
    let row := (s.cellRow0 ch f + f.lumaRow k) / f.ctu
    if f.pictures = 4 then (f.linePhases k).map (fun p => (p, f.ctuIndex 0 0 row))
    else if f.parts = 4 then (f.linePhases k).map (fun p => (0, f.ctuIndex p 0 row))
    else [(0, f.ctuIndex 0 0 row)]

/-- Frame period in ns, rounded down. -/
def Fmt.period (f : Fmt) : Nat := f.den * 1000000000 / max 1 f.num

end Sys2Proof.Machine
end

