-- ==== Sys2Proof/Machine/Ingest.lean ====
section
/-! DEFINITION. Frames of a channel: lines received, lost, repaired, frames accepted, dropped and abandoned (R118, R124 to
R130, R264). -/

namespace Sys2Proof.Machine

/-! ### Frames of a channel -/

/-- A frame by its order number. -/
def Chan.frame? (c : Chan) (q : Nat) : Option Frame := c.frames.find? (·.seq == q)

/-- Changes a frame of a channel. -/
def State.modFrame (s : State) (ch q : Nat) (g : Frame → Frame) : State :=
  s.modChan ch (fun c => { c with frames := c.frames.map (fun x => if x.seq = q then g x else x) })

/-- The frame that is open on a channel. -/
def Chan.openFrame (c : Chan) : Option Frame := c.frames.find? (fun x => !x.closed)

/-- Distance from one FRAME_COUNT to another, modulo 2^32: below 2^31 is ahead. -/
def countStep (old new : Nat) : Nat := (new + 2 ^ 32 - old) % 2 ^ 32

/-- FRAME_COUNT of the frame that a channel has open, one being absorbed included. -/
def Chan.openCount (c : Chan) : Option Nat :=
  match c.openFrame with
  | some x => some x.frameCount
  | none => c.absorbing.map Prod.fst

/-- A FRAME_COUNT is remembered as that of a closed frame, while it lies less than 2^31 behind. DEDUCED, log entry 233. -/
def Chan.noteClosed (c : Chan) (fc : Nat) : Chan :=
  { c with closedCounts := (c.closedCounts.filter (fun e => e ≠ fc && countStep e fc < 2 ^ 31)) ++ [fc] }

/-- A line is received or replaced. -/
def Frame.has (x : Frame) (k : Nat) : Bool := (Store.find? x.lines k).isSome

/-- A line is received, not lost. -/
def Frame.received (x : Frame) (k : Nat) : Bool := x.has k && !x.lost.contains k

/-- A line of a frame can still arrive: neither received nor declared lost. -/
def Frame.missing (x : Frame) (k : Nat) : Bool := !x.has k && !x.lost.contains k

/-- Accepted frames that are not yet fully coded (R129). -/
def Chan.held (c : Chan) : Nat := (c.frames.filter (fun x => x.accepted && !x.coded)).length

/-! ### Abandoning a launch (R264) -/

/-- The CTUs of a picture whose chunks have been emitted. -/
def Pic.emittedSubs (p : Pic) : List Chunk := p.chunks.filter (·.emitted)

/-- First CTU not emitted of a picture, in the picture's raster order: a CTU row counts as emitted with its chunk. -/
def Pic.firstUnemitted (f : Fmt) (p : Pic) : Nat :=
  ((List.range f.ctus).find? (fun c =>
    !p.emittedSubs.any (fun k => f.tileNum k.firstCtu = f.tileNum c && k.firstCtu ≤ c && f.ctuRow c ≤ k.lastRow))).getD 0

/-- Grants of pictures of a channel from a count are withdrawn from their units. -/
def State.dropGrants (s : State) (ch : Nat) (pics : List Nat) : State :=
  { s with
    units := Store.map s.units (fun _ u => match u.grant with
      | some g => if g.chan = ch ∧ pics.contains g.pic ∧ !g.verify then { u with grant := none } else u
      | none => u)
    reissue := s.reissue.filter (fun g => !(g.2.chan == ch && pics.contains g.2.pic && !g.2.verify)) }

/-- The pool buffers of a picture's chunks that have not been emitted are freed. -/
def State.freeChunks (s : State) (p : Pic) : State :=
  s.each ((p.chunks.filter (fun k => !k.emitted)).flatMap (·.bufs)) (fun s n => s.freeBuf n 1)

/-- Key of a symbol record: channel, full picture count, CTU and cluster. -/
def recKey (ch pic ctu cluster : Nat) : Nat := ((ch * 2 ^ 32 + pic % 2 ^ 32) * 2 ^ 20 + ctu) * 8 + cluster

/-- Records of pictures leave Firn. -/
def State.dropRecords (s : State) (ch : Nat) (pics : List Nat) : State :=
  { s with firn := s.firn.filter (fun e =>
      !pics.any (fun p => e.1 / 2 ^ 23 == ch * 2 ^ 32 + p % 2 ^ 32)) }

/-- This device codes its region of a picture as void: it is counted and raised with its first tile (R291). -/
def State.regionVoid (s : State) (ch pic : Nat) : State :=
  let f := s.fmt ch
  let first := (s.regionCtus ch f 0).headD 0
  (s.cbump ch K.CH_ARRAY_VOID_REGIONS 1).raise F.ARRAY_REGION_VOID
    { loc := { depth := 4, chan := ch, pic := pic, tile := f.tileCode first } }

/-- Marks of a frame buffer lost with the frame it holds. -/
def FrameBuf.cleared (b : FrameBuf) : FrameBuf :=
  { b with
    shortRef := false, longRef := false, outHold := false, verifyHold := false, haloHold := false, haloPeers := 0
    verifyLeft := [], pic := none }

/-- The places of a channel's launches go back by an abandoned one: after an IRAP frame the next coded launch is IRAP, and
the latest launch gives its place in the intra period to the next one. DESIGN CHOICE, log entry 138. -/
def Chan.unlaunch (c : Chan) (q : Nat) : Chan :=
  let c' := { c with
    launched := c.launched.filter (·.frameSeq ≠ q), order := c.order.filter (· ≠ q), gop := c.gop.filter (· ≠ q) }
  match c.launched.find? (·.frameSeq == q) with
  | some l =>
    if l.irap then { c' with forceIrap := true }
    else if (c.launched.getLast?.map (·.frameSeq)) = some q then { c' with gopPos := c.gopPos - 1 } else c'
  | none => c'

/-- A launched frame is dropped: its launch becomes void (R264). Emission of its pictures stops, their frame buffer loses its
marks, LAUNCH_ABANDONED names the first CTU not emitted, and the next picture reuses the count where no later frame has
taken one. In an array the rest of the region is coded as void instead (R291). -/
def State.abandonLaunch (s : State) (ch q : Nat) : State :=
  let f := s.fmt ch
  let c := s.chan ch
  let mine := c.pics.filter (·.frameSeq == q)
  let counts := mine.map (·.count)
  let (pic, ctu) := match mine.find? (fun p => p.chunks.isEmpty || p.chunks.any (fun k => !k.emitted)) with
    | some p => (p.count, p.firstUnemitted f)
    | none => (c.picCount, 0)
  if f.array then
    let base := ((c.launched.find? (·.frameSeq == q)).bind (·.base)).getD pic
    (s.modChan ch (fun c => { c with
      launched := c.launched.map (fun l => if l.frameSeq = q then { l with isVoid := true } else l)
      pics := c.pics.map (fun p => if p.frameSeq = q then { p with isVoid := true } else p) })).regionVoid ch base
  else
    let s := s.each mine State.freeChunks
    let s := (s.dropGrants ch counts).dropRecords ch counts
    let s := s.each (s.fbsOf ch) (fun s e => if counts.any e.2.holds then s.setFb e.1 e.2.cleared else s)
    let later := c.pics.any (fun p => p.frameSeq > q)
    let s := s.modChan ch (fun c => { c.unlaunch q with
      rate := mine.foldl (fun m p => Store.put m p.stream ((Store.get m {} p.stream).abandon p.num
        (8 * ((p.chunks.filter (·.emitted)).map (·.data.length)).sum))) c.rate
      pics := c.pics.filter (·.frameSeq ≠ q)
      picCount := if later then c.picCount else counts.foldl min c.picCount })
    let s := s.cbump ch K.CH_LAUNCH_VOID_LAUNCHES 1
    s.raise F.LAUNCH_ABANDONED { loc := if f.pass then Loc.ofPic ch pic else f.ctuLoc ch pic ctu }

/-! ### Dropping, opening and accepting frames -/

/-- The devices that code samples of a line of this device's own cell: part or phase, and device (R288). -/
def State.handoverTo (s : State) (ch : Nat) (f : Fmt) (k : Nat) : List (Nat × Nat) :=
  if !f.array then []
  else (f.linePhases k).filterMap (fun p =>
    let row := s.cellRow0 ch f + f.lumaRow k
    let c := f.ctuIndex (if f.parts = 4 then p else 0) (s.cellCol0 ch f / f.ctu) (row / f.ctu)
    let d := s.cellDev ch f (f.cellOf p c)
    if d ≠ s.dev ∧ d < 8 then some (p, d) else none)

/-- A TILE_HANDOVER flit (Table 12-2). -/
def State.sendHandover (s : State) (d ch part row fc x n : Nat) (dropped : Bool) (bs : List Byte) : State :=
  s.ronoxSend 0x22 (if dropped then 2 else 0) 2 d
    (leBytes 1 ch ++ leBytes 1 part ++ leBytes 2 row ++ leBytes 4 fc ++ leBytes 2 x ++ leBytes 2 n ++ bs)

/-- A dropped frame is made known to the devices that code samples of it: one flit each with DROPPED set (R288). -/
def State.handoverDropped (s : State) (ch fc : Nat) : State :=
  let f := s.fmt ch
  if !f.array then s
  else
    let devs := ((f.lineKeys.flatMap (s.handoverTo ch f)).map Prod.snd).dedup
    s.each devs (fun s d => s.sendHandover d ch 0 0 fc 0 0 true [])

/-- A frame is dropped whole (R126, R127, R129). Its later lines are absorbed until it closes. -/
def State.dropFrame (s : State) (ch : Nat) (x : Frame) : State :=
  let s := s.modChan ch (fun c => { c with
    frames := c.frames.filter (·.seq ≠ x.seq)
    absorbing := if x.closed then c.absorbing else some (x.frameCount, x.opened, List.map Prod.fst x.lines ++ x.lost) })
  let s := s.each x.bufs (fun s n => s.freeBuf n 2)
  let s := s.cbump ch K.CH_INGEST_STATUS_FRAMES_DROPPED 1
  let s := s.raise F.INGEST_FRAME_DROPPED { loc := Loc.ofChan ch, detail := [x.frameCount] }
  let s := s.handoverDropped ch x.frameCount
  if x.taken then s.abandonLaunch ch x.seq else s

/-- A frame opens. With INGEST_DEPTH frames held it is dropped whole, and INGEST_OVERFLOW raised (R129). -/
def State.openFrame (s : State) (ch fc : Nat) (capture : Time) : State :=
  let c := s.chan ch
  let x : Frame := {
    seq := c.frameSeq, frameCount := fc, opened := s.time, capture := capture, stat := c.lastStat }
  if s.cv ch K.CH_SOURCE_INGEST_DEPTH ≤ c.held then
    let s := s.raise F.INGEST_OVERFLOW { loc := Loc.ofChan ch, detail := [fc] }
    s.dropFrame ch x
  else s.setChan ch { c with frames := c.frames ++ [x], frameSeq := c.frameSeq + 1, absorbing := none }

/-- Frames counted as missing between two FRAME_COUNTs (R123, R124). -/
def State.countMissing (s : State) (ch step : Nat) : State :=
  if 1 < step then s.cbump ch K.CH_INGEST_STATUS_FRAMES_MISSING (step - 1) else s

/-- The nearest received line of a line's phase or plane above it, and below it (R126). DEDUCED, log entry 72. -/
def Frame.above (f : Fmt) (x : Frame) (k : Nat) : Option (List Byte) :=
  ((x.lines.filter (fun e => e.1 < k && f.sameKind e.1 k && !x.lost.contains e.1)).getLast?).map Prod.snd
def Frame.below (f : Fmt) (x : Frame) (k : Nat) : Option (List Byte) :=
  ((x.lines.filter (fun e => k < e.1 && f.sameKind e.1 k && !x.lost.contains e.1)).head?).map Prod.snd

/-- What replaces a lost line now: the last accepted frame's line under PREVIOUS_FRAME, else the nearest received line of its
phase or plane; none while no such line has been received. -/
def State.replacement (s : State) (ch : Nat) (f : Fmt) (x : Frame) (k : Nat) : Option (List Byte) :=
  let c := s.chan ch
  let prev := if s.cv ch K.CH_SOURCE_REPAIR = 2 ∧ 0 < c.accepted then Store.find? c.lastLines k else none
  match prev with
  | some l => some l
  | none => match x.above f k with
    | some l => some l
    | none => x.below f k

/-- A lost line is replaced, or its replacement waits for a received line. -/
def State.repairLine (s : State) (ch q k : Nat) : State :=
  match (s.chan ch).frame? q with
  | none => s
  | some x =>
    match s.replacement ch (s.fmt ch) x k with
    | some l =>
      (s.modFrame ch q (fun x => { x with lines := Store.put x.lines k l, owed := x.owed.filter (· ≠ k) })).cbump ch
        K.CH_INGEST_STATUS_LINES_REPAIRED 1
    | none => s.modFrame ch q (fun x => { x with owed := if x.owed.contains k then x.owed else x.owed ++ [k] })

/-- Full count of picture `i` of a frame: of its launch, or of the next frame launched. DEDUCED, log entry 73. -/
def Chan.framePic (c : Chan) (q i : Nat) : Nat :=
  match c.launched.find? (·.frameSeq == q) with
  | some l => l.base.getD c.picCount + i
  | none => c.picCount + i

/-- A line is declared lost (R125 to R127). A PASS_THROUGH frame has no CTUs: its lost line is located as the picture, at
LOC_DEPTH 3. DESIGN CHOICE, log entry 234. -/
def State.loseLine (s : State) (ch q k : Nat) : State :=
  let f := s.fmt ch
  let c := s.chan ch
  match c.frame? q with
  | none => s
  | some _ =>
    let s := s.modFrame ch q (fun x => { x with lost := x.lost ++ [k] })
    let s := s.cbump ch K.CH_INGEST_STATUS_LINES_LOST 1
    let places := s.lossPlaces ch f k
    let locs := if places.isEmpty then [Loc.ofPic ch (c.framePic q 0)]
      else places.map (fun p => f.ctuLoc ch (c.framePic q p.1) p.2)
    let s := s.each locs (fun s l =>
      (s.raise F.INGEST_LINE_LOST { loc := l, detail := [keyLine k] }).setRo
        (chKey ch K.CH_INGEST_STATUS_LAST_LOSS_LOC) (locCode s.dev l))
    let s := s.setRo (chKey ch K.CH_INGEST_STATUS_LAST_LOSS_LINE) (keyLine k)
    match (s.chan ch).frame? q with
    | none => s
    | some x =>
      if s.cv ch K.CH_SOURCE_REPAIR = 0 ∨ s.cv ch K.CH_SOURCE_MAX_LOST_LINES < x.lost.length then s.dropFrame ch x
      else s.repairLine ch q k

/-- Lines declared lost one after another; once the frame is dropped the rest have no effect. -/
def State.loseLines (s : State) (ch q : Nat) (ks : List Nat) : State := s.each ks (fun s k => s.loseLine ch q k)

/-- A received line enters its frame (R118, R125, R126): lines of any plane 64 or more below it that are outstanding are lost,
and lost lines that waited for a received line are replaced. -/
def State.takeLine (s : State) (ch q k : Nat) (data : List Byte) (capture : Time) : State :=
  let f := s.fmt ch
  let s := s.modFrame ch q (fun x =>
    let x := { x with lines := Store.put x.lines k data, begun := true }
    if keyLine k < x.captureLine then { x with captureLine := keyLine k, capture := capture } else x)
  match (s.chan ch).frame? q with
  | none => s
  | some x =>
    let s := s.each x.owed (fun s j => if f.sameKind j k then s.repairLine ch q j else s)
    s.loseLines ch q ((f.lineKeys.filter (fun j => keyLine j + 64 ≤ keyLine k)).filter x.missing)

/-- Some phase or plane of a frame has no received line (R126). -/
def Frame.emptyPlane (f : Fmt) (x : Frame) : Bool :=
  let reps :=
    if f.planar then (List.range 4).map (fun p => lineKey p 0)
    else if f.raw then [lineKey 0 0, lineKey 0 1]
    else if f.sampling = 2 then [lineKey 0 0, lineKey 0 f.height] else [lineKey 0 0]
  reps.any (fun k => !x.lines.any (fun e => f.sameKind e.1 k && !x.lost.contains e.1))

end Sys2Proof.Machine
end

