-- ==== Sys2Proof/Machine/Samples.lean ====
section
/-! DEFINITION. Samples of a frame: the LUTs (R135, R136), the green proxy and the pyramid (R131, R134, R137), the block
statistics (R138), and the close and acceptance of a frame (R124, R126). -/

namespace Sys2Proof.Machine

/-! ### LUTs -/

/-- Entry of a LUT image that nothing has written: 0 in CH_RAW (object 0x04), the identity in CH_DERIVEDk. The identity of a
4,096-entry image indexed by x >> 4 is 16 × entry. -/
def lutDefault (obj i : Nat) : Nat := if obj = 4 then 0 else i % 4096 * 16

/-- Entries of an image: 2^16 in CH_RAW, 3 × 4,096 in CH_DERIVEDk. -/
def lutSize (obj : Nat) : Nat := if obj = 4 then 65536 else 12288

def Chan.lut (c : Chan) (obj : Nat) : Lut := Store.get c.luts {} obj

/-- An entry of an image. -/
def lutEntry (obj : Nat) (img : Store Nat) (i : Nat) : Nat := Store.get img (lutDefault obj i) i

/-- An image with an entry set, listing no default. -/
def lutPut (obj : Nat) (img : Store Nat) (i v : Nat) : Store Nat :=
  if v = lutDefault obj i then Store.erase img i else Store.put img i v

/-- Position of LUT_INDEX in an image: the index itself in CH_RAW, [13:12] component and [11:0] entry in CH_DERIVEDk. -/
def lutPos (obj idx : Nat) : Nat := if obj = 4 then idx % 65536 else idx / 4096 * 4096 + idx % 4096

/-- LUT_INDEX after an access (R136). -/
def lutNext (obj idx : Nat) : Nat := (idx + 4) % lutSize obj

/-- Key of a requester's LUT_INDEX of a channel's LUT. -/
def lutIndexKey (ch obj : Nat) : Nat :=
  chKey ch (if obj = 4 then K.CH_RAW_LUT_INDEX else K.CH_DERIVEDk_LUT_INDEX + (obj - 0xC) * 256)

def ReqState.selOf (q : ReqState) (k : Nat) : Nat := (Store.get q.sel 0 k).toNat

/-- The 64-bit LUT_DATA at an index of the pending image. -/
def Chan.lutWord (c : Chan) (obj idx : Nat) : Nat :=
  let p := lutPos obj idx
  ((List.range 4).map (fun i => lutEntry obj (c.lut obj).pending (p + i) * 2 ^ (16 * i))).sum

/-- Largest entry value that a LUT takes: by the pending CODED_DEPTH in CH_RAW (R135). -/
def State.lutMax (s : State) (ch obj : Nat) : Nat :=
  if obj = 4 then 2 ^ s.pv (chKey ch K.CH_RAW_CODED_DEPTH) - 1 else 65535

/-- Writes LUT_DATA at the requester's index (R135, R136). -/
def State.lutWrite (s : State) (r : Requester) (ch obj v : Nat) : Except Abort State :=
  let key := lutIndexKey ch obj
  let idx := (s.req r).selOf key
  let es := (List.range 4).map (fun i => bits v (16 * i + 15) (16 * i))
  if es.any (fun e => s.lutMax ch obj < e) then .error A.above
  else
    let s := s.modChan ch (fun c =>
      let l := c.lut obj
      let img := (List.range 4).foldl (fun m i => lutPut obj m (lutPos obj idx + i) (es.getD i 0)) l.pending
      { c with luts := Store.put c.luts obj { l with pending := img } })
    .ok (s.modReq r (fun q => { q with sel := Store.put q.sel key (w64 (lutNext obj idx)) }))

/-- Reads LUT_DATA at the requester's index, which advances. -/
def State.lutRead (s : State) (r : Requester) (ch obj : Nat) : Nat × State :=
  let key := lutIndexKey ch obj
  let idx := (s.req r).selOf key
  ((s.chan ch).lutWord obj idx,
    s.modReq r (fun q => { q with sel := Store.put q.sel key (w64 (lutNext obj idx)) }))

/-- At a boundary a committed LUT's images change places, and the copy into the pending one starts (R136). -/
def State.lutSwap (s : State) (ch obj : Nat) : State :=
  s.modChan ch (fun c =>
    let l := c.lut obj
    { c with luts := Store.put c.luts obj { active := l.pending, pending := l.active, copying := true } })

/-- LUT_COPY_DONE: the copy of the new active image into the pending one ends, within 50 µs (R136). -/
def execLutCopyDone (t : Time) (ch obj : Nat) (s : State) : Out :=
  inRange "CH" ch 256 <| inRange "object" obj 64 <| live t s (fun s =>
    if ((s.chan ch).lut obj).copying then
      s.modChan ch (fun c =>
        let l := c.lut obj
        { c with luts := Store.put c.luts obj { l with pending := l.active, copying := false } })
    else s)

/-! ### Samples and the pyramid -/

/-- A sample after the transfer LUT of a Bayer or monochrome frame; PASS_THROUGH has none (R135). DEDUCED, log entry 74. -/
def mapSample (f : Fmt) (lut : Store Nat) (x : Nat) : Nat :=
  if f.lutEn && !f.pass && f.sampling ≤ 1 then lutEntry 4 lut x else x

/-- Sample of a frame line as received. -/
def Frame.raw (f : Fmt) (x : Frame) (k i : Nat) : Nat := sampleOf f.depth (Store.get x.lines [] k) i

/-- Sample (i, j) of phase plane p of a raw frame, after the LUT (R131). -/
def Frame.phase (f : Fmt) (lut : Store Nat) (x : Frame) (p i j : Nat) : Nat :=
  mapSample f lut
    (if f.planar then x.raw f (lineKey p j) i else x.raw f (lineKey 0 (2 * j + p / 2)) (2 * i + p % 2))

/-- The two green phases: 1 and 2 for RGGB and BGGR, 0 and 3 for GRBG and GBRG (R134). -/
def Fmt.greens (f : Fmt) : Nat × Nat := if f.cfa = 1 ∨ f.cfa = 2 then (0, 3) else (1, 2)

/-- Sample (i, j) of P0 (R134, R137). -/
def Frame.p0 (f : Fmt) (lut : Store Nat) (x : Frame) (i j : Nat) : Nat :=
  match f.sampling with
  | 0 => (x.phase f lut f.greens.1 i j + x.phase f lut f.greens.2 i j + 1) / 2
  | 1 => mapSample f lut (x.raw f (lineKey 0 j) i)
  | 2 => x.raw f (lineKey 0 j) i
  | 3 => x.raw f (lineKey 0 j) (2 * i + 1)
  | 4 => x.raw f (lineKey 0 j) (3 * i)
  | _ => x.raw f (lineKey 0 j) (3 * i + 1)

/-- Size of pyramid level k on an axis (R137). -/
def levelSize (n k : Nat) : Nat :=
  match k with
  | 0 => n
  | k + 1 => ceilDiv (levelSize n k) 2

/-- Sample (i, j) of pyramid level k over a P0 of w × h samples (R137). -/
def pyramid (p0 : Nat → Nat → Nat) (w h k i j : Nat) : Nat :=
  match k with
  | 0 => p0 i j
  | k + 1 =>
    let x1 := min (2 * i + 1) (levelSize w k - 1)
    let y1 := min (2 * j + 1) (levelSize h k - 1)
    (pyramid p0 w h k (2 * i) (2 * j) + pyramid p0 w h k x1 (2 * j) + pyramid p0 w h k (2 * i) y1 +
      pyramid p0 w h k x1 y1 + 2) / 4

/-! ### Block statistics (Table 5-9) -/

/-- Samples of a 16 × 16 block, row by row, clipped at the edge. -/
def blockRows (p0 : Nat → Nat → Nat) (w h bx bt : Nat) : List (List Nat) :=
  (List.range (min 16 (h - 16 * bt))).map (fun j =>
    (List.range (min 16 (w - 16 * bx))).map (fun i => p0 (16 * bx + i) (16 * bt + j)))

/-- Absolute difference. -/
def absDiff (a b : Nat) : Nat := if a < b then b - a else a - b

/-- Sum of absolute differences of neighbours in a list. -/
def gradSum (l : List Nat) : Nat := ((l.zip l.tail).map (fun e => absDiff e.1 e.2)).sum

/-- The statistics of one block. -/
structure BlockStat where
  mean : Nat
  min_ : Nat
  max_ : Nat
  act : Nat
  gradH : Nat
  gradV : Nat
  clip : Nat
  deriving DecidableEq, Repr

/-- The statistics of one block (R138). -/
def blockStat (p0 : Nat → Nat → Nat) (w h width bx bt : Nat) : BlockStat :=
  let rows := blockRows p0 w h bx bt
  let l := rows.flatten
  let n := l.length
  let mean := (l.sum + n / 2) / max 1 n
  { mean := mean, min_ := l.foldl min 65535, max_ := l.foldl max 0
    act := (l.map (fun x => absDiff x mean)).sum
    gradH := (rows.map gradSum).sum
    gradV := ((rows.zip rows.tail).map (fun e => ((e.1.zip e.2).map (fun p => absDiff p.1 p.2)).sum)).sum
    clip := min 255 (l.filter (fun x => x = 0 || x = 2 ^ width - 1)).length }

/-- The record's 128 bits (Table 5-9). -/
def BlockStat.record (b : BlockStat) : BitVec 128 :=
  BitVec.ofNat 128 (b.mean * 2 ^ 112 + b.min_ * 2 ^ 96 + b.max_ * 2 ^ 80 + b.act * 2 ^ 56 + b.gradH * 2 ^ 32 +
    b.gradV * 2 ^ 8 + b.clip)

/-- Blocks of P0, in raster order. -/
def Fmt.blocks (f : Fmt) : List (Nat × Nat) :=
  (List.range (ceilDiv f.p0H 16)).flatMap (fun y => (List.range (ceilDiv f.p0W 16)).map (fun x => (x, y)))

/-- The active images of a channel's LUTs, by object. -/
def Chan.activeImages (c : Chan) : Store (Store Nat) := List.map (fun e => (e.1, e.2.active)) c.luts

/-- An image that a frame uses: that of its launch or, for a frame that no launch has taken by its acceptance, the one then
active (R136). DEDUCED, log entry 235. -/
def State.imageOf (s : State) (ch : Nat) (x : Frame) (obj : Nat) : Store Nat :=
  Store.get (x.images.getD (s.chan ch).activeImages) [] obj

/-- The image of a frame's transfer LUT. -/
def State.rawLut (s : State) (ch : Nat) (x : Frame) : Store Nat := s.imageOf ch x 4

/-- A frame's images are settled, unless they are already. -/
def State.settleImages (s : State) (ch q : Nat) (images : Store (Store Nat)) : State :=
  s.modFrame ch q (fun x => { x with images := some (x.images.getD images) })

/-- A block's place in the statistics of a frame. -/
def Fmt.statKey (f : Fmt) (b : Nat × Nat) : Nat := b.2 * ceilDiv f.p0W 16 + b.1

/-- ACT of a record. -/
def statAct (r : BitVec 128) : Nat := bits r.toNat 79 56

/-- Sum of ACT and samples covered of a frame, from its records (R190). -/
def Frame.statSum (f : Fmt) (x : Frame) : FrameStat :=
  { act := (List.map (fun e => statAct e.2) x.records).sum, samples := f.p0W * f.p0H }

/-! ### CTU row readiness (R130) -/

/-- Rows of P0 that a pyramid's top row covers: P5 in the archive preset, P3 in the standard one, and the blocks. DEDUCED, log entry 79. -/
def Fmt.topRows (archive : Bool) : Nat := if archive then 32 else 16

/-- A luma row of the own cell has all its lines. -/
def Frame.rowPresent (f : Fmt) (x : Frame) (j : Nat) : Bool :=
  if f.planar then (List.range 4).all (fun p => x.has (lineKey p j))
  else if f.raw then x.has (lineKey 0 (2 * j)) && x.has (lineKey 0 (2 * j + 1))
  else if f.sampling = 2 then x.has (lineKey 0 j) && x.has (lineKey 0 (f.height + j / 2))
  else x.has (lineKey 0 j)

/-- Records of the blocks whose samples are all present are written, once the frame's image is settled (R138). -/
def State.writeStats (s : State) (ch q : Nat) : State :=
  match (s.chan ch).frame? q with
  | none => s
  | some x =>
    let f := s.fmt ch
    if x.images.isNone then s
    else
      let p0 := x.p0 f (s.rawLut ch x)
      let whole := (List.range (ceilDiv f.p0H 16)).filter (fun b =>
        (List.range (min 16 (f.p0H - 16 * b))).all (fun j => x.rowPresent f (16 * b + j)))
      let due := f.blocks.filter (fun b => whole.contains b.2 && (Store.find? x.records (f.statKey b)).isNone)
      s.modFrame ch q (fun x => { x with records := due.foldl (fun m b =>
        Store.put m (f.statKey b) (blockStat p0 f.p0W f.p0H f.codedDepth b.1 b.2).record) x.records })

/-- A run of 64 lines of a PASS_THROUGH frame is present (R300). -/
def Frame.runPresent (f : Fmt) (x : Frame) (run : Nat) : Bool :=
  ((f.lineKeys.drop (64 * run)).take 64).all x.has

/-- A row that another device receives has been handed over (R288). -/
def Chan.rowHanded (c : Chan) (x : Frame) (part row : Nat) : Bool :=
  (Store.find? (Store.get c.handed [] x.frameCount) (part * 65536 + row)).isSome

/-- A CTU row of a part is ready: every luma row that it, its pyramid rows and its blocks cover is present, handed-over
rows included (R130, R288). Rows of other cells are needed only where the CTU row itself covers them. -/
def State.rowReady (s : State) (ch : Nat) (f : Fmt) (x : Frame) (part row : Nat) : Bool :=
  if f.pass then x.runPresent f row
  else
    let top := Fmt.topRows (s.cv ch K.CH_SEARCH_PRESET = 1)
    let y0 := s.cellRow0 ch f
    let a := row * f.ctu / top * top
    let b := min f.partH (ceilDiv ((row + 1) * f.ctu) top * top)
    (List.range (b - a)).all (fun i =>
      let y := a + i
      if y0 ≤ y && y < y0 + f.cellH then x.rowPresent f (y - y0)
      else !(row * f.ctu ≤ y && y < (row + 1) * f.ctu) || (s.chan ch).rowHanded x part y)

/-- Rows whose readiness is noted: CTU rows of each part of an array frame, CTU rows of one part otherwise, which are alike
in every part, or runs of 64 lines of a PASS_THROUGH frame. -/
def Fmt.rowKeys (f : Fmt) : List Nat :=
  if f.pass then List.range (ceilDiv (f.planes * f.planeLines) 64)
  else (List.range (if f.array then 4 else 1)).flatMap (fun p => (List.range f.rows).map (fun r => p * 65536 + r))

/-- Key under which the readiness of a CTU row of a part is noted. -/
def Fmt.rowKey (f : Fmt) (part row : Nat) : Nat := (if f.array then part * 65536 else 0) + row

/-- CTU rows of a frame that have become ready are noted with their instant. -/
def State.noteRows (s : State) (ch q : Nat) : State :=
  match (s.chan ch).frame? q with
  | none => s
  | some x =>
    let f := s.fmt ch
    let new := f.rowKeys.filter (fun k => (Store.find? x.rowAt k).isNone && s.rowReady ch f x (k / 65536) (k % 65536))
    if new.isEmpty then s
    else s.modFrame ch q (fun x => { x with rowAt := new.foldl (fun m k => Store.put m k s.time) x.rowAt })

/-! ### Close and acceptance (R124, R126) -/

/-- A frame whose lines are settled is accepted. -/
def State.acceptFrame (s : State) (ch q : Nat) : State :=
  match (s.chan ch).frame? q with
  | none => s
  | some x =>
    let c := s.chan ch
    let s := (s.settleImages ch q c.activeImages).writeStats ch q
    let st := (((s.chan ch).frame? q).getD x).statSum (s.fmt ch)
    let outs := (List.range 4).any (fun k => s.cv ch (K.CH_DERIVEDk_ENABLE + k * 256) = 1)
    let s := s.modFrame ch q (fun x => { x with accepted := true, derived := !outs, first := c.accepted = 0 })
    let s := s.modChan ch (fun c => { c with
      accepted := c.accepted + 1, lastStat := some st, lastLines := x.lines })
    let s := s.cbump ch K.CH_INGEST_STATUS_FRAMES_ACCEPTED 1
    let s := s.setRo (chKey ch K.CH_INGEST_STATUS_LAST_FRAME_COUNT) (x.frameCount % 2 ^ 32)
    s.setRo (chKey ch K.CH_INGEST_STATUS_LAST_CAPTURE_TIME) x.capture

/-- A frame closes (R124, R126): its outstanding lines are declared lost, it is dropped if some phase or plane has no
received line, and otherwise it is accepted. -/
def State.closeFrame (s : State) (ch q : Nat) : State :=
  match (s.chan ch).frame? q with
  | none => s
  | some x =>
    let f := s.fmt ch
    let s := s.modFrame ch q (fun x => { x with closed := true })
    let s := s.loseLines ch q (f.lineKeys.filter x.missing)
    match (s.chan ch).frame? q with
    | none => s
    | some x => if x.emptyPlane f then s.dropFrame ch x else s.acceptFrame ch q

/-- The open frame of a channel closes, a dropped one that is still absorbed included. -/
def State.closeOpen (s : State) (ch : Nat) : State :=
  let s := s.modChan ch (fun c => { (match c.openCount with
    | some fc => c.noteClosed fc
    | none => c) with absorbing := none })
  match (s.chan ch).openFrame with
  | some x => s.closeFrame ch x.seq
  | none => s

/-! ### Meters (R315) -/

def State.meter (s : State) (m : Nat) : Meter := Store.get s.meters {} m

/-- A packet meets a meter's buckets, colour-blind: 0 green, 1 yellow, 2 red, as RFC 2697, RFC 2698 and RFC 4115 lay down.
Buckets hold millionths of a bit. -/
def Meter.colour (m : Meter) (bytes : Nat) : Nat × Meter :=
  let b := bytes * 8000000
  match m.type with
  | 0 | 2 =>
    if b ≤ m.c then (0, { m with c := m.c - b })
    else if b ≤ m.e then (1, { m with e := m.e - b }) else (2, m)
  | _ =>
    if m.e < b then (2, m)
    else if m.c < b then (1, { m with e := m.e - b })
    else (0, { m with c := m.c - b, e := m.e - b })

/-- A meter's buckets after `n` refills of one microsecond each. -/
def Meter.refill (m : Meter) (n : Nat) : Meter :=
  let capC := m.cbs * 8000000
  let capE := m.ebs * 8000000
  match m.type with
  | 0 =>
    let c := m.c + m.cir * n
    if c ≤ capC then { m with c := c } else { m with c := capC, e := min capE (m.e + (c - capC)) }
  | _ => { m with c := min capC (m.c + m.cir * n), e := min capE (m.e + m.eir * n) }

/-- Refills that have fallen due since the last one: one for each whole microsecond. -/
def refillsDue (last now : Time) : Nat := if last = 0 then 1 else now / 1000 - last / 1000

/-- Meters whose settings wait for a refill. -/
def State.metersWaiting (s : State) : List Nat :=
  (((s.dict.waiting.map Prod.fst).filter (fun k => k % 2 ^ 24 / 256 = 0x2A81)).map (fun k => k / 2 ^ 24 - 1)).eraseDups

/-- The waiting settings of a meter take effect: its buckets are full at their sizes. DEDUCED, log entry 32. -/
def State.meterApply (s : State) (m : Nat) : State :=
  let s := s.each ((s.dict.waiting.map Prod.fst).filter (fun k => k % 2 ^ 24 / 256 = 0x2A81 && k / 2 ^ 24 = m + 1)) State.applyKey
  let g := fun k => s.v (winKey m k)
  let mt : Meter :=
    { type := g K.METER_TYPE, cir := g K.METER_CIR, cbs := g K.METER_CBS, eir := g K.METER_EIR, ebs := g K.METER_EBS,
      c := g K.METER_CBS * 8000000, e := g K.METER_EBS * 8000000 }
  { s with meters := Store.put s.meters m mt }

/-- METER_REFILL: at each whole microsecond of TIME_NOW. -/
def execMeterRefill (t : Time) (s : State) : Out :=
  live t s (fun s =>
    let n := refillsDue s.meterAt s.time
    if n = 0 then s
    else
      let s := { s with meters := Store.map s.meters (fun _ m => m.refill n), meterAt := s.time }
      s.each s.metersWaiting State.meterApply)

end Sys2Proof.Machine
end

