-- ==== Sys2Proof/Machine/Egress.lean ====
section
/-! DEFINITION. Ethernet egress: packets (R311 to R314), queues (R302 to R304), transmission selection with its tags and
shapers (R305 to R307), and gate lists (R308 to R310). -/

namespace Sys2Proof.Machine

/-! ### NAL units and RTP payloads (R311) -/

/-- NAL units of a byte stream with 4-byte start codes. `skip` bytes of a start code are still to be passed. -/
def splitStart (skip : Nat) (acc : List Byte) : List Byte → List (List Byte)
  | [] => [acc.reverse]
  | b :: r =>
    if 0 < skip then splitStart (skip - 1) acc r
    else if (b :: r).take 4 == [0, 0, 0, 1] then acc.reverse :: splitStart 3 [] r
    else splitStart 0 (b :: acc) r

/-- Big-endian number of bytes. -/
def beNat (bs : List Byte) : Nat := leNat bs.reverse

/-- NAL units that are each preceded by their length in 4 bytes, big-endian. -/
def splitLength (fuel : Nat) (bs : List Byte) : List (List Byte) :=
  match fuel with
  | 0 => []
  | n + 1 =>
    if bs.length < 4 then []
    else
      let len := beNat (bs.take 4)
      (bs.drop 4).take len :: splitLength n (bs.drop (4 + len))

/-- NAL units of a chunk, by STREAM_FORMAT. -/
def nalUnits (format : Nat) (bs : List Byte) : List (List Byte) :=
  (if format = 1 then splitLength bs.length bs else splitStart 0 [] bs).filter (fun l => !l.isEmpty)

/-- Byte of a NAL unit. -/
def nalByte (l : List Byte) (i : Nat) : Nat := (l.getD i 0).toNat

def byteOf (n : Nat) : Byte := BitVec.ofNat 8 n

/-- Header of an aggregation packet: STAP-A of RFC 6184, AP of RFC 7798 and RFC 9328 (PRESUMED: the RFCs' own layouts). PRESUMED, log entry 158. -/
def aggHeader (codec : Nat) (g : List (List Byte)) : List Byte :=
  match codec with
  | 1 => [byteOf (g.foldl (fun a l => max a (nalByte l 0 / 32 % 4)) 0 * 32 + 24)]
  | 2 =>
    let layer := g.foldl (fun a l => min a (nalByte l 0 % 2 * 32 + nalByte l 1 / 8)) 63
    let tid := g.foldl (fun a l => min a (nalByte l 1 % 8)) 7
    [byteOf (48 * 2 + layer / 32), byteOf (layer % 32 * 8 + tid)]
  | _ =>
    let layer := g.foldl (fun a l => min a (nalByte l 0 % 64)) 63
    let tid := g.foldl (fun a l => min a (nalByte l 1 % 8)) 7
    [byteOf layer, byteOf (28 * 8 + tid)]

/-- Header bytes that an aggregation packet and a fragment add. -/
def aggBase (codec : Nat) : Nat := if codec = 1 then 1 else 2
def fragBase (codec : Nat) : Nat := if codec = 1 then 2 else 3

/-- Bytes of an aggregation packet. -/
def aggSize (codec : Nat) (g : List (List Byte)) : Nat := aggBase codec + (g.map (fun l => 2 + l.length)).sum

/-- The payload of a group of NAL units: the unit itself where it is alone. -/
def groupPayload (codec : Nat) (g : List (List Byte)) : List Byte :=
  match g with
  | [l] => l
  | _ => aggHeader codec g ++ g.flatMap (fun l => beBytes 2 l.length ++ l)

/-- Headers of one fragment of a NAL unit: FU-A of RFC 6184, FU of RFC 7798 and RFC 9328. -/
def fragHeader (codec : Nat) (l : List Byte) (first last : Bool) : List Byte :=
  let se := (if first then 128 else 0) + (if last then 64 else 0)
  match codec with
  | 1 => [byteOf (nalByte l 0 / 32 * 32 + 28), byteOf (se + nalByte l 0 % 32)]
  | 2 => [byteOf (nalByte l 0 / 128 * 128 + 49 * 2 + nalByte l 0 % 2), byteOf (nalByte l 1),
      byteOf (se + nalByte l 0 / 2 % 64)]
  | _ => [byteOf (nalByte l 0), byteOf (29 * 8 + nalByte l 1 % 8), byteOf (se + nalByte l 1 / 8)]

/-- The list cut into runs of `n`. -/
def runsOf {α : Type} (n fuel : Nat) (l : List α) : List (List α) :=
  match fuel with
  | 0 => []
  | k + 1 => if l.isEmpty then [] else l.take n :: runsOf n k (l.drop n)

/-- A NAL unit larger than a payload, in fragments; every one but the last fills the payload. -/
def fragments (codec room : Nat) (l : List Byte) : List (List Byte) :=
  let body := l.drop (aggBase codec)
  let parts := runsOf (room - fragBase codec) body.length body
  (List.range parts.length).map (fun i =>
    fragHeader codec l (i = 0) (i + 1 = parts.length) ++ parts.getD i [])

/-- Payloads of consecutive NAL units, packed greedily. `g` is the group being gathered. -/
def packNals (codec room : Nat) (g : List (List Byte)) : List (List Byte) → List (List Byte)
  | [] => if g.isEmpty then [] else [groupPayload codec g]
  | l :: r =>
    let done := if g.isEmpty then [] else [groupPayload codec g]
    if room < l.length then done ++ fragments codec room l ++ packNals codec room [] r
    else if g.isEmpty then packNals codec room [l] r
    else if aggSize codec (g ++ [l]) ≤ room then packNals codec room (g ++ [l]) r
    else done ++ packNals codec room [l] r

/-! ### ST 2110-20 payloads (R313) -/

/-- Bytes and pixels of a pixel group (PRESUMED: ST 2110-20). -/
def pixelGroup (sampling depth : Nat) : Nat × Nat :=
  if sampling = 3 then (depth / 2, 2)
  else match depth with
    | 8 => (3, 1) | 10 => (15, 4) | 12 => (9, 2) | _ => (6, 1)

/-- Samples of a line in the order of ST 2110-20: Cb before Y in YCbCr 4:4:4. -/
def networkOrder (sampling : Nat) (l : List Nat) : List Nat :=
  if sampling = 4 then (runsOf 3 l.length l).flatMap (fun p => [p.getD 1 0, p.getD 0 0, p.getD 2 0]) else l

/-- A line as network bytes: each sample most significant bit first. -/
def networkLine (f : Fmt) (bs : List Byte) : List Byte :=
  let xs := networkOrder f.sampling ((List.range f.lineSamples).map (sampleOf f.depth bs))
  let v := xs.foldl (fun a x => a * 2 ^ f.depth + x) 0
  let pad := 8 * f.lineBytes - f.depth * f.lineSamples
  beBytes f.lineBytes (v * 2 ^ pad)

/-- Payloads of lines from number `n0`: each one sample row data header and whole pixel groups of one line. -/
def packLines (f : Fmt) (room n0 : Nat) (lines : List (List Byte)) : List (List Byte) :=
  let (g, p) := pixelGroup f.sampling f.depth
  let size := (room - 8) / g * g
  ((List.range lines.length).flatMap (fun i =>
    let parts := runsOf size f.lineBytes (networkLine f (lines.getD i []))
    (List.range parts.length).map (fun k =>
      beBytes 2 (parts.getD k []).length ++ beBytes 2 ((n0 + i) % 2 ^ 15) ++ beBytes 2 (k * size / g * p) ++
        parts.getD k [])))

/-! ### Queues and packets -/

def State.queue (s : State) (q : Nat) : EgressQ := Store.get s.queues {} q
def State.setQueue (s : State) (q : Nat) (e : EgressQ) : State := { s with queues := Store.put s.queues q e }
def State.modQueue (s : State) (q : Nat) (f : EgressQ → EgressQ) : State := s.setQueue q (f (s.queue q))

/-- A setting in effect of a queue. -/
def State.eq (s : State) (q k : Nat) : Nat := s.v (winKey q k)

def State.ethPort (s : State) (p : Nat) : EthPort := Store.get s.eth {} p
def State.setEth (s : State) (p : Nat) (e : EthPort) : State := { s with eth := Store.put s.eth p e }
def State.modEth (s : State) (p : Nat) (f : EthPort → EthPort) : State := s.setEth p (f (s.ethPort p))

/-- Key of an entry of a port's ETH_PORT object (Table 13-2); `p` is [7:4] quad, [3:0] port. -/
def ethKey (p k : Nat) : Nat := k + (4 * (p / 16) + p % 16) * 256

/-- Line rate of a port in Gbit/s by its quad's role (Table 1-8); 0 for a port that no ETH role gives. -/
def State.portRate (s : State) (p : Nat) : Nat :=
  let n := p % 16
  match s.role (p / 16) with
  | 0x20 => if n = 0 then 400 else 0
  | 0x21 => if n < 2 then 200 else 0
  | 0x22 => if n < 4 then 100 else 0
  | 0x23 => if n < 4 then 50 else 0
  | 0x24 => if n < 4 then 25 else 0
  | 0x25 => if n < 4 then 10 else 0
  | _ => 0

/-- STATE codes of a queue. -/
def EgressQ.enabled (e : EgressQ) : Bool := e.state ≠ 0

/-- Bytes that a queue holds. -/
def EgressQ.heldBytes (e : EgressQ) : Nat := (e.held.map (·.bytes)).sum

/-- The head packet: the first that is not yet on the wire. -/
def EgressQ.headPacket (e : EgressQ) : Option Packet := (e.held.flatMap (·.packets)).head?

/-- MAC address of a port: MAC, or the factory base address plus 4 × quad + port (Table 13-2). DEDUCED, log entry 161. -/
def State.portMac (s : State) (p : Nat) : Nat :=
  let m := s.v (ethKey p K.ETH_PORT_MAC) % 2 ^ 48
  if m = 0 then (Config.baseMac + 4 * (p / 16) + p % 16) % 2 ^ 48 else m

/-- The header of packets formed now (R302): DST_MAC, or the RFC 1112 mapping of a multicast address, or none. -/
def State.ethHead (s : State) (q : Nat) : EthHead :=
  let ip := s.eq q K.EQ_CONFIG_DST_IP
  let mac := s.eq q K.EQ_CONFIG_DST_MAC % 2 ^ 48
  { mac := if mac ≠ 0 then some mac
      else if ip / 2 ^ 28 = 14 then some (0x01005E000000 + ip % 2 ^ 23) else none
    src := (s.portMac (s.eq q K.EQ_CONFIG_PORT), s.v (ethKey (s.eq q K.EQ_CONFIG_PORT) K.ETH_PORT_IP_ADDR))
    ip := ip, ports := s.eq q K.EQ_CONFIG_UDP_PORTS, vlan := s.eq q K.EQ_CONFIG_VLAN
    dscpTtl := s.eq q K.EQ_CONFIG_DSCP_TTL }

/-- Wire length of a packet whose UDP payload has `n` bytes: frame from destination address through FCS, at least 64
bytes, plus 20. -/
def wireLength (vlan n : Nat) : Nat := max 64 (14 + (if vlan = 0xFFFF then 0 else 4) + 28 + n + 4) + 20

/-- Next hop of an address on a port: itself within the subnet, else the gateway. -/
def State.nextHopIp (s : State) (p ip : Nat) : Nat :=
  let mask := s.v (ethKey p K.ETH_PORT_IP_MASK)
  if (ip &&& mask) = (s.v (ethKey p K.ETH_PORT_IP_ADDR) &&& mask) then ip else s.v (ethKey p K.ETH_PORT_GATEWAY)

/-- A next hop is resolved by ARP: at most 256 entries, the oldest giving way (R301). The table of commands has no ARP
reply, so a resolution is taken as complete at once. DEDUCED, log entry 156. -/
def State.arpResolve (s : State) (p ip : Nat) : State :=
  let e := s.ethPort p
  if e.arp.any (·.1 == ip) then s
  else (s.setEth p { e with arp := (e.arp ++ [(ip, 0, s.time)]).drop (e.arp.length + 1 - 256) }).emit (.arp p (s.portMac p) ip false)

/-- Packets of RTP payloads: the marker is set on the last one if `mark`. `ext` adds the extended sequence number. -/
def State.formPackets (s : State) (q time : Nat) (mark ext : Bool) (pl : List (List Byte)) : List Packet × State :=
  let e := s.queue q
  let rtp := s.eq q K.EQ_CONFIG_RTP
  let h := s.ethHead q
  let ts := time * 9 / 100000 % 2 ^ 32
  let ps := (List.range pl.length).map (fun i =>
    let seq := e.seq.toNat + i
    let m := if mark && i + 1 = pl.length then 128 else 0
    let body := [byteOf 128, byteOf (m + bits rtp 39 32 % 128)] ++ beBytes 2 (seq % 65536) ++ beBytes 4 ts ++
      beBytes 4 (rtp % 2 ^ 32) ++ (if ext then beBytes 2 (seq / 65536 % 65536) else []) ++ pl.getD i []
    { wire := wireLength h.vlan body.length, head := h, payload := body : Packet })
  let s := s.setQueue q { e with seq := e.seq + w32 pl.length }
  let p := s.eq q K.EQ_CONFIG_PORT
  (ps, if h.mac.isNone then s.arpResolve p (s.nextHopIp p h.ip) else s)

/-! ### Tags (R306) -/

/-- A tag precedes another: (b − a) modulo 2^64 is below 2^63. -/
def tagBefore (a b : W64) : Bool := (b - a).toNat < 2 ^ 63

def laterTag (a b : W64) : W64 := if tagBefore a b then b else a

/-- Key of a TC's virtual time in a port. -/
def EthPort.v (e : EthPort) (tc : Nat) : W64 := Store.get e.virt 0 tc

/-- A packet becomes the head of a queue; `wakes` where the queue was empty before it. -/
def State.newHead (s : State) (q : Nat) (wakes : Bool) : State :=
  let e := s.queue q
  match e.headPacket with
  | none => s
  | some p =>
    let w := s.eq q K.EQ_CONFIG_WEIGHT
    let c := w64 (ceilDiv (p.wire * 65536) w)
    let v := (s.ethPort (s.eq q K.EQ_CONFIG_PORT)).v (s.eq q K.EQ_CONFIG_TC)
    let start :=
      if wakes then
        if s.eq q K.EQ_CONFIG_KIND = 0 then laterTag e.last (v - w64 (s.eq q K.EQ_CONFIG_BURST * 65536 / w)) else v
      else e.last
    s.setQueue q { e with tag := start + c, last := start + c }

/-! ### Hand-over to a queue (R303, R304) -/

/-- What a queue does with a chunk offered to it. -/
inductive Verdict where
  | take | drop | wait
  deriving DecidableEq, Repr

/-- The queue's answer to a chunk: a LIVE queue takes or drops it, a BULK queue takes it or lets its stream wait. -/
def State.queueVerdict (s : State) (ch q bytes : Nat) : Verdict :=
  let e := s.queue q
  let fits := e.heldBytes + bytes ≤ s.eq q K.EQ_CONFIG_MAX_BYTES
  let open_ := e.enabled && (s.ethPort (s.eq q K.EQ_CONFIG_PORT)).link &&
    !(s.array.state = 4 && s.cv ch K.CH_ARRAY_ARRAY_EN = 1)
  if fits && open_ then .take else if s.eq q K.EQ_CONFIG_KIND = 0 then .drop else .wait

/-- A drop is counted, and EGRESS_DROP raised at most once per second per queue. -/
def State.countDrop (s : State) (q ch : Nat) : State :=
  let e := s.queue q
  let s := s.setQueue q { e with dropped := e.dropped + 1 }
  let due : Bool := match e.lastDrop with
    | some t => t + 1000000000 ≤ s.time
    | none => true
  if due then
    (s.modQueue q (fun e => { e with lastDrop := some s.time })).raise F.EGRESS_DROP
      { loc := Loc.ofChan ch, detail := [q] }
  else s

/-- Packets enter a queue as one held chunk. -/
def State.holdPackets (s : State) (q ch bytes : Nat) (bufs : List Nat) (ps : List Packet) : State :=
  let wakes := (s.queue q).headPacket.isNone
  let s := s.modQueue q (fun e => { e with
    held := e.held ++ [{ chan := ch, bufs := bufs, bytes := bytes, packets := ps }] })
  if wakes then s.newHead q true else s

/-- A chunk of a stream enters a queue (R311 to R313); `format` is its STREAM_FORMAT. A chunk that yields no packet is released at once. DEDUCED, log entry 160. -/
def State.queueChunk (s : State) (ch q : Nat) (bufs : List Nat) (data : List Byte) (launch : Time) (eop : Bool)
    (n0 format : Nat) : State :=
  let f := s.fmt ch
  let mtu := s.eq q K.EQ_CONFIG_MTU
  let pl :=
    if f.pass then packLines f (mtu - 40) n0 (runsOf f.lineBytes data.length data)
    else packNals f.codec (mtu - 40) [] (nalUnits format data)
  let (ps, s) := s.formPackets q launch eop f.pass pl
  if ps.isEmpty then s.each bufs (fun s n => s.doneBuf n 5) else s.holdPackets q ch data.length bufs ps

/-- The queue releases its share of its first held chunk once no packet of it is left. -/
def State.releaseHeld (s : State) (q : Nat) : State :=
  let e := s.queue q
  match e.held with
  | [] => s
  | c :: r =>
    if c.packets.isEmpty then
      (s.setQueue q { e with held := r }).each c.bufs (fun s n => s.doneBuf n 5)
    else s

/-! ### Offload (R314) -/

/-- STREAM_FORMAT of a recorded access unit, which its clip record does not name: an access unit that begins with a start code
is a byte stream. DEDUCED, log entry 253. -/
def unitFormat (au : List Byte) : Nat := if au.take 4 = [0, 0, 0, 1] then 0 else 1

/-- The first of these access units that yields packets is packetised; without one STATE is OFFLOAD_DONE. -/
def State.offloadUnits (s : State) (q : Nat) : List (Time × List Byte) → State
  | [] => s.modQueue q (fun e => { e with state := 3, offload := [] })
  | (t, au) :: r =>
    let (ps, s) := s.formPackets q t true false
      (packNals (s.queue q).codec (s.eq q K.EQ_CONFIG_MTU - 40) [] (nalUnits (unitFormat au) au))
    if ps.isEmpty then s.offloadUnits q r
    else (s.modQueue q (fun e => { e with offload := r })).holdPackets q 0x1FF au.length [] ps

/-- The next access unit of an offload is packetised once the queue is empty; after the last one STATE is OFFLOAD_DONE. -/
def State.offloadNext (s : State) (q : Nat) : State :=
  let e := s.queue q
  if e.state ≠ 2 ∨ !e.held.isEmpty then s else s.offloadUnits q e.offload

/-! ### Gates (R308 to R310) -/

/-- Spans of one cycle: start and end from the cycle start, and GATES. The last entry holds until the cycle ends, and the
list is cut there (R310). -/
def gateSpans (cycle at_ : Nat) : List (Nat × Nat) → List (Nat × Nat × Nat)
  | [] => []
  | [(g, _)] => if at_ < cycle then [(at_, cycle, g)] else []
  | (g, n) :: r => if at_ < cycle then (at_, min cycle (at_ + n), g) :: gateSpans cycle (at_ + n) r else []

/-- A TC's gate at an instant of the active list. -/
def EthPort.gateOpen (e : EthPort) (tc : Nat) : Bool :=
  match e.active.entries with
  | [] => true
  | l => bit ((l.getD e.entry (0xFF, 0)).1) tc

/-- Starts and GATES of the spans of a list over two cycles from a cycle start. -/
def GateList.spans (l : GateList) (start : Time) : List (Time × Nat) :=
  let one := gateSpans l.cycle 0 l.entries
  one.map (fun x => (start + x.1, x.2.2)) ++ one.map (fun x => (start + l.cycle + x.1, x.2.2))

/-- The switch instant of a committed list: its first cycle start at or after the instant given (R309). -/
def State.switchAt (s : State) (p : Nat) (from_ : Time) : Time :=
  let base := s.pv (ethKey p K.ETH_PORT_GATE_BASE)
  let cyc := max 1 (s.pv (ethKey p K.ETH_PORT_GATE_CYCLE_NS))
  if from_ ≤ base then base else base + ceilDiv (from_ - base) cyc * cyc

/-- An entry of the pending list; its reset value has GATES 0xFF and INTERVAL_NS 0 (Table 13-4). -/
def EthPort.pendingEntry (e : EthPort) (i : Nat) : Nat := (Store.get e.pendingList 0x000000FF00000000#64 i).toNat

/-- The pending list of a port with its settings. -/
def State.pendingGates (s : State) (p : Nat) : GateList :=
  { base := s.pv (ethKey p K.ETH_PORT_GATE_BASE), cycle := s.pv (ethKey p K.ETH_PORT_GATE_CYCLE_NS)
    entries := (List.range (s.pv (ethKey p K.ETH_PORT_GATE_COUNT))).map (fun i =>
      (bits ((s.ethPort p).pendingEntry i) 39 32, (s.ethPort p).pendingEntry i % 2 ^ 32)) }

/-- The first instant after the present one at which a TC's gate closes, looking over the rest of this cycle and the next
one, and past the switch to a committed list (R305, R310). -/
def State.nextClose (s : State) (p tc : Nat) : Option Time :=
  let e := s.ethPort p
  let old := e.active.spans e.cycleStart
  let all : List (Time × Nat) := match e.commitAt with
    | none => old
    | some from_ =>
      let sw := s.switchAt p from_
      old.filter (fun (x : Time × Nat) => x.1 < sw) ++ (s.pendingGates p).spans sw
  (all.find? (fun (x : Time × Nat) => s.time < x.1 && !bit x.2 tc)).map Prod.fst

/-- GATE_COMMIT (R309). -/
def State.gateCommit (s : State) (p : Nat) : Except Abort State :=
  let e := s.ethPort p
  let n := s.pv (ethKey p K.ETH_PORT_GATE_COUNT)
  if (List.range n).any (fun i => e.pendingEntry i % 2 ^ 32 == 0) then .error A.value
  else match e.commitAt with
    | some _ => .ok s
    | none =>
      let next := if e.active.entries.isEmpty then s.time
        else e.cycleStart + ((s.time - e.cycleStart) / max 1 e.active.cycle + 1) * e.active.cycle
      .ok (s.setEth p { e with commitAt := some next })

/-- A committed list takes over at its first cycle start: the pending list and its three settings as they stand. -/
def State.gateSwitch (s : State) (p : Nat) (start : Time) : State :=
  let s := [K.ETH_PORT_GATE_BASE, K.ETH_PORT_GATE_CYCLE_NS, K.ETH_PORT_GATE_COUNT].foldl
    (fun s k => s.applyKey (ethKey p k)) s
  let l := s.pendingGates p
  (s.modEth p (fun e => { e with active := l, commitAt := none, cycleStart := start, entry := 0 })).setRo
    (ethKey p K.ETH_PORT_GATE_ACTIVE) l.entries.length

/-- GATE_CYCLE_START: a committed list whose switch instant has come takes over; otherwise the active list's next cycle
starts (R309, R310). -/
def execGateCycleStart (t : Time) (port : Nat) (s : State) : Out :=
  inRange "port" (port / 16) 6 <| inRange "port" (port % 16) 4 <| live t s (fun s =>
    let e := s.ethPort port
    match e.commitAt with
    | some from_ =>
      let sw := s.switchAt port from_
      if sw ≤ s.time then s.gateSwitch port sw
      else if !e.active.entries.isEmpty ∧ e.cycleStart + e.active.cycle ≤ s.time then
        s.setEth port { e with
          cycleStart := e.cycleStart + (s.time - e.cycleStart) / e.active.cycle * e.active.cycle, entry := 0 }
      else s
    | none =>
      if !e.active.entries.isEmpty ∧ e.cycleStart + e.active.cycle ≤ s.time then
        s.setEth port { e with
          cycleStart := e.cycleStart + (s.time - e.cycleStart) / e.active.cycle * e.active.cycle, entry := 0 }
      else s)

/-- GATE_ENTRY_CHANGE: the entry that the instant falls in within the cycle (R310). -/
def execGateEntryChange (t : Time) (port : Nat) (s : State) : Out :=
  inRange "port" (port / 16) 6 <| inRange "port" (port % 16) 4 <| live t s (fun s =>
    let e := s.ethPort port
    let spans := gateSpans e.active.cycle 0 e.active.entries
    match spans.findIdx? (fun x => e.cycleStart + x.1 ≤ s.time && s.time < e.cycleStart + x.2.1) with
    | some i => s.setEth port { e with entry := i }
    | none => s)

/-! ### Transmission selection (R305) -/

/-- Nanoseconds, rounded up, that bytes take at a rate in Gbit/s. -/
def wireNs (bytes rate : Nat) : Nat := ceilDiv (bytes * 8) (max 1 rate)

/-- The head packet of a queue is eligible: its gate is open, its last bit leaves before the gate next closes, its shaper
holds its length, its port has an IP address (R301), and a fenced device starts no packet of an array channel (R294, R305). The last bit of a frame leaves 12
bytes of gap before the end of its wire length. DEDUCED, log entry 155. -/
def State.eligibleHead (s : State) (port q : Nat) : Bool :=
  let e := s.queue q
  match e.headPacket with
  | none => false
  | some p =>
    let tc := s.eq q K.EQ_CONFIG_TC
    let eth := s.ethPort port
    let ends := s.time + wireNs (p.wire - 12) (s.portRate port)
    let fit := match s.nextClose port tc with
      | some c => ends < c
      | none => true
    let shaped := s.eq q K.EQ_CONFIG_SHAPE_RATE ≠ 0
    let fenced := s.array.state = 4 && (e.held.find? (fun h => !h.packets.isEmpty)).any (fun h =>
      h.chan < 256 && s.cv h.chan K.CH_ARRAY_ARRAY_EN = 1)
    e.enabled && s.eq q K.EQ_CONFIG_PORT == port && eth.gateOpen tc && fit &&
      (!shaped || p.wire * 65536 ≤ e.tokens) && !fenced && s.v (ethKey port K.ETH_PORT_IP_ADDR) ≠ 0

/-- A queue goes before another: the higher TC, then the smaller finish tag, then the lower number. -/
def State.sendsBefore (s : State) (a b : Nat) : Bool :=
  let ta := s.eq a K.EQ_CONFIG_TC
  let tb := s.eq b K.EQ_CONFIG_TC
  if ta ≠ tb then tb < ta
  else
    let fa := (s.queue a).tag
    let fb := (s.queue b).tag
    if fa = fb then a < b else tagBefore fa fb

/-- The queue chosen at a transmission opportunity of a port. -/
def State.selected (s : State) (port : Nat) : Option Nat :=
  ((List.map Prod.fst s.queues).filter (s.eligibleHead port)).foldl
    (fun best q => match best with
      | none => some q
      | some b => if s.sendsBefore q b then some q else some b) none

/-- The first packet leaves a queue's held chunks. -/
def popPacket : List HeldChunk → List HeldChunk
  | [] => []
  | c :: r =>
    match c.packets with
    | [] => c :: popPacket r
    | _ :: ps => { c with packets := ps } :: r

/-- A packet starts on the wire: V becomes its tag, its shaper pays, and the next packet becomes head. -/
def State.startPacket (s : State) (port q : Nat) : State :=
  let e := s.queue q
  match e.headPacket with
  | none => s
  | some p =>
    let s := s.modEth port (fun h => { h with
      virt := Store.put h.virt (s.eq q K.EQ_CONFIG_TC) e.tag, busy := some q })
    let paid := if s.eq q K.EQ_CONFIG_SHAPE_RATE = 0 then e.tokens else e.tokens - p.wire * 65536
    let s := s.setQueue q { e with held := popPacket e.held, tokens := paid }
    (s.emit (.ethFrame port q p.head p.payload)).newHead q false

/-- TRANSMIT_SELECTION (R305). A device-fatal fault stops egress. -/
def execTransmitSelection (t : Time) (port : Nat) (s : State) : Out :=
  inRange "port" (port / 16) 6 <| inRange "port" (port % 16) 4 <| live t s (fun s =>
    let eth := s.ethPort port
    if s.fatal || !eth.link || eth.busy.isSome || s.portRate port = 0 then s
    else match s.selected port with
      | some q => s.startPacket port q
      | none => s)

/-- PACKET_TX_DONE (R304): the packet has been transmitted. -/
def execPacketTxDone (t : Time) (port : Nat) (s : State) : Out :=
  inRange "port" (port / 16) 6 <| inRange "port" (port % 16) 4 <| live t s (fun s =>
    match (s.ethPort port).busy with
    | none => s
    | some q =>
      let s := s.modEth port (fun h => { h with busy := none })
      let s := s.modQueue q (fun e => { e with sent := e.sent + 1 })
      (s.releaseHeld q).offloadNext q)

/-! ### Shapers (R307) -/

/-- The waiting SHAPE_RATE and SHAPE_BURST of a queue apply: a change from 0 to a rate starts the bucket full. -/
def State.shaperApply (s : State) (q : Nat) : State :=
  let old := s.eq q K.EQ_CONFIG_SHAPE_RATE
  let s := [K.EQ_CONFIG_SHAPE_RATE, K.EQ_CONFIG_SHAPE_BURST].foldl (fun s k =>
    if s.waits (winKey q k) then s.applyKey (winKey q k) else s) s
  let cap := s.eq q K.EQ_CONFIG_SHAPE_BURST * 65536
  s.modQueue q (fun e => { e with
    tokens := if old = 0 ∧ s.eq q K.EQ_CONFIG_SHAPE_RATE ≠ 0 then cap else min e.tokens cap })

/-- One or more refills of a queue's shaper: SHAPE_RATE / 8 × 1 µs bytes each, with 16 fraction bits, rounded down. DEDUCED, log entry 159. -/
def State.shaperAdd (s : State) (q n : Nat) : State :=
  let add := s.eq q K.EQ_CONFIG_SHAPE_RATE * 65536 / 8000000
  s.modQueue q (fun e => { e with tokens := min (s.eq q K.EQ_CONFIG_SHAPE_BURST * 65536) (e.tokens + n * add) })

/-- Queues whose shaper settings wait for a refill. -/
def State.shapersWaiting (s : State) : List Nat :=
  (((s.dict.waiting.map Prod.fst).filter (fun k => k % 2 ^ 24 = K.EQ_CONFIG_SHAPE_RATE || k % 2 ^ 24 = K.EQ_CONFIG_SHAPE_BURST)).map
    (fun k => k / 2 ^ 24 - 1)).eraseDups

/-- SHAPER_REFILL: at each whole microsecond of TIME_NOW. -/
def execShaperRefill (t : Time) (s : State) : Out :=
  live t s (fun s =>
    let n := refillsDue s.shaperAt s.time
    if n = 0 then s
    else
      let s := { s with shaperAt := s.time }
      let s := s.each (List.map Prod.fst s.queues) (fun s q =>
        if s.eq q K.EQ_CONFIG_SHAPE_RATE = 0 then s else s.shaperAdd q n)
      s.each s.shapersWaiting State.shaperApply)

/-! ### Links, ARP and ICMP (R301, R303) -/

/-- Joins of the channels that receive on a port, reported by IGMPv3: group and source. DEDUCED, log entry 162. -/
def State.joins (s : State) (p : Nat) : List (Nat × Nat) :=
  (s.chans.filter (fun e => e.2.state = .open_)).filterMap (fun e =>
    let n := e.1
    if s.cv n K.CH_DECODE_DIRECTION = 1 then
      if s.cv n K.CH_DECODE_INPUT = 2 ∧ s.cv n K.CH_DECODE_PORT = p then some (s.cv n K.CH_DECODE_MCAST_ADDR, 0)
      else none
    else if s.cv n K.CH_SOURCE_KIND = 2 ∧ s.cv n K.CH_SOURCE_PORT = p then
      some (s.cv n K.CH_SOURCE_MCAST_ADDR, s.cv n K.CH_SOURCE_SRC_ADDR)
    else none)

/-- The port sends IGMPv3 reports for its multicast joins; a port with IP_ADDR 0 sends no IP packets. -/
def State.reportJoins (s : State) (p : Nat) : State :=
  if s.v (ethKey p K.ETH_PORT_IP_ADDR) = 0 ∨ !(s.ethPort p).link then s
  else s.each ((s.joins p).filter (fun j => j.1 / 2 ^ 28 == 14)) (fun s j => s.emit (.igmp p j.1 j.2))

/-- ETH_LINK_UP. -/
def execEthLinkUp (t : Time) (port : Nat) (s : State) : Out :=
  inRange "port" (port / 16) 6 <| inRange "port" (port % 16) 4 <| live t s (fun s =>
    if s.portRate port = 0 then s
    else
      let s := (s.modEth port (fun h => { h with link := true })).setRo (ethKey port K.ETH_PORT_LINK) 1
      s.reportJoins port)

/-- A LIVE queue drops every chunk it holds. DEDUCED, log entry 157. -/
def State.dropHeld (s : State) (q : Nat) : State :=
  let held := (s.queue q).held
  let s := s.modQueue q (fun e => { e with held := [] })
  s.each held (fun s c => (s.each c.bufs (fun s n => s.doneBuf n 5)).countDrop q c.chan)

/-- ETH_LINK_DOWN: the packet on the wire is lost, and LIVE queues of the port drop the chunks they cannot send (R205,
R303). -/
def execEthLinkDown (t : Time) (port : Nat) (s : State) : Out :=
  inRange "port" (port / 16) 6 <| inRange "port" (port % 16) 4 <| live t s (fun s =>
    if !(s.ethPort port).link then s
    else
      let busy := (s.ethPort port).busy
      let s := (s.modEth port (fun h => { h with link := false, busy := none })).setRo (ethKey port K.ETH_PORT_LINK) 0
      let s := match busy with
        | some q => s.releaseHeld q
        | none => s
      s.each ((List.map Prod.fst s.queues).filter (fun q =>
          s.eq q K.EQ_CONFIG_PORT == port && s.eq q K.EQ_CONFIG_KIND == 0))
        State.dropHeld)

/-- ARP_REQUEST: answered for the port's IP_ADDR. -/
def execArpRequest (t : Time) (port senderIp senderMac targetIp : Nat) (s : State) : Out :=
  inRange "port" (port / 16) 6 <| inRange "port" (port % 16) 4 <| live t s (fun s =>
    let ip := s.v (ethKey port K.ETH_PORT_IP_ADDR)
    let e := s.ethPort port
    if !e.link ∨ ip = 0 ∨ targetIp ≠ ip then s
    else
      (s.setEth port { e with arp := e.arp.map (fun a =>
        if a.1 = senderIp then (a.1, senderMac, a.2.2) else a) }).emit (.arp port (s.portMac port) senderIp true))

/-- ICMP_ECHO_REQUEST: answered for the port's IP_ADDR. -/
def execIcmpEchoRequest (t : Time) (port srcIp dstIp : Nat) (payload : List Byte) (s : State) : Out :=
  inRange "port" (port / 16) 6 <| inRange "port" (port % 16) 4 <| live t s (fun s =>
    let ip := s.v (ethKey port K.ETH_PORT_IP_ADDR)
    if !(s.ethPort port).link ∨ ip = 0 ∨ dstIp ≠ ip then s else s.emit (.icmp port srcIp payload))

/-- ARP_REFRESH: an entry is refreshed every 60 s. -/
def execArpRefresh (t : Time) (port ip : Nat) (s : State) : Out :=
  inRange "port" (port / 16) 6 <| inRange "port" (port % 16) 4 <| live t s (fun s =>
    let e := s.ethPort port
    if !e.link ∨ !e.arp.any (fun a => a.1 == ip && a.2.2 + 60000000000 ≤ s.time) then s
    else
      (s.setEth port { e with arp := e.arp.map (fun a =>
        if a.1 = ip then (a.1, a.2.1, s.time) else a) }).emit (.arp port (s.portMac port) ip false))

/-! ### Writes of EQ_CONFIG (R302) -/

/-- PORT, KIND and TC are written only while ENABLE is 0. -/
def State.eqLocked (s : State) (q k : Nat) : Bool :=
  (s.queue q).enabled && (k = K.EQ_CONFIG_PORT || k = K.EQ_CONFIG_KIND || k = K.EQ_CONFIG_TC)

/-- An accepted ENABLE write: on enable the sequence number is 0 and STATE ACTIVE. -/
def State.eqEnable (s : State) (q : Nat) (on : Bool) : State :=
  let e := s.queue q
  if on = e.enabled then s
  else if on then s.setQueue q { e with state := 1, seq := 0 }
  else s.setQueue q { e with state := 0, offload := [] }

/-- STATE and COUNTS of a queue as they read. -/
def EgressQ.counts (e : EgressQ) : Nat := e.sent.toNat * 2 ^ 32 + e.dropped.toNat

end Sys2Proof.Machine
end

