-- ==== Sys2Proof/Machine/Magazines.lean ====
section
/-! DEFINITION. Magazines, clips and extents, the frame index, checkpoints and durability (R316 to R323). -/

namespace Sys2Proof.Machine

/-! ### Tables -/

def State.mag (s : State) (m : Nat) : Mag := Store.get s.mags {} m
def State.setMag (s : State) (m : Nat) (g : Mag) : State := { s with mags := Store.put s.mags m g }
def State.recOf (s : State) (ch : Nat) : Recording := Store.get s.recs {} ch
def State.setRec (s : State) (ch : Nat) (r : Recording) : State := { s with recs := Store.put s.recs ch r }
def State.modRec (s : State) (ch : Nat) (f : Recording → Recording) : State := s.setRec ch (f (s.recOf ch))

/-- Key of a clip: magazine × 4 + stream. -/
def clipKey (m stream : Nat) : Nat := 4 * m + stream

def Recording.clip (r : Recording) (m k : Nat) : Clip := Store.get r.clips { number := 0 } (clipKey m k)
def Recording.setClip (r : Recording) (m k : Nat) (c : Clip) : Recording :=
  { r with clips := Store.put r.clips (clipKey m k) c }
def State.setClip (s : State) (ch m k : Nat) (c : Clip) : State := s.modRec ch (fun r => r.setClip m k c)

/-- Key of an entry of a magazine's object (Table 13-7). -/
def magKey (m k : Nat) : Nat := k + 256 * m

/-- A magazine is READY. -/
def State.magReady (s : State) (m : Nat) : Bool := (s.mag m).state == 1

/-- Magazines that a recording uses. -/
def Recording.magList (r : Recording) : List Nat := (List.range 2).filter (fun m => bit r.mags m)

/-- Magazines that still record a channel: READY, with an open clip. -/
def State.recordingOn (s : State) (ch : Nat) : List Nat :=
  (s.recOf ch).magList.filter (fun m => s.magReady m && ((s.recOf ch).clip m 0).state == 1)

/-! ### Extents (R318) -/

/-- Extents of one kind of a clip, in list order, and the bytes they hold. -/
def Clip.exts (c : Clip) (index : Bool) : List Extent := c.extents.filter (·.isIndex == index)
def extentBytes (l : List Extent) : Nat := (l.map (fun e => e.blocks * 4096)).sum

/-- An extent as its word (Table 13-9). -/
def Extent.word (k : Nat) (e : Extent) : Nat :=
  e.start * 2 ^ 31 + k * 2 ^ 29 + (if e.isIndex then 2 ^ 28 else 0) + e.blocks

/-- An EXTENT_ADD write. -/
def State.extentAdd (s : State) (ch m v : Nat) : Except Abort State :=
  let e : Extent := { start := bits v 63 31, blocks := bits v 27 0, isIndex := bit v 28 }
  let k := bits v 30 29
  let table := s.v (magKey m K.MAG_CLIP_TABLE_LBA)
  let c := (s.recOf ch).clip m k
  if e.blocks = 0 ∨ (table ≠ 2 ^ 64 - 1 ∧ e.start < table + 4096 ∧ table < e.start + e.blocks) ∨
      495 ≤ c.extents.length then .error A.value
  else if (s.mag m).capacity < e.start + e.blocks then .error A.above
  else .ok (s.setClip ch m k { c with extents := c.extents ++ [e] })

/-- Streams of a channel (R132). -/
def State.streams (s : State) (ch : Nat) : Nat := (s.fmt ch).pictures

/-- A CLIP write: outside OPEN it empties every list and sets CLIP_STATE to NONE. The stream count depends on other entries, so
the write is checked against the widest limit, that of the entry itself (R423). -/
def State.clipWrite (s : State) (ch v : Nat) : Except Abort State :=
  let r := s.recOf ch
  if r.state = 1 then .error A.state
  else .ok ((s.setImm (chKey ch K.CH_MAG_CLIP) v).setRec ch { r with state := 0, clips := [] })

/-- A CLIP_CMD write (R318): accepted, it waits for the frame boundary. An OPEN whose clips would pass number 4,095 is refused
(R423; DEDUCED, log entry 218). -/
def State.clipCmd (s : State) (ch v : Nat) : Except Abort State :=
  let r := s.recOf ch
  let mags := (List.range 2).filter (fun m => bit (s.pv (chKey ch K.CH_OUTPUT_MAGAZINES)) m)
  let bad := mags.any (fun m =>
    !s.magReady m || s.v (magKey m K.MAG_CLIP_TABLE_LBA) == 2 ^ 64 - 1 ||
      (List.range (fmtOf (fun k => s.pv (chKey ch k))).pictures).any (fun k =>
        ((r.clip m k).exts false).isEmpty || ((r.clip m k).exts true).isEmpty))
  if v ≠ 1 ∧ v ≠ 2 then .error A.value
  else if v = 1 ∧ (bad ∨ 4096 < s.pv (chKey ch K.CH_MAG_CLIP) + (fmtOf (fun k => s.pv (chKey ch k))).pictures) then .error A.state
  else .ok ((s.setRec ch { r with cmd := some v }).setWaiting (chKey ch K.CH_MAG_CLIP_CMD))

/-- A waiting OPEN or CLOSE takes effect at a frame boundary (R318). -/
def State.clipBoundary (s : State) (ch : Nat) (time : Time) : State :=
  let r := s.recOf ch
  let r' := { r with cmd := none }
  match r.cmd with
  | some 1 =>
    if r.state = 1 then s.setRec ch r'
    else
      let mags := s.cv ch K.CH_OUTPUT_MAGAZINES % 4
      let n := s.streams ch
      let fresh := (List.range 2).flatMap (fun m => (List.range 4).map (fun k => (m, k)))
      let r' := { r' with
        state := 1, mags := mags, streams := n, openAt := time, closeAt := none, ending := [], waits := []
        flushing := [], records := []
        next := (List.range 2).map (fun m => (m, time + s.v (magKey m K.MAG_CHECKPOINT_MS) * 1000000)) }
      let r' := fresh.foldl (fun (r : Recording) mk =>
        if bit mags mk.1 && mk.2 < n then
          r.setClip mk.1 mk.2
            { number := s.cv ch K.CH_MAG_CLIP + mk.2, state := 1, extents := (r.clip mk.1 mk.2).extents }
        else r) r'
      s.setRec ch r'
  | some 2 => s.setRec ch (if r.state = 1 then { r' with closeAt := some time } else r')
  | _ => s.setRec ch r'

/-! ### Writing through extents (R319) -/

/-- Bytes written at a byte offset of an extent list. -/
def extentWrite (m : Memory) (off : Nat) (bs : List Byte) : List Extent → Memory
  | [] => m
  | e :: r =>
    let size := e.blocks * 4096
    if size ≤ off then extentWrite m (off - size) bs r
    else
      let n := size - off
      extentWrite (Memory.writeBytes m (e.start * 4096 + off) (bs.take n)) 0 (bs.drop n) r

/-- Bytes read at a byte offset of an extent list. -/
def extentRead (m : Memory) (off n : Nat) : List Extent → List Byte
  | [] => []
  | e :: r =>
    let size := e.blocks * 4096
    if size ≤ off then extentRead m (off - size) n r
    else Memory.readBytes m (e.start * 4096 + off) (min n (size - off)) ++ extentRead m 0 (n - (size - off)) r

/-- Runs of blocks of an extent list that cover byte range [a, b): each at most 64 blocks, which is 256 KiB (R316). -/
def extentRuns (a b : Nat) : List Extent → List (Nat × Nat)
  | [] => []
  | e :: r =>
    let size := e.blocks * 4096
    let here :=
      if a < size ∧ a < b then
        let lo := a / 4096
        let hi := ceilDiv (min b size) 4096
        (List.range (ceilDiv (hi - lo) 64)).map (fun i => (e.start + lo + 64 * i, min 64 (hi - lo - 64 * i)))
      else []
    here ++ extentRuns (a - size) (b - size) r

/-- A command to a magazine is issued. NVMe opcodes: 0 Flush, 1 Write, 2 Read. -/
def State.nvmeIssue (s : State) (m op lba : Nat) (bytes : List Byte) : State :=
  let g := s.mag m
  (s.setMag m { g with
    inFlight := g.inFlight ++ [(op, s.time)], issued := if op = 1 then g.issued + 1 else g.issued }).emit
    (.nvme m op lba bytes)

/-- Data enters a clip's essence or index: the blocks it touches are written, the rest of the last one as zero bytes. -/
def State.clipData (s : State) (m : Nat) (exts : List Extent) (off : Nat) (bs : List Byte) : State :=
  let g := s.mag m
  let gap := ceilDiv (off + bs.length) 4096 * 4096 - (off + bs.length)
  let content := extentWrite g.content off (bs ++ List.replicate gap 0) exts
  let s := s.setMag m { g with content := content }
  let s := s.bump (magKey m K.MAG_BYTES_WRITTEN) bs.length
  s.each (extentRuns off (off + bs.length) exts) (fun s r =>
    s.nvmeIssue m 1 r.1 (Memory.readBytes content (r.1 * 4096) (r.2 * 4096)))

/-- An index entry's 32 bytes (Table 13-10). -/
def IndexEntry.bytes (e : IndexEntry) : List Byte :=
  let b := leBytes 4 e.pic ++ leBytes 1 e.flags ++ leBytes 3 0 ++ leBytes 8 e.offset ++ leBytes 4 e.length ++
    leBytes 8 e.launch
  b ++ leBytes 4 (crc32c b).toNat

def roundUp (n k : Nat) : Nat := ceilDiv n k * k

/-- A chunk as the writer receives it: place in its access unit, and the picture's facts. -/
structure ChunkFacts where
  chan : Nat
  stream : Nat
  data : List Byte
  bufs : List Nat
  launch : Time
  pic : Nat
  /-- FLAGS of Table 13-10, and the first picture of its frame. -/
  flags : Nat
  firstPic : Nat
  /-- MAGAZINES of its frame. -/
  mags : Nat
  soc : Bool
  eop : Bool
  deriving DecidableEq, Repr

/-- Recording of a channel on a magazine ends with the frame at hand: later frames are not recorded there, and its clips
take a state after a final checkpoint. DEDUCED, log entry 164. -/
def State.endOn (s : State) (ch m state : Nat) : State :=
  s.modRec ch (fun r => if (Store.find? r.ending m).isSome then r else { r with ending := Store.put r.ending m state })

/-- MAG_LOW_SPACE once per clip (R322). -/
def State.lowSpace (s : State) (ch m k : Nat) : State :=
  let c := (s.recOf ch).clip m k
  let total := extentBytes (c.exts false) / 4096
  if !c.lowRaised ∧ total - ceilDiv c.essence 4096 < s.v (magKey m K.MAG_LOW_BLOCKS) then
    (s.setClip ch m k { c with lowRaised := true }).raise F.MAG_LOW_SPACE { loc := Loc.ofChan ch, detail := [c.number] }
  else s

/-- A chunk is written to the essence of its stream's clip on one magazine, and its index entry at EOP (R319). Where the
access unit or its entry does not fit, recording on that magazine ends before this frame (R322). The answer says whether the
chunk was written. -/
def State.writeClip (s : State) (x : ChunkFacts) (m : Nat) : Bool × State :=
  let c := (s.recOf x.chan).clip m x.stream
  if c.state ≠ 1 ∨ (Store.find? (s.recOf x.chan).ending m).isSome then (false, s)
  else
    let start := if x.soc then roundUp c.essence 4096 else c.essence
    let auStart := if x.soc then start else c.auStart
    let au := (if x.soc then 0 else c.au) + x.data.length
    if extentBytes (c.exts false) < start + x.data.length ∨
        extentBytes (c.exts true) < (c.index.length + 1) * 32 then
      let s := s.setClip x.chan m x.stream { c with essence := if x.soc then c.essence else c.auStart }
      (false, (s.endOn x.chan m 3).raise F.MAG_FULL { loc := Loc.ofPic x.chan x.firstPic })
    else
      let s := s.clipData m (c.exts false) start x.data
      let entry : IndexEntry :=
        { pic := x.pic, flags := x.flags, offset := auStart, length := au, launch := x.launch }
      let s := if x.eop then s.clipData m (c.exts true) (c.index.length * 32) entry.bytes else s
      let s := s.setClip x.chan m x.stream { c with
        essence := start + x.data.length, au := au, auStart := auStart
        index := if x.eop then c.index ++ [entry] else c.index
        firstLaunch := if c.index.isEmpty && c.essence = 0 then x.launch else c.firstLaunch }
      (true, s.lowSpace x.chan m x.stream)

/-- A frame launched at an instant belongs to the open clip (R318). -/
def Recording.takes (r : Recording) (launch : Time) : Bool :=
  r.state == 1 && r.mags ≠ 0 && r.openAt ≤ launch && (match r.closeAt with
    | some c => launch < c
    | none => true)

/-- Chunks freed unsent are counted (R299, R318). -/
def State.notSent (s : State) (ch : Nat) : State := s.cbump ch K.CH_MAG_NOT_SENT 1

/-- The magazine writer takes a chunk. -/
def State.magTake (s : State) (x : ChunkFacts) : State :=
  let r := s.recOf x.chan
  let drop := fun (s : State) => (s.each x.bufs (fun s n => s.doneBuf n 6)).notSent x.chan
  if !r.takes x.launch then drop s
  else
    let (on, s) := ((s.recordingOn x.chan).filter (bit x.mags ·)).foldl (fun (a : List Nat × State) m =>
      let w := a.2.writeClip x m
      (if w.1 then a.1 ++ [m] else a.1, w.2)) ([], s)
    if on.isEmpty then drop s
    else { s with magChunks := s.magChunks ++
      [{ chan := x.chan, stream := x.stream, bufs := x.bufs, bytes := x.data.length, onMags := on }] }

/-- Bytes that the writer holds for a magazine, not yet durable (R321). -/
def State.magBacklog (s : State) (m : Nat) : Nat :=
  ((s.magChunks.filter (·.onMags.contains m)).map (·.bytes)).sum

/-- Emission need not wait for the magazines (R321). -/
def State.magRoom (s : State) (ch bytes : Nat) (launch : Time) : Bool :=
  !(s.recOf ch).takes launch || (s.recordingOn ch).all (fun m =>
    s.magBacklog m + bytes ≤ s.v (magKey m K.MAG_BACKLOG_MIB) * 2 ^ 20)

/-! ### Checkpoints (R320) -/

/-- The Flush of a checkpoint is issued. -/
def State.flushIssue (s : State) (ch m : Nat) : State :=
  (s.modRec ch (fun r => { r with waits := Store.erase r.waits m, flushing := r.flushing ++ [m] })).nvmeIssue m 0 0 []

/-- A checkpoint begins on a magazine: what it covers is fixed, and Flush follows once the Writes issued so far are
complete. DEDUCED, log entry 165. -/
def State.checkpoint (s : State) (ch m : Nat) : State :=
  let s := s.modRec ch (fun r => (List.range r.streams).foldl (fun (r : Recording) k =>
    let c := r.clip m k
    r.setClip m k { c with flushing := (c.index.length, c.essence) }) r)
  let s := { s with magChunks := s.magChunks.map (fun (x : MagChunk) =>
    if x.chan = ch ∧ x.onMags.contains m then { x with flushing := x.flushing ++ [m] } else x) }
  let g := s.mag m
  if g.issued ≤ g.done then s.flushIssue ch m
  else s.modRec ch (fun r => { r with waits := Store.put r.waits m g.issued })

/-- A checkpoint of a channel is in progress on a magazine. -/
def Recording.busy (r : Recording) (m : Nat) : Bool :=
  (Store.find? r.waits m).isSome || r.flushing.contains m || r.records.any (·.1 == m)

/-- The frames launched before a CLOSE have been emitted. -/
def State.closeReached (s : State) (ch : Nat) : Bool :=
  match (s.recOf ch).closeAt with
  | some t => !(s.chan ch).launched.any (fun l => l.time < t)
  | none => false

/-- MAG_CHECKPOINT: each magazine whose CHECKPOINT_MS has passed, or whose clips are to end, begins a checkpoint. -/
def execMagCheckpoint (t : Time) (ch : Nat) (s : State) : Out :=
  inRange "CH" ch 256 <| live t s (fun s =>
    let s := if s.closeReached ch then s.each (s.recordingOn ch) (fun s m => s.endOn ch m 2) else s
    s.each (s.recordingOn ch) (fun s m =>
      let r := s.recOf ch
      let next := Store.get r.next 0 m
      if r.busy m ∨ !(next ≤ s.time ∨ (Store.find? r.ending m).isSome) then s
      else
        let period := max 1 (s.v (magKey m K.MAG_CHECKPOINT_MS) * 1000000)
        let later := if next ≤ s.time then next + ((s.time - next) / period + 1) * period else next
        (s.setRec ch { r with next := Store.put r.next m later }).checkpoint ch m))

/-- Index entries of a channel that a Flush on a magazine makes durable: those of frames complete in every stream. DEDUCED, log entry 163. -/
def Recording.coveredOn (r : Recording) (m : Nat) : Nat :=
  (List.range r.streams).foldl (fun a k => min a (r.clip m k).flushing.1) (r.clip m 0).flushing.1

/-- A clip record's block (Table 13-11). -/
def State.clipRecord (s : State) (ch m k state : Nat) : List Byte :=
  let r := s.recOf ch
  let c := r.clip m k
  let n := r.coveredOn m
  let lastE := c.index[n - 1]?
  let (agree, edge) := match s.recIn.changes with
    | (a, e, _) :: _ => (a, e)
    | [] => (0, 0)
  let f := s.fmt ch
  let pic := if n = 0 then 0xFFFFFFFF else (lastE.map (·.pic)).getD 0xFFFFFFFF
  let launch := if n = 0 then 0 else (lastE.map (·.launch)).getD 0
  let essence := if n = 0 then 0 else (lastE.map (fun e => roundUp (e.offset + e.length) 4096)).getD 0
  let body := leBytes 4 0x4C435A48 ++ leBytes 1 1 ++ leBytes 1 state ++ leBytes 1 ch ++
    leBytes 1 (k + (if r.mags = 3 then 4 else 0) + (if f.pass then 8 else 0)) ++ leBytes 4 c.number ++
    leBytes 4 (c.seq + 1) ++ leBytes 8 edge ++ leBytes 8 agree ++ leBytes 8 c.firstLaunch ++ leBytes 8 launch ++
    leBytes 4 n ++ leBytes 4 pic ++ leBytes 8 essence ++ leBytes 1 (if f.pass then 0 else f.codec) ++
    leBytes 1 (s.cv ch K.CH_CODEC_PROFILE) ++ leBytes 2 c.extents.length ++ leBytes 60 0 ++
    (c.extents.flatMap (fun e => leBytes 8 (e.word k)) ++ List.replicate (3960 - 8 * c.extents.length) 0) ++
    leBytes 4 0
  body ++ leBytes 4 (crc32c body).toNat

/-- The state a clip's next record carries: that of its end, where one is due. -/
def Recording.nextState (r : Recording) (m : Nat) : Nat := Store.get r.ending 1 m

/-- Byte address of a clip's record block. -/
def State.recordAt (s : State) (m : Nat) (c : Clip) : Nat := (s.v (magKey m K.MAG_CLIP_TABLE_LBA) + c.number) * 4096

/-- Chunks that are durable on every magazine still recording are freed. -/
def State.freeDurable (s : State) (ch m : Nat) : State :=
  let upd := s.magChunks.map (fun (x : MagChunk) =>
    if x.chan = ch ∧ x.flushing.contains m then
      { x with onMags := x.onMags.filter (· ≠ m), flushing := x.flushing.filter (· ≠ m) } else x)
  let s := { s with magChunks := upd.filter (fun x => !x.onMags.isEmpty) }
  s.each (upd.filter (fun x => x.onMags.isEmpty)) (fun s x => s.each x.bufs (fun s n => s.doneBuf n 6))

/-- A command of a kind leaves the commands in flight: the oldest of its opcode. PRESUMED, log entry 166. -/
def Mag.finish (g : Mag) (op : Nat) : Mag :=
  match takeFirst (fun e => e.1 == op) g.inFlight with
  | some (_, rest) => { g with inFlight := rest, done := if op = 1 then g.done + 1 else g.done }
  | none => g

/-- The oldest Write or Read completes. -/
def Mag.finishData (g : Mag) : Mag :=
  match takeFirst (fun e => e.1 == 1 || e.1 == 2) g.inFlight with
  | some (e, rest) => { g with inFlight := rest, done := if e.1 = 1 then g.done + 1 else g.done }
  | none => g

/-- Checkpoints whose Writes are complete issue their Flush. -/
def State.flushReady (s : State) (m : Nat) : State :=
  s.each (List.map Prod.fst s.recs) (fun s ch =>
    match Store.find? (s.recOf ch).waits m with
    | some n => if n ≤ (s.mag m).done then s.flushIssue ch m else s
    | none => s)

/-- MAG_FLUSH_COMPLETE: chunks durable are freed, and each clip record is written with FUA. -/
def execMagFlushComplete (t : Time) (mag ch : Nat) (s : State) : Out :=
  inRange "MAG" mag 2 <| inRange "CH" ch 256 <| live t s (fun s =>
    let r := s.recOf ch
    if !r.flushing.contains mag then s
    else
      let s := s.setRec ch { r with flushing := r.flushing.filter (· ≠ mag) }
      let s := (s.setMag mag ((s.mag mag).finish 0)).freeDurable ch mag
      s.each (List.range r.streams) (fun s k =>
        let r := s.recOf ch
        let c := r.clip mag k
        let bytes := s.clipRecord ch mag k (r.nextState mag)
        let s := s.setRec ch { (r.setClip mag k { c with seq := c.seq + 1 }) with
          records := r.records ++ [(mag, k)] }
        s.nvmeIssue mag 3 (s.recordAt mag c / 4096) bytes))

/-- CLIP_STATE once no clip of the channel is open. -/
def State.clipStateDone (s : State) (ch : Nat) (last : Nat) : State :=
  if (s.recordingOn ch).isEmpty ∧ (s.recOf ch).state = 1 then s.modRec ch (fun r => { r with state := last, closeAt := none })
  else s

/-- The DURABLE fields of a channel (Table 13-8): the launch time on this magazine, and the picture on the later of the
two. -/
def State.durableFields (s : State) (ch m : Nat) : State :=
  let r := s.recOf ch
  let n := r.coveredOn m
  if n = 0 then s
  else
    let pics := (List.range r.streams).filterMap (fun k => ((r.clip m k).index[n - 1]?).map (·.pic))
    let launch := (((r.clip m 0).index[n - 1]?).map (·.launch)).getD 0
    let s := s.setRo (chKey ch (K.CH_MAG_DURABLE_LAUNCH + m)) launch
    let other := s.ro (chKey ch (K.CH_MAG_DURABLE_LAUNCH + (1 - m)))
    if other ≤ launch then s.setRo (chKey ch K.CH_MAG_DURABLE_PIC) (pics.foldl max 0) else s

/-- CLIP_RECORD_WRITE_COMPLETE: the record stands on the magazine, and with the last stream's the DURABLE fields change. -/
def execClipRecordWriteComplete (t : Time) (mag ch stream : Nat) (s : State) : Out :=
  inRange "MAG" mag 2 <| inRange "CH" ch 256 <| inRange "stream" stream 4 <| live t s (fun s =>
    let r := s.recOf ch
    if !r.records.contains (mag, stream) then s
    else
      let c := r.clip mag stream
      let state := r.nextState mag
      let n := r.coveredOn mag
      let g := (s.mag mag).finish 3
      let bytes := s.clipRecord ch mag stream state
      let s := s.setMag mag { g with content := Memory.writeBytes g.content (s.recordAt mag c) bytes }
      let c := { c with
        durable := (n, ((c.index[n - 1]?).map (fun e => e.offset + e.length)).getD 0)
        durablePic := if n = 0 then c.durablePic else ((c.index[n - 1]?).map (·.pic)).getD 0xFFFFFFFF
        durableLaunch := if n = 0 then c.durableLaunch else ((c.index[n - 1]?).map (·.launch)).getD 0
        state := state }
      let s := s.setRec ch { (r.setClip mag stream c) with records := r.records.filter (· ≠ (mag, stream)) }
      let s := if (s.recOf ch).records.any (·.1 == mag) then s else s.durableFields ch mag
      s.clipStateDone ch state)

/-! ### Magazines coming, going and failing (R316, R317, R323) -/

/-- Location of the last durable frame of a channel on a magazine. -/
def State.durableLoc (s : State) (ch m : Nat) : Loc :=
  let c := (s.recOf ch).clip m 0
  if c.durable.1 = 0 then Loc.ofChan ch else Loc.ofPic ch c.durablePic

/-- A magazine is lost: its open clips end as at their last record, mirrored recording goes on on the other, and chunks are
freed at that magazine's checkpoints alone (R323). -/
def State.magLost (s : State) (m state fault : Nat) : State :=
  let users := (List.map Prod.fst s.recs).filter (fun ch => (s.recordingOn ch).contains m)
  let loc := match users with
    | ch :: _ => s.durableLoc ch m
    | [] => {}
  let s := s.setMag m { s.mag m with state := state, inFlight := [], issued := 0, done := 0 }
  let s := s.raise fault { inst := m, loc := loc, detail := [m] }
  let s := s.each users (fun s ch =>
    let s := s.modRec ch (fun r =>
      let r := (List.range 4).foldl (fun (r : Recording) k =>
        let c := r.clip m k
        if c.state = 1 then r.setClip m k { c with state := 4 } else r) r
      { r with
        waits := Store.erase r.waits m, flushing := r.flushing.filter (· ≠ m)
        records := r.records.filter (fun e => e.1 ≠ m), ending := Store.erase r.ending m })
    if (s.recordingOn ch).isEmpty then s.clipStateDone ch 4
    else s.raise F.MAG_MIRROR_LOST { loc := Loc.ofChan ch, detail := [m] })
  let upd := s.magChunks.map (fun (x : MagChunk) =>
    { x with onMags := x.onMags.filter (· ≠ m), flushing := x.flushing.filter (· ≠ m) })
  let s := { s with magChunks := upd.filter (fun x => !x.onMags.isEmpty) }
  s.each (upd.filter (fun x => x.onMags.isEmpty)) (fun s x => s.each x.bufs (fun s n => s.doneBuf n 6))

/-- MAG_PRESENCE_CHANGE: the link comes up and the writer initialises the magazine. -/
def execMagPresenceChange (t : Time) (mag : Nat) (id : MagIdentify) (s : State) : Out :=
  inRange "MAG" mag 2 <| live t s (fun s =>
    let quads := (List.range 6).filter (fun q => s.role q == 0x10)
    if (quads[mag]?).isNone then s
    else
      let s := if (s.mag mag).state = 1 then s else (s.endFault F.MAG_REMOVED mag).endFault F.MAG_FAILED mag
      let ok := id.lba4k && id.mdtsOk
      let cap := min id.blocks (2 ^ 33)
      let content := id.content.foldl (fun (m : Memory) e => Memory.writeBytes m e.1 e.2) []
      let s := s.setMag mag { state := if ok then 1 else 2, capacity := if ok then cap else 0, content := content }
      let s := if ok then s.endFault F.MAG_UNSUPPORTED mag else s.raise F.MAG_UNSUPPORTED { inst := mag, detail := [mag] }
      if ok ∧ 2 ^ 33 < id.blocks then s.raise F.MAG_CAPACITY_CLIPPED { inst := mag, detail := [mag] }
      else s.endFault F.MAG_CAPACITY_CLIPPED mag)

/-- MAG_REMOVED: the link goes down. -/
def execMagRemoved (t : Time) (mag : Nat) (s : State) : Out :=
  inRange "MAG" mag 2 <| live t s (fun s =>
    if (s.mag mag).state = 0 ∨ (s.mag mag).state = 3 then s else s.magLost mag 3 F.MAG_REMOVED)

/-- MAG_COMMAND_TIMEOUT: a command is incomplete for 2 s. -/
def execMagCommandTimeout (t : Time) (mag : Nat) (s : State) : Out :=
  inRange "MAG" mag 2 <| live t s (fun s =>
    match (s.mag mag).inFlight with
    | e :: _ => if s.magReady mag ∧ e.2 + 2000000000 ≤ s.time then s.magLost mag 4 F.MAG_FAILED else s
    | [] => s)

/-- NVME_COMPLETION: the oldest Write or Read completes, or a command fails with a status. -/
def execNvmeCompletion (t : Time) (mag status : Nat) (s : State) : Out :=
  inRange "MAG" mag 2 <| live t s (fun s =>
    if !s.magReady mag ∨ (s.mag mag).inFlight.isEmpty then s
    else if status % 2048 = 0 then (s.setMag mag (s.mag mag).finishData).flushReady mag
    else (s.setRo (magKey mag K.MAG_NVME_STATUS) (status % 2048)).magLost mag 4 F.MAG_FAILED)

/-- Under ABORT the open clips end as ABORTED after a final checkpoint (R323). -/
def State.clipsAbort (s : State) (ch : Nat) : State :=
  let s := s.modRec ch (fun r => { r with cmd := none })
  if (s.recOf ch).state = 1 then s.each (s.recordingOn ch) (fun s m => s.endOn ch m 4) else s

/-! ### Offload (R314) -/

/-- Codec, DURABLE_PICS and pass-through of a clip's record on a magazine; none where its CHECK fails. -/
def State.readRecord (s : State) (m clip : Nat) : Option (List Byte) :=
  let table := s.v (magKey m K.MAG_CLIP_TABLE_LBA)
  let b := Memory.readBytes (s.mag m).content ((table + clip) * 4096) 4096
  if table = 2 ^ 64 - 1 ∨ leNat (b.drop 4092) ≠ (crc32c (b.take 4092)).toNat then none else some b

/-- The extents that a record lists. -/
def recordExtents (b : List Byte) : List Extent :=
  (List.range (leNat ((b.drop 66).take 2))).map (fun i =>
    let v := leNat ((b.drop (128 + 8 * i)).take 8)
    { start := bits v 63 31, blocks := bits v 27 0, isIndex := bit v 28 })

/-- Access units of a clip in index order, up to DURABLE_PICS or the first entry whose CHECK fails. -/
def clipEntries (m : Memory) (b : List Byte) : List (Time × Nat × List Byte) :=
  let exts := recordExtents b
  let entries := (List.range (leNat ((b.drop 48).take 4))).map (fun i =>
    extentRead m (32 * i) 32 (exts.filter (·.isIndex)))
  let good := entries.takeWhile (fun e => leNat (e.drop 28) == (crc32c (e.take 28)).toNat)
  good.map (fun e =>
    let offset := leNat ((e.drop 8).take 8)
    (leNat ((e.drop 20).take 8), offset,
      extentRead m offset (leNat ((e.drop 16).take 4)) (exts.filter (fun x => !x.isIndex))))

/-- Launch time and bytes of each picture of a clip. -/
def clipUnits (m : Memory) (b : List Byte) : List (Time × List Byte) := (clipEntries m b).map (fun e => (e.1, e.2.2))

/-- A queue is named by an open or draining channel. -/
def State.queueNamed (s : State) (q : Nat) : Bool :=
  s.chans.any (fun e => e.2.working && (List.range 4).any (fun k => s.cv e.1 (K.CH_OUTPUT_QUEUE + k) == q))

/-- OFFLOAD_CMD of a queue (R314). -/
def State.offloadCmd (s : State) (q v : Nat) : Except Abort State :=
  let e := s.queue q
  let w := s.eq q K.EQ_CONFIG_OFFLOAD
  let m := w / 4096 % 2
  if v = 1 then
    match s.readRecord m (w % 4096) with
    | none => .error A.state
    | some b =>
      if s.queueNamed q ∨ !e.enabled ∨ !s.magReady m ∨ bit (leNat ((b.drop 7).take 1)) 3 then .error A.state
      else
        let s := s.setQueue q { e with
          state := 2, codec := leNat ((b.drop 64).take 1), offload := clipUnits (s.mag m).content b }
        .ok ((s.nvmeIssue m 2 0 []).offloadNext q)
  else if v = 2 then
    .ok (if e.state = 2 then s.setQueue q { e with
      state := 3, offload := [], held := e.held.filter (·.chan ≠ 0x1FF) } else s)
  else .error A.value

end Sys2Proof.Machine
end

