-- ==== Sys2Proof/Machine/Launch.lean ====
section
/-! DEFINITION. Frame boundaries, derived-output checks, launches and their pairing with frames (R68 to R70, R139, R206, R258
to R267, R274, R276, R291, R328, R385). -/

namespace Sys2Proof.Machine

/-! ### Derived outputs (R139, R328) -/

/-- Key of an entry of CH_DERIVEDk. -/
def derKey (ch k key : Nat) : Nat := chKey ch (key + k * 256)

/-- A setting in effect of a derived output. -/
def State.der (s : State) (ch k key : Nat) : Nat := s.v (derKey ch k key)

/-- The frame format that a derived output makes. -/
def State.derFmt (s : State) (ch k : Nat) : Fmt :=
  { s.fmt ch with
    kind := 3, layout := 0, array := false, pass := false, width := s.der ch k K.CH_DERIVEDk_OUT_WIDTH
    height := s.der ch k K.CH_DERIVEDk_OUT_HEIGHT, sampling := s.der ch k K.CH_DERIVEDk_OUT_SAMPLING
    depth := s.der ch k K.CH_DERIVEDk_OUT_DEPTH }

/-- Crop of an output: X, Y, W, H; all zero means the whole frame (Table 5-10). -/
def State.derCrop (s : State) (ch k : Nat) : Nat × Nat × Nat × Nat :=
  let v := s.der ch k K.CH_DERIVEDk_CROP
  if v = 0 then (0, 0, (s.fmt ch).width, (s.fmt ch).height)
  else (bits v 63 48, bits v 47 32, bits v 31 16, bits v 15 0)

/-- Cell demosaic: the output is at most half the crop on both axes (Table 5-10). -/
def State.derCell (s : State) (ch k : Nat) : Bool :=
  let (_, _, w, h) := s.derCrop ch k
  (s.fmt ch).raw && 2 * s.der ch k K.CH_DERIVEDk_OUT_WIDTH ≤ w && 2 * s.der ch k K.CH_DERIVEDk_OUT_HEIGHT ≤ h

/-- An axis of the scaler: ratio of input to output from 1 to 16. -/
def ratioOk (inp out : Nat) : Bool := out ≤ inp && inp ≤ 16 * out

/-- An output whose settings are valid. A monochrome source has no colour for any OUT_SAMPLING. DEDUCED, log entry 77. -/
def State.derValid (s : State) (ch k : Nat) : Bool :=
  let f := s.fmt ch
  let (x, y, w, h) := s.derCrop ch k
  let d := if s.derCell ch k then 2 else 1
  f.sampling ≠ 1 && 0 < w && 0 < h && x + w ≤ f.width && y + h ≤ f.height &&
    (!f.raw || (x % 2 == 0 && y % 2 == 0 && w % 2 == 0 && h % 2 == 0)) &&
    ratioOk (w / d) (s.der ch k K.CH_DERIVEDk_OUT_WIDTH) && ratioOk (h / d) (s.der ch k K.CH_DERIVEDk_OUT_HEIGHT)

/-- Load of an output: its sample rate × 840 × RATE_DEN, which is whole for every FRAME_DIV from 1 to 8. -/
def State.derLoad (s : State) (ch k : Nat) : Nat :=
  (s.derFmt ch k).samples * (s.fmt ch).num * (840 / max 1 (s.der ch k K.CH_DERIVEDk_FRAME_DIV))

/-- STATUS of the outputs before working space is looked at, in order of k, with the load taken so far. -/
def State.derStatuses (s : State) (ch : Nat) : List Nat :=
  ((List.range 4).foldl (fun (a : List Nat × Nat) k =>
    if s.der ch k K.CH_DERIVEDk_ENABLE = 0 then (a.1 ++ [0], a.2)
    else if !s.derValid ch k then (a.1 ++ [3], a.2)
    else if 2000000000 * 840 * (s.fmt ch).den < a.2 + s.derLoad ch k then (a.1 ++ [4], a.2)
    else (a.1 ++ [if s.derCell ch k then 1 else 2], a.2 + s.derLoad ch k)) ([], 0)).1

/-- Bytes of working space that an enabled output needs: two frames, rounded up to 2 MiB. -/
def State.derNeed (s : State) (ch k : Nat) : Nat :=
  if s.der ch k K.CH_DERIVEDk_ENABLE = 0 then 0 else roundUp (2 * (s.derFmt ch k).frameBytes) 0x200000

/-- Bytes of the working region that no channel holds. -/
def State.workFree (s : State) : Nat := (s.dram.regions.getD 2 (0, 0)).2 - s.dram.workUsed

/-- An output's space returns, and its new amount is taken if there is room. The answer says whether it has its space. DEDUCED, log entry 78. -/
def State.derRetake (s : State) (ch k : Nat) : Bool × State :=
  let old := Store.get (s.chan ch).derivedSpace 0 k
  let s := { s with dram := { s.dram with workUsed := s.dram.workUsed - old } }
  let need := s.derNeed ch k
  let ok := need ≤ s.workFree
  let got := if ok then need else 0
  let s := { s with dram := { s.dram with workUsed := s.dram.workUsed + got } }
  (ok, s.modChan ch (fun c => { c with derivedSpace := Store.put c.derivedSpace k got }))

/-- The outputs are checked: those whose space is to be taken again, and those that found none, try for it. -/
def State.derCheck (s : State) (ch : Nat) (retake : Nat → Bool) : State :=
  (List.range 4).foldl (fun s k =>
    let key := derKey ch k K.CH_DERIVEDk_STATUS
    let st := (s.derStatuses ch).getD k 0
    if retake k || s.ro key = 5 then
      let (ok, s) := s.derRetake ch k
      s.setRo key (if ok || st = 3 || st = 4 then st else 5)
    else s.setRo key st) s

/-! ### Frame boundaries (R68 to R70, R136, R208, R318) -/

/-- Keys of a channel's entries and commands accepted before an instant that wait for its boundary. DEDUCED, log entry 31. -/
def State.waitingOf (s : State) (ch : Nat) (before : Time) : List Nat :=
  ((s.dict.waiting.filter (fun e => chKey ch 0 ≤ e.1 && e.1 < chKey (ch + 1) 0 && e.2.1 < before)).map Prod.fst).eraseDups

/-- The object and subindex part of a channel key. -/
def chanPart (key : Nat) : Nat := (key - 0x400000) % 0x4000

/-- The pending ROI map: rectangle and offset of each entry that is not empty (R207). -/
def State.roiPending (s : State) (ch : Nat) : List (Nat × Nat × Nat × Nat × Int) :=
  ((List.range 16).map (fun k =>
    let v := s.pv (chKey ch (K.CH_ROI_RECT + k))
    (bits v 63 48, bits v 47 32, bits v 31 16, bits v 15 0,
      toSigned 8 (s.pv (chKey ch (K.CH_ROI_DELTA + k)))))).filter (fun r => r.1 ≤ r.2.2.1 && r.2.1 ≤ r.2.2.2.1)

/-- A LUT_COMMIT subindex of CH_RAW or of a CH_DERIVEDk. -/
def isLutCommit (k : Nat) : Bool :=
  k == K.CH_RAW_LUT_COMMIT || (List.range 4).any (fun i => k == K.CH_DERIVEDk_LUT_COMMIT + i * 256)

/-- What one waiting entry or command of a channel does at its boundary. -/
def State.applyAt (s : State) (ch key : Nat) (time before : Time) : State :=
  let k := chanPart key
  let clear := fun (s : State) => s.unwait key before
  if isLutCommit k then clear (s.lutSwap ch (k / 256))
  else if k = K.CH_ROI_ROI_COMMIT then
    let roi := s.roiPending ch
    clear (s.modChan ch (fun c => { c with roi := roi }))
  else if k = K.CH_MAG_CLIP_CMD then clear (s.clipBoundary ch time)
  else s.applyBefore key before

/-- The settings of a derived output whose change takes its working space again (R328). -/
def derSpaceKeys : List Nat :=
  [K.CH_DERIVEDk_ENABLE, K.CH_DERIVEDk_OUT_WIDTH, K.CH_DERIVEDk_OUT_HEIGHT, K.CH_DERIVEDk_OUT_SAMPLING,
    K.CH_DERIVEDk_OUT_DEPTH]

/-- What waits of a channel since before an instant takes effect, and APPLIED_SEQ with APPLIED_TIME advance if anything did (R68, R70). -/
def State.applyWaiting (s : State) (ch : Nat) (time before : Time) : State :=
  let ks := s.waitingOf ch before
  if ks.isEmpty then s
  else
    let s := s.each ks (fun s k => s.applyAt ch k time before)
    (s.cbump ch K.CH_APPLY_APPLIED_SEQ 1).setRo (chKey ch K.CH_APPLY_APPLIED_TIME) time

/-- A frame boundary of a channel: what was accepted before its instant applies, and what came later waits for the next (R68). -/
def State.boundary (s : State) (ch : Nat) (time : Time) : State :=
  let s' := s.applyWaiting ch time time
  s'.derCheck ch (fun k => derSpaceKeys.any (fun d => s'.v (derKey ch k d) ≠ s.v (derKey ch k d)))

/-! ### Trims (R385) -/

/-- Present voltage of a domain in mV: 0.75 V before any evaluation. -/
def State.domainMv (s : State) (pd : Nat) : Nat := Store.get s.power.mv 750 pd

/-- The voltage band of a domain. -/
def bandOf (mv : Nat) : Nat := if mv < 625 then 0 else if mv < 700 then 1 else if mv < 775 then 2 else 3

/-- Accepted groups that a condition picks take effect, each an application of its own; the others stay stored. -/
def State.applyGroups (s : State) (p : Nat → Bool) : State :=
  let due := s.power.accepted.filter (fun g => p g.1)
  let s := { s with power := { s.power with accepted := s.power.accepted.filter (fun g => !p g.1) } }
  s.each due (fun s g =>
    let w := s.power
    let s := { s with power := { w with
        trims := { w.trims with
          diff := (List.range g.2.length).foldl (fun m i => Store.put m (g.1 * 64 + i) (g.2.getD i 0)) w.trims.diff } } }
    (s.bump K.CAL_STATUS_CAL_COUNT 1).setRo K.CAL_STATUS_CAL_LAST_TIME s.time)

/-- A group of the band that its domain uses. -/
def State.inBand (s : State) (g : Nat) : Bool := bandOf (s.domainMv (g / 32)) == g % 4

/-- Accepted results of the bands in use are applied, at a launch or while no channel is open (R385). -/
def State.applyTrims (s : State) : State := s.applyGroups s.inBand

/-- A domain whose voltage was `was` enters another band: the results stored for it take effect (R385). -/
def State.enterBand (s : State) (pd was : Nat) : State :=
  if bandOf (s.domainMv pd) = bandOf was then s else s.applyGroups (fun g => g / 32 == pd && s.inBand g)

/-! ### Planning (R258, R260, R261) -/

/-- A(n) of R258. -/
def alignInstant (num den n : Nat) : Time := ceilDiv (n * (den * 1000000000)) (max 1 num)

/-- The least n whose alignment instant is at or after an instant. -/
def alignIndex (num den t : Nat) : Nat := if t = 0 then 0 else (t - 1) * num / (den * 1000000000) + 1

/-- The first A(n) + OFFSET at or after an instant. -/
def firstAligned (num den off t : Nat) : Time := alignInstant num den (alignIndex num den (t - off)) + off

/-- The next PERIODIC launch: at or after `now` and START_TIME, and after the last launch (R260). DEDUCED, log entry 134. -/
def State.periodicNext (s : State) (ch : Nat) (now : Time) (last : Option Time) : Time :=
  let f := s.fmt ch
  let from_ := max now (s.cv ch K.CH_LAUNCH_START_TIME)
  let from_ := match last with
    | some l => max from_ (l + 1)
    | none => from_
  firstAligned f.num f.den (s.cv ch K.CH_LAUNCH_OFFSET_NS) from_

/-- The row of a list index as the table holds it (Table 11-6). -/
def State.listRow (s : State) (ch i : Nat) : Nat :=
  leNat (Memory.readBytes s.dram.lists (0x10000 * ch + 16 * (i % 4096)) 16)

/-- LIST_RD of a channel, and the live rows. -/
def State.listRd (s : State) (ch : Nat) : Nat := s.ro (chKey ch K.CH_LAUNCH_LIST_RD)
def State.listLive (s : State) (ch wr : Nat) : Nat := (wr + 2 ^ 32 - s.listRd ch) % 2 ^ 32

/-- The latest launch time of a channel, fired or, in an array, sent. -/
def Chan.lastPlanned (c : Chan) : Option Time := ((c.sched.getLast?).map Prod.fst).orElse (fun _ => c.lastLaunch)

/-- Reads rows until one is the head of the list: rows with time 0, or not later than the last launch, are consumed and
counted in LIST_ERRORS (R261). DEDUCED, log entry 135. -/
def State.listHeadRead (s : State) (ch fuel : Nat) : State :=
  match fuel with
  | 0 => s
  | n + 1 =>
    let c := s.chan ch
    if c.state ≠ .open_ ∨ c.listHead.isSome ∨ s.cv ch K.CH_LAUNCH_MODE ≠ 1 ∨
        s.listLive ch (s.cv ch K.CH_LAUNCH_LIST_WR) = 0 then s
    else
      let row := s.listRow ch (s.listRd ch)
      let time := row / 2 ^ 64
      let bad : Bool := time == 0 || (match c.lastPlanned with
        | some l => time ≤ l
        | none => false)
      if bad then
        ((s.cbump ch K.CH_LAUNCH_LIST_RD 1).cbump ch K.CH_LAUNCH_LIST_ERRORS 1).listHeadRead ch n
      else s.setChan ch { c with listHead := some (time, bit row 63) }

/-- A head that holds the list. -/
def listHold : Nat := 2 ^ 64 - 1

/-- A LIST_WR write (R261). -/
def State.listWr (s : State) (ch v : Nat) : Except Abort State :=
  if 4096 < s.listLive ch v then .error A.above
  else .ok ((s.setImm (chKey ch K.CH_LAUNCH_LIST_WR) v).listHeadRead ch 4097)

/-- The head row is consumed by its launch, and the next live row is read. -/
def State.listTake (s : State) (ch : Nat) : State :=
  ((s.modChan ch (fun c => { c with listHead := none })).cbump ch K.CH_LAUNCH_LIST_RD 1).listHeadRead ch 4097

/-- NEXT_LAUNCH as it reads: 0 where none is planned, all ones where the list is held. In an array the launches sent come
first, and what follows them the time master alone plans. -/
def State.nextLaunch (s : State) (ch : Nat) : Nat :=
  let c := s.chan ch
  if c.state ≠ .open_ then 0
  else match c.sched with
    | x :: _ => x.1
    | [] =>
      if (s.fmt ch).array && !s.timeMaster then 0
      else match s.cv ch K.CH_LAUNCH_MODE with
        | 0 => s.periodicNext ch c.planFrom c.lastLaunch
        | 1 => (c.listHead.map Prod.fst).getD 0
        | _ => 0

/-! ### Taking frames (R206, R263, R274) -/

/-- Values in effect of a channel, as its pictures keep them. -/
def State.valuesOf (s : State) (ch : Nat) : Store W64 :=
  s.dict.appl.filter (fun e => chKey ch 0 ≤ e.1 && e.1 < chKey (ch + 1) 0)

/-- A channel entry as a picture's values give it. -/
def State.pval (s : State) (vals : Store W64) (ch k : Nat) : Nat :=
  match Store.find? vals (chKey ch k) with
  | some x => x.toNat
  | none => s.dflt (chKey ch k)

/-- Nanoseconds from launch to deadline (R204): DEADLINE_US, or two frame periods, rounded down. -/
def State.deadlineNs (s : State) (ch : Nat) (vals : Store W64) : Nat :=
  let f := s.fmt ch
  let d := s.pval vals ch K.CH_RATE_DEADLINE_US
  if d = 0 then 2 * f.den * 1000000000 / max 1 f.num else d * 1000

/-- A launch is written to the channel's history: its last 64 (Table 15-11). DEDUCED, log entry 139. -/
def Chan.remember (c : Chan) (time : Time) (pic kind : Nat) : Chan :=
  { c with history := (c.history ++ [(time, pic, kind)]).drop (c.history.length + 1 - 64) }

/-- A frame is released once nothing of it is to be coded and its derived pictures are made (R129, R274). -/
def State.tryRelease (s : State) (ch q : Nat) : State :=
  let goes := fun (x : Frame) => x.seq == q && x.coded && x.accepted && x.derived
  let bufs := ((s.chan ch).frames.filter goes).flatMap (·.bufs)
  (s.each bufs (fun s n => s.freeBuf n 2)).modChan ch (fun c => { c with frames := c.frames.filter (fun x => !goes x) })

/-- Hierarchical coding order of `n` B frames from place `lo`: the middle one, then each side; a frame with others on both
sides of it is a reference (Table 7-1). DEDUCED, log entry 137. -/
def dyadic (fuel lo n : Nat) : List (Nat × Bool) :=
  match fuel with
  | 0 => []
  | k + 1 =>
    if n = 0 then []
    else
      let m := (n - 1) / 2
      (lo + m, n ≠ 1) :: (dyadic k lo m ++ dyadic k (lo + m + 1) (n - 1 - m))

/-- An anchor enters coding order, followed by the B frames that waited for it. -/
def Chan.addAnchor (c : Chan) (q : Nat) : Chan :=
  let b := dyadic c.gop.length 0 c.gop.length
  let place := fun (l : Launched) =>
    match b.find? (fun e => c.gop[e.1]? == some l.frameSeq) with
    | some e => { l with j := e.1 + 1, isRef := e.2 }
    | none => l
  { c with
    launched := c.launched.map place, order := c.order ++ q :: b.filterMap (fun e => c.gop[e.1]?), gop := [] }

/-- The last waiting B frame becomes a P anchor: at a DRAIN no further anchor comes. -/
def Chan.flushGop (c : Chan) : Chan :=
  match c.gop.getLast? with
  | none => c
  | some q =>
    let c := { c with
      gop := c.gop.dropLast
      launched := c.launched.map (fun (l : Launched) => if l.frameSeq = q then { l with type := .p, j := 0, isRef := true } else l) }
    c.addAnchor q

/-- At a DRAIN with no launch left waiting for a frame, waiting B frames are coded. -/
def State.drainGop (s : State) (ch : Nat) : State :=
  let c := s.chan ch
  if c.state = .draining ∧ c.pairs.isEmpty then s.setChan ch c.flushGop else s

/-- Under SKIP, the oldest launched frame not fully emitted has a deadline before this launch (R206). -/
def State.overdue (s : State) (ch : Nat) (time : Time) : Bool :=
  match (s.chan ch).launched with
  | l :: _ => l.time + s.deadlineNs ch l.vals < time
  | [] => false

/-- The device codes some CTU of the channel's pictures. -/
def State.hasRegion (s : State) (ch : Nat) : Bool :=
  let f := s.fmt ch
  !f.array || (List.range f.pictures).any (fun p => !(s.regionCtus ch f p).isEmpty)

/-- A PASS_THROUGH launch makes the picture at once: the count advances by one for each launched frame (R300). DEDUCED, log entry 94. -/
def State.passPicture (s : State) (ch : Nat) (w : PairWait) (x : Frame) : State :=
  s.modChan ch (fun c =>
    let p : Pic := {
      stream := 0, count := c.picCount, num := c.picCount, frameSeq := x.seq, frameCount := x.frameCount
      capture := x.capture, launch := w.time, type := .i, irap := true, skipped := false, refs := [], base := 0
      fb := 4096, vals := w.vals, applied := w.applied }
    let l : Launched := {
      frameSeq := x.seq, time := w.time, type := .i, irap := true, skip := false, j := 0, isRef := true
      base := some c.picCount, startedPhases := 1, vals := w.vals }
    let c := c.remember w.time c.picCount 0
    { c with pics := c.pics ++ [p], launched := c.launched ++ [l], picCount := c.picCount + 1 })

/-- A coded launch: what its frame is coded as, and its place in coding order (R206, R274, Table 7-1). `q` is the frame it
takes, or a number of its own where the region is void (R291). DEDUCED, log entry 140. -/
def State.codeLaunch (s : State) (ch : Nat) (w : PairWait) (q : Nat) (isVoid : Bool) : State :=
  let f := s.fmt ch
  let c := s.chan ch
  let ip := s.pval w.vals ch K.CH_CODEC_INTRA_PERIOD
  let b := s.pval w.vals ch K.CH_CODEC_B_PICTURES
  let irap := w.force || c.forceIrap || !c.coded || (ip ≠ 0 && c.gopPos % ip == 0)
  let waits := !irap && c.gopPos % (b + 1) ≠ 0
  let skip := !irap && s.pval w.vals ch K.CH_RATE_OVERLOAD = 1 && w.overdue
  let fresh := c.order.isEmpty && c.gop.isEmpty && (Store.get c.rate {} 0).started = 0
  let l : Launched := {
    frameSeq := q, time := w.time, type := if irap then .i else if waits then .b else .p, irap := irap, skip := skip
    j := 0, isRef := true, base := w.base, isVoid := isVoid, vals := w.vals, roi := w.roi
    allIntra := f.array && fresh, applied := w.applied }
  let pic := w.base.getD c.picCount
  let c := (c.remember w.time pic 0)
  let c := { c with
    gopPos := if irap then 1 else c.gopPos + 1, coded := true, forceIrap := false
    picCount := match w.base with
      | some p => p + f.pictures
      | none => c.picCount }
  if s.hasRegion ch && c.quiet < w.time then
    let c := { c with launched := c.launched ++ [l] }
    s.setChan ch (if waits then { c with gop := c.gop ++ [q] } else c.addAnchor q)
  else s.setChan ch c

/-- The first waiting launch takes a frame. -/
def State.takeFrame (s : State) (ch : Nat) (w : PairWait) (x : Frame) : State :=
  let s := s.modChan ch (fun c => { c with pairs := c.pairs.drop 1 })
  let s := (s.modFrame ch x.seq (fun x => { x with taken := true })).settleImages ch x.seq w.images
  let s := s.writeStats ch x.seq
  if w.idle = some true then
    let s := s.modFrame ch x.seq (fun x => { x with coded := true })
    let s := s.modChan ch (fun c => { c.remember w.time c.picCount 1 with forceIrap := true })
    s.tryRelease ch x.seq
  else if (s.fmt ch).pass then s.passPicture ch w x
  else s.codeLaunch ch w x.seq false

/-- The first waiting launch finds no frame within its window: it is void, or idle without a frame, or the region of an
array member is coded void (R263, R274, R291). -/
def State.expirePair (s : State) (ch : Nat) (w : PairWait) : State :=
  let s := s.modChan ch (fun c => { c with pairs := c.pairs.drop 1 })
  let c := s.chan ch
  if w.idle = some true then s.setChan ch { c.remember w.time c.picCount 1 with forceIrap := true }
  else if (s.fmt ch).array then
    let q := c.frameSeq
    let pic := w.base.getD c.picCount
    let s := (s.setChan ch { c with frameSeq := q + 1 }).codeLaunch ch w q true
    if s.hasRegion ch && c.quiet < w.time then s.regionVoid ch pic else s
  else (s.setChan ch (c.remember w.time c.picCount 2)).cbump ch K.CH_LAUNCH_VOID_LAUNCHES 1

/-- The record inputs decide a waiting launch, where they can: a follower waits for a REC_STATUS whose FINAL_TIME covers it
(R274, R276). -/
def State.gateOf (s : State) (time : Time) (gate : Nat) : Option Bool :=
  if gate = 0 then some false
  else if s.follower ∧ s.tb.finalTime < time then none
  else some (!s.recIn.gateOpen time)

/-- Gated launches that can be decided are decided, and the idle ones counted. DEDUCED, log entry 136. -/
def State.decideGates (s : State) (ch : Nat) : State :=
  let c := s.chan ch
  let new := c.pairs.map (fun (w : PairWait) => if w.idle.isSome then w else { w with idle := s.gateOf w.time 1 })
  let count := (new.filter (·.idle == some true)).length - (c.pairs.filter (·.idle == some true)).length
  (s.setChan ch { c with pairs := new }).cbump ch K.CH_LAUNCH_IDLE_LAUNCHES count

/-- The oldest held frame that has begun to arrive and that no launch has taken (R263). -/
def Chan.nextFrame (c : Chan) : Option Frame := c.frames.find? (fun x => x.begun && !x.taken)

/-- Waiting launches take frames that began within their windows, oldest first; one whose window has passed without gives
way. -/
def State.servePairs (s : State) (ch fuel : Nat) : State :=
  match fuel with
  | 0 => s
  | n + 1 =>
    let c := s.chan ch
    match c.pairs with
    | [] => s
    | w :: _ =>
      if w.idle.isNone then s
      else match c.nextFrame.filter (fun x => x.opened ≤ w.limit) with
        | some x => (s.takeFrame ch w x).servePairs ch n
        | none => if w.limit < s.time then (s.expirePair ch w).servePairs ch n else s

/-- Launches and frames of a channel meet. -/
def State.pairUp (s : State) (ch : Nat) : State :=
  let s := s.decideGates ch
  (s.servePairs ch ((s.chan ch).pairs.length + 1)).drainGop ch

/-- Length of a channel's pairing window in ns; 0 means half a frame period. DEDUCED, log entry 133. -/
def State.pairWindow (s : State) (ch : Nat) : Nat :=
  let w := s.cv ch K.CH_LAUNCH_PAIR_WINDOW_US
  if w = 0 then (s.fmt ch).den * 500000000 / max 1 (s.fmt ch).num else w * 1000

/-! ### Launches (R259) -/

/-- What every launch does: it is a frame boundary, trims are applied, and it is counted. -/
def State.launchCommon (s : State) (ch : Nat) (time : Time) : State :=
  let s := (s.boundary ch time).applyTrims
  let s := (s.cbump ch K.CH_LAUNCH_LAUNCHES 1).setRo (chKey ch K.CH_LAUNCH_LAST_LAUNCH) time
  let s := s.modChan ch (fun c => { c with lastLaunch := some time, launchBefore := c.lastLaunch, planFrom := s.time })
  if time < s.time then s.cbump ch K.CH_LAUNCH_LATE_FIRES 1 else s

/-- A launch of an encode channel fires. -/
def State.fire (s : State) (ch : Nat) (time : Time) (force : Bool) (base : Option Nat) : State :=
  let late := s.overdue ch time
  let s := s.launchCommon ch time
  let w : PairWait := {
    time := time, overdue := late, limit := s.time + s.pairWindow ch, force := force
    idle := if s.cv ch K.CH_LAUNCH_GATE = 0 then some false else none, base := base, vals := s.valuesOf ch
    roi := (s.chan ch).roi, images := (s.chan ch).activeImages, applied := s.ro (chKey ch K.CH_APPLY_APPLIED_SEQ) }
  (s.modChan ch (fun c => { c with pairs := c.pairs ++ [w] })).pairUp ch

/-! ### Arrays: LAUNCH messages (R267, R286) -/

/-- CRC-32C over the values in effect of the channel's entries that are marked for admission (Table 12-2). DEDUCED, log entry 143. -/
def State.settingsCrc (s : State) (ch : Nat) : W32 :=
  let keys := (chanEntries.filter (·.adm)).flatMap (fun e =>
    (List.range e.idxN).flatMap (fun i => (List.range e.subN).map (fun j =>
      (keyOf (e.idx + i) (e.sub + j), (e.ty.size).getD 0))))
  crc32c (keys.flatMap (fun k => leBytes k.2 (s.cv ch k.1)))

/-- Members of the membership other than this device. -/
def State.others (s : State) : List Nat :=
  (List.range 8).filter (fun d => d ≠ s.dev && bit s.array.members d)

/-- Every other member shows the channel open with equal settings. -/
def State.membersMatch (s : State) (ch : Nat) : Bool :=
  s.others.all (fun d => (s.peer d).slots.any (fun x =>
    x.chan == ch && x.isOpen && x.crc == s.settingsCrc ch))

/-- The launch that the time master plans next for an array channel. PERIODIC instants nearer than BUGLE_LEAD_US are no
longer planned, so that each message leaves its lead. -/
def State.arrayNext (s : State) (ch : Nat) : Option (Time × Bool) :=
  let c := s.chan ch
  match c.listHead with
  | some (t, f) => if t = listHold then none else some (t, f)
  | none =>
    if s.cv ch K.CH_LAUNCH_MODE = 0 then
      some (s.periodicNext ch (s.time + s.v K.ARRAY_TIME_BUGLE_LEAD_US * 1000) c.lastPlanned, false)
    else none

/-- A launch is sent to every peer and kept for this device's own comparator. -/
def State.sendLaunch (s : State) (ch : Nat) (time : Time) (force : Bool) : State :=
  let c := s.chan ch
  let base := c.picCount + (s.fmt ch).pictures * c.sched.length
  let s := s.setChan ch { c with sched := c.sched ++ [(time, force, base)] }
  let s := { s with array := { s.array with mismatch := s.array.mismatch.filter (· ≠ ch) } }
  (s.endFault F.ARRAY_CHANNEL_MISMATCH ch).bugleSend 1 ch (if force then 1 else 0) time base 0 0

/-- The launch waits for a member that shows the channel not open or with other settings. -/
def State.holdLaunch (s : State) (ch : Nat) (next : Time × Bool) : State :=
  let s := s.modChan ch (fun c => { c with listHead := some next })
  let s := { s with array := { s.array with
    mismatch := if s.array.mismatch.contains ch then s.array.mismatch else s.array.mismatch ++ [ch] } }
  s.raise F.ARRAY_CHANNEL_MISMATCH { inst := ch, loc := Loc.ofChan ch }

/-- BUGLE_LAUNCH_SEND: the time master sends the next launch of an array channel, or holds it. -/
def execBugleLaunchSend (t : Time) (ch : Nat) (s : State) : Out :=
  inRange "CH" ch 256 <| live t s (fun s =>
    let c := s.chan ch
    if !s.timeMaster || c.state ≠ .open_ || !(s.fmt ch).array then s
    else match s.arrayNext ch with
      | none => s
      | some next =>
        if !s.membersMatch ch then s.holdLaunch ch next
        else
          let s := s.sendLaunch ch next.1 next.2
          if s.cv ch K.CH_LAUNCH_MODE = 1 then s.listTake ch
          else s.modChan ch (fun c => { c with listHead := none }))

/-- A launch of an array channel is put in order of time among those that wait for the comparator. -/
def insertLaunch (x : Time × Bool × Nat) : List (Time × Bool × Nat) → List (Time × Bool × Nat)
  | [] => [x]
  | y :: r => if x.1 < y.1 then x :: y :: r else y :: insertLaunch x r

/-- BUGLE_SEQ `a` comes before `b`, modulo 2^32. -/
def seqBefore (a b : Nat) : Bool := a ≠ b && decide ((b + 2 ^ 32 - a) % 2 ^ 32 < 2 ^ 31)

/-- What a REC_STATUS message says takes effect. -/
def State.recStatusIn (s : State) (m : RecMessage) : State :=
  let s := { s with tb := { s.tb with finalTime := max s.tb.finalTime m.final } }
  if m.agree ≠ 0 ∧ (s.recIn.changes.head?.map Prod.fst) ≠ some m.agree then s.recAccept m.recording m.agree m.edge else s

/-- REC_STATUS messages of a sender take effect in BUGLE_SEQ order, once every message before them has arrived (R276); gated
launches that waited for one are decided. DEDUCED, log entry 252. -/
def State.releaseRec (s : State) (from_ fuel : Nat) : State :=
  match fuel with
  | 0 => s
  | k + 1 =>
    let next := Store.get s.tb.bugleNext 0 from_
    let mine := s.tb.recWaiting.filter (fun m => m.from_ == from_ && seqBefore m.seq next)
    match mine.find? (fun m => mine.all (fun x => !seqBefore x.seq m.seq)) with
    | none => s
    | some m =>
      let s := State.recStatusIn { s with tb := { s.tb with recWaiting := s.tb.recWaiting.erase m } } m
      (s.each (List.map Prod.fst s.chans) State.pairUp).releaseRec from_ k

/-- REC_STATUS: a follower takes the messages of the time master. -/
def execRecStatus (t : Time) (from_ : Nat) (recording : Bool) (bugleSeq : Nat) (final agree edge : Time)
    (s : State) : Out :=
  inRange "DEV" from_ 8 <| live t s (fun s =>
    if s.follower ∧ from_ = s.array.coordinator then
      match s.bugleFresh from_ bugleSeq with
      | none => s
      | some s => (State.releaseRec { s with tb := { s.tb with
          recWaiting := s.tb.recWaiting ++ [⟨from_, bugleSeq, recording, final, agree, edge⟩] } } from_ 1024)
    else s)

/-- TIME_OF_DAY: a follower takes whole seconds from it. -/
def execTimeOfDay (t : Time) (from_ bugleSeq : Nat) (edge : Time) (s : State) : Out :=
  inRange "DEV" from_ 8 <| live t s (fun s =>
    if s.follower ∧ from_ = s.array.coordinator then
      match s.bugleFresh from_ bugleSeq with
      | some s => (State.releaseRec { s with tb := { s.tb with todEdge := some edge } } from_ 1024)
      | none => s
    else s)

/-- LAUNCH: a peer schedules the launch, or fires it late. DEDUCED, log entry 151. -/
def State.launchIn (s : State) (ch : Nat) (force : Bool) (time : Time) (pic : Nat) : State :=
  let c := s.chan ch
  let old : Bool := match c.lastLaunch with
    | some l => time ≤ l
    | none => false
  if c.state ≠ .open_ ∨ !(s.fmt ch).array ∨ old then s
  else if time < s.time then
    let s := (s.bump K.ARRAY_TIME_BUGLE_LATE 1).raise F.BUGLE_LATE { loc := Loc.ofChan ch }
    s.fire ch time force (some pic)
  else s.setChan ch { c with sched := insertLaunch (time, force, pic) c.sched }

/-- LAUNCH: a message of the time master. -/
def execLaunch (t : Time) (from_ ch : Nat) (forceIrap : Bool) (bugleSeq : Nat) (time : Time) (picCount : Nat)
    (s : State) : Out :=
  inRange "DEV" from_ 8 <| inRange "CH" ch 256 <| live t s (fun s =>
    if !s.follower ∨ from_ ≠ s.array.coordinator then s
    else match s.bugleFresh from_ bugleSeq with
      | none => s
      | some s => (s.launchIn ch forceIrap time picCount).releaseRec from_ 1024)

/-- The next launch of a channel that has come due: launch time, FORCE_IRAP and, in an array, its picture count. -/
def State.dueLaunch (s : State) (ch : Nat) : Option (Time × Bool × Option Nat) :=
  let c := s.chan ch
  let due := fun (x : Time × Bool × Option Nat) => if x.1 ≤ s.time then some x else none
  if c.state ≠ .open_ then none
  else if (s.fmt ch).array then
    match c.sched with
    | (t, f, p) :: _ => due (t, f, some p)
    | [] => none
  else match s.cv ch K.CH_LAUNCH_MODE with
    | 0 => due (s.periodicNext ch c.planFrom c.lastLaunch, false, none)
    | 1 => match c.listHead with
      | some (t, f) => due (t, f, none)
      | none => none
    | _ => none

/-- A due launch leaves where it waited. -/
def State.dequeueLaunch (s : State) (ch : Nat) : State :=
  if (s.fmt ch).array then s.modChan ch (fun c => { c with sched := c.sched.drop 1 })
  else if s.cv ch K.CH_LAUNCH_MODE = 1 then s.listTake ch else s

/-- Under ARRIVAL a frame is launched at the instant it begins to arrive (R262); launch times strictly increase, so a second
frame of one instant is launched 1 ns later. In an array the time master sends that launch as it fires it. -/
def State.arrive (s : State) (ch : Nat) : State :=
  let c := s.chan ch
  if c.state ≠ .open_ ∨ s.cv ch K.CH_LAUNCH_MODE ≠ 2 ∨ s.cv ch K.CH_DECODE_DIRECTION = 1 then s
  else
    let time := match c.lastLaunch with
      | some l => max s.time (l + 1)
      | none => s.time
    if (s.fmt ch).array then
      if s.timeMaster ∧ s.membersMatch ch then
        let s := s.sendLaunch ch time false
        match ((s.chan ch).sched).getLast? with
        | some (t, f, p) => (s.modChan ch (fun c => { c with sched := c.sched.dropLast })).fire ch t f (some p)
        | none => s
      else s
    else s.fire ch time false none

/-- A frame of an encode channel begins to arrive (R263). -/
def State.frameBegan (s : State) (ch : Nat) : State := (s.arrive ch).pairUp ch

/-- PAIR_WINDOW_EXPIRY: a launch whose window has ended without a frame. A frame that begins at the end of the window is still
taken (DESIGN CHOICE). -/
def execPairWindowExpiry (t : Time) (ch : Nat) (s : State) : Out :=
  inRange "CH" ch 256 <| live t s (fun s =>
    let s := s.pairUp ch
    match (s.chan ch).pairs with
    | w :: _ => if w.idle.isSome ∧ w.limit ≤ s.time then (s.expirePair ch w).pairUp ch else s
    | [] => s)

end Sys2Proof.Machine
end

