-- ==== Sys2Proof/Machine/Derived.lean ====
section
/-! DEFINITION. The derived-picture unit: stages 1 to 7 of Table 5-10, from an accepted frame to the bytes of an output
frame. Where the table names no rounding, no coefficient and no result, the value is free. -/

namespace Sys2Proof.Machine

/-! ### Rounding and colour planes -/

/-- A quotient whose rounding the manual leaves open: the whole number below it or, where it is not whole, the one above. -/
def openQuot (n d : Nat) : Nat := n / d + (if n % d ≠ 0 ∧ Config.roundsUp n d then 1 else 0)

/-- A quotient to the nearest whole number; a half goes either way. -/
def nearQuot (n d : Nat) : Nat :=
  let r := 2 * (n % d)
  n / d + (if d < r ∨ (r = d ∧ Config.roundsUp n d) then 1 else 0)

/-- Three 16-bit component values of one sample place. -/
structure Rgb where
  a : Nat
  b : Nat
  c : Nat
  deriving DecidableEq, Repr

def Rgb.list (p : Rgb) : List Nat := [p.a, p.b, p.c]

/-- Colour of a mosaic phase: 0 red, 1 green, 2 blue (CFA of Table 5-8). -/
def cfaColour (cfa phase : Nat) : Nat :=
  let rows : List (List Nat) := [[0, 1, 1, 2], [1, 0, 2, 1], [1, 2, 0, 1], [2, 1, 1, 0]]
  (rows.getD cfa []).getD phase 0

/-! ### Stages 1 and 2: crop and demosaic -/

/-- A mosaic sample of a raw frame after the transfer LUT. -/
def Frame.mosaic (f : Fmt) (lut : Store Nat) (x : Frame) (i j : Nat) : Nat :=
  x.phase f lut (2 * (j % 2) + i % 2) (i / 2) (j / 2)

/-- A coordinate brought inside `n` samples by repeating the edge sample of its own parity. PRESUMED, log entry 76. -/
def edgeIn (n : Nat) (i : Int) : Nat :=
  if i < 0 then 1 else if (n : Int) ≤ i then n - 2 else i.toNat

/-- Colour `c` at sample (i, j) of a mosaic of `w` by `h` samples: the sample itself, or the mean of the nearest two or four
of that colour. -/
def bilinear (cfa w h : Nat) (m : Nat → Nat → Nat) (c i j : Nat) : Nat :=
  let at_ := fun (d : Int × Int) => (edgeIn w (i + d.1), edgeIn h (j + d.2))
  let isC := fun (p : Nat × Nat) => cfaColour cfa (2 * (p.2 % 2) + p.1 % 2) == c
  let near := (([(-1, 0), (1, 0), (0, -1), (0, 1)] : List (Int × Int)).map at_).filter isC
  let diag := (([(-1, -1), (1, -1), (-1, 1), (1, 1)] : List (Int × Int)).map at_).filter isC
  if isC (i, j) then m i j
  else
    let l := if near.isEmpty then diag else near
    openQuot ((l.map (fun p => m p.1 p.2)).sum) (max 1 l.length)

/-- One RGB sample of a 2 × 2 cell, with G = (Ga + Gb + 1) >> 1. -/
def cellRgb (cfa : Nat) (m : Nat → Nat → Nat) (i j : Nat) : Rgb :=
  let of_ := fun (c : Nat) => ((List.range 4).filter (fun p => cfaColour cfa p == c)).map (fun p => m (2 * i + p % 2) (2 * j + p / 2))
  { a := (of_ 0).sum, b := ((of_ 1).sum + 1) / 2, c := (of_ 2).sum }

/-- A sample of a frame with colour, chroma brought to 4:4:4 by repetition: R G B, or Y Cb Cr (R116). -/
def Frame.full (f : Fmt) (x : Frame) (i j : Nat) : Rgb :=
  match f.sampling with
  | 2 =>
    { a := x.raw f (lineKey 0 j) i, b := x.raw f (lineKey 0 (f.height + j / 2)) (i / 2 * 2)
      c := x.raw f (lineKey 0 (f.height + j / 2)) (i / 2 * 2 + 1) }
  | 3 =>
    { a := x.raw f (lineKey 0 j) (2 * i + 1), b := x.raw f (lineKey 0 j) (i / 2 * 4)
      c := x.raw f (lineKey 0 j) (i / 2 * 4 + 2) }
  | _ => { a := x.raw f (lineKey 0 j) (3 * i), b := x.raw f (lineKey 0 j) (3 * i + 1), c := x.raw f (lineKey 0 j) (3 * i + 2) }

/-- Stages 1 and 2: the size of the cropped 4:4:4 picture, and its samples. -/
def demosaiced (f : Fmt) (lut : Store Nat) (x : Frame) (crop : Nat × Nat × Nat × Nat) (cell : Bool) :
    Nat × Nat × (Nat → Nat → Rgb) :=
  let (cx, cy, w, h) := crop
  if f.raw then
    let m := fun (i j : Nat) => x.mosaic f lut (cx + i) (cy + j)
    if cell then (w / 2, h / 2, cellRgb f.cfa m)
    else (w, h, fun i j =>
      { a := bilinear f.cfa w h m 0 i j, b := bilinear f.cfa w h m 1 i j, c := bilinear f.cfa w h m 2 i j })
  else (w, h, fun i j => x.full f (cx + i) (cy + j))

/-! ### Stages 3 to 5: matrix, LUT and output matrix -/

/-- One row of the matrix: M × in + O, rounded to nearest, clipped from 0 to 65,535. Coefficients are Q16.16. -/
def matrixRow (m : List Int) (o : Int) (p : List Nat) : Nat :=
  let sum : Int := ((m.zip p).map (fun e => e.1 * (e.2 : Int))).sum + o * 65536
  if sum ≤ 0 then 0 else min 65535 (nearQuot sum.toNat 65536)

/-- A 4,096-entry LUT with linear interpolation toward the next entry; the last entry is used flat. -/
def lutInterp (e : Nat → Nat) (x : Nat) : Nat :=
  let i := x / 16
  if 4095 ≤ i then e 4095
  else
    let lo := e i
    let hi := e (i + 1)
    if lo ≤ hi then lo + openQuot ((hi - lo) * (x % 16)) 16 else lo - openQuot ((lo - hi) * (x % 16)) 16

/-- Stages 3 to 5 of one sample. -/
def State.colourStages (s : State) (ch k depth : Nat) (img : Store Nat) (p : Rgb) : Rgb :=
  let inp := p.list.map (· * 2 ^ (16 - depth))
  let mat := (List.range 3).map (fun r => (List.range 3).map (fun c =>
    (w32 (s.der ch k (K.CH_DERIVEDk_M11 + 3 * r + c))).toInt))
  let out := (List.range 3).map (fun r =>
    matrixRow (mat.getD r []) (w32 (s.der ch k (K.CH_DERIVEDk_O1 + r))).toInt inp)
  let l := (List.range 3).map (fun c => lutInterp (fun i => lutEntry (12 + k) img (4096 * c + i)) (out.getD c 0))
  let q : Rgb := { a := l.getD 0 0, b := l.getD 1 0, c := l.getD 2 0 }
  match s.der ch k K.CH_DERIVEDk_OUT_MATRIX with
  | 0 => q
  | m =>
    let y := Config.yCbCr m (q.a, q.b, q.c)
    { a := y.1 % 65536, b := y.2.1 % 65536, c := y.2.2 % 65536 }

/-! ### Stages 6 and 7: scaler and format -/

/-- Samples of one component, row by row. -/
def planeOf (w h : Nat) (g : Nat → Nat → Nat) : List (List Nat) :=
  (List.range h).map (fun j => (List.range w).map (fun i => g i j))

/-- Stage 6: a plane scaled to another size by the filter's coefficients, which are free. -/
def scaled (filter outW outH : Nat) (inp : List (List Nat)) : List (List Nat) :=
  planeOf outW outH (fun i j => Config.scaler filter outW outH i j inp % 65536)

/-- The [1 2 1] / 4 filter along a list, edges repeated, every second value kept: co-sited with the even ones. -/
def halved (l : List Nat) : List Nat :=
  (List.range ((l.length + 1) / 2)).map (fun i =>
    let m := l.getD (2 * i) 0
    openQuot (l.getD (2 * i - 1) m + 2 * m + l.getD (2 * i + 1) m) 4)

/-- Columns for rows. -/
def transposed (w : Nat) (rows : List (List Nat)) : List (List Nat) :=
  (List.range w).map (fun i => rows.map (fun r => r.getD i 0))

/-- Chroma of an output: 4:2:0, 4:2:2 or whole. -/
def chromaOf (sampling w : Nat) (plane : List (List Nat)) : List (List Nat) :=
  match sampling with
  | 2 =>
    let h := plane.map halved
    transposed ((h.length + 1) / 2) ((transposed ((w + 1) / 2) h).map halved)
  | 3 => plane.map halved
  | _ => plane

/-- A 16-bit value at a depth: (x + 2^(15 − d)) >> (16 − d). At the top of the range that is 2^d, which no sample of d bits
holds: the sample is free there. -/
def toDepth (d x : Nat) : Nat :=
  let v := (x + 2 ^ (15 - d)) / 2 ^ (16 - d)
  if v < 2 ^ d then v else Config.topSample d x % 2 ^ d

/-- A line's samples as its packed bytes (R116). -/
def packLine (depth : Nat) (l : List Nat) : List Byte :=
  leBytes (ceilDiv (l.length * depth) 8) (l.foldr (fun x acc => x % 2 ^ depth + acc * 2 ^ depth) 0)

/-- The lines of an output in the order of R116. -/
def outLines (sampling : Nat) (y cb cr : List (List Nat)) : List (List Nat) :=
  let weave := fun (a b : List Nat) => (a.zip b).flatMap (fun e => [e.1, e.2])
  match sampling with
  | 2 => y ++ (cb.zip cr).map (fun e => weave e.1 e.2)
  | 3 => (y.zip (cb.zip cr)).map (fun e =>
      (List.range ((e.1.length + 1) / 2)).flatMap (fun i =>
        [e.2.1.getD i 0, e.1.getD (2 * i) 0, e.2.2.getD i 0, e.1.getD (2 * i + 1) 0]))
  | _ => (y.zip (cb.zip cr)).map (fun e => (e.1.zip (e.2.1.zip e.2.2)).flatMap (fun t => [t.1, t.2.1, t.2.2]))

/-- The bytes of an output's frame: stages 1 to 7 of Table 5-10. -/
def State.derivedBytes (s : State) (ch k : Nat) (f : Fmt) (x : Frame) : List Byte :=
  let g := s.derFmt ch k
  let crop := if s.der ch k K.CH_DERIVEDk_CROP = 0 then (0, 0, f.width, f.height) else s.derCrop ch k
  let (w, h, p) := demosaiced f (s.rawLut ch x) x crop (s.derCell ch k)
  let depth := if f.sampling ≤ 1 then f.codedDepth else f.depth
  let q := fun i j => s.colourStages ch k depth (s.imageOf ch x (12 + k)) (p i j)
  let filter := s.der ch k K.CH_DERIVEDk_FILTER
  let one := fun (c : Rgb → Nat) => scaled filter g.width g.height (planeOf w h (fun i j => c (q i j)))
  let dep := fun (pl : List (List Nat)) => pl.map (fun l => l.map (toDepth g.depth))
  (outLines g.sampling (dep (one Rgb.a)) (dep (chromaOf g.sampling g.width (one Rgb.b)))
    (dep (chromaOf g.sampling g.width (one Rgb.c)))).flatMap (packLine g.depth)

end Sys2Proof.Machine
end

