-- ==== Sys2Proof/Machine/IngestCmds.lean ====
section
/-! DEFINITION. Frames arriving: the Ronox ingest profile (R117 to R120, R124), ST 2110-20 flows (R121 to R123), tile
hand-over (R288) and derived outputs (R129, R139, R230). -/

namespace Sys2Proof.Machine

/-! ### What follows every change of a frame -/

/-- Samples of a line that belong to one phase. -/
def Frame.phaseOfLine (f : Fmt) (x : Frame) (k p : Nat) : List Nat :=
  let idx := if f.raw && !f.planar then (List.range (f.width / 2)).map (fun i => 2 * i + p % 2)
    else List.range f.lineSamples
  idx.map (x.raw f k)

/-- Samples packed as R116 lays down. -/
def packSamples (depth : Nat) (xs : List Nat) : List Byte :=
  leBytes (ceilDiv (depth * xs.length) 8) (xs.foldr (fun x a => a * 2 ^ depth + x) 0)

/-- Component and place of sample `i` of line `j` of an IN-ring frame (R116). -/
def Fmt.placeOf (f : Fmt) (j i : Nat) : Nat × Nat × Nat :=
  match f.sampling with
  | 2 => if j < f.height then (0, i, j) else (1 + i % 2, i / 2, j - f.height)
  | 3 => if i % 2 = 1 then (0, i / 2, j) else (1 + i / 2 % 2, i / 4, j)
  | 4 => (i % 3, i / 3, j)
  | 5 => ((i + 2) % 3, i / 3, j)
  | _ => (0, i, j)

/-- The bytes of a picture from its samples. -/
def packPicture (f : Fmt) (px : Nat → Nat → Nat → Nat) : List Byte :=
  (List.range f.planeLines).flatMap (fun j => packSamples f.depth ((List.range f.lineSamples).map (fun i =>
    let (c, x, y) := f.placeOf j i
    px c x y)))

/-- A line's samples are sent to the devices that code them, in flits of at most 228 bytes (R288). -/
def State.handoverLine (s : State) (ch : Nat) (x : Frame) (k : Nat) : State :=
  let f := s.fmt ch
  s.each (s.handoverTo ch f k) (fun s pd =>
    let xs := x.phaseOfLine f k pd.1
    let n := 228 * 8 / max 1 f.depth
    let parts := runsOf n xs.length xs
    s.each (List.range parts.length) (fun s i =>
      let l := parts.getD i []
      s.sendHandover pd.2 ch pd.1 (s.cellRow0 ch f + f.lumaRow k) x.frameCount (s.cellCol0 ch f + i * n) l.length false
        (packSamples f.depth l)))

/-- Lines present and not yet handed over are handed over. -/
def State.handover (s : State) (ch q : Nat) : State :=
  match (s.chan ch).frame? q with
  | none => s
  | some x =>
    if !(s.fmt ch).array then s
    else
      let new := (List.map Prod.fst x.lines).filter (fun k => !x.sent.contains k)
      let s := s.each new (fun s k => s.handoverLine ch x k)
      s.modFrame ch q (fun x => { x with sent := x.sent ++ new })

/-- After a change of a channel's frames: rows that became ready are noted, samples handed over, frames that have begun meet
launches, and frames done with are released. -/
def State.settle (s : State) (ch : Nat) (begun : Bool) : State :=
  let qs := fun (s : State) => (s.chan ch).frames.map (·.seq)
  let s := s.each (qs s) (fun s q => (s.noteRows ch q).handover ch q)
  let s := if begun then s.frameBegan ch else s.pairUp ch
  let s := s.each (qs s) (fun s q => s.writeStats ch q)
  s.each (qs s) (fun s q => s.tryRelease ch q)

/-- A frame of a channel has begun and no launch has yet been offered it: what `settle` is told. -/
def State.anyBegun (s : State) (ch : Nat) : Nat := ((s.chan ch).frames.filter (·.begun)).length

/-! ### The ingest port -/

/-- The INGEST quads in quad order: at most two, counted apart (Table 5-13). DESIGN CHOICE, log entry 80. -/
def State.ingestQuads (s : State) : List Nat := (List.range 6).filter (fun q => s.role q == 0x40)

/-- Counts in INGEST_COUNTERS for a port. -/
def State.ingestTick (s : State) (quad key n : Nat) : State :=
  s.tick (key + (if s.ingestQuads.head? = some quad then 0 else 5)) n

def State.ingest (s : State) (quad : Nat) : IngestPort := Store.get s.ports {} quad
def State.setIngest (s : State) (quad : Nat) (p : IngestPort) : State :=
  { s with ports := Store.put s.ports quad p }

/-- The channel that a port feeds (R114): open or draining, kind 1. -/
def State.ingestChan (s : State) (quad : Nat) : Option Nat :=
  (List.find? (fun e => e.2.working && s.cv e.1 K.CH_DECODE_DIRECTION == 0 && s.cv e.1 K.CH_SOURCE_KIND == 1 &&
    s.cv e.1 K.CH_SOURCE_PORT == quad) s.chans).map Prod.fst

/-- The port is trained and its quad holds INGEST. -/
def State.ingestUp (s : State) (quad : Nat) : Bool := s.role quad == 0x40 && (s.ingest quad).up

/-- A flit that passes CHECK is counted, and a step of FLIT_SEQ by other than one is a gap, inside a line as well (R117,
R118). -/
def State.flitSeq (s : State) (quad seq : Nat) : State :=
  let p := s.ingest quad
  let next := match p.lastSeq with
    | some q => (q + 1) % 2 ^ 32
    | none => 0
  let gap := seq ≠ next
  let s := s.ingestTick quad K.INGEST_COUNTERS_FLITS 1
  let s := if gap then s.ingestTick quad K.INGEST_COUNTERS_SEQ_GAPS 1 else s
  s.setIngest quad { p with
    lastSeq := some seq, line := if gap then p.line.map (fun l => (l.1, false)) else p.line }

/-- A credited flit: within credit, or discarded with INGEST_CREDIT_VIOLATION (R119). -/
def State.flitCredit (s : State) (quad : Nat) : Bool × State :=
  let p := s.ingest quad
  let ok := creditLeft p.creditTotal p.credited
  let s := s.setIngest quad { p with credited := (p.credited + 1) % 2 ^ 32 }
  if ok then (true, s)
  else
    let s := s.setIngest quad { s.ingest quad with line := (s.ingest quad).line.map (fun l => (l.1, false)) }
    (false, (s.ingestTick quad K.INGEST_COUNTERS_CREDIT_DROPS 1).raise F.INGEST_CREDIT_VIOLATION
      { inst := quad, detail := [quad] })

/-- A flit of the ingest profile (Table 5-4). -/
def ingestFlit (type epoch seq : Nat) (payload : List Byte) : List Byte :=
  let b := leBytes 1 type ++ leBytes 1 0 ++ leBytes 2 epoch ++ leBytes 4 seq ++ payload ++
    List.replicate (244 - payload.length) 0
  b ++ leBytes 4 (crc32c b).toNat

/-- Sends CREDIT: CREDIT_TOTAL, LAST_FRAME_COUNT and FRAMES_DROPPED of the channel fed (Table 5-5). FLIT_SEQ counts from 0 at
link-up, as that of the sender does (log entry 65). -/
def State.sendIngestCredit (s : State) (quad : Nat) : State :=
  let p := s.ingest quad
  let (last, dropped) := match s.ingestChan quad with
    | some ch => (s.ro (chKey ch K.CH_INGEST_STATUS_LAST_FRAME_COUNT), s.ro (chKey ch K.CH_INGEST_STATUS_FRAMES_DROPPED))
    | none => (0, 0)
  (s.setIngest quad { p with lastCredit := s.time, txSeq := p.txSeq + 1 }).emit
    (.ingestCredit quad (ingestFlit 0xC0 (if s.inArray then s.array.epoch else 0) p.txSeq.toNat
      (leBytes 4 p.creditTotal ++ leBytes 4 last ++ leBytes 4 dropped)))

/-- A discarded line is counted (R124). -/
def State.discardLine (s : State) (quad : Nat) : State := s.ingestTick quad K.INGEST_COUNTERS_DISCARDS 1

/-! ### Lines of a Ronox frame (R118, R124) -/

/-- A draining channel opens a frame only for a launch that still waits for one. DEDUCED, log entry 69. -/
def Chan.opensFrames (c : Chan) : Bool := c.state == .open_ || (c.state == .draining && !c.pairs.isEmpty)

/-- A frame of a FRAME_COUNT opens; the frames between the last one and it are counted as missing. -/
def State.openCounted (s : State) (ch fc : Nat) (capture : Time) : State :=
  let s := match (s.chan ch).lastFrameCount with
    | some l => if countStep l fc < 2 ^ 31 then s.countMissing ch (countStep l fc) else s
    | none => s
  let s := s.modChan ch (fun c => { c with lastFrameCount := some fc })
  if (s.chan ch).opensFrames then s.openFrame ch fc capture
  else s.modChan ch (fun c => { c with absorbing := some (fc, s.time, []) })

/-- A line's FRAME_COUNT against the open frame: a higher one closes it and opens its own, a lower one or that of a closed
frame discards the line. With no frame open, a FRAME_COUNT that is not that of a closed frame opens one, a lower one as well. The
answer says whether the line is taken. -/
def State.lineFrame (s : State) (ch fc : Nat) (capture : Time) : Bool × State :=
  let c := s.chan ch
  match c.openCount with
  | some cur =>
    if cur = fc then (true, s)
    else if 2 ^ 31 ≤ countStep cur fc then (false, s)
    else (true, (s.closeOpen ch).openCounted ch fc capture)
  | none =>
    if c.closedCounts.contains fc then (false, s) else (true, s.openCounted ch fc capture)

/-- The line of a header. -/
def lineHeadKey (h : LineHead) (f : Fmt) : Nat := lineKey (if f.planar then h.phase % 4 else 0) h.line

/-- SAMPLES, DEPTH, PHASE, the bytes and LINE_CRC match (R118). DEDUCED, log entry 67. -/
def lineHeadOk (h : LineHead) (f : Fmt) : Bool :=
  h.samples == f.lineSamples && h.depth == f.depth && h.phase / 8 == 0 && h.data.length == f.lineBytes &&
    (match f.layout with
      | 0 => h.phase % 4 == 2 * (h.line % 2)
      | 1 => true
      | _ => h.phase % 4 == 0) &&
    (!bit h.phase 2 || crc32c h.data == h.lineCrc)

/-- A line of a dropped frame that is still open: a duplicate, or one beyond the format, is counted (R124). -/
def State.absorbLine (s : State) (quad ch k : Nat) (ok : Bool) (fc : Nat) : State :=
  match (s.chan ch).absorbing with
  | some (n, o, ks) =>
    if n ≠ fc then s
    else if !ok || ks.contains k then s.discardLine quad
    else s.modChan ch (fun c => { c with absorbing := some (n, o, ks ++ [k]) })
  | none => s

/-- A line is complete: it is received, discarded, or lost (R118, R124). -/
def State.lineDone (s : State) (quad : Nat) : State :=
  let p := s.ingest quad
  let s := s.setIngest quad { p with line := none }
  match s.ingestChan quad, p.line with
  | some ch, some (h, whole) =>
    let f := s.fmt ch
    let k := lineHeadKey h f
    match (s.chan ch).openFrame with
    | none => s.absorbLine quad ch k (f.lineOk k) h.frameCount
    | some x =>
      if x.frameCount ≠ h.frameCount then s
      else if !f.lineOk k || x.has k || x.lost.contains k then s.discardLine quad
      else if !whole || !lineHeadOk h f then s
      else s.takeLine ch x.seq k h.data h.capture
  | _, _ => s

/-- Runs a change of a port's channel and settles it. -/
def State.withIngest (s : State) (quad : Nat) (g : State → State) : State :=
  match s.ingestChan quad with
  | none => g s
  | some ch =>
    let before := s.anyBegun ch
    let s := g s
    s.settle ch (before < s.anyBegun ch)

/-- LINE_START. DEDUCED, log entry 68. -/
def execLineStart (t : Time) (quad : Nat) (h : LineHead) (s : State) : Out :=
  inRange "Q" quad 6 <| live t s (fun s =>
    if !s.ingestUp quad || s.fatal then s
    else
      let (ok, s) := (s.flitSeq quad h.seq).flitCredit quad
      if !ok then s
      else match s.ingestChan quad with
        | none => s
        | some ch => s.withIngest quad (fun s =>
          let (taken, s) := s.lineFrame ch h.frameCount h.capture
          let s := s.setIngest quad { s.ingest quad with line := none }
          if !taken then s.discardLine quad
          else
            let s := s.setIngest quad { s.ingest quad with line := some (h, true) }
            if h.last then s.lineDone quad else s))

/-- LINE_DATA. -/
def execLineData (t : Time) (quad : Nat) (last : Bool) (seq : Nat) (data : List Byte) (s : State) : Out :=
  inRange "Q" quad 6 <| live t s (fun s =>
    if !s.ingestUp quad || s.fatal then s
    else
      let (ok, s) := (s.flitSeq quad seq).flitCredit quad
      if !ok then s
      else match (s.ingest quad).line with
        | none => s
        | some (h, whole) => s.withIngest quad (fun s =>
          let s := s.setIngest quad { s.ingest quad with line := some ({ h with data := h.data ++ data }, whole) }
          if last then s.lineDone quad else s))

/-- FRAME_END: the open frame of that FRAME_COUNT closes. -/
def execFrameEnd (t : Time) (quad seq frameCount linesSent : Nat) (s : State) : Out :=
  inRange "Q" quad 6 <| inRange "LINES_SENT" linesSent 65536 <| live t s (fun s =>
    if !s.ingestUp quad || s.fatal then s
    else
      let (ok, s) := (s.flitSeq quad seq).flitCredit quad
      if !ok then s
      else
        let s := s.setIngest quad { s.ingest quad with line := none }
        match s.ingestChan quad with
        | none => s
        | some ch =>
          if (s.chan ch).openCount = some frameCount then s.withIngest quad (fun s => s.closeOpen ch) else s)

/-- INGEST_IDLE: an IDLE flit consumes no credit. -/
def execIngestIdle (t : Time) (quad seq : Nat) (s : State) : Out :=
  inRange "Q" quad 6 <| live t s (fun s => if s.ingestUp quad then s.flitSeq quad seq else s)

/-- INGEST_FLIT_CHECK_FAIL: discarded and counted; its FLIT_SEQ is not trusted, so that the next flit shows the gap. -/
def execIngestFlitCheckFail (t : Time) (quad : Nat) (s : State) : Out :=
  inRange "Q" quad 6 <| live t s (fun s =>
    if s.ingestUp quad then
      (s.ingestTick quad K.INGEST_COUNTERS_FLITS 1).ingestTick quad K.INGEST_COUNTERS_CHECK_DROPS 1
    else s)

/-- The line in progress is lost: a flit other than IDLE came between its flits (R118). -/
def State.spoilLine (s : State) (quad : Nat) : State :=
  let p := s.ingest quad
  s.setIngest quad { p with line := p.line.map (fun l => (l.1, false)) }

/-- INGEST_FLIT_UNKNOWN_TYPE: a TYPE that is not in Table 5-5, or CREDIT, which only the Elvoz sends. The line in progress is
lost (R118). DEDUCED, log entry 66. -/
def execIngestFlitUnknownType (t : Time) (quad type seq : Nat) (s : State) : Out :=
  inRange "Q" quad 6 <| live t s (fun s =>
    if s.ingestUp quad && !(0x40 ≤ type && type ≤ 0x43) then
      ((s.flitSeq quad seq).spoilLine quad).ingestTick quad K.INGEST_COUNTERS_DISCARDS 1
    else s)

/-- INGEST_LINK_UP: the port trains, and CREDIT gives the sender 8,192 flits. Its frames are counted afresh: a closed frame of
before is not one of the sender's (log entry 233). -/
def execIngestLinkUp (t : Time) (quad : Nat) (s : State) : Out :=
  inRange "Q" quad 6 <| live t s (fun s =>
    if s.role quad ≠ 0x40 then s
    else
      let s := s.setIngest quad { up := true, creditTotal := 8192 }
      let s := match s.ingestChan quad with
        | some ch => s.modChan ch (fun c => { c with closedCounts := [] })
        | none => s
      (s.endFault F.INGEST_LINK_DOWN quad).sendIngestCredit quad)

/-- INGEST_LINK_DOWN: the frame in progress is closed at once. -/
def execIngestLinkDown (t : Time) (quad : Nat) (s : State) : Out :=
  inRange "Q" quad 6 <| live t s (fun s =>
    if !s.ingestUp quad then s
    else
      let s := s.setIngest quad { s.ingest quad with up := false, line := none }
      let s := s.raise F.INGEST_LINK_DOWN { inst := quad, detail := [quad] }
      s.withIngest quad (fun s => match s.ingestChan quad with
        | some ch => s.closeOpen ch
        | none => s))

/-- INGEST_CREDIT_SEND: CREDIT_TOTAL rises by the flits that left the line buffer for DRAM, never by more than it holds. -/
def execIngestCreditSend (t : Time) (quad drained : Nat) (s : State) : Out :=
  inRange "Q" quad 6 <| live t s (fun s =>
    if !s.ingestUp quad then s
    else
      let p := s.ingest quad
      let inBuffer := (p.credited + 8192 + 2 ^ 32 - p.creditTotal) % 2 ^ 32
      let total := (p.creditTotal + min drained inBuffer) % 2 ^ 32
      (s.setIngest quad { p with creditTotal := total }).sendIngestCredit quad)

/-- Nanoseconds of FRAME_TIMEOUT; 0 means one frame period. -/
def State.frameTimeoutNs (s : State) (ch : Nat) : Nat :=
  let v := s.cv ch K.CH_SOURCE_FRAME_TIMEOUT
  if v = 0 then (s.fmt ch).period else v * 1000

/-- FRAME_TIMEOUT: the open frame closes, FRAME_TIMEOUT after its first line. -/
def execFrameTimeout (t : Time) (ch : Nat) (s : State) : Out :=
  inRange "CH" ch 256 <| live t s (fun s =>
    let c := s.chan ch
    let opened := match c.openFrame with
      | some x => some x.opened
      | none => c.absorbing.map (·.2.1)
    match opened with
    | some o =>
      if c.working && o + s.frameTimeoutNs ch ≤ s.time then
        let before := s.anyBegun ch
        let s := s.closeOpen ch
        s.settle ch (before < s.anyBegun ch)
      else s
    | none => s)

/-! ### ST 2110-20 (R121 to R123) -/

/-- A line as packed (R116), from its network bytes. -/
def unNetwork (f : Fmt) (bs : List Byte) : List Byte :=
  let pad := 8 * f.lineBytes - f.depth * f.lineSamples
  let v := beNat bs / 2 ^ pad
  let n := f.lineSamples
  let xs := (List.range n).map (fun i => v / 2 ^ (f.depth * (n - 1 - i)) % 2 ^ f.depth)
  let xs := if f.sampling = 4 then
    (runsOf 3 n xs).flatMap (fun p => [p.getD 1 0, p.getD 0 0, p.getD 2 0]) else xs
  packSamples f.depth xs

/-- Bytes in the flow's DRAM ingest buffer: those of lines that are not yet whole (DESIGN CHOICE: the manual does not say
when bytes leave it). DESIGN CHOICE, log entry 71. -/
def Chan.flowFill (c : Chan) : Nat := ((c.frames.flatMap (·.parts)).map (fun e => e.2.length)).sum

/-- FRAME_COUNT step of a change of RTP timestamp (R123), rounded half up. -/
def rtpStep (f : Fmt) (dts : Nat) : Nat :=
  let d := 90000 * f.den
  (2 * dts * f.num + d) / max 1 (2 * d)

/-- The instant of an RTP timestamp that lies nearest an arrival (R123). -/
def rtpInstant (ts : Nat) (now : Time) : Time :=
  let m := now * 9 / 100000
  let n : Int := m + toSigned 32 ((ts + 2 ^ 32 - m % 2 ^ 32) % 2 ^ 32)
  ceilDiv (n.toNat * 100000) 9

/-- Meter and buffer of a packet: whether it is kept (R122, R315). -/
def State.meterPacket (s : State) (ch bytes : Nat) : Bool × State :=
  let m := s.cv ch K.CH_SOURCE_METER
  let c := s.chan ch
  let size := s.cv ch K.CH_SOURCE_BUF_BYTES
  let (colour, s) :=
    if 1024 ≤ m then (0, s)
    else
      let (col, mt) := (s.meter m).colour bytes
      (col, State.bump { s with meters := Store.put s.meters m mt } (winKey m (K.METER_GREEN + col)) 1)
  let keep := match colour with
    | 0 => c.flowFill + bytes ≤ size
    | 1 => c.flowFill * 100 ≤ s.cv ch K.CH_SOURCE_YELLOW_THRESH * size && c.flowFill + bytes ≤ size
    | _ => false
  (keep, s)

/-- Bytes of one sample row enter its line; the line is received when all of it has arrived. -/
def State.takeRow (s : State) (ch q line off : Nat) (bs : List Byte) : State :=
  let f := s.fmt ch
  match (s.chan ch).frame? q with
  | none => s
  | some x =>
    let k := lineKey 0 line
    if !f.lineOk k || x.has k || x.lost.contains k then s
    else
      let old : Store Byte := Store.get x.parts [] k
      let new := (List.range bs.length).foldl (fun m i =>
        if off + i < f.lineBytes then Store.put m (off + i) (bs.getD i 0) else m) old
      if new.length = f.lineBytes then
        let s := s.modFrame ch q (fun x => { x with parts := Store.erase x.parts k })
        s.takeLine ch q k (unNetwork f (List.map Prod.snd new)) x.capture
      else s.modFrame ch q (fun x => { x with parts := Store.put x.parts k new })

/-- The frame of a packet: a change of RTP timestamp closes the open frame and opens the next one; a timestamp of a frame
already closed, or an older one, gives none. DEDUCED, log entry 70. -/
def State.rtpFrame (s : State) (ch ts : Nat) : Bool × State :=
  let f := s.fmt ch
  let c := s.chan ch
  match c.lastRtp with
  | none =>
    let s := s.modChan ch (fun c => { c with lastRtp := some ts })
    (true, s.openCounted ch 0 (rtpInstant ts s.time))
  | some l =>
    let d := countStep l ts
    if d = 0 then (c.openCount.isSome, s)
    else if 2 ^ 31 ≤ d then (false, s)
    else
      let fc := (c.lastFrameCount.getD 0 + rtpStep f d) % 2 ^ 32
      let s := (s.closeOpen ch).modChan ch (fun c => { c with lastRtp := some ts })
      (true, s.openCounted ch fc (rtpInstant ts s.time))

/-- ST2110_PACKET. -/
def execSt2110Packet (t : Time) (ch : Nat) (p : St2110) (s : State) : Out :=
  inRange "CH" ch 256 <| live t s (fun s =>
    if s.fatal || !(s.chan ch).working || s.cv ch K.CH_SOURCE_KIND ≠ 2 || s.cv ch K.CH_DECODE_DIRECTION = 1 then s
    else
      let (keep, s) := s.meterPacket ch p.bytes
      if !keep then s
      else
        let before := s.anyBegun ch
        let (ok, s) := s.rtpFrame ch p.rtpTime
        if !ok then s
        else
          let s := match (s.chan ch).openFrame with
            | some x => s.each p.rows (fun s r => s.takeRow ch x.seq r.1 r.2.1 r.2.2)
            | none => s
          let s := if p.marker then s.closeOpen ch else s
          s.settle ch (before < s.anyBegun ch))

/-! ### Tile hand-over (R288) -/

/-- Rows of the CTU rows this device codes that another device's cell receives: part and row. -/
def State.foreignRows (s : State) (ch : Nat) (f : Fmt) (from_ : Nat) : List Nat :=
  (List.range 4).flatMap (fun p => (List.range f.partH).filterMap (fun y =>
    let c := f.ctuIndex (if f.parts = 4 then p else 0) (s.cellCol0 ch f / f.ctu) (y / f.ctu)
    let cell := (y / max 1 f.cellH) * f.cellCols + s.cellCol0 ch f / max 1 f.cellW
    if s.codesCell ch f (f.cellOf p c) ∧ s.cellDev ch f cell = from_ ∧ from_ ≠ s.dev then some (p * 65536 + y) else none))

/-- Rows handed over enter the channel under their FRAME_COUNT. DEDUCED, log entry 81. -/
def State.takeHanded (s : State) (ch fc : Nat) (rows : List (Nat × List Byte)) : State :=
  s.modChan ch (fun c =>
    let old : Store (List Byte) := Store.get c.handed [] fc
    let new := rows.foldl (fun m r => Store.put m r.1 r.2) old
    let keep := c.handed.filter (fun e => c.frames.any (fun x => x.frameCount == e.1) ||
      (match c.lastFrameCount with
        | some l => countStep l e.1 < 2 ^ 31
        | none => true))
    { c with handed := Store.put keep fc new })

/-- The rows of a frame that its sender dropped: replaced from the nearest own row, and each is raised as lost. -/
def State.loseHanded (s : State) (ch fc from_ : Nat) : State :=
  let f := s.fmt ch
  let rows := s.foreignRows ch f from_
  let y0 := s.cellRow0 ch f
  let own := fun (k : Nat) =>
    let y := max y0 (min (k % 65536) (y0 + f.cellH - 1)) - y0
    match (s.chan ch).frames.find? (fun x => x.frameCount == fc) with
    | some x => Store.get x.lines [] (if f.planar then lineKey (k / 65536) y
        else if f.raw then lineKey 0 (2 * y + k / 65536 / 2) else lineKey 0 y)
    | none => []
  let pic := match (s.chan ch).frames.find? (fun x => x.frameCount == fc) with
    | some x => (s.chan ch).framePic x.seq 0
    | none => (s.chan ch).picCount
  let s := s.takeHanded ch fc (rows.map (fun k => (k, own k)))
  s.each rows (fun s k =>
    let part := k / 65536
    let c := f.ctuIndex (if f.parts = 4 then part else 0) 0 (k % 65536 / f.ctu)
    s.raise F.INGEST_LINE_LOST
      { loc := f.ctuLoc ch (if f.pictures = 4 then pic + part else pic) c, detail := [k % 65536] })

/-- TILE_HANDOVER. -/
def execTileHandover (t : Time) (from_ ch frameCount : Nat) (dropped : Bool) (lines : List (Nat × List Byte))
    (capture : Time) (s : State) : Out :=
  inRange "DEV" from_ 8 <| inRange "CH" ch 256 <| live t s (fun s =>
    if !s.inArray || !(s.chan ch).working || !(s.fmt ch).array then s
    else
      let s := if dropped then s.loseHanded ch frameCount from_ else s.takeHanded ch frameCount lines
      let s := s.modChan ch (fun c => { c with frames := c.frames.map (fun x =>
        if x.frameCount = frameCount ∧ x.capture = 0 then { x with capture := capture } else x) })
      s.settle ch false)

/-! ### Derived outputs (R129, R139, R230) -/

/-- The format of an accepted frame: the picture's own in a decode channel. -/
def State.frameFmt (s : State) (ch : Nat) (x : Frame) : Fmt :=
  match x.geom with
  | some (w, h, sampling, depth) =>
    { s.fmt ch with width := w, height := h, sampling := sampling, depth := depth, kind := 3, layout := 0 }
  | none => s.fmt ch

/-- An output meets every condition of the exact link (R230). -/
def State.exactLink (s : State) (f : Fmt) (ch k : Nat) (img : Store Nat) : Bool :=
  let g := s.derFmt ch k
  let m := (List.range 9).all (fun i => s.der ch k (K.CH_DERIVEDk_M11 + i) == (if i % 4 = 0 then 65536 else 0))
  let o := (List.range 3).all (fun i => s.der ch k (K.CH_DERIVEDk_O1 + i) == 0)
  s.der ch k K.CH_DERIVEDk_CROP == 0 && g.width == f.width && g.height == f.height &&
    (g.sampling == f.sampling || (4 ≤ g.sampling && 4 ≤ f.sampling)) && 2 ≤ f.sampling && g.depth == f.depth && m && o &&
    img.isEmpty && s.der ch k K.CH_DERIVEDk_OUT_MATRIX == 0

/-- The channel that takes an output as its frames: open, kind 3. -/
def State.derivedConsumer (s : State) (ch k : Nat) : Option Nat :=
  (List.find? (fun e => e.2.opensFrames && s.cv e.1 K.CH_DECODE_DIRECTION == 0 && s.cv e.1 K.CH_SOURCE_KIND == 3 &&
    s.cv e.1 K.CH_SOURCE_SOURCE_CHANNEL == ch && s.cv e.1 K.CH_SOURCE_PORT == k) s.chans).map Prod.fst

/-- A whole frame arrives at a channel of kind 0 or 3: its FRAME_COUNT is the count of frames accepted since OPEN. -/
def State.wholeFrame (s : State) (ch : Nat) (bytes : List Byte) (capture : Time) (bufs : List Nat) : State :=
  let f := s.fmt ch
  let c := s.chan ch
  let q := c.frameSeq
  let s := s.openFrame ch (c.accepted % 2 ^ 32) capture
  if ((s.chan ch).frame? q).isNone then
    (s.each bufs (fun s n => s.freeBuf n 2)).modChan ch (fun c => { c with absorbing := none })
  else
    let lines := (List.range f.lineKeys.length).map (fun i =>
      (f.lineKeys.getD i 0, (bytes.drop (i * f.lineBytes)).take f.lineBytes))
    let s := s.modFrame ch q (fun x => { x with
      lines := lines.foldl (fun m e => Store.put m e.1 e.2) [], begun := true, captureLine := 0, bufs := bufs })
    (s.closeFrame ch q).settle ch true

/-- The bytes of a frame in the order of an IN-ring frame. -/
def Frame.bytes (f : Fmt) (x : Frame) : List Byte := f.lineKeys.flatMap (fun k => Store.get x.lines [] k)

/-- DERIVED_PICTURES_MADE: the unit has made the outputs of the oldest accepted frame of that FRAME_COUNT. The samples of an
exact link are the source's. -/
def execDerivedPicturesMade (t : Time) (ch frameCount : Nat) (s : State) : Out :=
  inRange "CH" ch 256 <| live t s (fun s =>
    let c := s.chan ch
    match c.frames.find? (fun x => x.frameCount == frameCount && x.accepted && !x.derived) with
    | none => s
    | some x =>
      let s := s.modChan ch (fun c => { c with derivedSeen := c.derivedSeen + 1 })
      let s := s.modFrame ch x.seq (fun x => { x with derived := true })
      let s := s.each (List.range 4) (fun s k =>
        let st := s.ro (derKey ch k K.CH_DERIVEDk_STATUS)
        let due := c.derivedSeen % max 1 (s.der ch k K.CH_DERIVEDk_FRAME_DIV) = 0
        if (st ≠ 1 ∧ st ≠ 2) ∨ !due then s
        else match s.derivedConsumer ch k with
          | none => s
          | some d =>
            let f := s.frameFmt ch x
            let bytes := if s.exactLink f ch k (s.imageOf ch x (12 + k)) then x.bytes f else s.derivedBytes ch k f x
            s.wholeFrame d bytes x.capture [])
      s.tryRelease ch x.seq)

end Sys2Proof.Machine
end

