-- ==== Sys2Proof/Machine/Units.lean ====
section
/-! DEFINITION. Units of the clusters: service, retirement, quarantine, self-test and repeated grants (R10 to R13, R160, R161,
R181 to R185, R426). -/

namespace Sys2Proof.Machine

/-! ### Free units -/

/-- Units of a kind in a cluster that hold a grant. -/
def State.busyOf (s : State) (k : UnitKind) (c : Nat) : Nat :=
  ((List.range k.perCluster).filter (fun i => (s.unit k (c * k.perCluster + i)).grant.isSome)).length

/-- The cluster that takes no new grant because a SAME_OUTPUT patch is being applied to it (R399). -/
def State.withheld (s : State) : Option Nat :=
  match s.boot.patch with
  | some (true, _, _) => (List.range 8).find? (fun c => !bit s.boot.clustersDone c)
  | _ => none

/-- A unit that may take a grant: in service, holding none, and its cluster has fewer at work than may work (R10). -/
def State.unitFree (s : State) (k : UnitKind) (n : Nat) : Bool :=
  let u := s.unit k n
  n < k.total && u.inService && u.grant.isNone && s.busyOf k (clusterOf k n) < k.working &&
    s.withheld ≠ some (clusterOf k n)

/-- The free units of a kind. -/
def State.freeUnits (s : State) (k : UnitKind) : List Nat := (List.range k.total).filter (s.unitFree k)

/-- Which free unit a waiting grant takes the manual leaves open: a free value picks it (R183). -/
def State.anyFree (s : State) (k : UnitKind) : Option Nat :=
  let l := s.freeUnits k
  if l.isEmpty then none else l[Config.unitChoice s.free % l.length]?

/-- A unit takes a grant. -/
def State.giveGrant (s : State) (k : UnitKind) (n : Nat) (g : Grant) : State :=
  s.setUnit k n { s.unit k n with grant := some g, lastHandshake := s.time }

/-- A unit's grant is complete. -/
def State.endGrant (s : State) (k : UnitKind) (n : Nat) : State :=
  s.setUnit k n { s.unit k n with grant := none, lastHandshake := s.time, lastWrite := s.time }

/-! ### Grants that wait to be issued again -/

/-- The same piece of work: kind, channel, picture and number. -/
def sameWork (k : UnitKind) (g : Grant) (e : Nat × Grant) : Bool :=
  e.1 == k.code && e.2.chan == g.chan && e.2.pic == g.pic && e.2.idx == g.idx && e.2.verify == g.verify &&
    (k ≠ .ms || e.2.ref == g.ref)

/-- A grant that waits to be issued again. -/
def State.waitingGrant (s : State) (k : UnitKind) (g : Grant) : Option Grant :=
  (s.reissue.find? (sameWork k g)).map Prod.snd

def State.dropWaiting (s : State) (k : UnitKind) (g : Grant) : State :=
  { s with reissue := s.reissue.filter (fun e => !sameWork k g e) }

/-- First CTU of a grant of a unit (Table 1-6), a whole CTU at depth 6 as the example of R181 has it: the CTU itself, the first
one of a search row in this device's region, or the first one of the substream (R161, R181). DEDUCED, log entry 239. -/
def State.grantLoc (s : State) (k : UnitKind) (g : Grant) : Loc :=
  let f := s.fmt g.chan
  let c := match k with
    | .px => g.idx
    | .ms => ((s.regionCtus g.chan f 0).find? (fun c => f.ctuRow c = g.idx)).getD (f.ctuIndex 0 0 g.idx)
    | .ee => ((f.subCtus g.ref).head?).getD g.ref
    | .df => g.ref
  let tile := match k, (s.chan g.chan).dec.cur with
    | .df, some p => if g.verify then f.tileCode c else p.geom.tile c
    | _, _ => f.tileCode c
  { f.ctuLoc g.chan g.pic c with depth := 6, whole := true, tile := tile }

/-- Entropy and front-end grants that wait take free engines, oldest first (R183, R426). -/
def State.serveGrants (s : State) (fuel : Nat) : State :=
  match fuel with
  | 0 => s
  | n + 1 =>
    let go := fun (k : UnitKind) =>
      (s.reissue.find? (fun e => e.1 == k.code)).bind (fun e => (s.anyFree k).map (fun u => (e, k, u)))
    match (go .ee).orElse (fun _ => go .df) with
    | some ((_, g), k, u) =>
      let s := ((s.dropWaiting k g).giveGrant k u g).draws
      let s := if k = .ee then
        (s.tick K.CODING_COUNTERS_SUBSTREAM_RESTARTS 1).cbump g.chan K.CH_CODE_STATUS_SUBSTREAM_RESTARTS 1 else s
      s.serveGrants n
    | none => s

/-- Serves whatever waits for an engine or a front end. -/
def State.serveEngines (s : State) : State := s.serveGrants s.reissue.length

/-- A substream taken from its engine restarts at the chunk in progress: the buffers obtained for it are freed (R183,
R236). -/
def State.freeRestarted (s : State) (n : Nat) (g : Grant) : State :=
  let s := { s with pool := { s.pool with waiters := s.pool.waiters.filter (fun w =>
    !(w.chan == g.chan && w.use == 1 && w.unit == n)) } }
  s.each ((s.pool.bufs.filter (fun e => e.2.ready && e.2.chan == g.chan && e.2.use == 1 && e.2.unit == n)).map Prod.fst)
    (fun s b => s.freeBuf b 1)

/-- The latency bound of R174 does not hold for a chunk with repeated CTUs: these are noted on the picture. -/
def State.noteRepeat (s : State) (ch pic : Nat) (ctus : List Nat) : State :=
  s.modChan ch (fun c => { c with pics := c.pics.map (fun p =>
    if p.count = pic then { p with unbound := p.unbound ++ ctus } else p) })

/-- The work of a unit that leaves service is repeated: its grant waits with the next generation, and a fifth issue faults
its channel (R161, R182 to R184, R426). DEDUCED, log entry 91. -/
def State.repeatGrant (s : State) (k : UnitKind) (n : Nat) (g : Grant) : State :=
  let s := if k = .ee then s.freeRestarted n g else s
  if 3 ≤ g.gen then s.raise F.WORK_REISSUE_LIMIT { loc := s.grantLoc k g }
  else { s with reissue := s.reissue ++ [(k.code, { g with gen := g.gen + 1, bufs := [] })] }

/-- The retirement fault of a kind. -/
def retiredFault : UnitKind → Nat
  | .px => F.PX_RETIRED
  | .ee => F.EE_RETIRED
  | .ms => F.MS_RETIRED
  | .df => F.DF_RETIRED

/-- A unit leaves service, and then its fault is raised (R13, R161, R181, R426): the location of the first CTU of its grant in
flight, or LOC_DEPTH 0 where it held none. -/
def State.leaveService (s : State) (k : UnitKind) (n fault : Nat) (retire : Bool) : State :=
  let u := s.unit k n
  let s := s.setUnit k n { u with
    inService := false, retired := u.retired || retire, quarantined := u.quarantined || !retire, tested := false
    testing := false, leftAt := s.time, grant := none }
  let loc : Loc := match u.grant with
    | some g => s.grantLoc k g
    | none => {}
  let s := s.raise fault { inst := unitKey k n, loc := loc, detail := [unitKey k n] }
  let s := match u.grant with
    | some g => if (s.chan g.chan).working || g.verify then s.repeatGrant k n g else s
    | none => s
  s.serveEngines

/-- No handshake on the grant interface for WATCHDOG_US; or a grant that completed at this very instant, which stands while
its unit is still taken out of service (R181). DEDUCED, log entry 87. -/
def State.watchdogDue (s : State) (u : UnitSt) : Bool :=
  u.lastHandshake + s.v K.CODING_CONFIG_WATCHDOG_US * 1000 ≤ s.time || (u.grant.isNone && u.lastHandshake == s.time)

/-- UNIT_WATCHDOG_EXPIRY. -/
def execUnitWatchdogExpiry (t : Time) (u : UnitId) (s : State) : Out :=
  inRange "unit" u.num u.kind.total <| live t s (fun s =>
    let x := s.unit u.kind u.num
    if x.inService && s.watchdogDue x then s.leaveService u.kind u.num (retiredFault u.kind) true else s)

/-- UNIT_STATE_ERROR: an uncorrectable error in the unit's own state. -/
def execUnitStateError (t : Time) (u : UnitId) (s : State) : Out :=
  inRange "unit" u.num u.kind.total <| live t s (fun s =>
    if (s.unit u.kind u.num).inService then s.leaveService u.kind u.num (retiredFault u.kind) true else s)

/-- STALE_WRITE: a write with an older generation is rejected and counted, and UNIT_QUARANTINED raised; a unit in service is
quarantined (R12, R182). A write with the generation of the grant its unit holds is no stale write. DEDUCED, log entry 88. -/
def execStaleWrite (t : Time) (u : UnitId) (gen : Nat) (s : State) : Out :=
  inRange "unit" u.num u.kind.total <| live t s (fun s =>
    let x := s.unit u.kind u.num
    let current : Bool := match x.grant with
      | some g => g.gen ≤ gen
      | none => false
    if current then s
    else
      let s := (s.setUnit u.kind u.num { x with lastWrite := s.time }).tick K.CODING_COUNTERS_STALE_WRITES 1
      if x.inService then s.leaveService u.kind u.num F.UNIT_QUARANTINED false
      else
        (s.setUnit u.kind u.num { s.unit u.kind u.num with quarantined := true }).raise F.UNIT_QUARANTINED
          { inst := unitKey u.kind u.num, detail := [unitKey u.kind u.num] })

/-- The self-test of a unit may start: out of service, not tested since it left, no write for 1 ms (R185). -/
def State.testDue (s : State) (x : UnitSt) : Bool :=
  !x.inService && !x.tested && !x.testing && max x.lastWrite x.leftAt + 1000000 ≤ s.time

/-- SH3 works: it runs self-tests, telemetry and diagnostics (R52, R361). -/
def State.coreWorks (s : State) (k : Nat) : Bool :=
  let c : Core' := Store.get s.cores {} k
  !c.stalled && !c.restarting

/-- UNIT_SELF_TEST_START. -/
def execUnitSelfTestStart (t : Time) (u : UnitId) (s : State) : Out :=
  inRange "unit" u.num u.kind.total <| live t s (fun s =>
    let x := s.unit u.kind u.num
    if s.testDue x && s.coreWorks 3 then s.setUnit u.kind u.num { x with testing := true } else s)

/-- UNIT_SELF_TEST_COMPLETE: the unit returns to service, or is retired and stays out; unless it was retired already it
raises its retirement at LOC_DEPTH 0. -/
def execUnitSelfTestComplete (t : Time) (u : UnitId) (pass : Bool) (s : State) : Out :=
  inRange "unit" u.num u.kind.total <| live t s (fun s =>
    let x := s.unit u.kind u.num
    if !x.testing then s
    else if pass then
      (s.setUnit u.kind u.num { x with
        inService := true, quarantined := false, retired := false, tested := true, testing := false
        lastHandshake := s.time }).serveEngines
    else
      let s' := s.setUnit u.kind u.num { x with retired := true, tested := true, testing := false }
      if x.retired then s'
      else s'.raise (retiredFault u.kind) { inst := unitKey u.kind u.num, detail := [unitKey u.kind u.num] })

end Sys2Proof.Machine
end

