-- ==== Sys2Proof/Machine/Halo.lean ====
section
/-! DEFINITION. Halos of array channels: what a device fetches from its peers, what it answers, and when the halo of a dead
device is closed (R157 to R159, R290, Table 12-2). -/

namespace Sys2Proof.Machine

/-! ### Which samples lie in a halo (R157) -/

/-- A rectangle of a part that a peer holds: owner, place and size. -/
structure HaloRect where
  owner : Nat
  x : Nat
  y : Nat
  w : Nat
  h : Nat
  deriving DecidableEq, Repr

/-- Bytes of one halo sample (Table 12-2). -/
def Fmt.haloBps (f : Fmt) : Nat := if f.codedDepth = 8 then 1 else 2

/-- Cells that meet a cell at an edge or a corner. -/
def Fmt.cellsAround (f : Fmt) (k : Nat) : List Nat :=
  let r := k / f.cellCols
  let c := k % f.cellCols
  (List.range (f.cellCols * f.cellRows)).filter (fun j =>
    j ≠ k && absDiff (j / f.cellCols) r ≤ 1 && absDiff (j % f.cellCols) c ≤ 1)

/-- A reference cell coded by a device that has been declared dead since: its halo is closed (R159). -/
def State.haloClosed (s : State) (ch : Nat) (f : Fmt) (cell launch : Nat) : Bool :=
  let d := s.cellDevAt ch f (some launch) cell
  s.array.closedHalo.any (fun e => e.1 == d && decide (launch < e.2))

/-- One axis of the overlap of an own span, widened by the halo, with another: start and length. -/
def haloSpan (own other : Nat × Nat) (hw : Nat) : Nat × Nat :=
  let a := max (own.1 - hw) other.1
  let b := min (own.2 + hw) other.2
  (a, b - a)

/-- Columns and rows of a cell: in the region coded, or, for the pyramid, of the cell as received (R287, R289). -/
def Fmt.cellSpan (f : Fmt) (part : Option Nat) (k : Nat) : (Nat × Nat) × (Nat × Nat) :=
  let c := k % f.cellCols
  let r := k / f.cellCols
  ((c * f.cellW, (c + 1) * f.cellW), match part with
    | some p => f.regionRows p r
    | none => (r * f.cellH, (r + 1) * f.cellH))

/-- The halo of this device's region in one part, or of its cell for the pyramid, for references of a frame launched at an
instant. PRESUMED, log entry 152. -/
def State.haloRects (s : State) (ch : Nat) (f : Fmt) (part : Option Nat) (hw launch : Nat) : List HaloRect :=
  ((List.range (f.cellCols * f.cellRows)).filter (s.codesCell ch f)).flatMap (fun k =>
    (f.cellsAround k).filterMap (fun j =>
      let d := s.cellDevAt ch f (some launch) j
      let (x, w) := haloSpan (f.cellSpan part k).1 (f.cellSpan part j).1 hw
      let (y, h) := haloSpan (f.cellSpan part k).2 (f.cellSpan part j).2 hw
      if d = s.dev ∨ 8 ≤ d ∨ w = 0 ∨ h = 0 ∨ s.haloClosed ch f j launch then none
      else some { owner := d, x := x, y := y, w := w, h := h }))

/-- Peers that face this device's region: HALO_PEERS of a new reference. -/
def State.facing (s : State) (ch : Nat) (f : Fmt) : List Nat :=
  if f.array then
    (((List.range (f.cellCols * f.cellRows)).filter (s.codesCell ch f)).flatMap (fun k =>
      ((f.cellsAround k).map (s.cellDev ch f)).filter (fun d => d ≠ s.dev && d < 8))).dedup
  else []

/-- PLANE codes fetched for a picture of a phase: its reconstruction by component or phase, and with the first picture of a
frame the pyramid levels. -/
def Fmt.haloPlanes (f : Fmt) (phase : Nat) : List Nat :=
  let recon := if f.parts = 4 then [0, 1, 2, 3] else if f.pictures = 4 then [phase] else
    if f.chroma = 0 then [0] else [0, 1, 2]
  recon ++ (if phase = 0 then (List.range 6).map (fun k => (k + 1) * 16) else [])

/-- Horizontal and vertical division of a plane against the luma of a part. -/
def Fmt.planeScale (f : Fmt) (plane : Nat) : Nat × Nat :=
  if 16 ≤ plane then (2 ^ (plane / 16 - 1), 2 ^ (plane / 16 - 1))
  else if f.raw ∨ plane = 0 then (1, 1)
  else match f.chroma with
    | 1 => (2, 2)
    | 2 => (2, 1)
    | _ => (1, 1)

/-- A rectangle on the grid of a plane. -/
def HaloRect.scaled (r : HaloRect) (d : Nat × Nat) : HaloRect :=
  { r with x := r.x / d.1, y := r.y / d.2, w := ceilDiv r.w d.1, h := ceilDiv r.h d.2 }

/-! ### Requests -/

/-- The body of HALO_REQ. -/
def haloBody (q : HaloReq) : List Byte :=
  leBytes 1 q.chan ++ leBytes 1 q.plane ++ leBytes 2 0 ++ leBytes 4 q.pic ++ leBytes 2 q.x ++ leBytes 2 q.y ++
    leBytes 2 q.w ++ leBytes 2 q.h ++ leBytes 4 q.reqId

def State.sendHaloReq (s : State) (owner : Nat) (q : HaloReq) : State :=
  s.ronoxSend 0x20 (if q.final then 1 else 0) 1 owner (haloBody q)

/-- Requests one rectangle of a plane of a reference picture. -/
def State.requestHalo (s : State) (ch pic plane : Nat) (f : Fmt) (r : HaloRect) : State :=
  let id := s.array.nextReq
  let q : HaloReq :=
    { chan := ch, plane := plane, pic := pic % 2 ^ 32, x := r.x, y := r.y, w := r.w, h := r.h, reqId := id, final := false }
  let w : HaloWait := { owner := r.owner, req := q, got := 0, want := r.w * r.h * f.haloBps, lastData := s.time }
  let s := { s with array := { s.array with
    nextReq := (id + 1) % 2 ^ 32, halos := Store.put s.array.halos id w } }
  s.sendHaloReq r.owner q

/-- The halo of a plane of a picture is asked for, or held. -/
def State.haloKnown (s : State) (ch pic plane owner : Nat) : Bool :=
  s.array.halosDone.contains (ch, pic % 2 ^ 32, plane, owner) ||
    s.array.halos.any (fun e => e.2.owner == owner && e.2.req.chan == ch && e.2.req.pic == pic % 2 ^ 32 &&
      e.2.req.plane == plane)

/-- Halos of the references of a picture are asked for where they are not held yet (R157). -/
def State.requestHalos (s : State) (ch : Nat) (p : Pic) : State :=
  let f := s.fmt ch
  if !f.array then s
  else s.each p.refs (fun s ref =>
    let launch := match (s.fbOfPic ch ref).bind s.fb? with
      | some b => b.launch
      | none => 0
    s.each (f.haloPlanes p.stream) (fun s plane =>
      let part := if 16 ≤ plane then none else some (if f.parts = 4 then plane else p.stream)
      let hw := s.pval p.vals ch K.CH_SEARCH_HALO_WIDTH
      let rects := ((s.haloRects ch f part hw launch).filter (fun r => !s.haloKnown ch ref plane r.owner)).map
        (·.scaled (f.planeScale plane))
      s.each rects (fun s r => s.requestHalo ch ref plane f r)))

/-! ### Waiting for a halo (R158) -/

/-- Vertical reach of the search at P0 (Table 6-2). -/
def reachV (archive : Bool) : Nat := if archive then 502 else 142
def reachH (archive : Bool) : Nat := if archive then 886 else 270

/-- A request whose data do not yet hold a row within reach of a CTU row. -/
def HaloWait.blocks (w : HaloWait) (f : Fmt) (reach row : Nat) : Bool :=
  let d := (f.planeScale w.req.plane).2
  let a := (row * f.ctu - reach) / d
  let b := ceilDiv ((row + 1) * f.ctu + reach) d
  let rows := w.got / max 1 (w.req.w * f.haloBps)
  decide (max (max a w.req.y) (w.req.y + rows) < min b (w.req.y + w.req.h))

/-- The halo rows within reach of a CTU row of a picture have arrived. -/
def State.haloArrived (s : State) (ch : Nat) (p : Pic) (row : Nat) : Bool :=
  let f := s.fmt ch
  let reach := reachV (s.pval p.vals ch K.CH_SEARCH_PRESET = 1)
  s.array.halos.all (fun e =>
    !(e.2.req.chan == ch && p.refs.any (fun r => r % 2 ^ 32 == e.2.req.pic) && e.2.blocks f reach row))

/-- A picture that would have used a closed halo is raised and counted, once (R159). -/
def State.noteClosedHalo (s : State) (ch : Nat) (p : Pic) : State :=
  let f := s.fmt ch
  let hit := f.array && !p.haloNoted && p.refs.any (fun ref =>
    let launch := match (s.fbOfPic ch ref).bind s.fb? with
      | some b => b.launch
      | none => 0
    ((List.range (f.cellCols * f.cellRows)).filter (s.codesCell ch f)).any (fun k =>
      (f.cellsAround k).any (fun j => s.haloClosed ch f j launch)))
  if hit then
    let s := s.modChan ch (fun c => { c with pics := c.pics.map (fun x =>
      if x.count = p.count then { x with haloNoted := true } else x) })
    (s.raise F.HALO_CLOSED { loc := Loc.ofPic ch p.count }).cbump ch K.CH_SEARCH_STATUS_HALO_CLOSED_PICS 1
  else s

/-- Every picture not complete at an epoch change is held against the closed halos (R159). -/
def State.noteClosedHalos (s : State) : State :=
  s.each s.chans (fun s e => s.each (e.2.pics.filter (fun p => p.done.length < (s.regionCtus e.1 (s.fmt e.1) p.stream).length))
    (fun s p => s.noteClosedHalo e.1 p))

/-! ### Answering (R290) -/

/-- Sample (x, y) of a component or part of a picture, from its bytes as an IN-ring frame at its coded size and depth. -/
def Fmt.reconSample (f : Fmt) (bs : List Byte) (comp x y : Nat) : Nat :=
  let wide := if f.raw then f.picW
    else match f.sampling with
      | 3 => 2 * f.picW
      | 4 | 5 => 3 * f.picW
      | _ => f.picW
  let line := fun (j i : Nat) =>
    let n := ceilDiv (wide * f.codedDepth) 8
    sampleOf f.codedDepth ((bs.drop (j * n)).take n) i
  if f.raw then line y ((if f.parts = 4 then comp * f.partW else 0) + x)
  else match f.sampling, comp with
    | 2, 0 => line y x
    | 2, c => line (f.picH + y) (2 * x + (c - 1))
    | 3, 0 => line y (2 * x + 1)
    | 3, c => line y (4 * x + 2 * (c - 1))
    | 4, c => line y (3 * x + c)
    | 5, c => line y (3 * x + (c + 1) % 3)
    | _, _ => line y x

/-- The bytes of a halo that this device holds: reconstruction, or a level of the source pyramid; none while the picture is
not complete. -/
def State.haloData (s : State) (q : HaloReq) : Option (List Byte) :=
  let f := s.fmt q.chan
  let places := (List.range q.h).flatMap (fun j => (List.range q.w).map (fun i => (q.x + i, q.y + j)))
  match List.find? (fun e => e.2.of_ == q.chan && e.2.holds32 q.pic) s.fbs with
  | none => none
  | some (_, b) =>
    let i := match b.pic with
      | some (p, _) => (q.pic + 2 ^ 32 - p % 2 ^ 32) % 2 ^ 32
      | none => 0
    if q.plane < 16 then
      (Store.find? b.recon i).map (fun bs =>
        places.flatMap (fun p => leBytes f.haloBps (f.reconSample bs (if f.pictures = 4 then 0 else q.plane) p.1 p.2)))
    else if b.p0.isEmpty then none
    else
      let k := q.plane / 16 - 1
      let x0 := s.cellCol0 q.chan f
      let y0 := s.cellRow0 q.chan f
      let p0 := fun (i j : Nat) => (b.p0.getD j []).getD i 0
      some (places.flatMap (fun p =>
        leBytes f.haloBps (pyramid p0 f.p0W f.p0H k (p.1 - x0 / 2 ^ k) (p.2 - y0 / 2 ^ k))))

/-- The owner answers a request, every copy of it, with HALO_DATA flits of at most 232 bytes. -/
def State.answerHalo (s : State) (peer : Nat) (q : HaloReq) : State :=
  match s.haloData q with
  | none => s
  | some bs =>
    let runs := runsOf 232 bs.length bs
    let s := s.each (List.range runs.length) (fun s i =>
      s.ronoxSend 0x21 0 2 peer (leBytes 4 q.reqId ++ leBytes 4 (232 * i) ++ runs.getD i []))
    s.tick K.SEARCH_COUNTERS_HALO_BYTES_OUT bs.length

/-- FINAL for one picture of a buffer's frame: the peer's bit clears once FINAL has come for each of them (R158). -/
def FrameBuf.takeFinal (b : FrameBuf) (peer pic : Nat) : FrameBuf :=
  match b.pic with
  | none => b
  | some (p, n) =>
    let l := b.haloFinals ++ [(peer, (pic + 2 ^ 32 - p % 2 ^ 32) % 2 ^ 32)]
    let b := { b with haloFinals := l }
    if (List.range n).all (fun i => l.contains (peer, i)) then b.dropPeer peer else b

/-- FINAL: the picture's frame buffer takes note of it. -/
def State.haloFinal (s : State) (from_ : Nat) (q : HaloReq) : State :=
  s.each (s.fbs.filter (fun e => e.2.of_ == q.chan && e.2.holds32 q.pic)) (fun s e =>
    s.modFb e.1 (fun b => b.takeFinal from_ q.pic))

/-- A HALO_REQ arrives. -/
def State.takeHaloReq (s : State) (from_ : Nat) (q : HaloReq) : State :=
  if q.final then s.haloFinal from_ q else s.answerHalo from_ q

/-- Bytes of a halo with those of one HALO_DATA put in at their offset. -/
def putRun (old : List Byte) (offset : Nat) (data : List Byte) : List Byte :=
  old.take offset ++ data ++ old.drop (offset + data.length)

/-- The samples of a request answered in full are stored with the reference that they belong to. -/
def State.storeHalo (s : State) (owner : Nat) (q : HaloReq) (data : List Byte) : State :=
  s.each (s.fbs.filter (fun e => e.2.of_ == q.chan && e.2.holds32 q.pic)) (fun s e =>
    s.modFb e.1 (fun b => { b with
      halo := b.halo ++ [{ owner := owner, plane := q.plane, x := q.x, y := q.y, w := q.w, h := q.h, data := data }] }))

/-- HALO_DATA arrives: its samples are kept, and the last of them completes the request. -/
def State.takeHaloData (s : State) (reqId offset : Nat) (data : List Byte) : State :=
  let s := s.tick K.SEARCH_COUNTERS_HALO_BYTES_IN data.length
  match Store.find? s.array.halos reqId with
  | none => s
  | some w =>
    let got := min w.want (max w.got (if offset ≤ w.got then offset + data.length else w.got))
    let held := if offset ≤ w.got then (putRun w.data offset data).take w.want else w.data
    let a := s.array
    if got = w.want then
      State.storeHalo { s with array := { a with
          halos := Store.erase a.halos reqId
          halosDone := a.halosDone ++ [(w.req.chan, w.req.pic, w.req.plane, w.owner)] } } w.owner w.req held
    else { s with array := { a with
      halos := Store.put a.halos reqId { w with got := got, lastData := s.time, data := held } } }

/-- A request not fully answered within 200 µs of its last HALO_DATA is sent again whole (R290). -/
def State.reissueHalo (s : State) (reqId : Nat) : State :=
  match Store.find? s.array.halos reqId with
  | none => s
  | some w =>
    if w.lastData + 200000 ≤ s.time then
      let s := { s with array := { s.array with halos := Store.put s.array.halos reqId { w with lastData := s.time } } }
      (s.tick K.ARRAY_COUNTERS_HALO_REISSUES 1).sendHaloReq w.owner w.req
    else s

/-- FINAL is sent once all that is needed of a reference picture of an owner has been received: four copies at 10 µs
intervals (R290). -/
def State.sendHaloFinal (s : State) (ch pic owner : Nat) : State :=
  let a := s.array
  let open_ := a.halos.any (fun e => e.2.owner == owner && e.2.req.chan == ch && e.2.req.pic == pic % 2 ^ 32)
  let got := a.halosDone.any (fun e => e.1 == ch && e.2.1 == pic % 2 ^ 32 && e.2.2.2 == owner)
  let old := a.finals.find? (fun e => e.1 == ch && e.2.1 == pic && e.2.2.1 == owner)
  let (n, last) := match old with
    | some e => (e.2.2.2.1, e.2.2.2.2)
    | none => (0, 0)
  if open_ || !got || 4 ≤ n || (n ≠ 0 && s.time < last + 10000) then s
  else
    let rest := a.finals.filter (fun e => !(e.1 == ch && e.2.1 == pic && e.2.2.1 == owner))
    let s := { s with array := { a with finals := rest ++ [(ch, pic, owner, n + 1, s.time)] } }
    s.sendHaloReq owner
      { chan := ch, plane := 0, pic := pic % 2 ^ 32, x := 0, y := 0, w := 0, h := 0, reqId := 0, final := true }

end Sys2Proof.Machine
end

