-- ==== Sys2Proof/Machine/Rate.lean ====
section
/-! DEFINITION. The rate controller: base quantiser, adaptive quantisation, region offsets, ceiling and bucket, the bound
check's ladder (R186 to R200, R207, R289). -/

namespace Sys2Proof.Machine

/-! ### Settings of a picture -/

/-- A signed setting of a picture. -/
def State.pvi (s : State) (p : Pic) (ch k : Nat) : Int := toSigned 8 (s.pval p.vals ch k)

/-- QpBdOffset (Table 8-1). -/
def Fmt.qpOff (f : Fmt) : Nat := 6 * (f.codedDepth - 8)

/-- Rate-control mode of a picture. -/
def State.mode (s : State) (ch : Nat) (p : Pic) : Nat := s.pval p.vals ch K.CH_RATE_MODE

/-- BOUND or LOSSLESS. -/
def State.bounded (s : State) (ch : Nat) (p : Pic) : Bool := s.mode ch p = 5 || s.mode ch p = 6

def clipInt (lo hi x : Int) : Int := max lo (min hi x)

/-- A quantiser kept within the standard's limits. -/
def Fmt.qpLimit (f : Fmt) (q : Int) : Int := clipInt (-(f.qpOff : Int)) (if f.codec = 3 then 63 else 51) q

/-- Bounds of the base quantiser: QP_MIN and QP_MAX act as the standard's limits beyond them. -/
def State.qpMin (s : State) (ch : Nat) (p : Pic) : Int := (s.fmt ch).qpLimit (s.pvi p ch K.CH_RATE_QP_MIN)
def State.qpMax (s : State) (ch : Nat) (p : Pic) : Int := (s.fmt ch).qpLimit (s.pvi p ch K.CH_RATE_QP_MAX)

/-- The share of a channel's rate that one stream of this device has: numerator and denominator (R186, R289). DEDUCED, log entry 101. -/
def State.rateShare (s : State) (ch : Nat) (f : Fmt) : Nat × Nat :=
  let p := f.pictures * f.parts
  if f.array then (s.regionSamples ch f, p * f.withChroma (f.picW * f.picH * f.pictures)) else (1, p)

/-- Bits per picture of a stream at a channel rate, with 16 fraction bits. -/
def State.perPicture (s : State) (ch : Nat) (f : Fmt) (rate : Nat) : Nat :=
  let (n, d) := s.rateShare ch f
  rdiv (rate * f.den * n * 65536) (f.num * d)

/-- The ceiling rate of the channel (Table 8-2); 0 where there is none. -/
def State.ceilingRate (s : State) (ch : Nat) (p : Pic) : Nat :=
  match s.mode ch p with
  | 2 => s.pval p.vals ch K.CH_RATE_TARGET_BITRATE
  | 1 | 4 | 5 => s.pval p.vals ch K.CH_RATE_MAX_BITRATE
  | _ => 0

/-- The bucket's size in bits of one stream, with 16 fraction bits. -/
def State.cpb (s : State) (ch : Nat) (p : Pic) : Nat :=
  let f := s.fmt ch
  let (n, d) := s.rateShare ch f
  rdiv (s.ceilingRate ch p * s.pval p.vals ch K.CH_RATE_CPB_MS * n * 65536) (1000 * d)

/-! ### Base quantiser (R186, R191, R197) -/

/-- The type offset of CQP, CQ and BOUND. -/
def State.typeOffset (s : State) (ch : Nat) (p : Pic) : Int :=
  match p.type with
  | .i => 0
  | .p => s.pvi p ch K.CH_RATE_QP_P_OFFSET
  | .b => s.pvi p ch K.CH_RATE_QP_B_OFFSET

/-- The automatic base of BOUND as QP: 4 + floor(6 × log2(E + 1)) − QpBdOffset, the standard's minimum at E = 0. -/
def autoBase (e off : Nat) : Int := if e = 0 then -(off : Int) else 4 + (Nat.log2 ((e + 1) ^ 6) : Int) - off

/-- The floor base of CQP, CQ and BOUND. -/
def State.floorBase (s : State) (ch : Nat) (p : Pic) : Int :=
  let q := s.pvi p ch K.CH_RATE_QUALITY
  let base :=
    match s.mode ch p with
    | 0 => s.pvi p ch K.CH_RATE_QP_I
    | 5 => if q = -128 then autoBase (s.pval p.vals ch K.CH_BOUND_E) (s.fmt ch).qpOff else q
    | _ => q
  base + s.typeOffset ch p

/-- The model acts: CBR, VBR, CAPPED_VBR, and CQ and BOUND under a ceiling. -/
def State.modelled (s : State) (ch : Nat) (p : Pic) : Bool :=
  match s.mode ch p with
  | 2 | 3 | 4 => true
  | 1 | 5 => s.ceilingRate ch p ≠ 0
  | _ => false

/-- What the rate controller remembers of the picture LAG before this one: bucket, bits spent and alpha; the starting values
for the first pictures. DEDUCED, log entry 100. -/
def RateStream.lagged (x : RateStream) (num lag : Nat) : Nat × Nat × (Nat × Nat × Nat) :=
  if num < lag then (0, 0, (131072, 52429, 32768))
  else match x.pics.find? (fun r => r.num + lag == num) with
    | some r => (r.fAfter, r.spentAfter, r.alphaAfter)
    | none => (x.bucket, x.spent, x.alpha)

/-- Planned sizes of the pictures since the one LAG before. -/
def RateStream.plannedSince (x : RateStream) (num lag : Nat) : List Nat :=
  (x.pics.filter (fun r => num < r.num + lag && r.num < num)).map (·.planned)

/-- Base quantiser and planned size of a picture with statistic `c` (R191). -/
def State.modelBase (s : State) (ch : Nat) (p : Pic) (x : RateStream) (c : Nat) : Int × Nat :=
  let f := s.fmt ch
  let off := f.qpOff
  let ceil := s.ceilingRate ch p
  let mode := s.mode ch p
  let tgt := if mode = 1 ∨ mode = 5 then ceil else s.pval p.vals ch K.CH_RATE_TARGET_BITRATE
  let lag := s.pval p.vals ch K.CH_RATE_LAG
  let tT := s.perPicture ch f tgt
  let cT := if ceil = 0 then 0 else s.perPicture ch f ceil
  let (f0, spent0, alpha) := x.lagged p.num lag
  let planned := x.plannedSince p.num lag
  let fill := planned.foldl (fun a b => (a - cT) + b) f0
  let spent := spent0 + planned.sum
  let share := if p.num = 0 then tT else fix48 (rdiv (tT * c * p.num) x.cSum)
  let debt : Int := ((tT * p.num : Int) - spent) / 64
  let budget : Int := share + debt
  let budget := if ceil = 0 then budget
    else min budget ((cT : Int) + ((s.cpb ch p / 2 : Nat) - (fill : Int)) / 8)
  let budget := max budget ((tT / 16 : Nat) : Int)
  let a := byType alpha p.type
  let lg := log2Fix (fix48 (rdiv (a * c * 65536) budget.toNat))
  let qp := (12 * 65536 + 6 * lg + 32768) / 65536
  let base := qp - off
  let base := if mode = 1 ∨ mode = 5 then max base (s.floorBase ch p) else base
  let base := clipInt (s.qpMin ch p) (s.qpMax ch p) base
  (base, fix48 (rdiv (a * c * qpScale base off true) 65536))

/-- The statistic c of a picture (R190, R191): 1 and the sum of ACT of its statistics frame. -/
def State.statOf (s : State) (ch q : Nat) : FrameStat :=
  match (s.chan ch).frame? q with
  | some x => match x.stat with
    | some st => st
    | none => x.statSum (s.fmt ch)
  | none => ((s.chan ch).lastStat).getD { act := 0, samples := 1 }

/-- A picture's base quantiser, and its entry in the stream's rate state. DEDUCED, log entry 103. -/
def State.planPicture (s : State) (ch : Nat) (p : Pic) : Int × RateStream :=
  let f := s.fmt ch
  let x := Store.get (s.chan ch).rate {} p.stream
  let c := 1 + (s.statOf ch p.frameSeq).act
  let (base, planned) :=
    if s.modelled ch p then s.modelBase ch p x c
    else (clipInt (s.qpMin ch p) (s.qpMax ch p) (if s.mode ch p = 6 then 0 else s.floorBase ch p), 0)
  let ceil := s.ceilingRate ch p
  let r : RatePic := {
    num := p.num, type := p.type, base := base, c := c, planned := planned, off := f.qpOff
    ceiled := ceil ≠ 0, drain := if ceil = 0 then 0 else s.perPicture ch f ceil }
  (base, { x with
    pics := x.pics ++ [r], cSum := x.cSum + c, started := x.started + 1
    sinceIrap := if p.irap then 1 else x.sinceIrap + 1 })

/-- The sizes that a picture needs are known: those of pictures up to k − LAG of its stream (R192). -/
def RateStream.sizesKnown (x : RateStream) (num lag : Nat) : Bool :=
  x.pics.all (fun r => num < r.num + lag || r.num < x.bucketAt)

/-! ### Quantiser of a CTU (R188, R189, R207) -/

/-- P0 blocks that a CTU covers, on this device's own P0. -/
def State.ctuBlocks (s : State) (ch : Nat) (f : Fmt) (c : Nat) : List (Nat × Nat) :=
  let x0 := f.ctuCol c * f.ctu
  let y0 := f.ctuRow c * f.ctu
  let cx := s.cellCol0 ch f
  let cy := s.cellRow0 ch f
  (List.range (f.ctu / 16)).flatMap (fun j => (List.range (f.ctu / 16)).filterMap (fun i =>
    let x := x0 + 16 * i
    let y := y0 + 16 * j
    if cx ≤ x ∧ cy ≤ y ∧ x - cx < f.p0W ∧ y - cy < f.p0H then some ((x - cx) / 16, (y - cy) / 16) else none))

/-- (act / samples + 1) with 16 fraction bits. -/
def actMean (act samples : Nat) : Nat := rdiv (act * 65536) samples + 65536

/-- The adaptive offset of a CTU, from −6 to 6 (R189). -/
def State.aqOf (s : State) (ch : Nat) (p : Pic) (c : Nat) : Int :=
  let f := s.fmt ch
  match (s.chan ch).frame? p.frameSeq with
  | none => 0
  | some x =>
    let bl := s.ctuBlocks ch f c
    if bl.isEmpty then 0
    else
      let act := (bl.map (fun b => statAct (Store.get x.records 0 (f.statKey b)))).sum
      let n := (bl.map (fun b => min 16 (f.p0W - 16 * b.1) * min 16 (f.p0H - 16 * b.2))).sum
      let st := s.statOf ch p.frameSeq
      let lg := log2Fix (rdiv (actMean act n * 65536) (actMean st.act st.samples))
      let w : Int := s.pval p.vals ch K.CH_RATE_AQ_STRENGTH
      clipInt (-6) 6 ((w * 3 * lg + 2 ^ 31) / 2 ^ 32)

/-- The offset of the ROI map: DELTA of the lowest-numbered rectangle that contains the CTU (R207). -/
def Pic.roiOf (p : Pic) (f : Fmt) (c : Nat) : Int :=
  let x := f.ctuCol c
  let y := f.ctuRow c
  match p.roi.find? (fun r => r.1 ≤ x && x ≤ r.2.2.1 && r.2.1 ≤ y && y ≤ r.2.2.2.1) with
  | some r => r.2.2.2.2
  | none => 0

/-- The quantiser of a CTU (R188); in LOSSLESS the ROI map has no effect (R209). -/
def State.quantiser (s : State) (ch : Nat) (p : Pic) (c : Nat) : Int :=
  let aq := if s.mode ch p = 0 then 0 else s.aqOf ch p c
  let roi := if s.mode ch p = 6 then 0 else p.roiOf (s.fmt ch) c
  clipInt (s.qpMin ch p) (s.qpMax ch p) (p.base + aq + roi)

end Sys2Proof.Machine
end

