-- ==== Sys2Proof/Machine/Motion.lean ====
section
/-! DEFINITION. The coarse-to-fine motion search of one CTU row for one reference: windows, candidates, costs and clips
(R142 to R147, R152, R157), over the pyramid of the device's own cell and, in an array, the halos of the reference (R289). -/

namespace Sys2Proof.Machine

/-! ### Table 6-2 -/

/-- Top level of the search: P5 in the archive preset, P3 in the standard one. -/
def searchTop (archive : Bool) : Nat := if archive then 5 else 3

/-- Window of a level, horizontal and vertical. -/
def searchWindow (archive : Bool) (k : Nat) : Nat × Nat :=
  if archive then
    (if k = 5 then (24, 12) else if 2 ≤ k then (4, 4) else (2, 2))
  else if k = 3 then (32, 16) else (2, 2)

/-- Candidates kept per block: C. -/
def keptCands (archive : Bool) : Nat := if archive then 4 else 2

/-! ### λ and λmv (R152) -/

/-- w in hundredths: 0.57 intra, 0.68 inter and used as a reference, 0.85 other inter. -/
def Pic.lambdaWeight (p : Pic) : Nat := if p.type = .i then 57 else if p.isRef then 68 else 85

/-- λ = w × LAMBDA_SCALE × 2^((QP' − 12) / 3) with 16 fraction bits, to nearest: half of twice the value, which is the cube
root of 8 × its cube. -/
def lambdaFix (w scale : Nat) (qp : Int) : Nat :=
  let x := 8 * (w * scale) ^ 3
  let e := qp - 12
  (rootOf 3 (if 0 ≤ e then x * 2 ^ e.toNat / 1000000 else x / (1000000 * 2 ^ (-e).toNat)) + 1) / 2

/-- λmv, the square root of λ, with 16 fraction bits, to nearest. UNVERIFIED, log entry 205. -/
def lambdaMv (lambda : Nat) : Nat := (rootOf 2 (4 * lambda * 65536) + 1) / 2

/-! ### Candidates (R143, R144) -/

/-- Length of a signed Exp-Golomb code. -/
def seBits (d : Int) : Nat := 2 * Nat.log2 ((if 0 < d then 2 * d - 1 else -2 * d).toNat + 1) + 1

/-- bits(v − p) of vectors in samples of P0: each component in quarter samples. -/
def vecBits (v p : Int × Int) : Nat := seBits (4 * (v.1 - p.1)) + seBits (4 * (v.2 - p.2))

/-- The median of three. -/
def median3 (a b c : Int) : Int := max (min a b) (min (max a b) c)

/-- The order of R144: cost, |vx| + |vy|, vy, vx. -/
def Cand.before (a b : Cand) : Bool :=
  decide (a.cost < b.cost) || (a.cost == b.cost &&
    (let m := a.x.natAbs + a.y.natAbs
     let n := b.x.natAbs + b.y.natAbs
     decide (m < n) || (m == n && (decide (a.y < b.y) || (a.y == b.y && decide (a.x < b.x))))))

/-- A candidate put into a list in that order. -/
def putCand (c : Cand) : List Cand → List Cand
  | [] => [c]
  | d :: r => if c.before d then c :: d :: r else d :: putCand c r

/-- The best `n` candidates, best first. -/
def bestCands (n : Nat) (l : List Cand) : List Cand := (l.foldl (fun m c => putCand c m) []).take n

/-- The window around a vector, row by row. -/
def windowAround (w : Nat × Nat) (v : Int × Int) : List (Int × Int) :=
  (List.range (2 * w.2 + 1)).flatMap (fun j => (List.range (2 * w.1 + 1)).map (fun i =>
    (v.1 + i - w.1, v.2 + j - w.2)))

/-! ### Clips (R145) -/

/-- Range of the vectors of a block, in quarter samples of P0. -/
structure VecRange where
  loX : Int
  hiX : Int
  loY : Int
  hiY : Int
  /-- A horizontal component below the first, or above the second, puts the block over a side of the own cell; the vertical
  range there, where a cell at a corner is closed (R159). -/
  sides : Int × Int := (0, 0)
  west : Option (Int × Int) := none
  east : Option (Int × Int) := none
  deriving DecidableEq, Repr

/-- The part of two ranges that both hold, with the corners of the second. -/
def VecRange.meet (a b : VecRange) : VecRange :=
  { b with loX := max a.loX b.loX, hiX := min a.hiX b.hiX, loY := max a.loY b.loY, hiY := min a.hiY b.hiY }

/-- A component counted in units of so many quarter samples clipped to a range: to the outermost value whose multiple lies
in it. -/
def clipAt (unit : Nat) (lo hi x : Int) : Int := clipInt (-((-lo) / unit)) (hi / unit) x

/-- Each component clipped by itself. -/
def VecRange.clip (r : VecRange) (unit : Nat) (v : Int × Int) : Int × Int :=
  let x := clipAt unit r.loX r.hiX v.1
  let corner := if x * unit < r.sides.1 then r.west else if r.sides.2 < x * unit then r.east else none
  let y := corner.getD (r.loY, r.hiY)
  (x, clipAt unit (max r.loY y.1) (min r.hiY y.2) v.2)

/-- Quarter samples of P0 in a sample of level k. -/
def levelUnit (k : Nat) : Nat := 4 * 2 ^ k

/-- Candidates clipped, without duplicates, and how many of them the clip changed (R145). -/
def VecRange.clipAll (r : VecRange) (unit : Nat) (l : List (Int × Int)) : List (Int × Int) × Nat :=
  ((l.map (r.clip unit)).eraseDups, (l.filter (fun v => r.clip unit v ≠ v)).length)

/-! ### The search of one row in one reference -/

/-- What a search of one reference looks at: the preset, the size of P0, the samples of the source block's plane and of the
reference at each level, the clips and λmv of each block, and the co-located candidates. -/
structure SearchView where
  archive : Bool
  w : Nat
  h : Nat
  src : Nat → Nat → Nat → Nat
  ref : Nat → Int → Int → Nat
  range : Nat → Nat → Nat → VecRange
  lambda : Nat → Nat → Nat → Nat
  colocated : Nat → Nat → Nat → Option (Int × Int)

/-- Key of a block in the table of a level. -/
def blockKey (bx by_ : Nat) : Nat := by_ * 65536 + bx

/-- Sum of absolute differences of a block of level k at a vector; an edge block covers the samples present. DEDUCED, log
entry 208. -/
def SearchView.sad (e : SearchView) (k bx by_ : Nat) (v : Int × Int) : Nat :=
  ((List.range (min 16 (levelSize e.h k - 16 * by_))).map (fun j =>
    ((List.range (min 16 (levelSize e.w k - 16 * bx))).map (fun i =>
      let x := 16 * bx + i
      let y := 16 * by_ + j
      absDiff (e.src k x y) (e.ref k (x + v.1) (y + v.2)))).sum)).sum

/-- The best vector of a block of a level, scaled to P0; zero where the row has no such block. -/
def predictorOf (m : Store (List Cand)) (k bx by_ : Nat) : Int × Int :=
  match (Store.get m [] (blockKey bx by_)).head? with
  | some c => (c.x * 2 ^ k, c.y * 2 ^ k)
  | none => (0, 0)

/-- p of R144: the median of the left, above and above-right predictors. -/
def SearchView.predictor (m : Store (List Cand)) (k bx by_ : Nat) : Int × Int :=
  if 0 < k && !Config.coarsePredictors then (0, 0)
  else
    let l := if bx = 0 then (0, 0) else predictorOf m k (bx - 1) by_
    let a := if by_ = 0 then (0, 0) else predictorOf m k bx (by_ - 1)
    let r := if by_ = 0 then (0, 0) else predictorOf m k (bx + 1) (by_ - 1)
    (median3 l.1 a.1 r.1, median3 l.2 a.2 r.2)

/-- The vectors that windows are laid around below the top: those of R143, before the clip. `m` holds the blocks of the level
done so far and `up` the level above. -/
def SearchView.centres (e : SearchView) (m up : Store (List Cand)) (k bx by_ : Nat) : List (Int × Int) :=
  let best := fun (l : List Cand) => (l.head?.map (fun c => (c.x, c.y))).toList
  let parent := (Store.get up [] (blockKey (bx / 2) (by_ / 2))).map (fun c => (2 * c.x, 2 * c.y))
  let left := if bx = 0 then [] else best (Store.get m [] (blockKey (bx - 1) by_))
  let above := if by_ = 0 then [] else best (Store.get m [] (blockKey bx (by_ - 1)))
  parent ++ left ++ above ++ [(0, 0)] ++ (e.colocated k bx by_).toList

/-- The vectors that windows are laid around, and how many clips changed one: only (0, 0) at the top. -/
def SearchView.around (e : SearchView) (m up : Store (List Cand)) (k bx by_ : Nat) : List (Int × Int) × Nat :=
  if k = searchTop e.archive then ([(0, 0)], 0)
  else (e.range k bx by_).clipAll (levelUnit k) (e.centres m up k bx by_)

/-- Every vector tried for a block, and how many clips changed a candidate: the union of the windows, each member counted
once. DEDUCED, log entry 210. -/
def SearchView.tried (e : SearchView) (m up : Store (List Cand)) (k bx by_ : Nat) : List (Int × Int) × Nat :=
  let around := e.around m up k bx by_
  let all := (around.1.flatMap (windowAround (searchWindow e.archive k))).eraseDups
  let clipped := (e.range k bx by_).clipAll (levelUnit k) all
  (clipped.1, around.2 + clipped.2)

/-- A vector with its cost: SAD + λmv × bits(v − p). -/
def SearchView.cand (e : SearchView) (m : Store (List Cand)) (k bx by_ : Nat) (v : Int × Int) : Cand :=
  { x := v.1, y := v.2
    cost := e.sad k bx by_ v * 65536 +
      e.lambda k bx by_ * vecBits (v.1 * 2 ^ k, v.2 * 2 ^ k) (SearchView.predictor m k bx by_) }

/-- best(b) of R144, and the clips of the block. -/
def SearchView.block (e : SearchView) (m up : Store (List Cand)) (k bx by_ : Nat) : List Cand × Nat :=
  let tried := e.tried m up k bx by_
  (bestCands (keptCands e.archive) (tried.1.map (e.cand m k bx by_)), tried.2)

/-- Blocks of a level that cover rows a to b − 1 of P0, in raster order. -/
def SearchView.blocks (e : SearchView) (k a b : Nat) : List (Nat × Nat) :=
  let n := 16 * 2 ^ k
  ((List.range (ceilDiv (levelSize e.h k) 16)).filter (fun y => a < b && y * n < b && a < (y + 1) * n)).flatMap (fun y =>
    (List.range (ceilDiv (levelSize e.w k) 16)).map (fun x => (x, y)))

/-- One level of the search, and its clips. -/
def SearchView.level (e : SearchView) (up : Store (List Cand)) (k a b : Nat) : Store (List Cand) × Nat :=
  (e.blocks k a b).foldl (fun m p =>
    let best := e.block m.1 up k p.1 p.2
    (Store.put m.1 (blockKey p.1 p.2) best.1, m.2 + best.2)) ([], 0)

/-- The levels from the top down to the one `n` below it, and the clips of them all. -/
def SearchView.down (e : SearchView) (a b : Nat) : Nat → Store (List Cand) × Nat
  | 0 => e.level [] (searchTop e.archive) a b
  | n + 1 =>
    let up := e.down a b n
    let lvl := e.level up.1 (searchTop e.archive - (n + 1)) a b
    (lvl.1, up.2 + lvl.2)

/-- The motion field of rows a to b − 1, best(b) of every P0 block, and the candidates clipped. -/
def SearchView.field (e : SearchView) (a b : Nat) : Store (List Cand) × Nat := e.down a b (searchTop e.archive)

/-! ### What a grant's search looks at -/

/-- P0 of a frame, row by row. -/
def State.p0Rows (s : State) (ch q : Nat) : List (List Nat) :=
  let f := s.fmt ch
  match (s.chan ch).frame? q with
  | some x => (List.range f.p0H).map (fun j => (List.range f.p0W).map (fun i => x.p0 f (s.rawLut ch x) i j))
  | none => []

/-- P0 of a reference picture: with its frame buffer once the picture is complete, and until then its frame's. -/
def State.refP0 (s : State) (ch : Nat) (ref : Nat) : List (List Nat) :=
  let kept := match (s.fbOfPic ch ref).bind s.fb? with
    | some b => b.p0
    | none => []
  if kept.isEmpty then
    match (s.chan ch).pics.find? (·.count == ref) with
    | some p => s.p0Rows ch p.frameSeq
    | none => []
  else kept

/-- A sample of a halo (Table 12-2). -/
def HaloPart.sample (p : HaloPart) (bps x y : Nat) : Nat := leNat ((p.data.drop (((y - p.y) * p.w + (x - p.x)) * bps)).take bps)

def HaloPart.has (p : HaloPart) (plane x y : Nat) : Bool :=
  p.plane == plane && decide (p.x ≤ x ∧ x < p.x + p.w ∧ p.y ≤ y ∧ y < p.y + p.h)

/-- A sample of level k of a reference at a place of the picture, on the level's grid: replicated beyond the picture's edge,
from the own cell or from a halo, and replicated from the own cell where no halo is held (R145, R157, R159). -/
def refSample (f : Fmt) (p0 : Nat → Nat → Nat) (halo : List HaloPart) (cx cy k : Nat) (x y : Int) : Nat :=
  let px := (clipInt 0 (levelSize f.partW k - 1 : Nat) x).toNat
  let py := (clipInt 0 (levelSize f.partH k - 1 : Nat) y).toNat
  let ox := cx / 2 ^ k
  let oy := cy / 2 ^ k
  let w := levelSize f.p0W k
  let h := levelSize f.p0H k
  let inside := ox ≤ px && px < ox + w && oy ≤ py && py < oy + h
  match halo.find? (fun p => !inside && p.has ((k + 1) * 16) px py) with
  | some p => p.sample f.haloBps px py
  | none => pyramid p0 f.p0W f.p0H k (min (px - ox) (w - 1)) (min (py - oy) (h - 1))

/-- How far beyond a side of the own cell a reference block may reach: 64 samples of padding at the picture's edge and at a
closed halo, and HALO_WIDTH towards another device (R145, R157, R159). -/
def State.sideReach (s : State) (ch : Nat) (f : Fmt) (launch hw : Nat) (side : Option Nat) : Nat :=
  match side with
  | none => 64
  | some cell => if s.haloClosed ch f cell launch then 64 else hw

/-- The cell beside the own one in a direction. -/
def State.cellBeside (s : State) (ch : Nat) (f : Fmt) (dc dr : Int) : Option Nat :=
  if f.array then
    (s.ownCell ch f).bind (fun k =>
      let c : Int := (k % f.cellCols : Nat) + dc
      let r : Int := (k / f.cellCols : Nat) + dr
      if 0 ≤ c ∧ c < f.cellCols ∧ 0 ≤ r ∧ r < f.cellRows then some (r.toNat * f.cellCols + c.toNat) else none)
  else none

/-- The standard's vector limits at a level: in H.264 above level 3.0 the vertical one is from −512 to 511.75 (R145). -/
def Fmt.vectorRange (f : Fmt) (level : Nat) : VecRange :=
  let l := Config.vectorLimits f.codec level
  let v := if f.codec = 1 ∧ 30 < level then (-2048, 2047) else l.2
  { loX := l.1.1, hiX := l.1.2, loY := v.1, hiY := v.2 }

/-- R145 for a rectangle of a part, against an own area in it: reach, level, and the reference area. -/
def State.rectRange (s : State) (ch : Nat) (p : Pic) (launch : Nat) (own r : Block) : VecRange :=
  let f := s.fmt ch
  let archive := s.pval p.vals ch K.CH_SEARCH_PRESET = 1
  let hw := s.pval p.vals ch K.CH_SEARCH_HALO_WIDTH
  let side := fun dc dr => (s.sideReach ch f launch hw (s.cellBeside ch f dc dr) : Int)
  let (before, after) := Config.interpSupport f.codec
  let ends := (own.y + own.h : Int) - after - (r.y + r.h)
  let lo := fun (n : Int) => 4 * (own.y - n + before - r.y)
  let hi := fun (n : Int) => 4 * (ends + n)
  let west : Int := own.x + before - r.x
  let east : Int := (own.x + own.w : Int) - after - (r.x + r.w)
  let shut := fun dc dr => (s.cellBeside ch f dc dr).any (fun k => s.haloClosed ch f k launch)
  let corner := fun (dc : Int) => if shut dc (-1) || shut dc 1 then
      some (if shut dc (-1) then lo 64 else lo (side 0 (-1)), if shut dc 1 then hi 64 else hi (side 0 1)) else none
  let area : VecRange :=
    { loX := 4 * (west - side (-1) 0), hiX := 4 * (east + side 1 0), loY := lo (side 0 (-1)), hiY := hi (side 0 1)
      sides := (4 * west, 4 * east), west := corner (-1), east := corner 1 }
  let reach : VecRange :=
    { loX := -4 * (reachH archive : Int), hiX := 4 * reachH archive
      loY := -4 * (reachV archive : Int), hiY := 4 * reachV archive }
  (reach.meet (f.vectorRange (f.levelOf (s.cv ch K.CH_CODEC_LEVEL)))).meet area

/-- The own cell of a part. -/
def State.ownCellBlock (s : State) (ch : Nat) (f : Fmt) : Block :=
  { x := s.cellCol0 ch f, y := s.cellRow0 ch f, w := f.p0W, h := f.p0H }

/-- R145 for a block of level k of the own cell. -/
def State.vecRange (s : State) (ch : Nat) (p : Pic) (launch k bx by_ : Nat) : VecRange :=
  let own := s.ownCellBlock ch (s.fmt ch)
  let n := 16 * 2 ^ k
  s.rectRange ch p launch own
    { x := own.x + n * bx, y := own.y + n * by_, w := min n (own.w - n * bx), h := min n (own.h - n * by_) }

/-- CTUs that a block of level k of the own cell meets, in every part. -/
def State.blockCtus (s : State) (ch : Nat) (f : Fmt) (k bx by_ : Nat) : List Nat :=
  let x0 := s.cellCol0 ch f + 16 * 2 ^ k * bx
  let y0 := s.cellRow0 ch f + 16 * 2 ^ k * by_
  (List.range f.ctus).filter (fun c =>
    let cx := f.ctuCol c * f.ctu
    let cy := f.ctuRow c * f.ctu
    decide (cx < x0 + 16 * 2 ^ k ∧ x0 < cx + f.ctu ∧ cy < y0 + 16 * 2 ^ k ∧ y0 < cy + f.ctu))

/-- λmv of a block (R144, R152). -/
def State.searchLambda (s : State) (ch : Nat) (p : Pic) (k bx by_ : Nat) : Nat :=
  let f := s.fmt ch
  let qps := (s.blockCtus ch f k bx by_).map (fun c => s.quantiser ch p c + f.qpOff)
  lambdaMv (lambdaFix p.lambdaWeight (s.pval p.vals ch K.CH_SEARCH_LAMBDA_SCALE) (Config.searchQp qps))

/-- A quotient rounded half away from zero. -/
def divAway (n d : Int) : Int :=
  let q : Int := (2 * n.natAbs + d.natAbs) / (2 * d.natAbs)
  if decide (0 ≤ n) = decide (0 ≤ d) then q else -q

/-- The co-located candidate of R143 for a block of level k: the vector that the reference chose for its own first reference,
by the ratio of the distances in picture order. DEDUCED, log entry 209. -/
def FrameBuf.colocated (b : FrameBuf) (order k bx by_ : Nat) : Option (Int × Int) :=
  let at_ := if k = 0 then (bx, by_) else Config.colocatedBlock k bx by_
  match b.firstRef, (Store.get b.field [] (blockKey at_.1 at_.2)).head? with
  | some first, some c =>
    let n : Int := (order : Int) - b.order
    let d : Int := (b.order : Int) - first
    let v := (divAway (c.x * n) d, divAway (c.y * n) d)
    some (if k = 0 then v else (Config.colocatedAt k v.1, Config.colocatedAt k v.2))
  | _, _ => none

/-- The halo samples of a reference that may be used: none from a device that coded it and has been declared dead since
(R159). -/
def State.openHalo (s : State) (b : FrameBuf) : List HaloPart :=
  b.halo.filter (fun p => !s.array.closedHalo.any (fun e => e.1 == p.owner && decide (b.launch < e.2)))

/-- What the search of a picture in one of its references looks at. -/
def State.searchView (s : State) (ch : Nat) (p : Pic) (ref : Nat) : SearchView :=
  let f := s.fmt ch
  let cx := s.cellCol0 ch f
  let cy := s.cellRow0 ch f
  let fb := (s.fbOfPic ch ref).bind s.fb?
  let own := s.p0Rows ch p.frameSeq
  let its := s.refP0 ch ref
  let at_ := fun (m : List (List Nat)) (i j : Nat) => (m.getD j []).getD i 0
  { archive := s.pval p.vals ch K.CH_SEARCH_PRESET = 1
    w := f.p0W, h := f.p0H
    src := fun k i j => pyramid (at_ own) f.p0W f.p0H k i j
    ref := fun k x y => refSample f (at_ its) ((fb.map s.openHalo).getD []) cx cy k
      (x + (cx / 2 ^ k : Nat)) (y + (cy / 2 ^ k : Nat))
    range := s.vecRange ch p ((fb.map (·.launch)).getD 0)
    lambda := s.searchLambda ch p
    colocated := fun k bx by_ =>
      if s.pval p.vals ch K.CH_SEARCH_COLOCATED_EN = 1 then fb.bind (fun b => b.colocated p.frameSeq k bx by_) else none }

/-- Rows of the own cell's P0 that a CTU row covers: the first, and the one after the last. -/
def State.ownRows (s : State) (ch : Nat) (f : Fmt) (row : Nat) : Nat × Nat :=
  let y0 := s.cellRow0 ch f
  (row * f.ctu - y0, min f.p0H ((row + 1) * f.ctu - y0))

/-- The motion field of a CTU row of a picture in its reference number `i`, by block, and the candidates clipped. -/
def State.searchRow (s : State) (ch : Nat) (p : Pic) (row i : Nat) : Store (List Cand) × Nat :=
  match p.refs[i]? with
  | some ref =>
    let r := s.ownRows ch (s.fmt ch) row
    (s.searchView ch p ref).field r.1 r.2
  | none => ([], 0)

/-- The row's field is written beside the frame, with the place in picture order of the first reference (R142, R143), and its
clips are counted (R145). -/
def State.writeField (s : State) (ch : Nat) (p : Pic) (row i : Nat) : State :=
  let (new, clips) := s.searchRow ch p row i
  let first := ((p.refs.head?.bind (s.fbOfPic ch)).bind s.fb?).map (·.order)
  (s.cbump ch K.CH_SEARCH_STATUS_CLIPPED clips).modFb p.fb (fun b => { b with
    field := new.foldl (fun m e => Store.put m (i * 2 ^ 32 + e.1) e.2) b.field, firstRef := first })

end Sys2Proof.Machine
end

