-- ==== Sys2Proof/Machine/Decide.lean ====
section
/-! DEFINITION. The mode decision of a pixel core: refinement of vectors (R148), the intra and inter modes of Tables 6-3 and
6-4 (R149, R150), partitions (R151, Table 6-5), and the cost J = D + λ × R with its estimate of R (R152, R154). What the
coding standards hold stands in Config. -/

namespace Sys2Proof.Machine

/-! ### What a decision looks at -/

/-- What the pixel core looks at when it codes a CTU at one quantiser. -/
structure PixelView where
  tools : Tools
  /-- Luma size of the part. -/
  w : Nat
  h : Nat
  /-- Number of the picture's type, and whether the archive preset's limits and tools are in use. -/
  type : PicType
  archive : Bool
  /-- Partition limits of the archive preset; split early termination; intra survivors; integer refinement window. -/
  deep : Bool
  earlyTerm : Bool
  survivors : Nat
  window : Nat
  /-- λ and λmv with 16 fraction bits, QP, QP' of luma, and whether the lossless tools are used. -/
  lambda : Nat
  lambdaMv : Nat
  qp : Int
  qpPrime : Int
  lossless : Bool
  /-- The source, and the reconstruction outside the CTU that prediction may use, by component. -/
  src : Nat → Nat → Nat → Nat
  near : Nat → Int → Int → Option Nat
  /-- Units of the slice coded before the CTU. -/
  before : List CodedUnit
  /-- References: how many are searched, samples by number and component, units, and distances in picture order. -/
  searched : Nat
  refs : Nat → Nat → Int → Int → Nat
  refUnits : List (List CodedUnit)
  distances : List Int
  /-- Candidates of the search of a reference for a P0 block, in whole samples, and the range of R145 of a rectangle. -/
  cands : Nat → Nat → Nat → List (Int × Int)
  /-- Place of P0 in the part. -/
  cell : Nat × Nat
  range : Nat → Block → VecRange

/-- A CTU in work: its units and reconstruction so far, the contexts, the cost J of what has been coded with 16 fraction
bits, candidates clipped, and the transform blocks of the unit in work. -/
structure CtuState where
  units : List CodedUnit := []
  patches : List Patch := []
  tus : List TuCode := []
  ctx : Contexts
  j : Nat := 0
  clips : Nat := 0
  deriving DecidableEq, Repr

/-- A sample of a patch list, the latest patch first. -/
def patchAt (l : List Patch) (comp : Nat) (x y : Int) : Option Nat :=
  (l.find? (fun p => p.comp == comp && decide (p.block.x ≤ x ∧ x < p.block.x + p.block.w ∧ p.block.y ≤ y ∧
    y < p.block.y + p.block.h))).map (fun p => (p.rows.getD (y - p.block.y).toNat []).getD (x - p.block.x).toNat 0)

/-- Reconstruction that prediction may use: of this CTU, or near it. -/
def PixelView.recon (v : PixelView) (w : CtuState) (comp : Nat) (x y : Int) : Option Nat :=
  (patchAt w.patches comp x y).orElse (fun _ => v.near comp x y)

/-- The source of a block, row by row; beyond the picture its last column and row again. DEDUCED, log entry 238. -/
def PixelView.source (v : PixelView) (comp : Nat) (b : Block) : List (List Nat) :=
  (List.range b.h).map (fun j => (List.range b.w).map (fun i => v.src comp (b.x + i) (b.y + j)))

/-! ### Blocks -/

/-- Horizontal and vertical division of chroma. -/
def chromaScale (chroma : Nat) : Nat × Nat := match chroma with
  | 1 => (2, 2)
  | 2 => (2, 1)
  | _ => (1, 1)

/-- A luma rectangle on the grid of a component. -/
def Block.on (b : Block) (chroma comp : Nat) : Block :=
  if comp = 0 then b
  else
    let d := chromaScale chroma
    { x := b.x / d.1, y := b.y / d.2, w := b.w / d.1, h := b.h / d.2 }

/-- A rectangle divided at given offsets, in columns or in rows. -/
def Block.cut (b : Block) (vertical : Bool) (sizes : List Nat) : List Block :=
  (sizes.foldl (fun (m : List Block × Nat) n =>
    (m.1 ++ [if vertical then { b with x := b.x + m.2, w := n } else { b with y := b.y + m.2, h := n }], m.2 + n)) ([], 0)).1

/-- The four quarters, in coding order. -/
def Block.quarters (b : Block) : List Block :=
  (b.cut false [b.h / 2, b.h / 2]).flatMap (fun r => r.cut true [b.w / 2, b.w / 2])

/-- A rectangle in squares of a side, in raster order. -/
def Block.grid (b : Block) (n : Nat) : List Block :=
  (List.range (b.h / n)).flatMap (fun j => (List.range (b.w / n)).map (fun i =>
    { x := b.x + n * i, y := b.y + n * j, w := n, h := n }))

/-! ### Costs (R148, R152, R154) -/

/-- One butterfly stage of a Hadamard transform over pairs of rows or samples. -/
def butterfly (l : List Int) : Nat → List Int
  | 0 => l
  | n + 1 =>
    let h := l.length / 2
    let a := l.take h
    let b := l.drop h
    butterfly (List.zipWith (· + ·) a b) n ++ butterfly (List.zipWith (· - ·) a b) n

/-- Sum of absolute Hadamard coefficients of a square block of 2^n rows. -/
def hadamardSum (n : Nat) (rows : List (List Int)) : Nat :=
  let across := rows.map (fun r => butterfly r n)
  let cols := (List.range (2 ^ n)).map (fun i => across.map (fun r => r.getD i 0))
  ((cols.map (fun c => butterfly c n)).flatten.map Int.natAbs).sum

/-- Difference of two blocks. -/
def rowsDiff (a b : List (List Nat)) : List (List Int) :=
  List.zipWith (fun r q => List.zipWith (fun (x y : Nat) => (x : Int) - y) r q) a b

/-- SATD on 8 × 8 Hadamard blocks, 4 × 4 where the unit is narrower (R148). -/
def satd (a b : List (List Nat)) : Nat :=
  let d := rowsDiff a b
  let w := (d.headD []).length
  let n := if w < 8 || d.length < 8 then 2 else 3
  let s := 2 ^ n
  ((List.range (d.length / s)).flatMap (fun j => (List.range (w / s)).map (fun i =>
    Config.satdScale s (hadamardSum n (((d.drop (s * j)).take s).map (fun r => (r.drop (s * i)).take s)))))).sum

/-- State of a context. -/
def ctxAt (m : Contexts) (i : Nat) : Nat := ((m.find? (·.1 == i)).map Prod.snd).getD 0

/-- Bits of a run of bins with 16 fraction bits, from the cost tables, and the contexts after it (R154). A bypass bin is one
bit. -/
def spend (codec : Nat) (ctx : Contexts) (bins : List Bin) : Nat × Contexts :=
  bins.foldl (fun m b => match b.ctx with
    | none => (m.1 + 65536, m.2)
    | some i =>
      let st := ctxAt m.2 i
      (m.1 + Config.bitCost st b.bin, Store.put m.2 i (Config.ctxNext codec st b.bin))) (0, ctx)

/-- Bins are coded: λ × R enters J. -/
def PixelView.spend (v : PixelView) (w : CtuState) (bins : List Bin) : CtuState :=
  let r := Sys2Proof.Machine.spend v.tools.codec w.ctx bins
  { w with ctx := r.2, j := w.j + (v.lambda * r.1 + 32768) / 65536 }

/-- QP' of chroma: with the identity mapping and offsets 0 that of luma (Table 8-3). -/
def Tools.chromaQp (t : Tools) (comp : Nat) (qp : Int) : Int := if t.chromaQpIdentity then qp else Config.chromaQp t comp qp

/-- 2^((QP'Y − QP'C) / 3) with 16 fraction bits, to nearest. -/
def chromaWeight (d : Int) : Nat :=
  (rootOf 3 (if 0 ≤ d then 2 ^ (51 + d.toNat) else 2 ^ 51 / 2 ^ (-d).toNat) + 1) / 2

/-- Squared error of a block over the samples within the picture, weighted for chroma, with 16 fraction bits. -/
def PixelView.distortion (v : PixelView) (comp : Nat) (b : Block) (rows : List (List Nat)) : Nat :=
  let d := if comp = 0 then (1, 1) else chromaScale v.tools.chroma
  let weight := if comp = 0 then 65536 else chromaWeight (v.qpPrime - v.tools.chromaQp comp v.qpPrime)
  let inside := fun i j => decide ((b.x + i) * d.1 < v.w ∧ (b.y + j) * d.2 < v.h)
  weight * ((List.range b.h).flatMap (fun j => (List.range b.w).map (fun i =>
    if inside i j then (absDiff ((rows.getD j []).getD i 0) (v.src comp (b.x + i) (b.y + j))) ^ 2 else 0))).sum

/-- Of several ways to code, all from one state, the one of least J; the earlier of equals (R152). Clips of every way count. -/
def choose (w : CtuState) (ways : List (CtuState → Option CtuState)) : Option CtuState :=
  let done := ways.filterMap (fun f => f { w with clips := 0 })
  let clips := (done.map (·.clips)).sum
  (done.foldl (fun (m : Option CtuState) x => match m with
    | none => some x
    | some y => if x.j < y.j then some x else some y) none).map (fun x => { x with clips := w.clips + clips })

/-! ### Residuals -/

/-- A prediction of a block of a component. -/
abbrev Prediction := CtuState → Nat → Block → List (List Nat)

/-- Samples from a prediction and a residual, within the sample range. -/
def addRows (depth : Nat) (p : List (List Nat)) (r : List (List Int)) : List (List Nat) :=
  List.zipWith (fun a b => List.zipWith (fun (x : Nat) y => (clipInt 0 (2 ^ depth - 1 : Nat) (x + y)).toNat) a b) p r

/-- One transform block is coded from a prediction. With the lossless tools the levels are the residual itself and the
reconstruction is the source (R198, Table 8-3). -/
def PixelView.codeTu (v : PixelView) (comp : Nat) (b : Block) (pred : Prediction) (tr : Transform) (w : CtuState) : CtuState :=
  let p := pred w comp b
  let src := v.source comp b
  let res := rowsDiff src p
  let qp := if comp = 0 then v.qpPrime else v.tools.chromaQp comp v.qpPrime
  let levels := if v.lossless then res.flatten else Config.quantise v.tools tr qp v.lambda res
  let rec_ := if v.lossless then src else addRows v.tools.depth p (Config.dequantise v.tools tr qp b.w b.h levels)
  let tu : TuCode := { comp := comp, block := b, transform := tr, levels := levels }
  v.spend { w with
    patches := { comp := comp, block := b, rows := rec_ } :: w.patches, tus := w.tus ++ [tu]
    j := w.j + v.distortion comp b rec_ } (Config.tuBins v.tools tu)

/-- Transforms tried on a block (Tables 7-3 and 8-3). -/
def PixelView.transformsOf (v : PixelView) (tool : CodeTool) (comp : Nat) (b : Block) : List Transform :=
  if v.lossless then
    (if v.tools.codec = 2 then [.bypass] else [.skip, .bdpcm false, .bdpcm true])
  else
    (Config.transforms v.tools tool comp b.w b.h).map .ordinary ++
      (if v.tools.transformSkip && (v.tools.codec ≠ 2 || (b.w = 4 && b.h = 4)) && b.w ≤ 32 && b.h ≤ 32 then [.skip] else []) ++
      (if v.tools.transformSkip && v.tools.codec = 3 && tool.intra && b.w ≤ 32 && b.h ≤ 32 then [.bdpcm false, .bdpcm true]
        else [])

/-- Largest transform block of a standard on luma; smaller with the lossless tools of H.266. -/
def PixelView.maxTu (v : PixelView) : Nat :=
  if v.tools.codec = 1 then 8 else if v.tools.codec = 2 then 32 else if v.lossless then 32 else 64

/-- The residual of a block of a component: one transform block, or its quarters within the depth of the tree. A block above
the largest transform is divided. -/
def PixelView.codeTree (v : PixelView) (tool : CodeTool) (comp : Nat) (pred : Prediction) :
    Nat → Nat → Block → CtuState → Option CtuState
  | 0, _, _, w => some w
  | n + 1, depth, b, w =>
    let four := fun (w : CtuState) => (b.quarters).foldl (fun (m : Option CtuState) q =>
      m.bind (v.codeTree tool comp pred n (depth - 1) q)) (some w)
    if v.maxTu < b.w || v.maxTu < b.h then four w
    else
      let one := (v.transformsOf tool comp b).map (fun tr w => some (v.codeTu comp b pred tr w))
      choose w (one ++ (if 0 < depth && 8 ≤ b.w && 8 ≤ b.h then [four] else []))

/-- Components of the coded format. -/
def PixelView.comps (v : PixelView) : List Nat := if v.tools.chroma = 0 then [] else [1, 2]

/-- Depth of the transform tree in use (Table 6-5). H.264 chooses between 8 × 8 and 4 × 4. -/
def PixelView.treeDepth (v : PixelView) : Nat := if v.tools.codec = 1 then 1 else if v.deep then v.tools.tuDepth else min 1 v.tools.tuDepth

/-- Luma and chroma of a unit from its prediction. -/
def PixelView.codeResidual (v : PixelView) (tool : CodeTool) (pred : Prediction) (b : Block) (chroma : Option Block)
    (w : CtuState) : Option CtuState :=
  let luma := v.codeTree tool 0 pred 6 v.treeDepth b w
  match chroma with
  | none => luma
  | some cb => v.comps.foldl (fun m c =>
      m.bind (v.codeTree tool c pred 6 0 (cb.on v.tools.chroma c))) luma

/-- The prediction itself is the reconstruction; none where the lossless tools would change it. -/
def PixelView.noResidual (v : PixelView) (pred : Prediction) (b : Block) (chroma : Option Block) (w : CtuState) :
    Option CtuState :=
  let blocks := (0, b) :: (match chroma with
    | some cb => v.comps.map (fun c => (c, cb.on v.tools.chroma c))
    | none => [])
  blocks.foldl (fun (m : Option CtuState) e => m.bind (fun w =>
    let rows := pred w e.1 e.2
    if v.lossless && rows ≠ v.source e.1 e.2 then none
    else some { w with
      patches := { comp := e.1, block := e.2, rows := rows } :: w.patches, j := w.j + v.distortion e.1 e.2 rows })) (some w)

/-- A unit is closed: its prediction is signalled. -/
def PixelView.closeUnit (v : PixelView) (u : CodedUnit) (w : CtuState) : CtuState :=
  let u := { u with tus := w.tus, qp := v.qp, lossless := v.lossless }
  let w := v.spend w (Config.unitBins v.tools (v.before ++ w.units) u)
  { w with units := w.units ++ [u], tus := [] }

/-! ### Intra (R149, Table 6-3) -/

/-- Nodes of the partition search: any tool, or intra only, at a block, with the block whose chroma the unit codes. -/
structure Node where
  block : Block
  intraOnly : Bool := false
  chroma : Option Block
  /-- Depth in the multi-type tree. -/
  mtt : Nat := 0
  deriving DecidableEq, Repr

/-- Luma modes that the rough stage ranks for a block. -/
def PixelView.lumaModes (v : PixelView) (b : Block) (mpm : List Nat) : List (CodeTool × Nat) :=
  let all := fun (t : CodeTool) n => (List.range n).map (fun m => (t, m))
  match v.tools.codec with
  | 1 => if b.w = 16 then all .intra16 4 else if b.w = 8 then all .intra8 9 else all .intra4 9
  | 2 => all .angular 35
  | _ => all .angular 67 ++ all .mip (Config.mipModes b.w b.h) ++
      (if v.tools.mrl then mpm.flatMap (fun m => [(.mrl, 2 * m), (.mrl, 2 * m + 1)]) else []) ++
      (if v.tools.isp then all .isp 134 else [])

/-- Chroma modes: four, five, or DM, four fixed modes and three CCLM modes; none without chroma. -/
def PixelView.chromaModes (v : PixelView) (chroma : Option Block) : List Nat :=
  if v.tools.chroma = 0 || chroma.isNone then [0]
  else List.range (match v.tools.codec with
    | 1 => 4
    | 2 => 5
    | _ => 8)

/-- Intra prediction with a luma mode and a chroma mode, from the reconstruction. -/
def PixelView.intraPred (v : PixelView) (tool : CodeTool) (mode chroma : Nat) : Prediction := fun w comp b =>
  Config.intraPredict v.tools tool (if comp = 0 then mode else chroma) comp b (v.recon w)

/-- The survivors of the rough stage: the listed modes of least SATD, the lower of equals, and the most probable modes. -/
def PixelView.survivorsOf (v : PixelView) (w : CtuState) (b : Block) : List (CodeTool × Nat) :=
  let mpm := Config.mostProbable v.tools (v.before ++ w.units) b
  let all := v.lumaModes b mpm
  let src := v.source 0 b
  let ranked := all.map (fun m => (satd src (v.intraPred m.1 m.2 0 w 0 b), m))
  let best := (ranked.mergeSort (fun a b => a.1 ≤ b.1)).map Prod.snd
  let usual := all.filter (fun m => mpm.contains m.2 && m.1 == (all.headD (.angular, 0)).1)
  let kept := best.take v.survivors ++ usual
  all.filter kept.contains

/-- The ways to code a node as intra. -/
def PixelView.intraWays (v : PixelView) (n : Node) (w : CtuState) : List (CtuState → Option CtuState) :=
  (v.survivorsOf w n.block).flatMap (fun m => (v.chromaModes n.chroma).map (fun c w =>
    (v.codeResidual m.1 (v.intraPred m.1 m.2 c) n.block n.chroma w).map (v.closeUnit {
      block := n.block, tool := m.1, mode := m.2, chroma := n.chroma.map (·, c), parts := [], tus := [], qp := v.qp
      lossless := v.lossless })))

/-! ### Inter (R148, R150, Table 6-4) -/

/-- Inter prediction of the partitions that meet a block, put together. -/
def PixelView.interPred (v : PixelView) (tool : CodeTool) (parts : List CodedPart) : Prediction := fun _ comp b =>
  let of_ := fun (p : CodedPart) => (p, p.block.on v.tools.chroma comp)
  let rows := (parts.map of_).map (fun e =>
    (e.2, Config.interPredict v.tools tool comp e.2 e.1.vecs v.distances (fun r x y => v.refs r comp x y)))
  let patches := rows.map (fun e => ({ comp := comp, block := e.1, rows := e.2 } : Patch))
  (List.range b.h).map (fun j => (List.range b.w).map (fun i => (patchAt patches comp (b.x + i : Nat) (b.y + j : Nat)).getD 0))

/-- Cost of a vector in quarter samples: SATD + λmv × bits(v − p). -/
def PixelView.vecCost (v : PixelView) (b : Block) (ref : Nat) (p : Int × Int) (x : Int × Int) : Cand :=
  let pred := v.interPred .amvp [{ block := b, vecs := [{ ref := ref, x := x.1, y := x.2 }] }] { ctx := [] } 0 b
  { x := x.1, y := x.2
    cost := satd (v.source 0 b) pred * 65536 + v.lambdaMv * (seBits (x.1 - p.1) + seBits (x.2 - p.2)) }

/-- The eight neighbours of a vector at a distance. -/
def ring8 (d : Int) (v : Int × Int) : List (Int × Int) :=
  (windowAround (1, 1) (0, 0)).filterMap (fun o => if o = (0, 0) then none else some (v.1 + d * o.1, v.2 + d * o.2))

/-- The best of a list in the order of R144. -/
def bestVec (l : List Cand) : Int × Int :=
  match l with
  | [] => (0, 0)
  | c :: r =>
    let b := r.foldl (fun m x => if Cand.before x m then x else m) c
    (b.x, b.y)

/-- The candidates of every P0 block that a rectangle covers, as a union without duplicates. -/
def PixelView.unionCands (v : PixelView) (b : Block) (ref : Nat) : List (Int × Int) :=
  let span := fun (a n o : Nat) => List.range' ((a - o) / 16) (ceilDiv (a + n - o) 16 - (a - o) / 16)
  ((span b.y b.h v.cell.2).flatMap (fun j => (span b.x b.w v.cell.1).flatMap (fun i => v.cands ref i j))).eraseDups

/-- R148 for one rectangle and one reference: the best vector to quarter samples, the best in whole samples (for AMVR), and
the candidates that the clip of R145 changed. -/
def PixelView.refine (v : PixelView) (units : List CodedUnit) (b : Block) (ref : Nat) : (Int × Int) × (Int × Int) × Nat :=
  let r := v.range ref b
  let p := Config.vecPredictor v.tools units v.refUnits b ref
  let cost := fun (l : List (Int × Int)) => l.map (v.vecCost b ref p)
  let starts := r.clipAll 4 (v.unionCands b ref)
  let ints := r.clipAll 4 ((starts.1.flatMap (windowAround (v.window, v.window))).eraseDups)
  let whole := bestVec (cost (ints.1.map (fun x => (4 * x.1, 4 * x.2))))
  let scale := fun (d : Int) (l : List (Int × Int)) => l.map (fun x => (d * x.1, d * x.2))
  let halves := r.clipAll 2 ((ring8 1 (whole.1 / 2, whole.2 / 2)))
  let half := bestVec (cost (whole :: scale 2 halves.1))
  let quarters := r.clipAll 1 (ring8 1 half)
  let best := bestVec (cost (half :: quarters.1))
  (best, whole, starts.2 + ints.2 + halves.2 + quarters.2)

/-- Shapes of partitions: cells, each with the ways in which it can be divided (Table 6-4). -/
def PixelView.shapes (v : PixelView) (b : Block) : List (List (List (List Block))) :=
  let one := [[[[b]]]]
  let two := fun (l : List Block) => [l.map (fun x => [[x]])]
  let h := b.h / 2
  let w := b.w / 2
  match v.tools.codec with
  | 1 =>
    let cell := fun (q : Block) => [[q]] ++
      (if v.tools.subPartitions && v.deep then [q.cut false [4, 4], q.cut true [4, 4], q.grid 4] else [])
    one ++ two (b.cut false [h, h]) ++ two (b.cut true [w, w]) ++ [b.quarters.map cell]
  | 2 =>
    one ++ two (b.cut false [h, h]) ++ two (b.cut true [w, w]) ++
      (if v.tools.amp && v.deep && 16 ≤ b.w then
        two (b.cut false [h / 2, b.h - h / 2]) ++ two (b.cut false [b.h - h / 2, h / 2]) ++
          two (b.cut true [w / 2, b.w - w / 2]) ++ two (b.cut true [b.w - w / 2, w / 2])
      else [])
  | _ => one

/-- Motion of one reference, or of a pair in a B picture. -/
def PixelView.motions (v : PixelView) : List (List Nat) :=
  (List.range v.searched).map (fun r => [r]) ++
    (if v.type = .b then (Config.biPairs v.tools.codec v.searched).map (fun e => [e.1, e.2]) else [])

/-- A partition with the refined vectors of its references, and the clips. -/
def PixelView.partWith (v : PixelView) (units : List CodedUnit) (b : Block) (refs : List Nat) : CodedPart × Nat :=
  let l := refs.map (fun r => (r, v.refine units b r))
  ({ block := b, vecs := l.map (fun e => { ref := e.1, x := e.2.1.1, y := e.2.1.2 }) }, (l.map (fun e => e.2.2.2)).sum)

/-- Cost of a partition with its vectors, as its choice among several counts it. -/
def PixelView.partCost (v : PixelView) (units : List CodedUnit) (p : CodedPart) : Nat :=
  satd (v.source 0 p.block) (v.interPred .amvp [p] { ctx := [] } 0 p.block) * 65536 +
    v.lambdaMv * (p.vecs.map (fun m =>
      let q := Config.vecPredictor v.tools units v.refUnits p.block m.ref
      seBits (m.x - q.1) + seBits (m.y - q.2))).sum

/-- Of several, the first of least cost. -/
def leastBy {α : Type} (cost : α → Nat) (l : List α) : Option α :=
  l.foldl (fun (m : Option α) x => match m with
    | none => some x
    | some y => if cost x < cost y then some x else some y) none

/-- The partitions of one shape, each with its motion of least cost, and each cell in its division of least cost. DEDUCED, log
entry 238. -/
def PixelView.shapeParts (v : PixelView) (units : List CodedUnit) (cells : List (List (List Block))) :
    List CodedPart × Nat :=
  let part := fun (b : Block) =>
    let l := v.motions.map (v.partWith units b)
    ((leastBy (fun e => v.partCost units e.1) l).map Prod.fst, (l.map Prod.snd).sum)
  let cell := fun (ways : List (List Block)) =>
    let l := ways.map (fun w => (w.map part))
    let kept := l.map (fun w => w.filterMap Prod.fst)
    ((leastBy (fun w => (w.map (v.partCost units)).sum) kept).getD [], (l.flatten.map Prod.snd).sum)
  let all := cells.map cell
  ((all.map Prod.fst).flatten, (all.map Prod.snd).sum)

/-- An inter way: a tool, its number, its partitions, with or without a residual, and the clips that finding it took. -/
structure InterWay where
  tool : CodeTool
  num : Nat
  parts : List CodedPart
  residual : Bool
  clips : Nat := 0
  deriving DecidableEq, Repr

/-- Merge tools of a standard that take part in a decision, with whether skip and merge share their candidates. -/
def PixelView.mergeTools (v : PixelView) : List CodeTool :=
  match v.tools.codec with
  | 1 => if v.type = .b then [.skip, .direct] else [.skip]
  | 2 => [.skip, .merge]
  | _ => [.skip, .merge, .mmvd, .sbTmvp] ++ (if v.tools.affine then [.affineMerge] else [])

/-- Every inter way of Table 6-4 for a block, in the order in which the lower of equals wins. -/
def PixelView.interWays (v : PixelView) (units : List CodedUnit) (b : Block) : List InterWay :=
  let merged := v.mergeTools.flatMap (fun t =>
    let l := Config.mergeMotion v.tools t units v.refUnits b
    (List.range l.length).map (fun i => ({ tool := t, num := i, parts := l.getD i [], residual := t ≠ .skip } : InterWay)))
  let single := v.motions.map (v.partWith units b)
  let amvp := (List.range single.length).map (fun i =>
    let e := single.getD i ({ block := b, vecs := [] }, 0)
    ({ tool := .amvp, num := i, parts := [e.1], residual := true, clips := e.2 } : InterWay))
  let shaped := ((v.shapes b).drop 1).map (fun cells =>
    let e := v.shapeParts units cells
    ({ tool := .amvp, num := single.length, parts := e.1, residual := true, clips := e.2 } : InterWay))
  let later := if v.tools.codec ≠ 3 then [] else
    let whole := (List.range v.searched).map (fun r =>
      let m := (v.refine units b r).2.1
      ({ tool := .amvrInt, num := r, parts := [{ block := b, vecs := [{ ref := r, x := m.1, y := m.2 }] }], residual := true } : InterWay))
    let mirrored := (if v.type = .b then Config.biPairs v.tools.codec v.searched else []).map (fun e =>
      let m := (v.refine units b e.1).1
      ({ tool := .smvd, num := e.1 * 16 + e.2, residual := true
         parts := [{ block := b, vecs := [{ ref := e.1, x := m.1, y := m.2 }, { ref := e.2, x := -m.1, y := -m.2 }] }] } : InterWay))
    let affine := if v.tools.affine then
        let l := Config.affineMotion v.tools units b ((List.range v.searched).map (fun r =>
          let m := (v.refine units b r).1
          { ref := r, x := m.1, y := m.2 }))
        (List.range l.length).map (fun i => ({ tool := .affineAmvp, num := i, parts := l.getD i [], residual := true } : InterWay))
      else []
    whole ++ mirrored ++ affine
  merged ++ amvp ++ shaped ++ later

/-- An inter way is coded. -/
def PixelView.codeInter (v : PixelView) (n : Node) (x : InterWay) (w : CtuState) : Option CtuState :=
  let pred := v.interPred x.tool x.parts
  let coded := if x.residual then v.codeResidual x.tool pred n.block n.chroma w
    else v.noResidual pred n.block n.chroma w
  coded.map (fun w => v.closeUnit {
    block := n.block, tool := x.tool, mode := x.num, chroma := n.chroma.map (·, 0), parts := x.parts, tus := [], qp := v.qp
    lossless := v.lossless } { w with clips := w.clips + x.clips })

/-! ### Partitions (R151, Table 6-5) -/

/-- Smallest luma side of a coding unit. -/
def PixelView.minCu (v : PixelView) : Nat := if v.tools.codec = 1 then 16 else if v.tools.codec = 3 && v.deep then 4 else 8

/-- The size that the coded picture is a multiple of. -/
def PixelView.pad (v : PixelView) : Nat := if v.tools.codec = 1 then 16 else 8

/-- A block can be a unit: within the coded picture, no larger than a unit may be. -/
def PixelView.leafOk (v : PixelView) (b : Block) : Bool :=
  decide (b.x + b.w ≤ roundUp v.w v.pad ∧ b.y + b.h ≤ roundUp v.h v.pad) &&
    (v.tools.codec ≠ 2 || b.w ≤ 64) && !(v.tools.codec == 3 && v.lossless && (32 < b.w || 32 < b.h))

/-- The nodes of a split: those within the picture. Where a part's chroma would be narrower than 4 samples, the last part
codes the chroma of the whole. DEDUCED, log entry 238. -/
def PixelView.children (v : PixelView) (n : Node) (intraOnly : Bool) (mtt : Nat) (l : List Block) : List Node :=
  let d := chromaScale v.tools.chroma
  let small := l.any (fun b => b.w / d.1 < 4 || b.h / d.2 < 4)
  let kept := l.filter (fun b => decide (b.x < v.w ∧ b.y < v.h))
  (List.range kept.length).filterMap (fun i => (kept[i]?).map (fun b =>
    { block := b, intraOnly := intraOnly, mtt := mtt
      chroma := if n.chroma.isNone then none
        else if small then (if i + 1 = kept.length then n.chroma else none) else some b }))

/-- The splits of a node that Table 6-5 allows; a block that cannot be a unit is divided whatever its depth. -/
def PixelView.splits (v : PixelView) (n : Node) : List (List Node) :=
  let b := n.block
  if !v.leafOk b then
    [v.children n false n.mtt (if b.w = b.h then b.quarters else if b.h < b.w then b.cut true [b.w / 2, b.w / 2]
      else b.cut false [b.h / 2, b.h / 2])]
  else match v.tools.codec with
  | 1 => if b.w = 16 then [v.children n true 0 b.quarters, v.children n true 0 (b.grid 4)] else []
  | 2 => if 8 < b.w then [v.children n false 0 b.quarters] else if b.w = 8 then [v.children n true 0 b.quarters] else []
  | _ =>
    let least := v.minCu
    let quad := if n.mtt = 0 && b.w = b.h && (if v.deep then 8 else 16) < b.w then [b.quarters] else []
    let half := if n.mtt < (if v.deep then v.tools.mttDepth else min 1 v.tools.mttDepth) then
        (if 2 * least ≤ b.h then [b.cut false [b.h / 2, b.h / 2]] else []) ++
          (if 2 * least ≤ b.w then [b.cut true [b.w / 2, b.w / 2]] else []) ++
          (if v.deep && 4 * least ≤ b.h then [b.cut false [b.h / 4, b.h / 2, b.h / 4]] else []) ++
          (if v.deep && 4 * least ≤ b.w then [b.cut true [b.w / 4, b.w / 2, b.w / 4]] else [])
      else []
    quad.map (v.children n false 0) ++ half.map (v.children n false (n.mtt + 1))

/-- The unit's best mode is skip, or merge without residual. -/
def CodedUnit.still (u : CodedUnit) : Bool :=
  u.tool == .skip || ((u.tool == .merge || u.tool == .direct || u.tool == .mmvd || u.tool == .sbTmvp || u.tool == .affineMerge) &&
    u.tus.all (fun t => t.levels.all (· == 0)))

/-- A node as one unit: intra before inter, the lower number first (R152). -/
def PixelView.leaf (v : PixelView) (n : Node) (w : CtuState) : Option CtuState :=
  if !v.leafOk n.block then none
  else
    let units := v.before ++ w.units
    let inter := if v.type = .i || n.intraOnly then [] else (v.interWays units n.block).map (fun x w => v.codeInter n x w)
    choose w (v.intraWays n w ++ inter)

/-- The best way to code a node: as one unit, or split, the larger unit first. -/
def PixelView.node (v : PixelView) : Nat → Node → CtuState → Option CtuState
  | 0, n, w => v.leaf n w
  | fuel + 1, n, w =>
    let whole := v.leaf n w
    let still := match whole with
      | some x => v.earlyTerm && (x.units.getLast?.any CodedUnit.still)
      | none => false
    let split := fun (l : List Node) (w : CtuState) =>
      l.foldl (fun (m : Option CtuState) c => m.bind (v.node fuel c))
        (some (v.spend w (Config.splitBins v.tools n.block (l.map (·.block)))))
    let unsplit := fun (w : CtuState) => (v.leaf n w).map (fun x => v.spend x (Config.splitBins v.tools n.block []))
    choose w (unsplit :: (if still then [] else (v.splits n).map split))

/-- A CTU: the partition, modes and vectors of least J from the contexts at its start. -/
def PixelView.ctu (v : PixelView) (b : Block) (ctx : Contexts) : CtuState :=
  (v.node 8 { block := b, chroma := if v.tools.chroma = 0 then none else some b } { ctx := ctx }).getD { ctx := ctx }

/-- A CTU of skip with the zero vector against the first reference and no residual (R206, R291). -/
def PixelView.skipped (v : PixelView) (b : Block) (ctx : Contexts) : CtuState :=
  let parts : List CodedPart := [{ block := b, vecs := [{ ref := 0, x := 0, y := 0 }] }]
  let chroma := if v.tools.chroma = 0 then none else some b
  let x : InterWay := { tool := .skip, num := 0, parts := parts, residual := false }
  (v.codeInter { block := b, chroma := chroma } x { ctx := ctx }).getD { ctx := ctx }

/-- The result of a CTU. -/
def PixelView.code (v : PixelView) (w : CtuState) : CtuCode :=
  { qp := v.qp, lossless := v.lossless, units := w.units, patches := w.patches, ctx := w.ctx }

end Sys2Proof.Machine
end

