-- ==== Sys2Proof/Machine/Search.lean ====
section
/-! DEFINITION. Search grants (R141, R142, R145, R147, R158, R160): which are issued, and what a complete one leaves. -/

namespace Sys2Proof.Machine

/-- Part of a CTU: its subpicture, or the phase of the picture. -/
def Pic.partOf (p : Pic) (f : Fmt) (c : Nat) : Nat := if f.parts = 4 then f.ctuPart c else p.stream

/-! ### Chunks of a picture (R168, R172) -/

/-- First CTU and last CTU row of each chunk of a picture that this device codes, in bitstream order. -/
def State.chunkList (s : State) (ch : Nat) (p : Pic) : List (Nat × Nat) :=
  let f := s.fmt ch
  let n := if s.pval p.vals ch K.CH_TILING_CHUNK_MODE = 0 then f.rows else s.pval p.vals ch K.CH_TILING_CHUNK_ROWS
  (List.range f.parts).flatMap (fun part => f.rowStarts.flatMap (fun r0 => f.colStarts.flatMap (fun c0 =>
    let first := f.ctuIndex part c0 r0
    if f.array && !s.codesCell ch f (f.cellOf p.stream first) then []
    else
      let rows := f.tileEndRow first - r0
      (List.range (ceilDiv rows (max 1 n))).map (fun i =>
        (f.ctuIndex part c0 (r0 + i * n), min (r0 + (i + 1) * n) (r0 + rows) - 1)))))

/-- The CTUs of a chunk. -/
def Fmt.chunkCtus (f : Fmt) (first last : Nat) : List Nat :=
  (f.tileCtus first).filter (fun c => f.ctuRow first ≤ f.ctuRow c && f.ctuRow c ≤ last)

/-- The chunk that a CTU belongs to. -/
def State.chunkOf (s : State) (ch : Nat) (p : Pic) (c : Nat) : Option (Nat × Nat) :=
  let f := s.fmt ch
  (s.chunkList ch p).find? (fun k => f.tileNum k.1 == f.tileNum c && f.ctuRow k.1 ≤ f.ctuRow c && f.ctuRow c ≤ k.2)

/-- The chunk of a first CTU is coded. -/
def Pic.chunkDone (p : Pic) (first : Nat) : Bool := p.chunks.any (·.firstCtu == first)

/-- Every chunk of the picture is coded. -/
def State.picCoded (s : State) (ch : Nat) (p : Pic) : Bool := (s.chunkList ch p).all (fun k => p.chunkDone k.1)

/-! ### Pictures in work -/

/-- A picture in work by its full count. -/
def Chan.pic? (c : Chan) (n : Nat) : Option Pic := c.pics.find? (·.count == n)

/-- Changes a picture in work. -/
def State.modPic (s : State) (ch n : Nat) (g : Pic → Pic) : State :=
  s.modChan ch (fun c => { c with pics := c.pics.map (fun p => if p.count = n then g p else p) })

/-- The picture whose search serves a picture: the first one of its frame (R147). -/
def Chan.lead (c : Chan) (p : Pic) : Pic :=
  (c.pics.find? (fun x => x.frameSeq == p.frameSeq && x.stream == 0)).getD p

/-- References searched for a picture: none for an intra, skipped or void one (R141, R206, R291). -/
def State.searchRefs (s : State) (ch : Nat) (p : Pic) : Nat :=
  if p.type = .i || p.skipped || p.isVoid || p.allIntra then 0
  else min (s.pval p.vals ch K.CH_SEARCH_SEARCH_REFS) p.refs.length

/-- Number of a search grant among a picture's. -/
def searchKey (row ref : Nat) : Nat := row * 16 + ref

/-- Every search grant of a CTU row of a picture is complete. DEDUCED, log entry 86. -/
def State.rowSearched (s : State) (ch : Nat) (p : Pic) (row : Nat) : Bool :=
  let lead := (s.chan ch).lead p
  (List.range (s.searchRefs ch lead)).all (fun r => lead.searched.contains (searchKey row r))

/-- A CTU row of a frame is ready in a part (R130); a void region needs no frame. -/
def State.rowNoted (s : State) (ch : Nat) (p : Pic) (part row : Nat) : Bool :=
  p.isVoid || (match (s.chan ch).frame? p.frameSeq with
    | some x => (Store.find? x.rowAt ((s.fmt ch).rowKey part row)).isSome
    | none => false)

/-- The row is ready in every part, as the search of a frame needs it. -/
def State.rowNotedAll (s : State) (ch : Nat) (p : Pic) (row : Nat) : Bool :=
  let f := s.fmt ch
  (List.range (if f.array && f.raw then 4 else 1)).all (fun part => s.rowNoted ch p part row)

/-- A search grant is in flight. -/
def State.searching (s : State) (ch pic row ref : Nat) : Bool :=
  (List.range UnitKind.ms.total).any (fun n => match (s.unit .ms n).grant with
    | some g => g.chan == ch && g.pic == pic && g.idx == row && g.ref == ref
    | none => false)

/-- Waiting for a halo begins, and ends with the time added to HALO_WAIT_NS (R158). -/
def State.haloWaits (s : State) (ch : Nat) : State :=
  s.modChan ch (fun c => { c with haloWait := c.haloWait.orElse (fun _ => some s.time) })
def State.haloWaited (s : State) (ch : Nat) : State :=
  match (s.chan ch).haloWait with
  | some t => (s.cbump ch K.CH_SEARCH_STATUS_HALO_WAIT_NS (s.since t)).modChan ch (fun c => { c with haloWait := none })
  | none => s

/-- Every P0 row that a search block of any level over a CTU row takes in is there: the blocks of the top level are the
largest (R146). DEDUCED, log entry 242. -/
def State.blocksPresent (s : State) (ch : Nat) (p : Pic) (row : Nat) : Bool :=
  let f := s.fmt ch
  let n := 16 * 2 ^ searchTop (s.pval p.vals ch K.CH_SEARCH_PRESET = 1)
  let r := s.ownRows ch f row
  p.isVoid || (match (s.chan ch).frame? p.frameSeq with
    | some x => (List.range' (r.1 / n * n) (min f.p0H (ceilDiv r.2 n * n) - r.1 / n * n)).all (x.rowPresent f)
    | none => true)

/-- CTU rows that this device's region has in a picture. -/
def State.regionRowSet (s : State) (ch : Nat) (f : Fmt) : List Nat := ((s.regionCtus ch f 0).map f.ctuRow).dedup

/-- What a search looks at in a reference is settled: its source frame whole and, for the co-located candidates, its own field
for its first reference (R146, R155). DEDUCED, log entry 242. -/
def State.refSettled (s : State) (ch : Nat) (p : Pic) (ref : Nat) : Bool :=
  let f := s.fmt ch
  let c := s.chan ch
  match (p.refs[ref]?).bind c.pic? with
  | none => true
  | some x =>
    (match c.frame? x.frameSeq with
      | some fr => x.isVoid || f.rowKeys.all (fun k => (Store.find? fr.rowAt k).isSome)
      | none => true) &&
    (s.pval p.vals ch K.CH_SEARCH_COLOCATED_EN ≠ 1 || s.searchRefs ch x = 0 ||
      (s.regionRowSet ch f).all (fun r => x.searched.contains (searchKey r 0)))

/-- What each cluster is owed once one more grant falls due: its engines in service, read now (R160). -/
def State.msOwed (s : State) (c : Nat) : Int := Store.get s.msCredit 0 c + s.inServiceOf .ms c

/-- A cluster may take the next search grant: it is owed a share, or no cluster with a free engine is. DESIGN CHOICE, log
entry 243. -/
def State.msTurn (s : State) (ms : Nat) : Bool :=
  decide (0 < s.msOwed (clusterOf .ms ms)) || (s.freeUnits .ms).all (fun n => decide (s.msOwed (clusterOf .ms n) ≤ 0))

/-- The shares after a grant to a cluster: each gains its engines in service, and the cluster pays for all of them. -/
def State.msCharge (s : State) (c : Nat) : State :=
  let total := ((List.range 8).map (s.inServiceOf .ms)).sum
  { s with msCredit := (List.range 8).foldl (fun m k =>
      Store.put m k (s.msOwed k - (if k = c then (total : Int) else 0))) [] }

/-- SEARCH_GRANT_ISSUE: the dispatcher gives a free engine the search of one CTU row for one reference (R160). The command
names the engine: any free one of a cluster whose turn it is. -/
def execSearchGrantIssue (t : Time) (ms ch pic row ref : Nat) (s : State) : Out :=
  inRange "MS" ms 16 <| inRange "CH" ch 256 <| live t s (fun s =>
    let c := s.chan ch
    match c.pic? pic with
    | none => s
    | some p =>
      let g : Grant := { chan := ch, pic := pic, idx := row, ref := ref }
      if s.fatal || s.arrayStopped ch || !c.working || p.stream ≠ 0 || (s.fmt ch).rows ≤ row || s.searchRefs ch p ≤ ref ||
          p.searched.contains (searchKey row ref) || s.searching ch pic row ref || !s.unitFree .ms ms || !s.msTurn ms ||
          !s.rowNotedAll ch p row || !s.blocksPresent ch p row || !s.refSettled ch p ref then s
      else if !s.haloArrived ch p row then s.haloWaits ch
      else
        let s := (s.haloWaited ch).msCharge (clusterOf .ms ms)
        match s.waitingGrant .ms g with
        | some old =>
          ((s.dropWaiting .ms g).giveGrant .ms ms old).tick K.SEARCH_COUNTERS_MS_REISSUED 1
        | none => s.giveGrant .ms ms g)

/-- What the reference cache did in a grant: counts that the manual leaves open (R155). -/
def State.cacheUse (s : State) (hits misses refetched : Nat) : State :=
  ((s.tick K.SEARCH_COUNTERS_CACHE_HITS hits).tick K.SEARCH_COUNTERS_CACHE_MISSES misses).tick K.SEARCH_COUNTERS_CACHE_REFETCH
    refetched

/-- SEARCH_GRANT_COMPLETE: the motion field of the row is written. -/
def execSearchGrantComplete (t : Time) (ms hits misses refetched : Nat) (s : State) : Out :=
  inRange "MS" ms 16 <| live t s (fun s =>
    match (s.unit .ms ms).grant with
    | none => s
    | some g =>
      let s := match (s.chan g.chan).pic? g.pic with
        | some p => s.writeField g.chan p g.idx g.ref
        | none => s
      let s := (s.endGrant .ms ms).modPic g.chan g.pic (fun p =>
        { p with searched := p.searched ++ [searchKey g.idx g.ref] })
      (s.tick K.SEARCH_COUNTERS_MS_GRANTS 1).cacheUse hits misses refetched)

end Sys2Proof.Machine
end

