-- ==== Sys2Proof/Machine/Pixel.lean ====
section
/-! DEFINITION. What a pixel core codes: the tools in use (Tables 7-3 and 8-3), source and references as the mode decision sees
them (R147, R156, R157), the CTU with its bound check (R153, R198, R199), and the reconstruction of a picture (R242). -/

namespace Sys2Proof.Machine

/-! ### Tools (R199, Tables 6-3 to 6-5, 7-3, 8-3) -/

/-- The tools of a channel's pictures. -/
def State.toolsOf (s : State) (ch : Nat) (p : Pic) : Tools :=
  let f := s.fmt ch
  let archive : Bool := s.pval p.vals ch K.CH_SEARCH_PRESET = 1
  let bound := s.bounded ch p
  let h266 := f.codec == 3
  { codec := f.codec, chroma := f.chroma, depth := f.codedDepth, ctu := f.ctu
    deblock := !bound, sao := f.codec ≠ 1 && !bound, alf := h266 && !bound
    signHiding := !bound && (f.codec == 2 || (h266 && !archive)), depQuant := h266 && archive && !bound
    rdoq := f.codec == 2 && archive, mts := h266 && archive, lfnst := h266 && archive
    transformSkip := f.codec ≠ 1, jointCbCr := h266, mrl := h266 && archive, isp := h266 && archive
    affine := h266 && archive, amp := f.codec == 2 && archive, subPartitions := f.codec == 1 && archive
    tuDepth := if archive then 2 else 1, mttDepth := if archive then 3 else 1
    extended := f.codec ≠ 1 && f.codedDepth = 16, bypass := f.codec == 2 && bound, minQpPrimeTs0 := h266 && bound
    chromaQpOffset0 := bound, chromaQpIdentity := h266 && bound, wavefront := f.wavefront }

/-! ### Codes of a picture in work -/

/-- Key of a CTU of a picture of a frame buffer. -/
def codeKey (stream ctu : Nat) : Nat := stream * 2 ^ 20 + ctu

/-- The code of a CTU of a picture in work. -/
def State.ctuCode (s : State) (p : Pic) (c : Nat) : Option CtuCode :=
  (s.fb? p.fb).bind (fun b => Store.find? b.codes (codeKey p.stream c))

/-- The chunk that a CTU belongs to begins with its first CTU; CTUs of one slice share it. H.265 codes a tile as one slice. -/
def State.sameSlice (s : State) (ch : Nat) (p : Pic) (a c : Nat) : Bool :=
  let f := s.fmt ch
  let n := if s.pval p.vals ch K.CH_TILING_CHUNK_MODE = 0 then f.rows else s.pval p.vals ch K.CH_TILING_CHUNK_ROWS
  let run := fun x => (f.ctuRow x - f.tileFirstRow x) / max 1 n
  f.tileNum a == f.tileNum c && (f.codec == 2 || run a == run c)

/-- The CTUs next to a CTU that its prediction may use: above and left, above, above and right, and left, of its slice. -/
def State.nearCtus (s : State) (ch : Nat) (p : Pic) (c : Nat) : List Nat :=
  let f := s.fmt ch
  let col := f.ctuCol c
  let row := f.ctuRow c
  let at_ := fun (x y : Nat) => f.ctuIndex (f.ctuPart c) x y
  let up := if row = 0 then [] else
    (if col = 0 then [] else [at_ (col - 1) (row - 1)]) ++ [at_ col (row - 1)] ++
      (if col + 1 < f.cols then [at_ (col + 1) (row - 1)] else [])
  (up ++ (if col = 0 then [] else [c - 1])).filter (s.sameSlice ch p · c)

/-! ### Source -/

/-- Index in a line of sample `x` of a component. -/
def Fmt.lineIndex (f : Fmt) (comp x : Nat) : Nat :=
  match f.sampling, comp with
  | 2, 0 => x
  | 2, c => 2 * x + (c - 1)
  | 3, 0 => 2 * x + 1
  | 3, c => 4 * x + 2 * (c - 1)
  | 4, c => 3 * x + c
  | 5, c => 3 * x + (c + 1) % 3
  | _, _ => x

/-- Sample of a component of the own cell of an accepted frame, in the coded format. -/
def Frame.cellSample (f : Fmt) (lut : Store Nat) (x : Frame) (part comp i j : Nat) : Nat :=
  if f.raw then x.phase f lut part i j
  else
    let line := if f.sampling = 2 ∧ comp ≠ 0 then f.height + j else j
    mapSample f lut (x.raw f (lineKey 0 line) (f.lineIndex comp i))

/-- A sample of a part of the source: of the own cell, or of a row handed over (R288); beyond the picture its edge again. -/
def State.srcSample (s : State) (ch : Nat) (x : Frame) (part comp i j : Nat) : Nat :=
  let f := s.fmt ch
  let d := if comp = 0 then (1, 1) else chromaScale f.chroma
  let i := min i (ceilDiv f.partW d.1 - 1)
  let j := min j (ceilDiv f.partH d.2 - 1)
  let cx := s.cellCol0 ch f / d.1
  let cy := s.cellRow0 ch f / d.2
  let own := x.cellSample f (s.rawLut ch x) part comp (min (i - cx) (ceilDiv f.cellW d.1 - 1))
    (min (j - cy) (ceilDiv f.cellH d.2 - 1))
  if cy ≤ j ∧ j < cy + ceilDiv f.cellH d.2 then own
  else match Store.find? (Store.get (s.chan ch).handed [] x.frameCount) (part * 65536 + j * d.2) with
    | some bs => mapSample f (s.rawLut ch x) (sampleOf f.depth bs (f.lineIndex comp (i - cx)))
    | none => own

/-! ### Reconstruction and references -/

/-- The in-loop filters are on. -/
def Tools.filters (t : Tools) : Bool := t.deblock || t.sao || t.alf

/-- A sample of a picture of a frame buffer in work, from its codes: after the loop filters, which look no further down than
one CTU row. -/
def FrameBuf.codedSample (f : Fmt) (t : Tools) (b : FrameBuf) (stream part comp x y : Nat) : Nat :=
  let d := if comp = 0 then (1, 1) else chromaScale f.chroma
  let row := y * d.2 / f.ctu
  let code := fun (c : Nat) => Store.find? b.codes (codeKey stream c)
  if t.filters then
    let ctus := (List.range ((min f.rows (row + 2)) * f.cols)).filterMap (fun i =>
      code (f.ctuIndex part (i % f.cols) (i / f.cols)))
    let rows := Config.loopFilter t (Store.get b.alf [] stream) ctus row comp
    (rows.getD (y - row * f.ctu / d.2) []).getD x 0
  else
    ((code (f.ctuIndex part (x * d.1 / f.ctu) row)).bind (fun k => patchAt k.patches comp x y)).getD
      (Config.beyondRegion comp x y)

/-- A sample of a picture of a frame buffer: from its bytes once whole, before that from its codes. -/
def FrameBuf.sampleAt (f : Fmt) (b : FrameBuf) (stream part comp x y : Nat) : Nat :=
  match Store.find? b.recon stream, b.tools with
  | some bs, _ => f.reconSample bs (if f.parts = 4 then part else comp) x y
  | none, some t => b.codedSample f t stream part comp x y
  | none, none => Config.beyondRegion comp x y

/-- Number of a picture among its frame's. -/
def FrameBuf.streamOf (b : FrameBuf) (ref : Nat) : Nat := match b.pic with
  | some (p, _) => ref - p
  | none => 0

/-- This device's region in a part. -/
def State.ownRegion (s : State) (ch : Nat) (f : Fmt) (part : Nat) : Block :=
  if f.array then
    match s.ownCell ch f with
    | some k =>
      let rows := f.regionRows part (k / f.cellCols)
      { x := k % f.cellCols * f.cellW, y := rows.1, w := f.cellW, h := rows.2 - rows.1 }
    | none => { x := 0, y := 0, w := f.partW, h := f.partH }
  else { x := 0, y := 0, w := f.partW, h := f.partH }

/-- A sample of a reconstructed reference for the mode decision: replicated beyond the picture's or subpicture's edge, of the
own region or of a halo, and replicated from the own region where no halo is held (R145, R156, R157, R159). -/
def State.refRecon (s : State) (ch : Nat) (b : FrameBuf) (stream part comp : Nat) (x y : Int) : Nat :=
  let f := s.fmt ch
  let d := if comp = 0 then (1, 1) else chromaScale f.chroma
  let px := (clipInt 0 (ceilDiv f.partW d.1 - 1 : Nat) x).toNat
  let py := (clipInt 0 (ceilDiv f.partH d.2 - 1 : Nat) y).toNat
  let own := s.ownRegion ch f part
  let ox := own.x / d.1
  let oy := own.y / d.2
  let w := ceilDiv own.w d.1
  let h := ceilDiv own.h d.2
  let inside := ox ≤ px && px < ox + w && oy ≤ py && py < oy + h
  let plane := if f.parts = 4 then part else if f.pictures = 4 then stream else comp
  match (s.openHalo b).find? (fun p => !inside && p.has plane px py) with
  | some p => p.sample f.haloBps px py
  | none => b.sampleAt f stream part comp (min (max px ox) (ox + w - 1)) (min (max py oy) (oy + h - 1))

/-- The frame buffer of a reference of a picture. -/
def State.refFb (s : State) (ch : Nat) (p : Pic) (i : Nat) : Option (Nat × FrameBuf) :=
  (p.refs[i]?).bind (fun r => ((s.fbOfPic ch r).bind s.fb?).map (fun b => (b.streamOf r, b)))

/-- The last row of a part that a CTU row's reference blocks, with interpolation and the filters, can reach. DEDUCED, log
entry 240. -/
def State.reachEnd (s : State) (ch : Nat) (p : Pic) (row : Nat) : Nat :=
  let f := s.fmt ch
  let far := reachV (s.pval p.vals ch K.CH_SEARCH_PRESET = 1) + (Config.interpSupport f.codec).2
  min (f.rows - 1) (((row + 1) * f.ctu + far) / f.ctu + 1)

/-- The reference rows within reach of a CTU row are reconstructed, as R155 needs them (R174). -/
def State.refsReady (s : State) (ch : Nat) (p : Pic) (row : Nat) : Bool :=
  let f := s.fmt ch
  let last := s.reachEnd ch p row
  (List.range p.refs.length).all (fun i => match s.refFb ch p i with
    | some (stream, b) => (Store.find? b.recon stream).isSome ||
        (s.regionCtus ch f stream).all (fun c => last < f.ctuRow c ||
          (Store.find? b.rowAt (stream * 65536 + f.ctuRow c)).isSome)
    | none => true)

/-! ### The view of a CTU -/

/-- Block of a CTU, as its standard codes it. -/
def Fmt.ctuBlock (f : Fmt) (c : Nat) : Block := { x := f.ctuCol c * f.ctu, y := f.ctuRow c * f.ctu, w := f.ctu, h := f.ctu }

/-- Candidates of the search for a P0 block of a picture's frame in a reference (R147). -/
def State.searchCands (s : State) (ch : Nat) (p : Pic) (r bx by_ : Nat) : List (Int × Int) :=
  match s.fb? ((s.chan ch).lead p).fb with
  | some b => (Store.get b.field [] (r * 2 ^ 32 + blockKey bx by_)).map (fun c => (c.x, c.y))
  | none => []

/-- What the pixel core looks at to code a CTU at a quantiser: the row's effort is an input of the grant (R179). -/
def State.pixelView (s : State) (ch : Nat) (p : Pic) (c : Nat) (q : Int) (lossless : Bool) : PixelView :=
  let f := s.fmt ch
  let t := s.toolsOf ch p
  let part := p.partOf f c
  let archive := s.pval p.vals ch K.CH_SEARCH_PRESET = 1
  let adapted := p.adapted.contains (f.ctuRow c)
  let qpPrime := if lossless && f.codec = 3 then 4 else q + f.qpOff
  let lambda := fix48 (lambdaFix p.lambdaWeight (s.pval p.vals ch K.CH_SEARCH_LAMBDA_SCALE) qpPrime)
  let near := (s.nearCtus ch p c).filterMap (s.ctuCode p)
  let frame := (s.chan ch).frame? p.frameSeq
  let refs := (List.range p.refs.length).filterMap (s.refFb ch p)
  { tools := t, w := f.partW, h := f.partH, type := p.type, archive := archive
    deep := archive && !adapted, earlyTerm := adapted || (!archive && s.pval p.vals ch K.CH_SEARCH_EARLY_TERM = 1)
    survivors := if adapted then 1 else if f.codec = 1 then (if archive then 4 else 2) else (if archive then 8 else 3)
    window := if archive && !adapted then 2 else 1
    lambda := lambda, lambdaMv := lambdaMv lambda, qp := q, qpPrime := qpPrime, lossless := lossless
    src := fun comp x y => match frame with
      | some x' => s.srcSample ch x' part comp x y
      | none => 2 ^ (f.codedDepth - 1)
    near := fun comp x y => near.findSome? (fun k => patchAt k.patches comp x y)
    before := near.flatMap (·.units)
    searched := s.searchRefs ch ((s.chan ch).lead p)
    refs := fun r comp x y => match refs[r]? with
      | some (stream, b) => s.refRecon ch b stream part comp x y
      | none => 0
    refUnits := refs.map (fun e => ([c, c + 1].filterMap (fun k => Store.find? e.2.codes (codeKey e.1 k))).flatMap (·.units))
    distances := refs.map (fun e => (p.frameSeq : Int) - e.2.order)
    cands := s.searchCands ch p
    cell := (s.cellCol0 ch f, s.cellRow0 ch f)
    range := fun r b => s.rectRange ch p (((refs[r]?).map (fun e => e.2.launch)).getD 0) (s.ownRegion ch f part) b }

/-- The contexts at the start of a CTU: those after the one to its left in its tile row, or the standard's initial states
(R154). DEDUCED, log entry 241. -/
def State.estimateAt (s : State) (ch : Nat) (p : Pic) (c : Nat) : Contexts :=
  let f := s.fmt ch
  let fresh := Config.ctxInit f.codec p.type.code p.base
  if f.tileFirstCol c = f.ctuCol c then fresh else ((s.ctuCode p (c - 1)).map (·.ctx)).getD fresh

/-! ### The CTU (R198) -/

/-- How a CTU came out of its pixel grant: passed at an attempt with its largest error, coded losslessly after a number of
lossy attempts, or coded without a check. -/
inductive CtuResult where
  | passed (attempt err : Nat)
  | lossless (lossy err : Nat)
  | unchecked
  deriving DecidableEq, Repr

/-- A coded CTU, how it came out, and the candidates clipped in all its attempts. -/
structure CtuDone where
  code : CtuCode
  result : CtuResult
  clips : Nat
  deriving DecidableEq, Repr

/-- Largest error of a reconstruction over every sample of every component within the picture. -/
def PixelView.maxErr (v : PixelView) (b : Block) (patches : List Patch) : Nat :=
  let err := fun (comp : Nat) =>
    let g := b.on v.tools.chroma comp
    let d := if comp = 0 then (1, 1) else chromaScale v.tools.chroma
    (List.range g.h).flatMap (fun j => (List.range g.w).map (fun i =>
      if (g.x + i) * d.1 < v.w ∧ (g.y + j) * d.2 < v.h then
        absDiff ((patchAt patches comp (g.x + i : Nat) (g.y + j : Nat)).getD 0) (v.src comp (g.x + i) (g.y + j))
      else 0))
  ((0 :: v.comps).flatMap err).foldl max 0

/-- One coding of a CTU: decision, transform, reconstruction. -/
def State.tryCtu (s : State) (ch : Nat) (p : Pic) (c : Nat) (q : Int) (lossless : Bool) : PixelView × CtuState :=
  let v := s.pixelView ch p c q lossless
  (v, v.ctu ((s.fmt ch).ctuBlock c) (s.estimateAt ch p c))

/-- A first luma sample that a defect has left off by so much. -/
def PixelView.slipped (v : PixelView) (b : Block) (slip : Nat) (code : CtuCode) : CtuCode :=
  let x := v.src 0 b.x b.y
  let wrong := if slip ≤ x then x - slip else x + slip
  if slip = 0 then code
  else { code with patches := { comp := 0, block := { x := b.x, y := b.y, w := 1, h := 1 }, rows := [[wrong]] } :: code.patches }

/-- The lossless coding of a CTU. Its reconstruction is the source but for the error that a defect of the core may leave, of
which the command tells (BOUND_LOSSLESS_MISMATCH). -/
def State.losslessCtu (s : State) (ch : Nat) (p : Pic) (c : Nat) (q : Int) (lossy slip clips : Nat) : CtuDone :=
  let (v, w) := s.tryCtu ch p c q true
  let code := v.slipped ((s.fmt ch).ctuBlock c) slip (v.code w)
  { code := code, result := .lossless lossy (v.maxErr ((s.fmt ch).ctuBlock c) code.patches), clips := clips + w.clips }

/-- The bound check from one attempt on (R198): every attempt repeats the decision at its own quantiser (R153). -/
def State.ladder (s : State) (ch : Nat) (p : Pic) (c slip : Nat) : Nat → Nat → Int → Nat → CtuDone
  | 0, attempt, q, clips => s.losslessCtu ch p c q attempt slip clips
  | n + 1, attempt, q, clips =>
    let (v, w) := s.tryCtu ch p c q false
    let m := v.maxErr ((s.fmt ch).ctuBlock c) w.patches
    let clips := clips + w.clips
    let qn := max (-((s.fmt ch).qpOff : Int)) (q - s.pval p.vals ch K.CH_BOUND_STEP)
    if m ≤ s.pval p.vals ch K.CH_BOUND_E then { code := v.code w, result := .passed attempt m, clips := clips }
    else if attempt = 3 ∨ qn = q then s.losslessCtu ch p c q (attempt + 1) slip clips
    else s.ladder ch p c slip n (attempt + 1) qn clips

/-- A CTU of a void region without a reference: intra, 2^(B − 1) in every sample (R291); DC prediction is 1, in H.264 2. -/
def State.flatCtu (s : State) (ch : Nat) (p : Pic) (c : Nat) : CtuCode :=
  let f := s.fmt ch
  let b := f.ctuBlock c
  let comps := if f.chroma = 0 then [0] else [0, 1, 2]
  { qp := p.base, lossless := false, ctx := s.estimateAt ch p c
    units := [{ block := b, tool := if f.codec = 1 then .intra16 else .angular, mode := if f.codec = 1 then 2 else 1
                chroma := if f.chroma = 0 then none else some (b, 0), parts := [], tus := [], qp := p.base, lossless := false }]
    patches := comps.map (fun k =>
      let g := b.on f.chroma k
      { comp := k, block := g, rows := List.replicate g.h (List.replicate g.w (2 ^ (f.codedDepth - 1))) }) }

/-- The code of a CTU of a picture: skipped and void pictures by R206 and R291, and otherwise by the mode decision, under the
bound check in BOUND and LOSSLESS. -/
def State.codeCtu (s : State) (ch : Nat) (p : Pic) (c slip : Nat) : CtuDone :=
  let q := s.quantiser ch p c
  if p.isVoid && p.refs.isEmpty then { code := s.flatCtu ch p c, result := .unchecked, clips := 0 }
  else if p.skipped || p.isVoid then
    let v := s.pixelView ch p c q false
    { code := v.code (v.skipped ((s.fmt ch).ctuBlock c) (s.estimateAt ch p c)), result := .unchecked, clips := 0 }
  else match s.mode ch p with
    | 6 => s.losslessCtu ch p c q 0 slip 0
    | 5 => s.ladder ch p c slip 4 0 q 0
    | _ =>
      let (v, w) := s.tryCtu ch p c q false
      { code := v.code w, result := .unchecked, clips := w.clips }

/-- Largest absolute vector of a CTU, in whole samples: horizontal and vertical. -/
def CtuCode.maxMv (k : CtuCode) : Nat × Nat :=
  let vs := k.units.flatMap (fun u => u.parts.flatMap (·.vecs))
  ((vs.map (fun v => v.x.natAbs / 4)).foldl max 0, (vs.map (fun v => v.y.natAbs / 4)).foldl max 0)

/-! ### The reconstruction of a whole picture -/

/-- A whole picture as an IN-ring frame at its coded size and depth (R242, R249). -/
def Fmt.codedFmt (f : Fmt) : Fmt :=
  { fmtOf (fun _ => 0) with
    width := f.picW, height := f.picH, sampling := if f.raw then 1 else f.sampling, depth := f.codedDepth, ctu := f.ctu }

/-- The reconstruction of a complete picture. What lies outside this device's region of an array frame is not its own. -/
def State.reconOf (s : State) (ch : Nat) (p : Pic) : List Byte :=
  let f := s.fmt ch
  match s.fb? p.fb with
  | none => []
  | some b => packPicture f.codedFmt (fun comp x y =>
      let part := if f.parts = 4 then x / f.partW else 0
      { b with recon := Store.erase b.recon p.stream }.sampleAt f p.stream part comp (x - part * f.partW) y)

/-- The samples of a picture's source in its coded format, as an IN-ring frame (R116). -/
def State.sourceBytes (s : State) (ch : Nat) (p : Pic) : List Byte :=
  let f := s.fmt ch
  match (s.chan ch).frame? p.frameSeq with
  | none => []
  | some frame => packPicture f.codedFmt (fun comp x y =>
      let part := if f.parts = 4 then x / f.partW else p.stream
      s.srcSample ch frame part comp (x - (if f.parts = 4 then part * f.partW else 0)) y)

end Sys2Proof.Machine
end

