-- ==== Sys2Proof/Machine/Sei.lean ====
section
/-! DEFINITION. What the Elvoz itself writes into a bitstream: the capture record, the certificate, and filler data (R176,
R195, R203, Tables 7-6, 7-7 and 8-5). The NAL units of the standards come with the engine's work. -/

namespace Sys2Proof.Machine

/-- Emulation prevention: a byte 3 before any byte of 0 to 3 that follows two zero bytes. -/
def escapeNal (zeros : Nat) : List Byte → List Byte
  | [] => []
  | b :: r =>
    if zeros = 2 ∧ b.toNat ≤ 3 then 3#8 :: b :: escapeNal (if b = 0 then 1 else 0) r
    else b :: escapeNal (if b = 0 then zeros + 1 else 0) r

/-- Two-byte or one-byte NAL unit header: SEI prefix and suffix, and filler data, of each standard. -/
def nalHeader (codec : Nat) (kind : Nat) : List Byte :=
  match codec, kind with
  | 1, 2 => [0x0C#8]
  | 1, _ => [0x06#8]
  | 2, 0 => [0x4E#8, 0x01#8]
  | 2, 1 => [0x50#8, 0x01#8]
  | 2, _ => [0x4C#8, 0x01#8]
  | _, 0 => [0x00#8, 0xB9#8]
  | _, 1 => [0x00#8, 0xC1#8]
  | _, _ => [0x00#8, 0xC9#8]

/-- A NAL unit in the channel's STREAM_FORMAT (Table 7-1). -/
def framed (format : Nat) (nal : List Byte) : List Byte :=
  (if format = 0 then leBytes 4 0x01000000 else beBytes 4 nal.length) ++ nal

/-- A user-data-unregistered SEI message under a UUID, as a NAL unit: payload type 5, its size, and the trailing bit. -/
def seiNal (codec kind : Nat) (uuid : Nat) (payload : List Byte) : List Byte :=
  nalHeader codec kind ++
    escapeNal 0 ([5#8, byteOf (16 + payload.length)] ++ beBytes 16 uuid ++ payload ++ [0x80#8])

/-- The Hasewin capture and certificate UUIDs (R176, R203). -/
def captureUuid : Nat := 0x48A5E7160C4A4B199E026D1F3B5A8C71
def certUuid : Nat := 0x48A5E71651C34D078B6E2A94F0C3D15E

/-- The 36 bytes of a capture record (Table 7-7). DEDUCED, log entry 96. -/
def State.captureRecord (s : State) (ch : Nat) (p : Pic) : List Byte :=
  let f := s.fmt ch
  beBytes 1 1 ++ beBytes 1 (if f.raw then f.cfa * 4 + (if f.pictures = 4 then p.stream else 0) else 0) ++
    beBytes 1 (if f.raw then f.rawMode else 0) ++ beBytes 1 s.dev ++ beBytes 4 p.frameCount ++ beBytes 8 p.capture ++
    beBytes 8 p.launch ++ beBytes 4 p.count ++ beBytes 4 (s.timeCode p.capture) ++ beBytes 4 p.applied

/-- The verify result of a picture two before, and its full count: 0 for the first two pictures of a stream and where no
verify ran; none while it is not yet known (R202). -/
def State.verifyOf (s : State) (ch : Nat) (p : Pic) : Option (Nat × Nat) :=
  if s.pval p.vals ch K.CH_BOUND_VERIFY = 0 ∨ p.num < 2 then some (0, 0)
  else match (Store.get (s.chan ch).rate {} p.stream).verified.find? (fun v => v.1 + 2 == p.num) with
    | some (_, pic, some r) => some (r, pic)
    | some (_, _, none) => none
    | none => some (0, 0)

/-- The 56 bytes of a certificate (Table 8-5), with its PIC_MD5. DEDUCED, log entry 105. -/
def State.certBytes (s : State) (ch : Nat) (p : Pic) (overrun : Bool) (md5 : List Byte) : List Byte :=
  let f := s.fmt ch
  let lossless := s.mode ch p = 6
  let (res, pic) := (s.verifyOf ch p).getD (0, 0)
  let b := fun (c : Bool) (k : Nat) => if c then 2 ^ k else 0
  let flags := b overrun 0 + b (s.pval p.vals ch K.CH_BOUND_VERIFY = 1) 1 + b (!p.adapted.isEmpty) 2
  beBytes 1 1 ++ beBytes 1 (if lossless then 2 else 1) ++
    beBytes 1 (if lossless then 0 else s.pval p.vals ch K.CH_BOUND_E) ++ beBytes 1 p.maxErr ++
    beBytes 1 (s.pval p.vals ch K.CH_BOUND_STEP) ++ beBytes 1 flags ++ beBytes 1 s.dev ++ beBytes 1 0 ++
    beBytes 4 p.count ++ beBytes 4 (s.regionCtus ch f p.stream).length ++ beBytes 4 p.recoded1 ++ beBytes 4 p.recoded2 ++
    beBytes 4 p.recoded3 ++ beBytes 4 p.losslessCtus ++ md5 ++ beBytes 1 res ++ beBytes 3 0 ++ beBytes 4 pic

/-- A filler data NAL unit of at least `n` bytes in the stream (R195). -/
def fillerNal (codec format n : Nat) : List Byte :=
  let head := nalHeader codec 2
  framed format (head ++ List.replicate (n - (head.length + 5)) 0xFF#8 ++ [0x80#8])

end Sys2Proof.Machine
end

