-- ==== Sys2Proof/Machine/Bitstream.lean ====
section
/-! DEFINITION. What the entropy engines make of coded CTUs: entropy states of substreams (R169, R183), slices, and the NAL
units of Table 7-6 (R172, R175, R195, R425). -/

namespace Sys2Proof.Machine

/-! ### MD5 (Table 8-5) -/

/-- The sine table of MD5, in four runs of 16. -/
def md5K0 : List W32 :=
  [0xD76AA478, 0xE8C7B756, 0x242070DB, 0xC1BDCEEE,
    0xF57C0FAF, 0x4787C62A, 0xA8304613, 0xFD469501,
    0x698098D8, 0x8B44F7AF, 0xFFFF5BB1, 0x895CD7BE,
    0x6B901122, 0xFD987193, 0xA679438E, 0x49B40821]
def md5K1 : List W32 :=
  [0xF61E2562, 0xC040B340, 0x265E5A51, 0xE9B6C7AA,
    0xD62F105D, 0x02441453, 0xD8A1E681, 0xE7D3FBC8,
    0x21E1CDE6, 0xC33707D6, 0xF4D50D87, 0x455A14ED,
    0xA9E3E905, 0xFCEFA3F8, 0x676F02D9, 0x8D2A4C8A]
def md5K2 : List W32 :=
  [0xFFFA3942, 0x8771F681, 0x6D9D6122, 0xFDE5380C,
    0xA4BEEA44, 0x4BDECFA9, 0xF6BB4B60, 0xBEBFBC70,
    0x289B7EC6, 0xEAA127FA, 0xD4EF3085, 0x04881D05,
    0xD9D4D039, 0xE6DB99E5, 0x1FA27CF8, 0xC4AC5665]
def md5K3 : List W32 :=
  [0xF4292244, 0x432AFF97, 0xAB9423A7, 0xFC93A039,
    0x655B59C3, 0x8F0CCC92, 0xFFEFF47D, 0x85845DD1,
    0x6FA87E4F, 0xFE2CE6E0, 0xA3014314, 0x4E0811A1,
    0xF7537E82, 0xBD3AF235, 0x2AD7D2BB, 0xEB86D391]

/-- Rotations of a round. -/
def md5Shifts (r : Nat) : List Nat := match r with
  | 0 => [7, 12, 17, 22]
  | 1 => [5, 9, 14, 20]
  | 2 => [4, 11, 16, 23]
  | _ => [6, 10, 15, 21]

/-- Step `i` of MD5 on the words of one block. -/
def md5Step (m : List W32) (x : W32 × W32 × W32 × W32) (i : Nat) : W32 × W32 × W32 × W32 :=
  let (a, b, c, d) := x
  let (f, g) := match i / 16 with
    | 0 => ((b &&& c) ||| (~~~b &&& d), i)
    | 1 => ((d &&& b) ||| (~~~d &&& c), (5 * i + 1) % 16)
    | 2 => (b ^^^ c ^^^ d, (3 * i + 5) % 16)
    | _ => (c ^^^ (b ||| ~~~d), 7 * i % 16)
  let k := ([md5K0, md5K1, md5K2, md5K3].getD (i / 16) []).getD (i % 16) 0
  let s := (md5Shifts (i / 16)).getD (i % 4) 0
  (d, b + (a + f + k + m.getD g 0).rotateLeft s, b, c)

/-- MD5 over one block of 64 bytes. -/
def md5Block (x : W32 × W32 × W32 × W32) (bs : List Byte) : W32 × W32 × W32 × W32 :=
  let m := (runsOf 4 16 bs).map (fun l => w32 (leNat l))
  let y := (List.range 64).foldl (md5Step m) x
  (x.1 + y.1, x.2.1 + y.2.1, x.2.2.1 + y.2.2.1, x.2.2.2 + y.2.2.2)

/-- MD5 of a run of bytes. -/
def md5 (bs : List Byte) : List Byte :=
  let pad := (119 - bs.length % 64) % 64
  let all := bs ++ [0x80#8] ++ List.replicate pad 0#8 ++ leBytes 8 (8 * bs.length % 2 ^ 64)
  let x := (runsOf 64 (all.length / 64) all).foldl md5Block (0x67452301, 0xEFCDAB89, 0x98BADCFE, 0x10325476)
  leBytes 4 x.1.toNat ++ leBytes 4 x.2.1.toNat ++ leBytes 4 x.2.2.1.toNat ++ leBytes 4 x.2.2.2.toNat

/-- PIC_MD5: over the reconstruction of the CTUs that this device codes, plane by plane, lines top to bottom (Table 8-5). -/
def State.picMd5 (s : State) (ch : Nat) (p : Pic) : List Byte :=
  let f := s.fmt ch
  let region := s.regionCtus ch f p.stream
  let bs := s.reconOf ch p
  let comps := if f.chroma = 0 then [0] else [0, 1, 2]
  md5 (comps.flatMap (fun comp =>
    let d := if comp = 0 then (1, 1) else chromaScale f.chroma
    (List.range (ceilDiv f.picH d.2)).flatMap (fun y => (List.range (ceilDiv f.picW d.1)).flatMap (fun x =>
      let part := x * d.1 / f.partW
      let c := f.ctuIndex part ((x * d.1 - part * f.partW) / f.ctu) (y * d.2 / f.ctu)
      if region.contains c then leBytes f.haloBps (f.codedFmt.reconSample bs comp x y) else []))))

/-! ### Entropy states (R169, R183) -/

/-- States of the contexts after a run of bins. -/
def runBins (codec : Nat) (ctx : Contexts) (bins : List Bin) : Contexts :=
  bins.foldl (fun m b => match b.ctx with
    | some i => Store.put m i (Config.ctxNext codec (ctxAt m i) b.bin)
    | none => m) ctx

/-- Bins of a CTU. -/
def State.binsOf (s : State) (ch : Nat) (p : Pic) (c : Nat) : List Bin :=
  match s.ctuCode p c with
  | some k => Config.ctuBins (s.toolsOf ch p) (((s.nearCtus ch p c).filterMap (s.ctuCode p)).flatMap (·.units)) k
  | none => []

/-- The standard's initial states for a slice of a picture. -/
def State.freshCtx (s : State) (ch : Nat) (p : Pic) : Contexts := Config.ctxInit (s.fmt ch).codec p.type.code p.base

/-- The states at the start of a CTU row of a wavefront: after the second CTU of the row above in H.265, after the first in
H.266, and the initial ones where there is none in its slice (R169). `n` rows of the tile lie above. -/
def State.rowCtx (s : State) (ch : Nat) (p : Pic) : Nat → Nat → Contexts
  | 0, _ => s.freshCtx ch p
  | n + 1, c =>
    let f := s.fmt ch
    let k := if f.codec = 2 then 2 else 1
    let up := (f.subCtus (c - f.parts * f.cols)).take k
    if up.length < k || !s.sameSlice ch p (c - f.parts * f.cols) c then s.freshCtx ch p
    else runBins f.codec (s.rowCtx ch p n (c - f.parts * f.cols)) (up.flatMap (s.binsOf ch p))

/-- The entropy state with which the chunk that begins at a CTU of a substream starts: `last` is that after the chunk before
it, which only the dependent slice segments of H.265 go on with. -/
def State.chunkCtx (s : State) (ch : Nat) (p : Pic) (c : Nat) (last : Option Contexts) : Contexts :=
  let f := s.fmt ch
  if f.wavefront then s.rowCtx ch p (f.ctuRow c - f.tileFirstRow c) c
  else if f.codec = 2 then last.getD (s.freshCtx ch p) else s.freshCtx ch p

/-- Substreams of a chunk, in order: the CTUs of each. -/
def State.chunkSubs (s : State) (ch : Nat) (k : Nat × Nat) : List (List Nat) :=
  let f := s.fmt ch
  let all := f.chunkCtus k.1 k.2
  if f.wavefront then
    (List.range (k.2 + 1 - f.ctuRow k.1)).map (fun i => all.filter (fun c => f.ctuRow c = f.ctuRow k.1 + i))
  else [all]

/-! ### Facts of the NAL units -/

/-- C and CPB of a stream (R193, R195). -/
def State.hrdFacts (s : State) (ch : Nat) (p : Pic) : Option HrdFacts :=
  let (n, d) := s.rateShare ch (s.fmt ch)
  let c := rdiv (s.ceilingRate ch p * n) d
  let cpb := rdiv (s.cpb ch p) 65536
  if s.pval p.vals ch K.CH_CODEC_HRD_SEI = 1 then
    some { rate := c, cpb := cpb, cbr := s.mode ch p = 2, delay := (cpb, 2 * c) }
  else none

/-- What the parameter sets of a picture's stream say, with identical content in the streams of a frame (R175). -/
def State.paramFacts (s : State) (ch : Nat) (p : Pic) : ParamFacts :=
  let f := s.fmt ch
  { tools := s.toolsOf ch p, profile := s.cv ch K.CH_CODEC_PROFILE, level := f.levelOf (s.cv ch K.CH_CODEC_LEVEL)
    tier := s.cv ch K.CH_CODEC_TIER, width := f.picW, height := f.picH, rate := (f.num, f.den), parts := f.parts
    colStarts := f.colStarts, rowStarts := f.rowStarts
    chunkRows := if s.pval p.vals ch K.CH_TILING_CHUNK_MODE = 0 then 0 else s.pval p.vals ch K.CH_TILING_CHUNK_ROWS
    bPictures := s.pval p.vals ch K.CH_CODEC_B_PICTURES, hrd := s.hrdFacts ch p }

/-- What the slice of a chunk says. In H.265 the first chunk of a tile is an independent slice segment and the rest are
dependent ones; the other standards code slices (R172). -/
def State.sliceFacts (s : State) (ch : Nat) (p : Pic) (k : Nat × Nat) : SliceFacts :=
  let f := s.fmt ch
  { params := s.paramFacts ch p, num := p.num, type := p.type.code, irap := p.irap
    idr := p.irap && s.pval p.vals ch K.CH_CODEC_IRAP_KIND = 0, isRef := p.isRef, j := p.j, order := p.frameSeq
    refOrders := (List.range p.refs.length).filterMap (fun i => (s.refFb ch p i).map (fun e => e.2.order))
    base := p.base, alf := ((s.fb? p.fb).map (fun b => Store.get b.alf [] p.stream)).getD []
    first := k.1, lastRow := k.2, dependent := f.codec == 2 && f.ctuRow k.1 ≠ f.tileFirstRow k.1 }

/-! ### The bytes of a chunk -/

/-- The bytes of each substream of a chunk, from the entropy state at its start. -/
def State.subBytes (s : State) (ch : Nat) (p : Pic) (k : Nat × Nat) (saved : Contexts) : List (List Byte) :=
  let f := s.fmt ch
  (s.chunkSubs ch k).map (fun l =>
    let start := if f.wavefront then s.chunkCtx ch p (l.headD 0) none else saved
    Config.arithBytes f.codec start (l.flatMap (s.binsOf ch p)))

/-- Bins of a run of CTUs. -/
def State.binCount (s : State) (ch : Nat) (p : Pic) (l : List Nat) : Nat := (l.map (fun c => (s.binsOf ch p c).length)).sum

/-- This device emits the prefix NAL units: outside an array, or as coordinator (R289). -/
def State.emitsPrefix (s : State) (f : Fmt) : Bool := !f.array || s.array.coordinator == s.dev

/-- The prefix NAL units of a picture (Table 7-6): delimiter, parameter sets, ALF filter sets, and SEI. -/
def State.prefixNals (s : State) (ch : Nat) (p : Pic) (x : SliceFacts) : List (List Byte) :=
  let codec := (s.fmt ch).codec
  let nal := fun (c : Bool) (k : NalKind) => if c then [Config.standardNal k x []] else []
  let hrd := x.params.hrd.isSome
  nal true .delimiter ++ nal (p.newParams && codec == 2) .vps ++ nal p.newParams .sps ++ nal p.newParams .pps ++
    nal (x.params.tools.alf && !x.alf.isEmpty) .aps ++
    (if s.pval p.vals ch K.CH_CODEC_CAPTURE_SEI = 1 then [seiNal codec 0 captureUuid (s.captureRecord ch p)] else []) ++
    nal (hrd && p.irap) .bufferingPeriod ++ nal hrd .pictureTiming

/-- The suffix NAL units of a picture but for certificate and filler: the decoded picture hash, over a whole picture, which a
device of an array does not have. DEDUCED, log entry 245. -/
def State.suffixNals (s : State) (ch : Nat) (p : Pic) (x : SliceFacts) : List (List Byte) :=
  let f := s.fmt ch
  if s.pval p.vals ch K.CH_CODEC_HASH_SEI ≠ 0 && f.codec ≠ 1 && !f.array then
    [Config.standardNal .pictureHash x (s.reconOf ch p)] else []

/-- Bits of a picture's access unit. -/
def Pic.bits (p : Pic) : Nat := 8 * (p.chunks.map (fun k => k.data.length)).sum

/-- Bytes of filler that CBR needs: what is missing for F − C × T + S to be 0 (R195). DEDUCED, log entry 97. -/
def State.fillerBytes (s : State) (ch : Nat) (p : Pic) (bits : Nat) : Nat :=
  if s.mode ch p ≠ 2 then 0
  else
    let x := Store.get (s.chan ch).rate {} p.stream
    let drain := s.perPicture ch (s.fmt ch) (s.ceilingRate ch p)
    ceilDiv (drain - (x.bucket + bits * 65536)) (8 * 65536)

/-- The picture exceeds its ceiling: F > CPB afterwards (R193). -/
def State.overCeiling (s : State) (ch : Nat) (p : Pic) (bits : Nat) : Bool :=
  s.ceilingRate ch p ≠ 0 &&
    decide (s.cpb ch p < bucketAfter (Store.get (s.chan ch).rate {} p.stream).bucket
      (s.perPicture ch (s.fmt ch) (s.ceilingRate ch p)) bits)

/-- The bytes of a chunk: its slice, with the prefix NAL units in a picture's first chunk, and in its last one hash,
certificate and filler. -/
def State.chunkBytes (s : State) (ch : Nat) (p : Pic) (k : Nat × Nat) (saved : Contexts) (soc eop : Bool) : List Byte :=
  let f := s.fmt ch
  let format := s.pval p.vals ch K.CH_CODEC_STREAM_FORMAT
  let x := s.sliceFacts ch p k
  let pre := if soc && s.emitsPrefix f then s.prefixNals ch p x else []
  let post := if eop then s.suffixNals ch p x else []
  let data := ((pre ++ [Config.sliceNal x (s.subBytes ch p k saved)] ++ post).map (framed format)).flatten
  if !eop then data
  else if s.bounded ch p && !p.isVoid then
    let withCert := fun (exceeds : Bool) =>
      data ++ framed format (seiNal f.codec 1 certUuid (s.certBytes ch p exceeds (s.picMd5 ch p)))
    withCert (s.overCeiling ch p (p.bits + 8 * (withCert false).length))
  else
    let n := s.fillerBytes ch p (p.bits + 8 * data.length)
    if n = 0 then data else data ++ fillerNal f.codec format n

/-- End of sequence of a stream, in the stream's format. -/
def State.endBytes (s : State) (ch : Nat) (p : Pic) : List Byte :=
  framed (s.pval p.vals ch K.CH_CODEC_STREAM_FORMAT) (Config.standardNal .endOfSequence (s.sliceFacts ch p (0, 0)) [])

end Sys2Proof.Machine
end

