-- ==== Sys2Proof/Machine/Coding.lean ====
section
/-! DEFINITION. Coding: pictures start, CTUs are issued and completed, chunks are coded and emitted, and emitted pictures are
verified (R164 to R174, R179, R192 to R206, R233, R240 to R245, R289, R291, R296, R299, R300). -/

namespace Sys2Proof.Machine

/-! ### Loads and capacity (R23, R24) -/

/-- Sum of exact fractions. -/
def Frac.add (a b : Frac) : Frac := ⟨a.n * b.d + b.n * a.d, a.d * b.d⟩

/-- One exact fraction at most another. -/
def Frac.le (a b : Frac) : Bool := decide (a.n * b.d ≤ b.n * a.d)

/-- Present capacity in ‰ of PX, MS, entropy and front ends. -/
def State.capPx (s : State) : Frac := ⟨1000 * s.activeOf .px, 64⟩
def State.capMs (s : State) : Frac := ⟨(((List.range 8).map (fun c => s.inServiceOf .ms c * 625)).sum), 10⟩
def State.capEe (s : State) : Frac := ⟨1000 * s.activeOf .ee, 48⟩
def State.capDf (s : State) : Frac := ⟨1000 * s.activeOf .df, 16⟩

/-- The summed load of all open and draining channels on a resource. -/
def State.loadSum (s : State) (g : Load → Frac) : Frac :=
  ((s.chans.filter (fun e => e.2.working)).map (fun e => g e.2.load)).foldl Frac.add ⟨0, 1⟩

/-- Every resource load is within present capacity. -/
def State.loadsFit (s : State) : Bool :=
  (s.loadSum (·.px)).le s.capPx && (s.loadSum (·.ms)).le s.capMs && (s.loadSum (·.ee)).le s.capEe &&
    (s.loadSum (·.df)).le s.capDf

/-- A resource that the channel loads is over present capacity: DEGRADED (Table 4-17). -/
def State.degraded (s : State) (ch : Nat) : Bool :=
  let l := (s.chan ch).load
  (l.px.n ≠ 0 && !(s.loadSum (·.px)).le s.capPx) || (l.ms.n ≠ 0 && !(s.loadSum (·.ms)).le s.capMs) ||
    (l.ee.n ≠ 0 && !(s.loadSum (·.ee)).le s.capEe) || (l.df.n ≠ 0 && !(s.loadSum (·.df)).le s.capDf)

/-! ### PICTURE_START -/

/-- A picture becomes unused for reference: its buffer's mark clears once every picture of the frame is (Table 10-7). DEDUCED, log entry 127. -/
def FrameBuf.unref (b : FrameBuf) (pic : Nat) : FrameBuf :=
  match b.pic with
  | none => b
  | some (p, n) =>
    let l := if b.unrefd.contains pic then b.unrefd else b.unrefd ++ [pic]
    let all := (List.range n).all (fun i => l.contains (p + i))
    { b with unrefd := l, shortRef := b.shortRef && !all, longRef := b.longRef && !all }

/-- The standard's marking of earlier pictures of a stream (Table 10-7): at an IDR every one becomes unused. -/
def State.markRefs (s : State) (ch stream : Nat) (idr : Bool) (unref longTerm : List Nat) : State :=
  s.each (s.fbsOf ch) (fun s e =>
    match e.2.pic with
    | none => s
    | some (p, n) =>
      let hit := (List.range n).filter (fun i => unref.contains (p + i) || (idr && i == stream))
      let long := (List.range n).any (fun i => longTerm.contains (p + i))
      let b := hit.foldl (fun b i => b.unref (p + i)) e.2
      let b := if long && (b.shortRef || b.longRef) then { b with shortRef := false, longRef := true } else b
      s.setFb e.1 b)

/-- The references that a picture may use: pictures of its own stream whose buffers are marked (R141). -/
def State.usableRefs (s : State) (ch stream : Nat) (refs : List Nat) : List Nat :=
  (refs.eraseDups).filter (fun r => (s.fbsOf ch).any (fun e =>
    (e.2.shortRef || e.2.longRef) && !e.2.unrefd.contains r && (match e.2.pic with
      | some (p, n) => p ≤ r && r < p + n && (n = 1 || r - p == stream)
      | none => false)))

/-- The frame buffer of a launched frame: the one taken by its first picture, or an UNUSED one (R243 to R245). -/
def State.fbForFrame (s : State) (ch : Nat) (l : Launched) : Option Nat :=
  match l.base with
  | some b => if l.startedPhases = 0 then s.unusedFb ch else s.fbOfPic ch b
  | none => s.unusedFb ch

/-- A frame buffer takes a new frame (Table 10-7). -/
def State.openFb (s : State) (ch n : Nat) (l : Launched) (base : Nat) : State :=
  let f := s.fmt ch
  let peers := (s.facing ch f).foldl (fun m d => setBit m d true) 0
  match s.fb? n with
  | none => s
  | some b => { s with fbs := Store.put s.fbs n { b with
      of_ := ch, shortRef := l.isRef, longRef := false, outHold := true
      verifyHold := s.pval l.vals ch K.CH_BOUND_VERIFY = 1, haloHold := peers ≠ 0, haloPeers := peers, haloFinals := [], launch := l.time
      pic := some (base, f.pictures), compBytes := 0, verifyLeft := [], verifyBad := [], unrefd := [], recon := [], rowAt := [], p0 := [], codes := [], tools := none, alf := []
      halo := [], field := [], order := l.frameSeq, firstRef := none } }

/-- The first launched frame in coding order and the launch that has it. -/
def Chan.nextCoded (c : Chan) : Option Launched :=
  match c.order with
  | q :: _ => c.launched.find? (·.frameSeq == q)
  | [] => none

/-- The history entry of a launch shows the picture count that its frame has taken (Table 15-11). -/
def Chan.fixHistory (c : Chan) (time : Time) (base : Nat) : Chan :=
  { c with history := c.history.map (fun h => if h.1 = time then (h.1, base, h.2.2) else h) }

/-- The first frame after OPEN is its own statistics frame: it starts once all its rows are ready (R190). -/
def State.statReady (s : State) (ch : Nat) (l : Launched) : Bool :=
  match (s.chan ch).frame? l.frameSeq with
  | some x => x.stat.isSome || (s.fmt ch).rowKeys.all (fun k => (Store.find? x.rowAt k).isSome)
  | none => true

/-- Every condition but the frame buffer is met: the picture starts in buffer `n`. -/
def State.startPicture (s : State) (ch stream n : Nat) (l : Launched) (refs unref longTerm : List Nat) : State :=
  let f := s.fmt ch
  let c := s.chan ch
  let base := l.base.getD c.picCount
  let idr := l.irap && s.pval l.vals ch K.CH_CODEC_IRAP_KIND = 0
  let s := s.markRefs ch stream idr unref longTerm
  let refs := if l.irap then [] else s.usableRefs ch stream refs
  let s := if stream = 0 then s.openFb ch n l base else s
  let x := c.frame? l.frameSeq
  let p : Pic := {
    stream := stream, count := base + stream, num := (Store.get c.rate {} stream).started, frameSeq := l.frameSeq
    frameCount := (x.map (·.frameCount)).getD 0, capture := (x.map (·.capture)).getD 0, launch := l.time, type := l.type
    irap := l.irap, skipped := l.skip, isVoid := l.isVoid, refs := refs, base := 0, fb := n, j := l.j, isRef := l.isRef
    vals := l.vals, roi := l.roi, allIntra := l.allIntra, applied := l.applied }
  let (qp, rate) := s.planPicture ch p
  let verify := s.pval l.vals ch K.CH_BOUND_VERIFY = 1
  let rate := if verify then { rate with verified := (rate.verified ++ [(p.num, p.count, none)]).drop (rate.verified.length - 31) }
    else rate
  let params := s.paramFacts ch { p with base := qp }
  let p := { p with base := qp, newParams := l.irap || Store.find? c.sentParams stream ≠ some params }
  let lag := s.pval l.vals ch K.CH_RATE_LAG
  let alf := ((rate.alf.filter (fun e => e.1 + lag ≤ p.num)).getLast?.map Prod.snd).getD []
  let s := s.modChan ch (fun c =>
    let c := (if stream = 0 then c.fixHistory l.time base else c).fbFound
    { c with
      pics := c.pics ++ [p], rate := Store.put c.rate stream rate, sentParams := Store.put c.sentParams stream params
      picCount := if l.base.isNone then base + f.pictures else c.picCount
      launched := c.launched.map (fun (x : Launched) =>
        if x.frameSeq = l.frameSeq then { x with base := some base, startedPhases := stream + 1 } else x)
      order := if stream + 1 = f.pictures then c.order.drop 1 else c.order, qpWait := none })
  let s := s.modFb n (fun b => { b with tools := some (s.toolsOf ch p), alf := Store.put b.alf stream alf })
  let s := if verify then
    s.each ((s.fbsOf ch).filter (fun e => e.1 == n || refs.any e.2.holds)) (fun s e =>
      s.modFb e.1 (fun b => { b with verifyLeft := b.verifyLeft ++ [p.count] })) else s
  let s := if s.mode ch p = 6 then s else s.setRo (chKey ch K.CH_RATE_STATUS_LAST_BASE_QP) (ofSigned 8 qp)
  let s := if l.skip then s.cbump ch K.CH_RATE_STATUS_SKIPPED_PICS 1 else s
  (s.noteClosedHalo ch p).requestHalos ch p

/-- PICTURE_START: the next picture in coding order starts, once the sizes that R192 names are known and a frame buffer is
UNUSED, and after the instant of its launch (log entry 225). The waits are counted (R192, R245). -/
def execPictureStart (t : Time) (ch stream : Nat) (refs : List Nat) (unref longTerm : List Nat) (s : State) : Out :=
  inRange "CH" ch 256 <| inRange "STREAM" stream 4 <| live t s (fun s =>
    let c := s.chan ch
    match c.nextCoded with
    | none => s
    | some l =>
      let x := Store.get c.rate {} stream
      if s.fatal || s.arrayStopped ch || !c.working || stream ≠ l.startedPhases || s.time ≤ l.time || !s.statReady ch l then s
      else if !x.sizesKnown x.started (s.pval l.vals ch K.CH_RATE_LAG) then
        s.modChan ch (fun c => { c with qpWait := c.qpWait.orElse (fun _ => some s.time) })
      else
        let s := match c.qpWait with
          | some w => (s.cbump ch K.CH_RATE_STATUS_QP_WAIT_NS (s.since w)).modChan ch (fun c => { c with qpWait := none })
          | none => s
        match s.fbForFrame ch l with
        | none =>
          if c.fbWait.isSome then s
          else s.awaitFb ch (l.base.getD c.picCount)
        | some n =>
          let s := match c.fbWait with
            | some w => s.cbump ch K.CH_REFS_FB_WAIT_NS (s.since w)
            | none => s
          s.startPicture ch stream n l refs unref longTerm)

/-! ### Substreams and engines (R164, R165, R169) -/

/-- The engine that holds a substream. -/
def State.engineOf (s : State) (ch pic sub : Nat) : Option Nat :=
  (List.range UnitKind.ee.total).find? (fun n => match (s.unit .ee n).grant with
    | some g => g.chan == ch && g.pic == pic && g.idx == sub && !g.verify
    | none => false)

/-- A substream waits for an engine after its own was lost. -/
def State.subWaits (s : State) (ch pic sub : Nat) : Bool :=
  s.reissue.any (fun e => e.1 == UnitKind.ee.code && e.2.chan == ch && e.2.pic == pic && e.2.idx == sub)

/-- Substreams of a channel, or of one tile of a picture, that hold or wait for an engine. -/
def State.subsHeld (s : State) (q : Grant → Bool) : Nat :=
  ((List.range UnitKind.ee.total).filter (fun n => match (s.unit .ee n).grant with
    | some g => q g
    | none => false)).length + (s.reissue.filter (fun e => e.1 == UnitKind.ee.code && q e.2)).length

/-- A further substream of a picture may be given an engine: one at a time in a standard channel, up to WPP_ENGINES of a
tile with wavefronts (R165, R169). -/
def State.mayOpenSub (s : State) (ch : Nat) (p : Pic) (sub : Nat) : Bool :=
  let f := s.fmt ch
  if !(s.chan ch).wide then s.subsHeld (fun g => g.chan == ch && !g.verify) = 0
  else s.subsHeld (fun g => g.chan == ch && g.pic == p.count && g.idx / 4096 == sub / 4096) <
    (if f.wavefront then f.wpp else 1)

/-- A CTU's neighbours in its tile are reconstructed: left, above, and above to the right. DEDUCED, log entry 85. -/
def Pic.neighboursDone (p : Pic) (f : Fmt) (c : Nat) : Bool :=
  let col := f.ctuCol c
  let row := f.ctuRow c
  let up := fun (x : Nat) => f.ctuIndex (f.ctuPart c) x (row - 1)
  (f.tileFirstCol c = col || p.done.contains (c - 1)) &&
    (f.tileFirstRow c = row || p.done.contains (up (if col + 1 < f.tileEndCol c then col + 1 else col)))

/-- The CTU that the engine of a substream needs next: every earlier one of the substream is done. -/
def Pic.nextNeeded (p : Pic) (f : Fmt) (c : Nat) : Bool := ((f.subCtus c).takeWhile (· ≠ c)).all p.done.contains

/-- A pixel core holds the CTU. -/
def State.ctuInFlight (s : State) (ch pic c : Nat) : Bool :=
  (List.range UnitKind.px.total).any (fun n => match (s.unit .px n).grant with
    | some g => g.chan == ch && g.pic == pic && g.idx == c
    | none => false)

/-- The engine's side: the substream holds an engine, or starts here and one may be given. -/
def State.subReady (s : State) (ch : Nat) (p : Pic) (c : Nat) : Bool :=
  let f := s.fmt ch
  let sub := f.subOf c
  if (s.engineOf ch p.count sub).isSome then true
  else !s.subWaits ch p.count sub && (f.subCtus c).head? = some c && (Store.find? p.subs sub).isNone &&
    s.mayOpenSub ch p sub && !(s.freeUnits .ee).isEmpty

/-- Everything R164 asks for but the halo and the room for the record, and the reference rows within reach (R155, R174). -/
def State.ctuReady (s : State) (ch : Nat) (p : Pic) (c : Nat) : Bool :=
  let f := s.fmt ch
  (s.regionCtus ch f p.stream).contains c && !p.done.contains c && !s.ctuInFlight ch p.count c &&
    s.rowNoted ch p (p.partOf f c) (f.ctuRow c) && s.rowSearched ch p (f.ctuRow c) && s.refsReady ch p (f.ctuRow c) &&
    p.neighboursDone f c && s.subReady ch p c

/-! ### Firn and the spill region (R166, R167) -/

/-- Bytes of one Firn share. DEDUCED, log entry 84. -/
def firnShare : Nat := 6 * 2 ^ 20

/-- Bytes that a cluster's share holds or keeps, and that the spill region does. -/
def State.firnFill (s : State) (cluster : Nat) : Nat :=
  ((s.firn.filter (fun e => e.1 % 8 == cluster && !e.2.spill)).map (fun e => e.2.bytes)).sum
def State.spillFill (s : State) : Nat := ((s.firn.filter (fun e => e.2.spill)).map (fun e => e.2.bytes)).sum

/-- Bytes of records written to the spill region. -/
def State.spillWritten (s : State) : Nat := ((s.firn.filter (fun e => e.2.spill && e.2.written)).map (fun e => e.2.bytes)).sum

/-- Largest record of a CTU: 4 bytes for each of its samples (R166). -/
def Fmt.recordMax (f : Fmt) (c : Nat) : Nat := 4 * f.ctuSamples c

/-- Room that a share keeps: one largest record for each engine of its cluster that holds a grant (R166). -/
def State.shareKeeps (s : State) (cluster : Nat) : Nat :=
  ((List.range UnitKind.ee.perCluster).map (fun i => match (s.unit .ee (cluster * UnitKind.ee.perCluster + i)).grant with
    | some g => 4 * (s.fmt g.chan).withChroma ((s.fmt g.chan).ctu ^ 2)
    | none => 0)).sum

/-- A new record of a share is to be spilled: the share has reached SPILL_THRESH percent, or it has no room beyond what it
keeps. -/
def State.spills (s : State) (cluster bytes : Nat) : Bool :=
  decide (s.v K.CODING_CONFIG_SPILL_THRESH * firnShare ≤ 100 * s.firnFill cluster ∨
    firnShare < s.firnFill cluster + bytes + s.shareKeeps cluster)

/-- The spill region has room for a record. -/
def State.spillRoom (s : State) (bytes : Nat) : Bool := s.spillFill + bytes ≤ (s.dram.regions.getD 4 (0, 0)).2

/-- Where the record of a CTU will go, with its engine in a cluster: the spill region or the share; nowhere yet if it would
need spill room that there is not. The record that the engine needs next always finds space in what the share keeps (R166,
R167). Room is kept from the issue on. DESIGN CHOICE, log entry 244. -/
def State.recordPlace (s : State) (ch : Nat) (p : Pic) (c cluster : Nat) : Option Bool :=
  let f := s.fmt ch
  if !s.spills cluster (f.recordMax c) then some false
  else if s.spillRoom (f.recordMax c) then some true
  else if p.nextNeeded f c then some false else none

/-- A CTU whose record has a place since an earlier issue, or has one in the cluster of its engine or of some free engine. -/
def State.placed (s : State) (ch : Nat) (p : Pic) (c : Nat) : Bool :=
  s.firn.any (fun e => e.1 / 8 == recKey ch p.count c 0 / 8) ||
    (match s.engineOf ch p.count ((s.fmt ch).subOf c) with
      | some e => (s.recordPlace ch p c (clusterOf .ee e)).isSome
      | none => (s.freeUnits .ee).any (fun e => (s.recordPlace ch p c (clusterOf .ee e)).isSome))

/-- A CTU can be issued now. -/
def State.issuable (s : State) (ch : Nat) (p : Pic) (c : Nat) : Bool :=
  !s.arrayStopped ch && s.ctuReady ch p c && s.haloArrived ch p ((s.fmt ch).ctuRow c) && s.placed ch p c

/-- A picture launched earlier has a CTU that can be issued: it goes first (R164). DEDUCED, log entry 82. -/
def State.earlierFirst (s : State) (p : Pic) : Bool :=
  s.chans.any (fun e => e.2.working && e.2.pics.any (fun x =>
    decide (x.launch < p.launch) && (s.regionCtus e.1 (s.fmt e.1) x.stream).any (s.issuable e.1 x)))

/-! ### CTU_ISSUE -/

/-- With TIME_ADAPT a row whose first CTU is issued late is adapted (R179). -/
def State.adapt (s : State) (ch : Nat) (p : Pic) (c : Nat) : State :=
  let f := s.fmt ch
  let row := f.ctuRow c
  let first := p.issued.all (fun e => f.ctuRow e.1 ≠ row)
  if s.pval p.vals ch K.CH_CODEC_TIME_ADAPT = 1 && first &&
      decide ((row + 1) * f.den * 1000000000 < (s.time - p.launch) * f.num * f.rows) then
    (s.modPic ch p.count (fun p => { p with adapted := p.adapted ++ [row] })).cbump ch K.CH_CODE_STATUS_ADAPTED_ROWS 1
  else s

/-- The CTU goes to a pixel core; its substream takes an engine if it starts here, with the entropy state saved; its record
has a place from now on; a repeated grant keeps its generation and its place. -/
def State.issueCtu (s : State) (px ee ch : Nat) (p : Pic) (c : Nat) (spill : Bool) : State :=
  let f := s.fmt ch
  let sub := f.subOf c
  let s := s.adapt ch p c
  let engine := s.engineOf ch p.count sub
  let s :=
    if engine.isSome then s
    else (s.giveGrant .ee ee { chan := ch, pic := p.count, idx := sub, ref := c }).modPic ch p.count (fun p =>
      { p with subs := Store.put p.subs sub { chunkStart := c, saved := s.chunkCtx ch p c none } })
  let cluster := clusterOf .ee (engine.getD ee)
  let s := if s.firn.any (fun e => e.1 / 8 == recKey ch p.count c 0 / 8) then s
    else
      let place : FirnRecord := { bytes := f.recordMax c, spill := spill, written := false }
      { s with firn := Store.put s.firn (recKey ch p.count c cluster) place }
  let g : Grant := { chan := ch, pic := p.count, idx := c }
  let (g, s) := match s.waitingGrant .px g with
    | some old =>
      (old, (((s.dropWaiting .px g).tick K.CODING_COUNTERS_CTU_REPEATS 1).cbump ch K.CH_CODE_STATUS_CTU_REPEATS 1).noteRepeat
        ch p.count [c])
    | none => (g, s)
  (s.giveGrant .px px g).modPic ch p.count (fun p => { p with issued := Store.put p.issued c g.gen })

/-- A CTU's wait for spill room begins, raised once (R167), and ends with its time counted. -/
def State.spillWaits (s : State) (ch : Nat) (p : Pic) (c : Nat) : State :=
  if (Store.find? p.spillWaits c).isSome then s
  else (s.modPic ch p.count (fun x => { x with spillWaits := Store.put x.spillWaits c s.time })).raise F.FIRN_SPILL_FULL
    { loc := (s.fmt ch).ctuLoc ch p.count c }
def State.spillWaited (s : State) (ch : Nat) (p : Pic) (c : Nat) : State :=
  match Store.find? p.spillWaits c with
  | some t => (s.tick K.CODING_COUNTERS_SPILL_WAIT_NS (s.since t)).modPic ch p.count (fun x =>
      { x with spillWaits := Store.erase x.spillWaits c })
  | none => s

/-- CTU_ISSUE: `ee` is used where the substream starts here. -/
def execCtuIssue (t : Time) (px ee ch pic ctu : Nat) (s : State) : Out :=
  inRange "PX" px 72 <| inRange "EE" ee 56 <| inRange "CH" ch 256 <| live t s (fun s =>
    match (s.chan ch).pic? pic with
    | none => s
    | some p =>
      let f := s.fmt ch
      let engine := s.engineOf ch pic (f.subOf ctu)
      let place := if s.firn.any (fun e => e.1 / 8 == recKey ch pic ctu 0 / 8) then some false
        else s.recordPlace ch p ctu (clusterOf .ee (engine.getD ee))
      if s.fatal || s.arrayStopped ch || !(s.chan ch).working || !s.unitFree .px px || (engine.isNone && !s.unitFree .ee ee) ||
          !s.ctuReady ch p ctu || s.earlierFirst p then s
      else if !s.haloArrived ch p (f.ctuRow ctu) then (s.haloWaits ch).noteRepeat ch pic [ctu]
      else match place with
        | none => (s.haloWaited ch).spillWaits ch p ctu
        | some spill => ((s.haloWaited ch).spillWaited ch p ctu).issueCtu px ee ch p ctu spill)

/-! ### PIXEL_GRANT_COMPLETE -/

/-- A CTU's code and reconstruction reach the reference pool (R198, R242): rows of its picture that are now whole are noted,
and a whole picture can be read back and gives the ALF filter sets of later ones (R175). DEDUCED, log entry 129. -/
def State.reconWritten (s : State) (ch : Nat) (p : Pic) (c : Nat) (code : CtuCode) : State :=
  let f := s.fmt ch
  let raw := f.ctuSamples c * f.haloBps
  let stored := min (raw * 65 / 64) (Config.storedBytes s.free)
  let s := ((s.draws).tick K.POOL_COUNTERS_REF_BYTES_RAW raw).tick K.POOL_COUNTERS_REF_BYTES_STORED stored
  let region := s.regionCtus ch f p.stream
  let rowDone := (region.filter (fun x => f.ctuRow x = f.ctuRow c)).all p.done.contains
  let whole := region.all p.done.contains
  let s := s.modFb p.fb (fun b => { b with
    codes := Store.put b.codes (codeKey p.stream c) code, compBytes := b.compBytes + stored
    rowAt := if rowDone then Store.put b.rowAt (p.stream * 65536 + f.ctuRow c) s.time else b.rowAt })
  if !whole then s
  else
    let recon := s.reconOf ch p
    let p0 := s.p0Rows ch p.frameSeq
    let t := s.toolsOf ch p
    let s := s.modFb p.fb (fun b => { b with recon := Store.put b.recon p.stream recon, p0 := p0 })
    if !t.alf then s
    else
      let sets := Config.alfDerive t (s.sourceBytes ch p) recon
      s.modChan ch (fun c =>
        let x := Store.get c.rate {} p.stream
        let l := (x.alf ++ [(p.num, sets)]).mergeSort (fun a b => a.1 ≤ b.1)
        { c with rate := Store.put c.rate p.stream { x with alf := l.drop (l.length - 16) } })

/-- A CTU's symbol record takes the place kept for it: in the share of its substream's home cluster, or in the spill region
(R165 to R167). -/
def State.writeRecord (s : State) (ch : Nat) (p : Pic) (c bytes : Nat) : State :=
  match List.find? (fun e => e.1 / 8 == recKey ch p.count c 0 / 8) s.firn with
  | none => s
  | some (key, r) =>
    let s := { s with firn := Store.put s.firn key { r with bytes := bytes, written := true } }
    let held := ((s.firn.filter (fun e => e.1 % 8 == key % 8 && !e.2.spill && e.2.written)).map (fun e => e.2.bytes)).sum
    let s := s.raiseRo K.CODING_CONFIG_FIRN_PEAK (min 255 (100 * held / firnShare))
    if r.spill then
      let s := (s.tick K.CODING_COUNTERS_SPILL_BYTES_OUT bytes).cbump ch K.CH_CODE_STATUS_SPILL_BYTES bytes
      (s.raiseRo K.CODING_CONFIG_SPILL_PEAK (ceilDiv s.spillWritten 1024)).noteRepeat ch p.count [c]
    else s

/-- The outcome of the bound check is recorded with the picture and counted (R198). -/
def State.recordCheck (s : State) (ch : Nat) (p : Pic) (c : Nat) (r : CtuResult) : State :=
  match r with
  | .unchecked => s
  | .passed k err =>
    let s := s.modPic ch p.count (fun p => { p with
      maxErr := max p.maxErr err, recoded1 := p.recoded1 + (if k = 1 then 1 else 0)
      recoded2 := p.recoded2 + (if k = 2 then 1 else 0), recoded3 := p.recoded3 + (if k = 3 then 1 else 0) })
    let s := s.raiseRo (chKey ch K.CH_RATE_STATUS_MAX_ERR) (min 255 err)
    if k = 0 then s
    else ((s.cbump ch K.CH_RATE_STATUS_RECODED_CTUS 1).tick K.RATE_COUNTERS_RECODE_ATTEMPTS k).noteRepeat ch p.count [c]
  | .lossless k err =>
    let s := s.modPic ch p.count (fun p => { p with maxErr := max p.maxErr err, losslessCtus := p.losslessCtus + 1 })
    let s := (s.raiseRo (chKey ch K.CH_RATE_STATUS_MAX_ERR) (min 255 err)).cbump ch K.CH_RATE_STATUS_LOSSLESS_CTUS 1
    let s := s.tick K.RATE_COUNTERS_RECODE_ATTEMPTS (k - 1 + 1)
    let s := if k = 0 then s else s.noteRepeat ch p.count [c]
    if err = 0 then s else s.raise F.BOUND_LOSSLESS_MISMATCH { loc := (s.fmt ch).ctuLoc ch p.count c }

/-- PIXEL_GRANT_COMPLETE: the CTU is coded under its check, and after it record and reconstruction are released (R198). The
command tells of a defect in the lossless coding: the error that it left. -/
def execPixelGrantComplete (t : Time) (px slip : Nat) (s : State) : Out :=
  inRange "PX" px 72 <| live t s (fun s =>
    match (s.unit .px px).grant with
    | none => s
    | some g =>
      let ch := g.chan
      match (s.chan ch).pic? g.pic with
      | none => s.endGrant .px px
      | some p =>
        let c := g.idx
        let x := s.codeCtu ch p c slip
        let s := (((s.endGrant .px px).tick K.CODING_COUNTERS_PX_GRANTS 1).cacheUse (Config.cacheHits s.free)
          (Config.cacheMisses s.free) (Config.cacheRefetch s.free)).draws
        let s := (s.recordCheck ch p c x.result).cbump ch K.CH_SEARCH_STATUS_CLIPPED x.clips
        let s := s.raiseRo (chKey ch K.CH_SEARCH_STATUS_MAX_MV_X) (min 65535 x.code.maxMv.1)
        let s := s.raiseRo (chKey ch K.CH_SEARCH_STATUS_MAX_MV_Y) (min 65535 x.code.maxMv.2)
        let s := s.writeRecord ch p c (min (Config.recordBytes x.code) ((s.fmt ch).recordMax c))
        let s := s.modPic ch g.pic (fun p => { p with done := p.done ++ [c] })
        match (s.chan ch).pic? g.pic with
        | none => s
        | some p => s.reconWritten ch p c x.code)

/-! ### CHUNK_CODED -/

/-- The picture's last chunk can be finished: every other chunk is coded, earlier sizes of the stream are known, and in
BOUND and LOSSLESS the result that the certificate reports is known (R195, R202, R203). DEDUCED, log entry 90. -/
def State.finishable (s : State) (ch : Nat) (p : Pic) (first : Nat) : Bool :=
  (s.chunkList ch p).all (fun k => k.1 == first || p.chunkDone k.1) &&
    (Store.get (s.chan ch).rate {} p.stream).bucketAt == p.num && (!s.bounded ch p || (s.verifyOf ch p).isSome)

/-- Bins per sample of a substream, as Q16.16. -/
def State.peakBins (s : State) (ch : Nat) (p : Pic) (sub bins : Nat) (ctus : List Nat) : State :=
  let f := s.fmt ch
  let n := (ctus.map f.ctuSamples).sum
  let total := (Store.get p.bins 0 sub) + bins
  let s := s.modPic ch p.count (fun p => { p with bins := Store.put p.bins sub total })
  let last := f.wavefront || (ctus.getLast? = (f.subCtus (ctus.headD 0)).getLast?)
  let samples := if f.wavefront then n else ((f.subCtus (ctus.headD 0)).map f.ctuSamples).sum
  if last then s.raiseRo (chKey ch K.CH_CODE_STATUS_PEAK_BINS_PER_SAMPLE) (min (2 ^ 31 - 1) (total * 65536 / max 1 samples))
  else s

/-- The size of a picture is known: bucket and model take it, and a picture over its ceiling is counted and marked in every
completion of its chunks (R193, R194). -/
def State.sizeKnown (s : State) (ch : Nat) (p : Pic) : State :=
  let bits := p.bits
  let exceeds := s.overCeiling ch p bits
  let mark := exceeds && s.mode ch p = 5
  let s := s.modChan ch (fun c => { c with
    rate := Store.put c.rate p.stream ((Store.get c.rate {} p.stream).known p.num bits)
    outQ := c.outQ.map (fun (x : OutChunk) =>
      if x.stream = p.stream ∧ x.picCount = p.count then { x with overrun := mark, waits := false } else x) })
  let s := s.modPic ch p.count (fun p => { p with size := some bits, overrun := mark })
  let s := s.cbump ch K.CH_CODE_STATUS_PICTURES_CODED 1
  if !exceeds then s
  else if s.mode ch p = 5 then s.cbump ch K.CH_RATE_STATUS_OVERRUN_PICS 1
  else (s.cbump ch K.CH_RATE_STATUS_CEILING_MISSES 1).raise F.RATE_CEILING_MISS { loc := Loc.ofPic ch p.count }

/-- OUTPUT_HOLD clears once the last chunk of every picture of the frame is complete in pool buffers (Table 10-7). -/
def State.outputHold (s : State) (ch : Nat) (p : Pic) : State :=
  let mine := (s.chan ch).pics.filter (fun x => x.frameSeq == p.frameSeq)
  if mine.length = (s.fmt ch).pictures && mine.all (·.size.isSome) then
    s.modFb p.fb (fun b => { b with outHold := false })
  else s

/-- The engine goes on to its next chunk, with the entropy state it starts from saved, or gives the substream up. -/
def State.engineNext (s : State) (ch ee : Nat) (p : Pic) (g : Grant) (last : Nat) : State :=
  let f := s.fmt ch
  let more := (f.subCtus g.ref).find? (fun c => last < f.ctuRow c)
  match more with
  | some c =>
    let saved := (Store.get p.subs {} g.idx).saved
    let after := runBins f.codec saved (((f.subCtus g.ref).filter (fun x =>
      f.ctuRow g.ref ≤ f.ctuRow x && f.ctuRow x ≤ last)).flatMap (s.binsOf ch p))
    (s.setUnit .ee ee { s.unit .ee ee with
      grant := some { g with ref := c, bufs := [] }, lastHandshake := s.time, lastWrite := s.time }).modPic ch p.count
      (fun p => { p with subs := Store.put p.subs g.idx { chunkStart := c, saved := s.chunkCtx ch p c (some after) } })
  | none =>
    (((s.endGrant .ee ee).tick K.CODING_COUNTERS_EE_GRANTS 1).modPic ch p.count (fun p =>
      { p with subs := Store.put p.subs g.idx { done := true } })).serveEngines

/-- The last bin of a substream that ends inside a chunk is written: its engine is free (R165, R169). DEDUCED, log entry 89. -/
def State.endInnerSub (s : State) (ch ee : Nat) (p : Pic) (g : Grant) : State :=
  let l := (s.fmt ch).subCtus g.ref
  let bins := s.binCount ch p l
  let s := (s.tick K.CODING_COUNTERS_BINS bins).peakBins ch p g.idx bins l
  (((s.endGrant .ee ee).tick K.CODING_COUNTERS_EE_GRANTS 1).modPic ch p.count (fun p =>
    { p with subs := Store.put p.subs g.idx { done := true } })).serveEngines

/-- Every substream of a chunk but the last is coded. -/
def State.innerDone (s : State) (ch : Nat) (p : Pic) (k : Nat × Nat) : Bool :=
  ((s.chunkSubs ch k).dropLast).all (fun l => (Store.get p.subs {} ((s.fmt ch).subOf (l.headD 0))).done)

/-- A chunk is whole in its pool buffers. -/
def State.putChunk (s : State) (ch ee : Nat) (p : Pic) (g : Grant) (k : Nat × Nat) (bins : Nat) (bytes : List Byte)
    (bufs : List Nat) : State :=
  let s := (s.fillBufs bufs bytes.length).modPic ch p.count (fun p => { p with
    chunks := p.chunks ++ [{ firstCtu := k.1, lastRow := k.2, data := bytes, bufs := bufs }] })
  let s := s.tick K.CODING_COUNTERS_BINS bins
  let s := s.peakBins ch p g.idx bins ((s.chunkSubs ch k).getLastD [])
  let s := s.engineNext ch ee p g k.2
  match (s.chan ch).pic? p.count with
  | none => s
  | some p => if s.picCoded ch p then (s.sizeKnown ch p).outputHold ch p else s

/-- CHUNK_CODED: the engine ends the chunk in progress, or a substream inside it. Buffers it lacks it asks for and waits
(R232). -/
def execChunkCoded (t : Time) (ee ch pic : Nat) (s : State) : Out :=
  inRange "EE" ee 56 <| inRange "CH" ch 256 <| live t s (fun s =>
    match (s.unit .ee ee).grant with
    | none => s
    | some g =>
      let f := s.fmt ch
      match (if g.chan = ch ∧ g.pic = pic then (s.chan ch).pic? pic else none) with
      | none => s
      | some p => match s.chunkOf ch p g.ref with
        | none => s
        | some k =>
          let l := s.chunkList ch p
          let soc := l.head? = some k
          let eop := l.getLast? = some k
          let inner := f.wavefront && f.ctuRow g.ref ≠ k.2
          if s.fatal || s.arrayStopped ch then s
          else if inner then
            if ((f.subCtus g.ref).all p.done.contains) then s.endInnerSub ch ee p g else s
          else if !(f.chunkCtus k.1 k.2).all p.done.contains || !s.innerDone ch p k || (eop && !s.finishable ch p k.1) then s
          else
            let bytes := s.chunkBytes ch p k (Store.get p.subs {} g.idx).saved soc eop
            let (got, s) := s.obtain ch 1 ee (max 1 (ceilDiv bytes.length (max 1 s.pool.bufBytes)))
            match got with
            | none => s
            | some bufs => s.putChunk ch ee p g k (s.binCount ch p ((s.chunkSubs ch k).getLastD [])) bytes bufs)

/-! ### CHUNK_EMIT -/

/-- Destinations of a stream (R299): HOST, MAGAZINES, and the egress queue it names. -/
def State.toHost (s : State) (ch : Nat) (p : Pic) : Bool := s.pval p.vals ch K.CH_OUTPUT_HOST = 1
def State.toMags (s : State) (ch : Nat) (p : Pic) : Bool := s.pval p.vals ch K.CH_OUTPUT_MAGAZINES ≠ 0
def State.toQueue (s : State) (ch : Nat) (p : Pic) : Option Nat :=
  let q := s.pval p.vals ch (K.CH_OUTPUT_QUEUE + p.stream)
  if q = 0xFFFF then none else some q

/-- Number of destinations D. -/
def State.destCount (s : State) (ch : Nat) (p : Pic) : Nat :=
  (if s.toHost ch p then 1 else 0) + (if s.toMags ch p then 1 else 0) + (s.toQueue ch p).toList.length

/-- OWNER codes of the destinations, the final owner first (R233). -/
def State.destOwners (s : State) (ch : Nat) (p : Pic) : List Nat :=
  (if s.toMags ch p then [6] else []) ++ ((s.toQueue ch p).toList.map (fun _ => 5)) ++ (if s.toHost ch p then [4] else [])

/-- A destination that makes emission wait: a BULK queue, or a magazine at its backlog (R303, R321). -/
def State.destWaits (s : State) (ch : Nat) (p : Pic) (bytes : Nat) : Bool :=
  (match s.toQueue ch p with
    | some q => s.queueVerdict ch q bytes == .wait
    | none => false) || (s.toMags ch p && !s.magRoom ch bytes p.launch)

/-- The instant from which a chunk was ready (R174): launch, its last CTU row, and reference rows within reach. -/
def State.chunkReady (s : State) (ch : Nat) (p : Pic) (k : Chunk) : Time :=
  let f := s.fmt ch
  let row := match (s.chan ch).frame? p.frameSeq with
    | some x => Store.get x.rowAt 0 (f.rowKey (p.partOf f k.firstCtu) k.lastRow)
    | none => 0
  let reach := reachV (s.pval p.vals ch K.CH_SEARCH_PRESET = 1)
  let refs := p.refs.flatMap (fun r => match (s.fbOfPic ch r).bind s.fb? with
    | some b => (b.rowAt.filter (fun e =>
        e.1 / 65536 == p.stream && e.1 % 65536 * f.ctu < (k.lastRow + 1) * f.ctu + reach &&
          f.ctuRow k.firstCtu * f.ctu < (e.1 % 65536 + 1) * f.ctu + reach)).map Prod.snd
    | none => [])
  (max p.launch row :: refs).foldl max 0

/-- The latency bound of R174 holds for a chunk. DEDUCED, log entry 92. -/
def State.boundHolds (s : State) (ch : Nat) (p : Pic) (k : Chunk) : Bool :=
  let f := s.fmt ch
  let first : Bool := match (s.chan ch).frame? p.frameSeq with
    | some x => x.first
    | none => false
  f.tileCols = 1 && s.loadsFit && !first && s.pval p.vals ch K.CH_POWER_POLICY = 1 &&
    !(f.chunkCtus k.firstCtu k.lastRow).any p.unbound.contains

/-- Latency of an emitted chunk: the largest, and misses of the bound of 2 × D_row + 200 µs. -/
def State.countLatency (s : State) (ch : Nat) (p : Pic) (k : Chunk) : State :=
  let f := s.fmt ch
  let lat := s.since (s.chunkReady ch p k)
  let s := s.raiseRo (chKey ch K.CH_CODE_STATUS_MAX_LATENCY_NS) (min lat (2 ^ 32 - 1))
  if s.boundHolds ch p k && decide (2 * f.den * 1000000000 + 200000 * f.num * f.rows < lat * f.num * f.rows) then
    s.cbump ch K.CH_CODE_STATUS_LATENCY_MISSES 1
  else s

/-- The deadline of a picture lies before this instant (R204). -/
def State.isLate (s : State) (ch : Nat) (p : Pic) : Bool := decide (p.launch + s.deadlineNs ch p.vals < s.time)

/-- FLAGS of a frame index entry (Table 13-10). -/
def indexFlags (p : Pic) (late : Bool) : Nat :=
  (if p.irap then 1 else 0) + (if p.skipped then 2 else 0) + (if late then 4 else 0) + (if p.overrun then 8 else 0)

/-- A chunk is handed to each destination at once (R173, R233). DEDUCED, log entry 108. -/
def State.handChunk (s : State) (ch : Nat) (p : Pic) (bufs : List Nat) (data : List Byte) (l : Loc) (soc eop late : Bool)
    (n0 : Nat) : State :=
  let dests := s.destOwners ch p
  if dests.isEmpty then (s.each bufs (fun s n => s.freeBuf n 1)).cbump ch K.CH_MAG_NOT_SENT 1
  else
    let s := s.handOver bufs dests
    let base := match (s.chan ch).launched.find? (·.frameSeq == p.frameSeq) with
      | some x => x.base.getD p.count
      | none => p.count
    let s := if s.toHost ch p then s.modChan ch (fun c => { c with outQ := c.outQ ++
      [{ stream := p.stream, data := data, bufs := bufs, picCount := p.count, loc := locCode s.dev l, depth := l.depth
         time := p.launch, key := p.irap, late := late, overrun := p.overrun, skipped := p.skipped, eop := eop
         waits := s.mode ch p = 5 && s.ceilingRate ch p ≠ 0 && p.size.isNone }] }) else s
    let s := match s.toQueue ch p with
      | some q =>
        if s.queueVerdict ch q data.length = Verdict.take then s.queueChunk ch q bufs data p.launch eop n0
          (s.pval p.vals ch K.CH_CODEC_STREAM_FORMAT)
        else (s.each bufs (fun s n => s.doneBuf n 5)).countDrop q ch
      | none => s
    if s.toMags ch p then
      let x : ChunkFacts := {
        chan := ch, stream := p.stream, data := data, bufs := bufs, launch := p.launch, pic := p.count
        flags := indexFlags p late, firstPic := base, mags := s.pval p.vals ch K.CH_OUTPUT_MAGAZINES, soc := soc, eop := eop }
      s.magTake x
    else s

/-- The output path carries 160 bits in each nanosecond: a chunk enters once what went before has left (R196). DEDUCED, log entry 93. -/
def State.pathFree (s : State) : Bool := decide (s.outBusy ≤ s.time * 160)

/-- A wait of a stream's next chunk for the output path begins, and ends with its time counted. -/
def State.pathWaits (s : State) (ch stream : Nat) : State :=
  s.modChan ch (fun c => { c with
    outWaits := if (Store.find? c.outWaits stream).isSome then c.outWaits else Store.put c.outWaits stream s.time })
def State.pathTaken (s : State) (ch stream bits : Nat) : State :=
  let s := match Store.find? (s.chan ch).outWaits stream with
    | some t => (s.tick K.RATE_COUNTERS_OUTPUT_WAIT_NS (s.since t)).modChan ch (fun c =>
        { c with outWaits := Store.erase c.outWaits stream })
    | none => s
  { s with outBusy := max s.outBusy (s.time * 160) + bits }

/-- The full verify of an emitted picture waits for front ends: a grant for each substream (R201, R426). DEDUCED, log
entry 106. -/
def State.startVerify (s : State) (ch : Nat) (p : Pic) : State :=
  if s.pval p.vals ch K.CH_BOUND_VERIFY = 1 && !(s.fmt ch).pass then
    let f := s.fmt ch
    let subs := (s.regionCtus ch f p.stream).foldl (fun m c =>
      if (Store.find? m (f.subOf c)).isSome then m else Store.put m (f.subOf c) c) ([] : Store Nat)
    let grants := List.map (fun (e : Nat × Nat) =>
      (UnitKind.df.code, ({ chan := ch, pic := p.count, idx := e.1, ref := e.2, verify := true } : Grant))) subs
    ({ s with reissue := s.reissue ++ grants }).serveEngines
  else s

/-- The last chunk of a picture is emitted. -/
def State.picEmitted (s : State) (ch : Nat) (p : Pic) (late : Bool) : State :=
  let s := if late then s.cbump ch K.CH_RATE_STATUS_LATE_PICS 1 else s
  let s := s.modChan ch (fun c => { c with lastLate := late, lastOverrun := p.overrun, lastDone := some p.count })
  s.startVerify ch p

/-- All pictures of a frame are emitted: the launch is done with, and its frame is released. -/
def State.frameEmitted (s : State) (ch q : Nat) : State :=
  let s := s.modChan ch (fun c =>
    let w := match c.launched.find? (·.frameSeq == q) with
      | some l => Store.put c.workOf l.type.code l.time
      | none => c.workOf
    { c with
    workOf := w, pics := c.pics.filter (·.frameSeq ≠ q), launched := c.launched.filter (·.frameSeq ≠ q) })
  (s.modFrame ch q (fun x => { x with coded := true })).tryRelease ch q

/-- Counters of an emitted chunk. -/
def State.countEmit (s : State) (ch bytes : Nat) : State :=
  let s := (s.cbump ch K.CH_CODE_STATUS_CHUNKS_EMITTED 1).tick K.RATE_COUNTERS_OUTPUT_BITS (8 * bytes)
  (s.cbump ch K.CH_STATUS_BYTES_OUT bytes).setRo (chKey ch K.CH_STATUS_LAST_EMIT_TIME) s.time

/-- The next chunk of a stream in bitstream order, if it is coded: the oldest picture of the stream that is not yet emitted
whole. -/
def State.nextChunk (s : State) (ch stream : Nat) : Option (Pic × Chunk × Bool × Bool) :=
  match (s.chan ch).pics.find? (fun p => p.stream == stream && !((s.chunkList ch p).all (fun k =>
      p.chunks.any (fun x => x.firstCtu == k.1 && x.emitted)))) with
  | none => none
  | some p =>
    let l := s.chunkList ch p
    match l.find? (fun k => !p.chunks.any (fun x => x.firstCtu == k.1 && x.emitted)) with
    | none => none
    | some k => (p.chunks.find? (fun x => x.firstCtu == k.1)).map (fun x => (p, x, l.head? == some k, l.getLast? == some k))

/-- A coded chunk leaves. -/
def State.emitChunk (s : State) (ch : Nat) (p : Pic) (k : Chunk) (soc eop : Bool) : State :=
  let f := s.fmt ch
  let late := s.isLate ch p
  let s := s.countLatency ch p k
  let s := s.pathTaken ch p.stream (8 * k.data.length * s.destCount ch p)
  let s := s.modChan ch (fun c => { c with destWait := false })
  let s := s.handChunk ch p k.bufs k.data (f.ctuLoc ch p.count k.firstCtu) soc eop late 0
  let s := s.countEmit ch k.data.length
  let gone := f.chunkCtus k.firstCtu k.lastRow
  let s := { s with firn := s.firn.filter (fun e =>
    !(e.1 / 2 ^ 23 == ch * 2 ^ 32 + p.count % 2 ^ 32 && gone.contains (e.1 / 8 % 2 ^ 20))) }
  let s := s.modPic ch p.count (fun p => { p with
    late := p.late || late
    chunks := p.chunks.map (fun x => if x.firstCtu = k.firstCtu then { x with emitted := true } else x) })
  if !eop then s
  else
    let s := s.picEmitted ch p late
    let c := s.chan ch
    let left := c.pics.any (fun x => x.frameSeq == p.frameSeq &&
      !(s.chunkList ch x).all (fun k => x.chunks.any (fun y => y.firstCtu == k.1 && y.emitted)))
    let started := (c.pics.filter (fun x => x.frameSeq == p.frameSeq)).length
    if left || started < f.pictures then s else s.frameEmitted ch p.frameSeq

/-- The next run of 64 lines of a PASS_THROUGH frame leaves (R300). -/
def State.emitRun (s : State) (ch : Nat) (p : Pic) : State :=
  let f := s.fmt ch
  match (s.chan ch).frame? p.frameSeq with
  | none => s
  | some x =>
    let run := p.chunks.length
    let runs := ceilDiv f.lineKeys.length 64
    if (Store.find? x.rowAt run).isNone then s
    else
      let data := ((f.lineKeys.drop (64 * run)).take 64).flatMap (fun k => Store.get x.lines [] k)
      if s.destWaits ch p data.length then s.modChan ch (fun c => { c with destWait := true })
      else if !s.pathFree then s.pathWaits ch p.stream
      else
        let (got, s) := s.obtain ch 1 0 (max 1 (ceilDiv data.length (max 1 s.pool.bufBytes)))
        match got with
        | none => s
        | some bufs =>
          let late := s.isLate ch p
          let eop := run + 1 = runs
          let s := (s.fillBufs bufs data.length).modChan ch (fun c => { c with destWait := false })
          let s := s.pathTaken ch p.stream (8 * data.length * s.destCount ch p)
          let s := s.handChunk ch p bufs data (Loc.ofPic ch p.count) (run = 0) eop late (64 * run)
          let s := (s.countEmit ch data.length).raiseRo (chKey ch K.CH_CODE_STATUS_MAX_LATENCY_NS)
            (min (s.since (max p.launch (Store.get x.rowAt 0 run))) (2 ^ 32 - 1))
          let s := s.modPic ch p.count (fun p => { p with chunks := p.chunks ++
            [{ firstCtu := run, lastRow := run, data := [], bufs := [], emitted := true }] })
          if eop then (s.picEmitted ch p late).frameEmitted ch p.frameSeq else s

/-- CHUNK_EMIT. -/
def execChunkEmit (t : Time) (ch stream : Nat) (s : State) : Out :=
  inRange "CH" ch 256 <| inRange "STREAM" stream 4 <| live t s (fun s =>
    let c := s.chan ch
    if s.fatal || !c.working || s.cv ch K.CH_DECODE_DIRECTION = 1 then s
    else if (s.fmt ch).pass then
      match c.pics with
      | p :: _ => if stream = 0 then s.emitRun ch p else s
      | [] => s
    else match s.nextChunk ch stream with
      | none => s
      | some (p, k, soc, eop) =>
        if s.destWaits ch p k.data.length then s.modChan ch (fun c => { c with destWait := true })
        else if !s.pathFree then s.pathWaits ch stream
        else s.emitChunk ch p k soc eop)

/-! ### VERIFY_DECODE_COMPLETE -/

/-- Some substream of a picture is still to be verified. -/
def State.verifying (s : State) (ch pic : Nat) : Bool :=
  let mine := fun (g : Grant) => g.verify && g.chan == ch && g.pic == pic
  s.units.any (fun e => e.2.grant.any mine) || s.reissue.any (fun e => mine e.2)

/-- A front end ends its substream of a picture; it may have failed to decode. -/
def State.verifySub (s : State) (df : Nat) (g : Grant) (failed : Bool) : State :=
  let s := s.endGrant .df df
  if failed then s.each (List.map Prod.fst s.fbs) (fun s n => s.modFb n (fun b =>
    if b.of_ = g.chan && b.verifyLeft.contains g.pic then { b with verifyBad := b.verifyBad ++ [g.pic] } else b))
  else s

/-- VERIFY_DECODE_COMPLETE: a front end ends its substream. With the picture's last one its result is kept for the certificate
two pictures on, and a mismatch or decode error raised and counted (R201, R202). -/
def execVerifyDecodeComplete (t : Time) (df : Nat) (hashesMatch decodeError : Bool) (s : State) : Out :=
  inRange "DF" df 24 <| live t s (fun s =>
    match (s.unit .df df).grant with
    | none => s
    | some g =>
      if !g.verify then s
      else
        let ch := g.chan
        let s := s.verifySub df g decodeError
        if s.verifying ch g.pic then s.serveEngines
        else
        let bad := s.fbs.any (fun e => e.2.of_ == ch && e.2.verifyLeft.contains g.pic && e.2.verifyBad.contains g.pic)
        let r := if decodeError || bad then 3 else if hashesMatch then 1 else 2
        let s := s.tick K.RATE_COUNTERS_VERIFIED_PICS 1
        let s := s.modChan ch (fun c => { c with rate := Store.map c.rate (fun _ x => { x with
          verified := x.verified.map (fun v => if v.2.1 = g.pic then (v.1, v.2.1, some r) else v) }) })
        let s := s.verifyDone ch g.pic
        let s := if r = 1 then s
          else (s.raise F.BOUND_VERIFY_MISMATCH { loc := Loc.ofPic ch g.pic }).cbump ch K.CH_RATE_STATUS_VERIFY_FAILS 1
        s.serveEngines)

end Sys2Proof.Machine
end

