-- ==== Sys2Proof/Machine/Decoding.lean ====
section
/-! DEFINITION. Decode channels (chapter 9): input, NAL units, resynchronisation, concealment, taint, certificates on
playback, output and damage reports. What a NAL unit parses to the standards say, so its content is an operand. -/

namespace Sys2Proof

/-- Code of an error class (Table 9-3). -/
def DecErr.code : DecErr → Nat
  | .nal => 1 | .length => 2 | .paramSet => 3 | .unsupported => 4 | .limit => 5 | .sliceHeader => 6 | .sliceData => 7
  | .reference => 8 | .transport => 9 | .truncated => 10

/-- CTUs of a slice segment that are decoded (R223). -/
def SliceInfo.decoded (x : SliceInfo) : List Nat :=
  match x.damage with
  | none => x.ctus
  | some d =>
    let at_ := max (x.ctus.findIdx (· == d.sub)) (x.ctus.findIdx (· == d.segment))
    x.ctus.take at_ ++ (match d.resume with
      | some r => x.ctus.drop (max at_ (x.ctus.findIdx (· == r)))
      | none => [])

end Sys2Proof

namespace Sys2Proof.Machine

/-! ### Input (R213, R214) -/

/-- A decode channel that is open or draining. -/
def State.decodes (s : State) (ch : Nat) : Bool :=
  (s.chan ch).working && s.cv ch K.CH_DECODE_DIRECTION = 1

def State.modDec (s : State) (ch : Nat) (g : Decoder → Decoder) : State :=
  s.modChan ch (fun c => { c with dec := g c.dec })

/-- Position after the last byte received. -/
def Decoder.fin (d : Decoder) : Nat := d.pos + d.input.length

/-- Input buffers of which `n` more bytes are parsed: those wholly parsed, and the rest. -/
def parsedBufs (n : Nat) : List (Nat × Nat) → List Nat × List (Nat × Nat)
  | [] => ([], [])
  | (b, k) :: r =>
    if k ≤ n then ((b :: (parsedBufs (n - k) r).1), (parsedBufs (n - k) r).2) else ([], (b, k - n) :: r)

/-- Bytes leave the input: their buffers return to the pool once all their bytes are parsed (Table 10-3). -/
def State.consume (s : State) (ch n : Nat) : State :=
  let d := (s.chan ch).dec
  let p := d.pos + n
  let (gone, left) := parsedBufs n d.bufs
  let old := (List.map Prod.fst (d.seqs.filter (fun e => e.1 ≤ p))).getLast?.getD 0
  let s := s.modDec ch (fun d => { d with
    input := d.input.drop n, pos := p, bufs := left, starts := d.starts.filter (p ≤ ·)
    seqs := d.seqs.filter (fun e => old ≤ e.1) })
  s.each gone (fun s b => s.freeBuf b 3)

/-- Input is discarded and counted (R220). -/
def State.skipBytes (s : State) (ch n : Nat) : State :=
  (s.consume ch n).cbump ch K.CH_DECODE_STATUS_BYTES_SKIPPED n

/-- Three bytes of a start code begin a list. -/
def startCode (bs : List Byte) : Bool := bs.take 3 == [0#8, 0#8, 1#8]

/-- Type of an access unit delimiter with forbidden_zero_bit 0, by codec. -/
def isDelimiter (codec : Nat) (bs : List Byte) : Bool :=
  let a := (bs.getD 0 0).toNat
  let b := (bs.getD 1 0).toNat
  a < 128 && (match codec with
    | 1 => a % 32 == 9
    | 2 => a / 2 % 64 == 35
    | _ => b / 8 == 20)

/-- Whether a position passes the scan of R221; none while what it needs has not arrived. -/
def scanHit (codec nalMax : Nat) (bs : List Byte) : Option Bool :=
  let l := beNat (bs.take 4)
  let m := beNat ((bs.drop (4 + l)).take 4)
  if bs.length < 4 then none
  else if l < 2 ∨ nalMax < l then some false
  else if bs.length < 6 then none
  else if !isDelimiter codec (bs.drop 4) then some false
  else if bs.length < 8 + l then none
  else some (decide (2 ≤ m ∧ m ≤ nalMax))

/-- A start code begins here; none while too little has arrived to tell. -/
def codeHit (bs : List Byte) : Option Bool :=
  if startCode bs then some true else if bs.length < 3 then none else some false

/-- The first offset, from `k` on, that a test takes, or that it cannot tell of yet. -/
def scanFor (hit : List Byte → Option Bool) (k : Nat) : List Byte → Option (Nat × Bool)
  | [] => none
  | b :: r =>
    match if k = 0 then hit (b :: r) else some false with
    | some true => some (0, true)
    | none => some (0, false)
    | some false => (scanFor hit (k - 1) r).map (fun x => (x.1 + 1, x.2))

/-- The input of a draining channel has ended: on input 0, no descriptor of its ring is still to complete. DEDUCED, log entry
248. -/
def State.inputEnded (s : State) (ch : Nat) : Bool :=
  (s.chan ch).state = .draining &&
    !s.rings.any (fun e => e.2.chan == ch && e.2.type == 0 && e.2.state ≠ .disabled && !e.2.fetched.isEmpty)

/-- The scan that finds the resume point of Table 9-4 in the bytes themselves: of lengths, or of start codes. -/
def State.scanIn (s : State) (ch from_ : Nat) : Option (Nat × Bool) :=
  let d := (s.chan ch).dec
  let hit := if s.cv ch K.CH_CODEC_STREAM_FORMAT = 1 then
    scanHit (s.cv ch K.CH_CODEC_CODEC) (s.cv ch K.CH_DECODE_NAL_MAX) else codeHit
  let ended := s.inputEnded ch
  scanFor (fun bs => if ended then (hit bs).orElse (fun _ => some false) else hit bs) (from_ - d.pos) d.input

/-- Resume points on this input are marked: index entries, or packets. -/
def State.marked (s : State) (ch : Nat) : Bool :=
  s.cv ch K.CH_DECODE_INPUT = 2 || (s.cv ch K.CH_DECODE_INPUT = 1 && s.cv ch K.CH_CODEC_STREAM_FORMAT = 1)

/-- The resume point of Table 9-4 at or after a position, as an offset into the input, if it has arrived; failing that, the
offset up to which none lies. DEDUCED, log entry 117. -/
def State.resumeAt (s : State) (ch from_ : Nat) : Nat × Bool :=
  let d := (s.chan ch).dec
  if s.marked ch then
    match d.starts.find? (fun p => from_ ≤ p && p < d.fin) with
    | some p => (p - d.pos, true)
    | none => (d.input.length, false)
  else (s.scanIn ch from_).getD (d.input.length, false)

/-- Discarding goes on, up to the resume point if it has arrived. -/
def State.skipOn (s : State) (ch : Nat) : State :=
  match (s.chan ch).dec.skipping with
  | none => s
  | some from_ =>
    let (n, found) := s.resumeAt ch from_
    let s := s.skipBytes ch n
    if found then (s.modDec ch (fun d => { d with skipping := none })).cbump ch K.CH_DECODE_STATUS_RESYNCS 1 else s

/-- Input arrives, in pool buffers or in the RTP receive buffer. -/
def State.addInput (s : State) (ch : Nat) (data : List Byte) (bufs : List (Nat × Nat)) (start : Bool) : State :=
  (s.modDec ch (fun d => { d with
    input := d.input ++ data, bufs := d.bufs ++ bufs, starts := if start then d.starts ++ [d.fin] else d.starts })).skipOn
    ch

/-- Input is missing at the end of what has arrived. -/
def State.addGap (s : State) (ch : Nat) : State := s.modDec ch (fun d => { d with gaps := d.gaps ++ [d.fin] })

/-- Shares of bytes over buffers, each filled in turn. -/
def bufShares (size n : Nat) : List Nat → List (Nat × Nat)
  | [] => []
  | b :: r => (b, min size n) :: bufShares size (n - size) r

/-- The access unit of the channel's clip that is read next: through the clip's record, extent list and frame index as they
stand on the magazine, with its offset in the clip's essence (R213, Table 13-11). A clip number beyond the clip table has
none. -/
def State.clipUnit (s : State) (ch : Nat) : Option (Nat × List Byte) :=
  let m := s.cv ch K.CH_DECODE_PORT
  let clip := s.cv ch K.CH_DECODE_CLIP
  if 4096 ≤ clip then none
  else (s.readRecord m clip).bind (fun b =>
    ((clipEntries (s.mag m).content b)[(s.chan ch).dec.clipNext]?).map Prod.snd)

/-- MAG_CLIP_READ_COMPLETE: the next access unit of the frame index enters the input. Reads pause while a picture waits for a
frame buffer (R214), and an NVMe error is a TRANSPORT error. -/
def execMagClipReadComplete (t : Time) (port ch : Nat) (nvmeError : Bool) (s : State) : Out :=
  inRange "PORT" port 2 <| inRange "CH" ch 256 <| live t s (fun s =>
    let step := fun (s : State) => s.modDec ch (fun d => { d with clipNext := d.clipNext + 1 })
    if s.fatal || !s.decodes ch || s.cv ch K.CH_DECODE_INPUT ≠ 1 || (s.chan ch).fbWait.isSome ||
        s.cv ch K.CH_DECODE_PORT ≠ port || (s.mag port).state ≠ 1 then s
    else match s.clipUnit ch with
      | none => s
      | some (offset, data) =>
        if nvmeError then step (s.addGap ch)
        else
          let (got, s) := s.obtain ch 3 0 (ceilDiv data.length (max 1 s.pool.bufBytes))
          match got with
          | none => s
          | some bufs =>
            let s := s.modDec ch (fun d => { d with seqs := Store.put d.seqs d.fin offset })
            step ((s.fillBufs bufs data.length).addInput ch data (bufShares s.pool.bufBytes data.length bufs) true))

/-! ### RTP packets (Table 9-2) -/

/-- What a packet's payload holds: whole NAL units, the first fragment of one, a later fragment, or what is not accepted. A
fragment may be its unit's last. -/
inductive RtpContent where
  | units (l : List (List Byte))
  | begin_ (l : List Byte) (last : Bool)
  | more (l : List Byte) (last : Bool)
  | refused
  deriving DecidableEq, Repr

/-- NAL units of an aggregation packet, each after its size in 2 bytes; none where a size does not fit. -/
def splitSizes (fuel : Nat) (bs : List Byte) : Option (List (List Byte)) :=
  match fuel, bs with
  | _, [] => some []
  | 0, _ => none
  | n + 1, bs =>
    let k := beNat (bs.take 2)
    if bs.length < 2 + k ∨ k = 0 then none
    else (splitSizes n (bs.drop (2 + k))).map (fun r => (bs.drop 2).take k :: r)

/-- A payload of RFC 6184, RFC 7798 or RFC 9328 (PRESUMED, log entry 158). -/
def rtpContent (codec : Nat) (p : List Byte) : RtpContent :=
  let whole := fun (n : Nat) => match splitSizes p.length (p.drop n) with
    | some (u :: r) => RtpContent.units (u :: r)
    | _ => .refused
  let part := fun (n : Nat) (header : List Nat) =>
    let se := nalByte p (n - 1)
    if p.length < n then RtpContent.refused
    else if 128 ≤ se then .begin_ (header.map byteOf ++ p.drop n) (se / 64 % 2 = 1)
    else .more (p.drop n) (se / 64 % 2 = 1)
  let a := nalByte p 0
  let b := nalByte p 1
  if p.length < aggBase codec then .refused
  else match codec with
    | 1 =>
      let k := a % 32
      if k = 24 then whole 1
      else if k = 28 then part 2 [a / 32 * 32 + b % 32]
      else if 1 ≤ k ∧ k ≤ 23 then .units [p] else .refused
    | 2 =>
      let k := a / 2 % 64
      if k = 48 then whole 2
      else if k = 49 then part 3 [a / 128 * 128 + nalByte p 2 % 64 * 2 + a % 2, b]
      else if k < 48 then .units [p] else .refused
    | _ =>
      let k := b / 8
      if k = 28 then whole 2
      else if k = 29 then part 3 [a, nalByte p 2 % 32 * 8 + b % 8]
      else if k < 28 then .units [p] else .refused

/-- A unit that fragments began is given up: its bytes are discarded. -/
def State.dropFragment (s : State) (ch : Nat) : State :=
  let n := (s.chan ch).dec.fragment.length
  (s.modDec ch (fun d => { d with fragment := [] })).cbump ch K.CH_DECODE_STATUS_BYTES_SKIPPED n

/-- A unit that began and did not end is a TRANSPORT error (Table 9-3). -/
def State.breakFragment (s : State) (ch : Nat) : State :=
  if (s.chan ch).dec.fragment.isEmpty then s else (s.dropFragment ch).addGap ch

/-- A reassembled NAL unit enters the input, framed by STREAM_FORMAT. -/
def State.addUnit (s : State) (ch : Nat) (l : List Byte) (start : Bool) : State :=
  s.addInput ch (framed (s.cv ch K.CH_CODEC_STREAM_FORMAT) l) [] start

/-- A fragment that ends its unit lets it in. -/
def State.endFragment (s : State) (ch : Nat) (last : Bool) : State :=
  if last then
    let l := (s.chan ch).dec.fragment
    (s.modDec ch (fun d => { d with fragment := [] })).addUnit ch l true
  else s

/-- The packet next in RTP order is taken apart. A later fragment without its beginning is discarded, and is a TRANSPORT error
unless the loss before it has been one. DEDUCED, log entry 120. -/
def State.takePacket (s : State) (ch n : Nat) (payload : List Byte) : State :=
  let s := s.modDec ch (fun d => { d with
    rtpNext := some (n + 1), reorder := Store.erase d.reorder n, seqs := Store.put d.seqs d.fin (n % 65536) })
  match rtpContent (s.cv ch K.CH_CODEC_CODEC) payload with
  | .units l => (s.breakFragment ch).each ((List.range l.length).zip l) (fun s u => s.addUnit ch u.2 (u.1 = 0))
  | .begin_ l last => ((s.breakFragment ch).modDec ch (fun d => { d with fragment := l })).endFragment ch last
  | .more l last =>
    let d := (s.chan ch).dec
    if d.fragment.isEmpty then
      let s := s.cbump ch K.CH_DECODE_STATUS_BYTES_SKIPPED l.length
      if d.gaps.contains d.fin || d.skipping.isSome then s else s.addGap ch
    else (s.modDec ch (fun d => { d with fragment := d.fragment ++ l })).endFragment ch last
  | .refused => ((s.dropFragment ch).addGap ch).cbump ch K.CH_DECODE_STATUS_BYTES_SKIPPED payload.length

/-- Packets leave in sequence order; one that is missing when a packet REORDER_PKTS numbers beyond it has arrived is lost. -/
def State.drainRtp (s : State) (ch fuel : Nat) : State :=
  match fuel with
  | 0 => s
  | k + 1 =>
    let d := (s.chan ch).dec
    match d.rtpNext with
    | none => s
    | some n =>
      match Store.find? d.reorder n with
      | some p => (s.takePacket ch n p).drainRtp ch k
      | none =>
        if d.reorder.any (fun e => n + max 1 (s.cv ch K.CH_DECODE_REORDER_PKTS) ≤ e.1) then
          ((((s.modDec ch (fun d => { d with rtpNext := some (n + 1) })).dropFragment ch).addGap ch).tick
            K.DECODE_COUNTERS_RTP_LOST 1).drainRtp ch k
        else s

/-- Bytes in the RTP receive buffer. -/
def Decoder.rtpFill (d : Decoder) : Nat :=
  d.input.length + d.fragment.length + (List.map (fun (e : Nat × List Byte) => e.2.length) d.reorder).sum

/-- The packet belongs to the channel's flow. -/
def State.flowOf (s : State) (ch : Nat) (flow : RtpFlow) (type : Nat) : Bool :=
  flow.port == s.cv ch K.CH_DECODE_PORT && flow.addr == s.cv ch K.CH_DECODE_MCAST_ADDR &&
    flow.udp == s.cv ch K.CH_DECODE_UDP_PORT && type == s.cv ch K.CH_DECODE_PAYLOAD_TYPE

/-- DECODE_RTP_PACKET. A packet that finds the receive buffer full, or that comes after its place has been given up, is not
used. -/
def execDecodeRtpPacket (t : Time) (ch : Nat) (flow : RtpFlow) (type seq : Nat) (payload : List Byte) (s : State) : Out :=
  inRange "CH" ch 256 <| inRange "SEQ" seq 65536 <| live t s (fun s =>
    let d := (s.chan ch).dec
    if s.fatal || !s.decodes ch || s.cv ch K.CH_DECODE_INPUT ≠ 2 || !s.flowOf ch flow type then s
    else if Config.rtpBuffer < d.rtpFill + payload.length then s
    else
      let next := d.rtpNext.getD (65536 + seq)
      let ahead := (seq + 65536 - next % 65536) % 65536
      if 32768 ≤ ahead then s
      else
        let s := s.modDec ch (fun d => { d with
          rtpNext := some next, reorder := Store.put d.reorder (next + ahead) payload })
        s.drainRtp ch 65536)

/-! ### Samples of a decoded picture -/

/-- SAMPLING code of a picture; the order of a 4:4:4 picture's components is that of CH_FORMAT. DEDUCED, log entry 116. -/
def State.geomSampling (s : State) (ch : Nat) (g : PicGeom) : Nat :=
  match g.chroma with
  | 0 => 1 | 1 => 2 | 2 => 3 | _ => if s.cv ch K.CH_FORMAT_SAMPLING = 5 then 5 else 4

/-- The format of a picture's bytes as an IN-ring frame at a size. -/
def State.geomFmt (s : State) (ch : Nat) (g : PicGeom) (w h : Nat) : Fmt :=
  { fmtOf (fun _ => 0) with width := w, height := h, sampling := s.geomSampling ch g, depth := g.depth, ctu := g.ctu }

/-- The picture cropped to its conformance window (R215). -/
def State.cropped (s : State) (ch : Nat) (g : PicGeom) (data : List Byte) : List Byte :=
  let (l, top, w, h) := g.crop
  let f := s.geomFmt ch g g.w g.h
  packPicture (s.geomFmt ch g w h) (fun c x y => f.reconSample data c (l / (g.scale c).1 + x) (top / (g.scale c).2 + y))

/-! ### Concealment (R223, R224) -/

/-- A vector component in 1/16 samples, rounded to whole samples half away from zero. -/
def wholeSample (v : Int) : Int := if 0 ≤ v then (v + 8) / 16 else -((8 - v) / 16)

/-- The neighbour vector of a concealed CTU: left, above and above-right, of CTUs decoded without concealment. -/
def neighbourVector (g : PicGeom) (covered : List Nat) (vs : List (Nat × Int × Int)) (c : Nat) : Option (Int × Int) :=
  let col := c % g.cols
  let near := (if 0 < col then [c - 1] else []) ++ (if g.cols ≤ c then [c - g.cols] else []) ++
    (if g.cols ≤ c ∧ col + 1 < g.cols then [c + 1 - g.cols] else [])
  match (near.filter covered.contains).filterMap (fun n =>
      (vs.find? (fun v => v.1 == n)).map (fun v => (wholeSample v.2.1, wholeSample v.2.2))) with
  | [] => none
  | [a, b, d] => some (median3 a.1 b.1 d.1, median3 a.2 b.2 d.2)
  | a :: _ => some a

/-- A vector component clipped so that the block lies no more than 64 samples beyond the picture edge. -/
def clipVector (origin size pic : Nat) (v : Int) : Int :=
  max (-64 - (origin : Int)) (min ((pic : Int) + 64 - origin - size) v)

/-- A luma displacement in a component's samples, rounded half away from zero. DEDUCED, log entry 115. -/
def scaleVector (v : Int) (d : Nat) : Int :=
  if 0 ≤ v then (2 * v + d) / (2 * d) else -((-2 * v + d) / (2 * d))

/-- A place moved by a vector, with edge samples replicated. -/
def moved (x : Nat) (v : Int) (size : Nat) : Nat := (max 0 (min ((size : Int) - 1) (x + v))).toNat

/-- How concealed CTUs of a picture are filled: list-0 reference 0 if present, and the latest picture of its size. -/
structure Fill where
  ref : Option (List Byte)
  last : Option (List Byte)

/-- METHOD of a concealed CTU, and the samples it is copied from with their displacement (Table 9-5). -/
def Fill.row (x : Fill) (g : PicGeom) (covered : List Nat) (vs : List (Nat × Int × Int)) (c : Nat) :
    Nat × Option (List Byte) × Int × Int :=
  match x.ref, x.last with
  | some r, _ => match neighbourVector g covered vs c with
    | some v =>
      let x0 := c % g.cols * g.ctu
      let y0 := c / max 1 g.cols * g.ctu
      (1, some r, clipVector x0 (min g.ctu (g.w - x0)) g.w v.1, clipVector y0 (min g.ctu (g.h - y0)) g.h v.2)
    | none => (2, some r, 0, 0)
  | none, some l => (2, some l, 0, 0)
  | none, none => (3, none, 0, 0)

/-- A picture's samples with its concealed CTUs filled. -/
def State.filled (s : State) (ch : Nat) (g : PicGeom) (x : Fill) (data : List Byte) (covered concealed : List Nat)
    (vs : List (Nat × Int × Int)) : List Byte :=
  if concealed.isEmpty then data
  else
    let f := s.geomFmt ch g g.w g.h
    let rows : Store (Nat × Option (List Byte) × Int × Int) :=
      concealed.foldl (fun m c => Store.put m c (x.row g covered vs c)) []
    packPicture f (fun comp i j =>
      let (sx, sy) := g.scale comp
      match Store.find? rows (g.ctuAt comp i j) with
      | none => f.reconSample data comp i j
      | some (_, some src, vx, vy) =>
        f.reconSample src comp (moved i (scaleVector vx sx) (ceilDiv g.w sx)) (moved j (scaleVector vy sy) (ceilDiv g.h sy))
      | some (_, none, _, _) => 2 ^ (g.depth - 1))

/-! ### The decoded picture buffer -/

/-- Number under which a made-up reference stands in for a picture count. DEDUCED, log entry 114. -/
def madeUpKey (r : Nat) : Nat := 2 ^ 32 + r

/-- A picture of the channel that is decoded, or made up, and still held. -/
def Decoder.pic? (d : Decoder) (n : Nat) : Option DecPic := d.pics.find? (·.count == n)

/-- A reference in the decoded picture buffer, by picture count; failing that, the one made up for it. -/
def State.dpb (s : State) (ch r : Nat) : Option DecPic :=
  let held := fun n => if (s.usableRefs ch 0 [n]).isEmpty then none else (s.chan ch).dec.pic? n
  (held r).orElse (fun _ => held (madeUpKey r))

/-- Two pictures have the same planes. -/
def sameSize (g h : PicGeom) : Bool := decide (h.w = g.w ∧ h.h = g.h ∧ h.chroma = g.chroma ∧ h.depth = g.depth)

/-- What fills a picture whose references are these: a made-up reference counts as missing (DEDUCED). -/
def State.fillFor (s : State) (ch : Nat) (g : PicGeom) (inter : Bool) (refs : List Nat) : Fill :=
  let d := (s.chan ch).dec
  let same := fun (h : PicGeom) => sameSize h g
  { ref := if inter then (refs.head?.bind (s.dpb ch)).bind (fun p =>
      if p.count < 2 ^ 32 && same p.geom then some p.data else none) else none
    last := (d.last.find? (fun l => same l.1)).map Prod.snd }

/-- A frame buffer takes a decoded picture, or one made up (Table 10-7). -/
def State.takeDecFb (s : State) (ch n count : Nat) (isRef hold : Bool) : State :=
  match s.fb? n with
  | none => s
  | some b => { s with fbs := Store.put s.fbs n { b with
      of_ := ch, shortRef := isRef, longRef := false, outHold := hold, verifyHold := false, haloHold := false
      haloPeers := 0, launch := 0, pic := some (count, 1), compBytes := 0, verifyLeft := [], verifyBad := [], unrefd := [], recon := []
      rowAt := [], p0 := [], halo := [], field := [], order := 0, firstRef := none } }

/-- UNUSED frame buffers of a channel. -/
def State.unusedFbs (s : State) (ch : Nat) : Nat := ((s.fbsOf ch).filter (fun e => !e.2.marked)).length

/-- Pictures that nothing needs any longer leave the decoder's list. -/
def State.purgeDec (s : State) (ch : Nat) : State :=
  let c := s.chan ch
  s.modDec ch (fun d => { d with pics := d.pics.filter (fun p =>
    !p.reported || c.state ≠ .closed && !(s.usableRefs ch 0 [p.count]).isEmpty) })

/-! ### Errors (R218 to R220, R223) -/

/-- SOURCE_POS of a position (Table 9-7). -/
def State.sourcePos (s : State) (ch p : Nat) : Nat :=
  let d := (s.chan ch).dec
  match (d.seqs.filter (fun e => e.1 ≤ p)).getLast?, s.cv ch K.CH_DECODE_INPUT with
  | some e, 1 => e.2 + (p - e.1)
  | some e, 2 => e.2
  | _, n => if n = 0 then p else 0

/-- An error is counted, and recorded in the picture in progress; `lost` tells that input is discarded in it. -/
def State.decError (s : State) (ch : Nat) (e : DecErr) (lost : Bool) : State :=
  let p := s.sourcePos ch (s.chan ch).dec.pos
  (s.tick K.DECODE_COUNTERS_ERRORS 1).modDec ch (fun d => { d with cur := d.cur.map (fun c => { c with
    firstClass := if c.firstClass = 0 then e.code else c.firstClass, errPos := if c.firstClass = 0 then p else c.errPos
    classMask := setBit c.classMask e.code true, broken := c.broken || lost }) })

/-- Input from the present position is discarded up to the resume point at or after `from_`. -/
def State.skipFrom (s : State) (ch from_ : Nat) : State :=
  (s.modDec ch (fun d => { d with skipping := some from_ })).skipOn ch

/-- First position at which a resume point of an error at the present NAL unit can lie: beyond its own start code. -/
def State.beyondUnit (s : State) (ch : Nat) : Nat :=
  let d := (s.chan ch).dec
  if s.cv ch K.CH_CODEC_STREAM_FORMAT = 0 ∧ s.cv ch K.CH_DECODE_INPUT ≠ 2 then
    d.pos + (match scanFor codeHit 0 d.input with
      | some (n, true) => n
      | _ => 0) + 1
  else d.pos + 1

/-- The NAL unit is discarded and decoding goes on at the next one. -/
def State.skipUnit (s : State) (ch bytes : Nat) : State :=
  (s.skipBytes ch bytes).cbump ch K.CH_DECODE_STATUS_RESYNCS 1

/-- A parameter set that is present and valid. -/
def Decoder.param? (d : Decoder) (k : ParamKind × Nat) : Option (ParamSet × Bool) :=
  d.params.find? (fun e => e.1.kind == k.1 && e.1.id == k.2)

/-- A parameter set replaces the one with its kind and identifier. -/
def Decoder.putParam (d : Decoder) (x : ParamSet) (accepted : Bool) : Decoder :=
  { d with params := d.params.filter (fun e => !(e.1.kind == x.kind && e.1.id == x.id)) ++ [(x, accepted)] }

/-- Sequences that are not accepted: their pictures are discarded until an acceptable SPS and an IRAP picture (R219). DEDUCED, log entry 112. -/
def State.refuseSequence (s : State) (ch : Nat) (sets : List (ParamKind × Nat)) : State :=
  s.modDec ch (fun d => { d with
    params := d.params.map (fun e => if e.1.kind == .sps && sets.contains (.sps, e.1.id) then (e.1, false) else e)
    started := false, ignoring := true })

/-- A parameter set is invalid. When no SPS is left, decoding begins anew (R222). -/
def State.dropParam (s : State) (ch : Nat) (k : ParamKind × Nat) : State :=
  s.modDec ch (fun d =>
    let ps := d.params.filter (fun e => !(e.1.kind == k.1 && e.1.id == k.2))
    { d with params := ps, started := d.started && ps.any (fun e => e.1.kind == .sps) })

/-- A sequence's profile, chroma format, depth and tools lie inside PROFILE, and its level is accepted (R210, Table 9-3). -/
def State.seqOk (s : State) (ch : Nat) (q : SeqInfo) : Bool :=
  let codec := s.cv ch K.CH_CODEC_CODEC
  let profile := s.cv ch K.CH_CODEC_PROFILE
  let level := s.cv ch K.CH_CODEC_LEVEL
  q.profiles.contains profile && profileOk codec profile q.chroma q.depth &&
    decide (q.level ≤ if level = 0 then topLevel codec else level)

/-- Level 15.5 in a stream whose capture record does not carry RAW_MODE 2 (R212). -/
def State.level155 (s : State) (ch : Nat) (sets : List (ParamKind × Nat)) : Bool :=
  let d := (s.chan ch).dec
  s.cv ch K.CH_CODEC_CODEC = 3 && d.rawMode ≠ some 2 && sets.any (fun k =>
    k.1 == .sps && ((d.param? k).bind (fun e => e.1.seq)).any (fun q => q.level == 255))

/-- A picture exceeds WIDTH, HEIGHT, SAMPLING or DEPTH of CH_FORMAT (R211, Table 9-3). -/
def State.beyondFormat (s : State) (ch : Nat) (g : PicGeom) : Bool :=
  let f := s.fmt ch
  decide (f.width < g.crop.2.2.1 ∨ f.height < g.crop.2.2.2 ∨ f.chroma < g.chroma ∨ f.depth < g.depth)

/-- The length prefix of the unit at the present position fails the checks of R218. -/
def State.badLength (s : State) (ch : Nat) : Bool :=
  let d := (s.chan ch).dec
  if s.cv ch K.CH_CODEC_STREAM_FORMAT ≠ 1 ∨ d.input.length < 4 then false
  else
    let l := beNat (d.input.take 4)
    let fin := match d.starts.find? (d.pos < ·) with
      | some p => p
      | none => d.fin
    l = 0 || decide (s.cv ch K.CH_DECODE_NAL_MAX < l) ||
      (s.cv ch K.CH_DECODE_INPUT = 1 && decide (fin < d.pos + 4 + l))

/-! ### Pictures -/

/-- A picture waits for UNUSED frame buffers (R245). -/
def State.decStarved (s : State) (ch : Nat) : State :=
  if (s.chan ch).fbWait.isSome then s else s.awaitFb ch (s.chan ch).picCount

/-- A missing reference is made up: filled as an intra picture, tainted, never output (R223, R225). -/
def State.makeUp (s : State) (ch r : Nat) (g : PicGeom) : State :=
  match s.unusedFb ch with
  | none => s
  | some n =>
    let all := List.range g.total
    let data := s.filled ch g (s.fillFor ch g false []) [] [] all []
    let p : DecPic := {
      count := madeUpKey r, geom := g, concealed := all, tainted := true, origin := Config.madeUpOrigin s.free, data := data
      fb := n, decodedAt := s.time, dealt := true, withheld := true, reported := true }
    (((s.takeDecFb ch n (madeUpKey r) true false).draws).modDec ch (fun d => { d with pics := d.pics ++ [p] })).cbump ch
      K.CH_DECODE_STATUS_MADE_UP_REFS 1

/-- A picture begins: marking, its frame buffer and its made-up references (R223, R243). DEDUCED, log entry 124. -/
def State.beginDec (s : State) (ch : Nat) (x : SliceInfo) : State :=
  let missing := (x.refs.eraseDups).filter (fun r => (s.dpb ch r).isNone)
  let n := s.unusedFb ch
  match n with
  | none => s
  | some n =>
    let c := s.chan ch
    let count := c.picCount
    let s := match c.fbWait with
      | some w => s.cbump ch K.CH_REFS_FB_WAIT_NS (s.since w)
      | none => s
    let p : DecPic := {
      count := count, irap := x.irap, inter := x.inter, refs := x.refs, geom := x.geom, capture := c.dec.capture, fb := n }
    let s := (s.takeDecFb ch n count x.isRef true).modChan ch (fun c => { c.fbFound with
      picCount := count + 1
      dec := { c.dec with cur := some p, capture := 0, ignoring := false, badSlice := false } })
    s.each missing (fun s r => (s.makeUp ch r x.geom).decError ch .reference false)

/-- A slice segment of the picture in progress. A dependent segment that follows a damaged one of its slice is concealed
whole. DEDUCED, log entry 111. -/
def State.sliceIn (s : State) (ch : Nat) (x : SliceInfo) : State :=
  if x.dependent && (s.chan ch).dec.badSlice then s
  else
    let s := s.modDec ch (fun d => { d with badSlice := false, cur := d.cur.map (fun c => { c with
      covered := c.covered ++ x.decoded, resync := c.resync || c.broken
      sliceCtus := if x.dependent then c.sliceCtus ++ x.decoded else x.decoded }) })
    match x.damage with
    | none => s
    | some g =>
      let s := (s.decError ch .sliceData true).cbump ch K.CH_DECODE_STATUS_BYTES_SKIPPED g.skipped
      match g.resume with
      | some _ => (s.cbump ch K.CH_DECODE_STATUS_RESYNCS 1).modDec ch (fun d => { d with
          badSlice := true, cur := d.cur.map (fun c => { c with resync := true }) })
      | none => s.modDec ch (fun d => { d with badSlice := true, seek := true })

/-- A slice header error: the slice and all its slice segments are concealed (Table 9-4). -/
def State.badHeader (s : State) (ch bytes : Nat) (dependent : Bool) : State :=
  ((s.decError ch .sliceHeader true).skipUnit ch bytes).modDec ch (fun d => { d with
    badSlice := true
    cur := d.cur.map (fun c => if dependent then { c with
      covered := c.covered.filter (fun n => !c.sliceCtus.contains n), sliceCtus := [] } else c) })

/-! ### Front ends (R10, R426) -/

/-- A front end that holds a substream of the channel. -/
def State.frontOf (s : State) (ch n : Nat) : Bool :=
  (s.unit .df n).inService && (s.unit .df n).grant.any (fun g => g.chan == ch && !g.verify)

/-- Front ends take substreams, each a front end that is free or that has decoded an earlier substream of the channel. None
where one can not. DESIGN CHOICE, log entry 110. -/
def State.takeFronts (s : State) (ch pic : Nat) (dfs : List Nat) : List Nat → Option State
  | [] => some s
  | c :: r => match dfs with
    | [] => none
    | n :: more =>
      if s.unitFree .df n || s.frontOf ch n then
        (s.giveGrant .df n { chan := ch, pic := pic, idx := c, ref := c }).takeFronts ch pic more r
      else none

/-- A substream of the channel waits to be decoded again. -/
def State.frontsWait (s : State) (ch : Nat) : Bool :=
  s.reissue.any (fun e => e.1 == UnitKind.df.code && e.2.chan == ch && !e.2.verify)

/-- The picture's substreams are decoded: their front ends are free. -/
def State.endFronts (s : State) (ch : Nat) : State :=
  ({ s with units := Store.map s.units (fun _ u => match u.grant with
    | some g => if g.chan = ch ∧ !g.verify then
        { u with grant := none, lastHandshake := s.time, lastWrite := s.time } else u
    | none => u) }).serveEngines

/-! ### Slice segments -/

/-- A picture that cannot be decoded yet, or any longer, is discarded and counted (R219, R222). -/
def State.discardPic (s : State) (ch bytes : Nat) : State :=
  ((s.consume ch bytes).modDec ch (fun d => { d with ignoring := true, capture := 0 })).cbump ch
    K.CH_DECODE_STATUS_DISCARDED_PICS 1

/-- A picture of a sequence outside what the channel accepts is discarded, with those after it (R219). -/
def State.refusePic (s : State) (ch bytes : Nat) (x : SliceInfo) (e : DecErr) : State :=
  ((s.decError ch e false).refuseSequence ch x.params).discardPic ch bytes

/-- The first slice segment of a picture that is decoded. `gap`: an H.264 frame_num gap. -/
def State.firstSlice (s : State) (ch bytes : Nat) (x : SliceInfo) (gap known : Bool) (dfs : List Nat) : State :=
  let marked := s.markRefs ch 0 false x.unref x.longTerm
  let missing := ((x.refs.eraseDups).filter (fun r => (marked.dpb ch r).isNone)).length
  if marked.unusedFbs ch < 1 + missing then s.decStarved ch
  else match marked.takeFronts ch (s.chan ch).picCount dfs (if known then x.subs else []) with
    | none => s
    | some s =>
      let s := s.modDec ch (fun d => { d with
        started := true, raslSkip := if x.irap then !d.started else d.raslSkip })
      let s := s.beginDec ch x
      let s := if gap then s.decError ch .reference false else s
      if known then (s.consume ch bytes).sliceIn ch x
      else s.badHeader ch bytes false

/-- A slice segment whose header is intact. -/
def State.slice (s : State) (ch bytes : Nat) (x : SliceInfo) (gap : Bool) (dfs : List Nat) : State :=
  let d := (s.chan ch).dec
  let sets := x.params.map d.param?
  let known := sets.all (·.isSome)
  let refused := sets.any (fun e => e.any (fun e => e.1.kind == .sps && !e.2))
  if !x.first then
    match d.cur with
    | none => s.consume ch bytes
    | some p =>
      if d.ignoring then s.consume ch bytes
      else if !known then s.badHeader ch bytes x.dependent
      else if x.dependent && d.badSlice then s.consume ch bytes
      else match s.takeFronts ch p.count dfs x.subs with
        | none => s
        | some s => (s.consume ch bytes).sliceIn ch x
  else if d.cur.isSome then s
  else if refused then s.discardPic ch bytes
  else if known && s.level155 ch x.params then s.refusePic ch bytes x .unsupported
  else if known && s.beyondFormat ch x.geom then s.refusePic ch bytes x .limit
  else if !d.started && !(x.irap && known) then s.discardPic ch bytes
  else if d.started && d.raslSkip && x.rasl then s.discardPic ch bytes
  else s.firstSlice ch bytes x gap known dfs

/-! ### The end of a picture (R225, R228) -/

/-- MD5 of a decoded picture at the size coded, before cropping, in the form of PIC_MD5 (R228, Table 8-5). -/
def State.decMd5 (s : State) (ch : Nat) (g : PicGeom) (data : List Byte) : List Byte :=
  let f := s.geomFmt ch g g.w g.h
  let comps := if g.chroma = 0 then [0] else [0, 1, 2]
  md5 (comps.flatMap (fun comp =>
    let d := g.scale comp
    (List.range (ceilDiv g.h d.2)).flatMap (fun y => (List.range (ceilDiv g.w d.1)).flatMap (fun x =>
      leBytes (if g.depth = 8 then 1 else 2) (f.reconSample data comp x y)))))

/-- Certificate result of Table 9-6; `filters` tells that a loop filter is enabled. -/
def certResult (check : Bool) (p : DecPic) (md5 : List Byte) (filters : Bool) : Nat :=
  match p.certs with
  | [] => 0
  | c :: _ =>
    let bad := fun (x : Cert) => (x.mode ≠ 1 && x.mode ≠ 2) || decide (x.e < x.maxErr) || (x.mode = 2 && x.maxErr ≠ 0) ||
      x.mode ≠ c.mode || x.e ≠ c.e || x.picCount ≠ c.picCount
    if !check then 0
    else if p.certs.any (fun x => x.version ≠ 1) then 6
    else if p.tainted then 3
    else if p.certs.any bad || filters || (p.certs.map (·.ctus)).sum ≠ p.geom.total then 4
    else if 1 < p.certs.length then 5
    else if c.md5 ≠ md5 then 2 else 1

/-- Taint of a picture: damaged, or tainted through a reference; and the origin (R225). -/
def State.taintOf (s : State) (ch : Nat) (p : DecPic) (concealed : List Nat) : Bool × Nat :=
  let ts := (p.refs.filterMap (s.dpb ch)).filter (·.tainted)
  if !concealed.isEmpty then (true, p.count)
  else if p.irap then (false, 0xFFFFFFFF)
  else match ts with
    | [] => (false, 0xFFFFFFFF)
    | t :: r => (true, r.foldl (fun a x => min a x.origin) t.origin)

/-- Location code and depth of a picture's first and last concealed CTU, or of the picture (Table 9-7). -/
def State.damageLoc (_s : State) (ch : Nat) (p : DecPic) (last : Bool) : Loc :=
  match if last then p.concealed.getLast? else p.concealed.head? with
  | some c => { depth := 5, chan := ch, pic := p.count, tile := p.geom.tile c, ctu := c }
  | none => Loc.ofPic ch p.count

/-- Counters and faults of a complete picture. -/
def State.countDec (s : State) (ch : Nat) (p : DecPic) : State :=
  let n := p.concealed.length
  let s := (s.cbump ch K.CH_DECODE_STATUS_PICTURES_DECODED 1).tick K.DECODE_COUNTERS_DECODED_PICS 1
  let s := (s.cbump ch K.CH_DECODE_STATUS_CONCEALED_CTUS n).tick K.DECODE_COUNTERS_CONCEALED_CTUS n
  let s := if p.tainted then s.cbump ch K.CH_DECODE_STATUS_TAINTED_PICS 1 else s
  let s := if p.certResult = 1 then s.cbump ch K.CH_DECODE_STATUS_CERT_MATCHES 1 else s
  let s := if p.certResult = 2 || p.certResult = 4 then
      (s.cbump ch K.CH_DECODE_STATUS_CERT_FAILS 1).raise F.DEC_CERT_MISMATCH { loc := Loc.ofPic ch p.count } else s
  if n = 0 then s
  else (s.cbump ch K.CH_DECODE_STATUS_DAMAGED_PICS 1).raise F.DEC_DAMAGE { loc := s.damageLoc ch p false }

/-- The picture in progress is complete: what no slice covered is concealed, taint and certificate are settled, and its
samples stand in its frame buffer. -/
def State.endDec (s : State) (ch : Nat) (filters : Bool) (data : List Byte)
    (vs : List (Nat × Int × Int)) : State :=
  match (s.chan ch).dec.cur with
  | none => s
  | some p =>
    let concealed := (List.range p.geom.total).filter (fun c => !p.covered.contains c)
    let x := s.fillFor ch p.geom p.inter p.refs
    let (tainted, origin) := s.taintOf ch p concealed
    let data := s.filled ch p.geom x data p.covered concealed vs
    let method := match concealed with
      | c :: _ => (x.row p.geom p.covered vs c).1
      | [] => 0
    let p := { p with
      concealed := concealed, tainted := tainted, origin := origin, data := data, decodedAt := s.time, method := method }
    let check := s.cv ch K.CH_DECODE_CHECK_CERT = 1 && s.cv ch K.CH_CODEC_CODEC ≠ 1
    let p := { p with certResult := certResult check p (s.decMd5 ch p.geom data) filters }
    let comp := Config.compressedBytes s.free
    let s := (s.draws.modFb p.fb (fun b => { b with recon := [(0, data)], compBytes := comp })).countDec ch p
    s.modDec ch (fun d => { d with
      cur := none, pics := d.pics ++ [p]
      last := (p.geom, data) :: d.last.filter (fun l => !sameSize l.1 p.geom) })

/-! ### Reports (R229) -/

/-- A certificate of the picture records that the encoder's verify failed. -/
def DecPic.encFail (p : DecPic) : Bool := p.certs.any (fun c => c.verifyResult = 2 || c.verifyResult = 3)

/-- A picture falls under a report. -/
def DecPic.reports (p : DecPic) : Bool := p.tainted || p.withheld || decide (2 ≤ p.certResult) || p.encFail

/-- The 64 bytes of a damage report (Table 9-7). -/
def State.reportBytes (s : State) (ch : Nat) (p : DecPic) : List Byte :=
  let b := fun (c : Bool) (k : Nat) => if c then 2 ^ k else 0
  let l := s.damageLoc ch p false
  let body := leBytes 8 (locCode s.dev l) ++ leBytes 8 (locCode s.dev (s.damageLoc ch p true)) ++ leBytes 4 p.count ++
    leBytes 4 p.origin ++ leBytes 4 p.concealed.length ++ leBytes 4 p.geom.total ++ leBytes 1 l.depth ++
    leBytes 1 p.firstClass ++ leBytes 2 p.classMask ++
    leBytes 1 (b (!p.concealed.isEmpty) 0 + b p.tainted 1 + b p.withheld 2 + b p.frozen 3 + b p.resync 4 + b p.encFail 5) ++
    leBytes 1 p.method ++ leBytes 1 p.certResult ++ leBytes 1 ((p.certs.head?.map (·.maxErr)).getD 0) ++
    leBytes 8 p.errPos ++ leBytes 8 p.outTime ++ leBytes 4 0
  body ++ leBytes 4 (crc32c body).toNat

/-- Entries of the channel's output for a stream. -/
def Chan.queued (c : Chan) (stream : Nat) : Nat := (c.outQ.filter (·.stream == stream)).length

/-- A report enters the stream-3 output. With 256 waiting, the oldest that has not begun to leave is replaced. -/
def State.putReport (s : State) (ch ring : Nat) (x : OutChunk) : State :=
  let c := s.chan ch
  if c.queued 3 < 256 then s.modChan ch (fun c => { c with outQ := c.outQ ++ [x] })
  else
    let skip := if (s.ring ring).chunkDone = 0 then 0 else 1
    match (c.outQ.filter (·.stream == 3))[skip]? with
    | some old =>
      let q := (takeFirst (· == old) c.outQ).map Prod.snd
      let s := s.setChan ch { c with outQ := q.getD c.outQ ++ [x] }
      (s.each old.bufs (fun s b => s.freeBuf b 4)).bumpSat (chKey ch K.CH_DECODE_STATUS_REPORTS_LOST) 1
    | none => s

/-- The report of one picture, or none where no ring takes it. False while it waits for a pool buffer. -/
def State.reportOne (s : State) (ch : Nat) (p : DecPic) : Bool × State :=
  match s.outRing ch 3, p.reports with
  | some ring, true =>
    let (got, s) := s.obtain ch 5 0 1
    match got with
    | none => (false, s)
    | some bufs =>
      let l := s.damageLoc ch p false
      let s := (s.fillBufs bufs 64).handOver bufs [4]
      (true, s.putReport ch ring {
        stream := 3, data := s.reportBytes ch p, bufs := bufs, picCount := p.count, loc := locCode s.dev l
        depth := l.depth, time := p.outTime, key := p.irap, eop := true })
  | _, _ => (true, s)

/-- Reports of pictures whose output is dealt with, in decoding order. -/
def State.flushReports (s : State) (ch fuel : Nat) : State :=
  match fuel with
  | 0 => s
  | k + 1 =>
    match (s.chan ch).dec.pics.find? (fun p => !p.reported) with
    | none => s.purgeDec ch
    | some p =>
      if !p.dealt then s
      else
        let (ok, s) := s.reportOne ch p
        if !ok then s
        else (s.modDec ch (fun d => { d with pics := d.pics.map (fun (x : DecPic) =>
          if x.count = p.count then { x with reported := true } else x) })).flushReports ch k

/-! ### DECODE_NAL_UNIT -/

/-- A parameter set without an error of its own: what it refers to must be present, and an SPS may be one that the channel
does not accept. -/
def State.takeParam (s : State) (ch bytes : Nat) (x : ParamSet) : State :=
  let d := (s.chan ch).dec
  if !x.needs.all (fun k => (d.param? k).isSome) then
    ((s.decError ch .paramSet true).skipUnit ch bytes).dropParam ch (x.kind, x.id)
  else
    let ok := x.seq.all (s.seqOk ch)
    let s := (s.consume ch bytes).modDec ch (fun d => d.putParam x ok)
    if ok then s else (s.decError ch .unsupported false).refuseSequence ch [(x.kind, x.id)]

/-- What an intact NAL unit does. -/
def State.nalUnit (s : State) (ch bytes : Nat) (content : NalContent) (gap : Bool) (dfs : List Nat) : State :=
  match content with
  | .ignored => s.consume ch bytes
  | .paramSet x => s.takeParam ch bytes x
  | .cert c => (s.consume ch bytes).modDec ch (fun d => { d with
      cur := d.cur.map (fun (p : DecPic) => { p with certs := p.certs ++ [c] }) })
  | .capture time raw => (s.consume ch bytes).modDec ch (fun d => { d with capture := time, rawMode := some raw })
  | .slice x => s.slice ch bytes x gap dfs
  | .pictureEnd filters data vs =>
    if s.frontsWait ch then s else ((s.consume ch bytes).endDec ch filters data vs).endFronts ch

/-- What a NAL unit with an error does (Table 9-4). -/
def State.badUnit (s : State) (ch bytes : Nat) (content : NalContent) (e : ParseErr) (dfs : List Nat) : State :=
  match e with
  | .nal => (s.decError ch .nal true).skipFrom ch (s.beyondUnit ch)
  | .paramSet =>
    let s := (s.decError ch .paramSet true).skipUnit ch bytes
    match content with
    | .paramSet x => s.dropParam ch (x.kind, x.id)
    | _ => s
  | .sliceHeader =>
    if (s.chan ch).dec.ignoring then s.consume ch bytes
    else s.badHeader ch bytes (match content with
      | .slice x => x.dependent
      | _ => false)
  | .frameNumGap => s.nalUnit ch bytes content true dfs

/-- A unit starts its own arithmetic-coding state, or takes no input: here decoding resumes after SLICE_DATA (Table 9-4). -/
def startsCoding (x : NalContent) (err : Option ParseErr) : Bool :=
  match x with
  | .slice x => !x.dependent && (err.isNone || err == some .frameNumGap)
  | _ => false

/-- After a SLICE_DATA error units are discarded up to the resume point, which is counted. DEDUCED, log entry 111. -/
def State.seekUnit (s : State) (ch bytes : Nat) (content : NalContent) (err : Option ParseErr) (dfs : List Nat) : State :=
  let go := fun (s : State) => match err with
    | none => s.nalUnit ch bytes content false dfs
    | some e => s.badUnit ch bytes content e dfs
  if !(s.chan ch).dec.seek then go s
  else if startsCoding content err then
    go ((s.modDec ch (fun d => { d with seek := false })).cbump ch K.CH_DECODE_STATUS_RESYNCS 1)
  else match content with
    | .pictureEnd _ _ _ => go s
    | _ => s.skipBytes ch bytes

/-- The next missing input lies in the unit or before it. -/
def Decoder.gapIn (d : Decoder) (bytes : Nat) : Option Nat := d.gaps.find? (fun g => g < d.pos + max 1 bytes)

/-- TRANSPORT errors: one for each packet, read or descriptor missing here. What is whole of the broken unit is discarded up to
the resume point after the gap. -/
def State.transport (s : State) (ch gap : Nat) : State :=
  let n := ((s.chan ch).dec.gaps.filter (· ≤ gap)).length
  let s := s.modDec ch (fun d => { d with gaps := d.gaps.filter (gap < ·) })
  (s.each (List.range n) (fun s _ => s.decError ch .transport true)).skipFrom ch (max gap (s.chan ch).dec.pos)

/-- The stream has ended inside an access unit: what is left is discarded (TRUNCATED). -/
def State.truncated (s : State) (ch : Nat) : State :=
  (s.decError ch .truncated true).skipBytes ch (s.chan ch).dec.input.length

/-- DECODE_NAL_UNIT: `bytes` is what the unit takes from the input, start code or length prefix included. It waits while the
unit has not arrived, while no front end is in service, and while one that it names is not free. DESIGN CHOICE, log entry 110. -/
def execDecodeNalUnit (t : Time) (ch bytes : Nat) (parse : NalParse) (dfs : List Nat) (s : State) : Out :=
  inRange "CH" ch 256 <| live t s (fun s =>
    if s.fatal || !s.decodes ch || s.activeOf .df = 0 then s
    else
      let s := s.skipOn ch
      let d := (s.chan ch).dec
      if d.skipping.isSome then s
      else match d.gapIn bytes with
        | some g => (s.transport ch g).flushReports ch 4096
        | none =>
          let n := if s.cv ch K.CH_CODEC_STREAM_FORMAT = 1 ∧ bytes ≠ 0 then 4 + beNat (d.input.take 4) else bytes
          if s.badLength ch && bytes ≠ 0 then
            ((s.decError ch .length true).skipFrom ch (s.beyondUnit ch)).flushReports ch 4096
          else if d.input.length < n then
            if s.inputEnded ch && !d.input.isEmpty then (s.truncated ch).flushReports ch 4096 else s
          else (s.seekUnit ch n parse.content parse.err dfs).flushReports ch 4096)

/-! ### DECODED_PICTURE_OUTPUT (R215 to R217, R227, R248, R265) -/

/-- Some derived output of the channel is enabled. -/
def State.derives (s : State) (ch : Nat) : Bool := (List.range 4).any (fun k => s.der ch k K.CH_DERIVEDk_ENABLE = 1)

/-- The picture that an output slot carries: its own, a frozen one, or none. -/
def State.slotOf (s : State) (ch : Nat) (p : DecPic) : Option (Bool × PicGeom × List Byte) :=
  let own := some (false, p.geom, s.cropped ch p.geom p.data)
  if !p.tainted then own
  else match s.cv ch K.CH_DECODE_CONCEAL with
    | 0 => own
    | 2 => ((s.chan ch).dec.lastClean).bind (fun l =>
        if l.1.crop.2.2 = p.geom.crop.2.2 then some (true, l.1, l.2.1) else none)
    | _ => none

/-- A picture output is an accepted frame for the channel's derived outputs. -/
def State.derivedFrame (s : State) (ch : Nat) (p : DecPic) (g : PicGeom) (data : List Byte) : State :=
  if !s.derives ch then s
  else
    let (_, _, w, h) := g.crop
    let f := s.geomFmt ch g w h
    let lines := (List.range f.lineKeys.length).foldl (fun m i =>
      Store.put m (f.lineKeys.getD i 0) ((data.drop (i * f.lineBytes)).take f.lineBytes)) []
    s.modChan ch (fun c =>
      let x : Frame := {
        seq := c.frameSeq, frameCount := c.accepted % 2 ^ 32, opened := s.time, capture := p.capture, captureLine := 0
        lines := lines, begun := true, closed := true, accepted := true, taken := true, coded := true
        geom := some (w, h, s.geomSampling ch g, g.depth) }
      { c with frames := c.frames ++ [x], frameSeq := c.frameSeq + 1, accepted := c.accepted + 1 })

/-- OUTPUT_HOLD of a picture's buffer clears; under FREEZE the last clean picture output keeps it (R248). -/
def State.clearOut (s : State) (n : Nat) : State := s.modFb n (fun b => { b with outHold := false })
def State.noteClean (s : State) (ch : Nat) (p : DecPic) (data : List Byte) : State :=
  if p.tainted then s.clearOut p.fb
  else
    let freeze := s.cv ch K.CH_DECODE_CONCEAL = 2
    let s := match (s.chan ch).dec.lastClean with
      | some l => if l.2.2 = p.fb then s else s.clearOut l.2.2
      | none => s
    let s := if freeze then s else s.clearOut p.fb
    s.modDec ch (fun d => { d with lastClean := if freeze then some (p.geom, data, p.fb) else none })

/-- A picture's output is dealt with. DEDUCED, log entry 119. -/
def State.dealt (s : State) (ch : Nat) (p : DecPic) (time : Time) (withheld frozen : Bool) : State :=
  (s.modDec ch (fun d => { d with pics := d.pics.map (fun (x : DecPic) =>
    if x.count = p.count then { x with
      dealt := true, outTime := if withheld then x.decodedAt else time, withheld := withheld, frozen := frozen }
    else x) })).flushReports ch 4096

/-- The launch that releases the next picture, under PERIODIC and LIST: its time. -/
def State.releaseTime (s : State) (ch : Nat) : Option Time :=
  if s.cv ch K.CH_LAUNCH_MODE = 2 then some s.time else (s.chan ch).dec.owed.head?

/-- A launch is used up; a picture decoded after it is counted late. DEDUCED, log entry 118. -/
def State.useLaunch (s : State) (ch : Nat) (p : DecPic) (time : Time) : State :=
  if s.cv ch K.CH_LAUNCH_MODE = 2 then s
  else
    let s := s.modDec ch (fun d => { d with owed := d.owed.drop 1 })
    let s := s.modChan ch (fun c => c.fixHistory time p.count)
    if time < p.decodedAt then s.cbump ch K.CH_LAUNCH_LATE_FIRES 1 else s

/-- A slot is written to the stream-0 ring's output. -/
def State.putPicture (s : State) (ch : Nat) (p : DecPic) (data : List Byte) (bufs : List Nat) (time : Time) : State :=
  let s := (s.fillBufs bufs data.length).handOver bufs [4]
  s.modChan ch (fun c => { c with outQ := c.outQ ++ [{
    stream := 0, data := data, bufs := bufs, picCount := p.count, loc := locCode s.dev (Loc.ofPic ch p.count), depth := 3
    time := time, key := p.irap, eop := true }] })

/-- One picture leaves in output order. -/
def State.outputPicture (s : State) (ch : Nat) (p : DecPic) (time : Time) : State :=
  match s.slotOf ch p with
  | none => ((s.useLaunch ch p time).clearOut p.fb).dealt ch p time true false
  | some (frozen, g, data) =>
    let done := fun (s : State) =>
      let s := ((s.useLaunch ch p time).noteClean ch p data).derivedFrame ch p g data
      (s.cbump ch K.CH_DECODE_STATUS_PICTURES_OUTPUT 1).dealt ch p time false frozen
    if (s.outRing ch 0).isSome then
      let (got, s) := s.obtain ch 4 0 (max 1 (ceilDiv data.length (max 1 s.pool.bufBytes)))
      match got with
      | none => s
      | some bufs => done (s.putPicture ch p data bufs time)
    else if s.derives ch then done s
    else ((s.useLaunch ch p time).clearOut p.fb).dealt ch p time false false

/-- DECODED_PICTURE_OUTPUT: the next picture in output order, released by its launch where the channel has a launch list. -/
def execDecodedPictureOutput (t : Time) (ch pic : Nat) (s : State) : Out :=
  inRange "CH" ch 256 <| live t s (fun s =>
    if s.fatal || !s.decodes ch then s
    else match (s.chan ch).dec.pics.find? (fun p => p.count == pic && !p.dealt), s.releaseTime ch with
      | some p, some time => s.outputPicture ch p time
      | _, _ => s)

/-! ### LAUNCH_FIRE -/

/-- No picture is left in the stream of a draining or ended input: nothing decoded waits for output, and nothing more can
come. -/
def State.streamEnded (s : State) (ch : Nat) : Bool :=
  let d := (s.chan ch).dec
  d.cur.isNone && d.input.isEmpty && d.pics.all (·.dealt) && (s.chan ch).state = .draining

/-- A launch of a decode channel: it releases the next picture in output order, or is void where none is left (R265). DEDUCED, log entry 122. -/
def State.fireDecode (s : State) (ch : Nat) (time : Time) : State :=
  let s := s.launchCommon ch time
  if s.streamEnded ch then
    (s.modChan ch (fun c => c.remember time c.picCount 2)).cbump ch K.CH_LAUNCH_VOID_LAUNCHES 1
  else s.modChan ch (fun c =>
    let c := c.remember time c.picCount 0
    { c with dec := { c.dec with owed := c.dec.owed ++ [time] } })

/-- LAUNCH_FIRE: the next launch of the channel that is due. -/
def execLaunchFire (t : Time) (ch : Nat) (s : State) : Out :=
  inRange "CH" ch 256 <| live t s (fun s =>
    if s.fatal then s
    else match s.dueLaunch ch with
      | none => s
      | some (time, force, base) =>
        let s := s.dequeueLaunch ch
        if s.cv ch K.CH_DECODE_DIRECTION = 1 then s.fireDecode ch time else s.fire ch time force base)

end Sys2Proof.Machine
end

