-- ==== Sys2Proof/Machine/Admission.lean ====
section
/-! DEFINITION. Admission of a channel at OPEN: loads, buffer headroom and settings (R17, R23, R96 to R98, R114, R115, R135,
R140, R162, R163, R168 to R171, R187, R211, R239 to R241, R286, R299, R313, R328). Pending values are what it looks at: they
apply when the OPEN is admitted. -/

namespace Sys2Proof.Machine

/-- A pending value of a channel entry. -/
def State.pcv (s : State) (ch k : Nat) : Nat := s.pv (chKey ch k)

/-- The format that the pending values give. -/
def State.pfmt (s : State) (ch : Nat) : Fmt := fmtOf (s.pcv ch)

/-- The pending values make it a decode channel. -/
def State.pdec (s : State) (ch : Nat) : Bool := s.pcv ch K.CH_DECODE_DIRECTION = 1

/-! ### Rates and loads (R23, R96, R170) -/

/-- Samples of a frame coded by the region of a device of the array. DEDUCED, log entry 60. -/
def Fmt.regionOf (f : Fmt) (d : Nat) : Nat :=
  ((List.range f.pictures).flatMap (fun p =>
    ((List.range f.ctus).filter (fun c => f.mapDev (f.cellOf p c) = d)).map f.ctuSamples)).sum

/-- Samples per frame by which a channel is loaded: its region in an array, that of the largest region for a standby. -/
def State.loadSamples (s : State) (f : Fmt) : Nat :=
  if !f.array then f.samples
  else if (List.range (f.cellCols * f.cellRows)).any (fun k => f.mapDev k == s.dev) then f.regionOf s.dev
  else ((List.range 8).map f.regionOf).foldl max 0

/-- Samples per second as a fraction: samples per frame × RATE_NUM over RATE_DEN. -/
def State.sampleRate (s : State) (f : Fmt) : Frac := ⟨s.loadSamples f * f.num, max 1 f.den⟩

/-- Load of a rate at a figure of Table 1-12, in hundredths of ‰ per Gsample/s. -/
def loadAt (rate : Frac) (figure : Nat) : Frac := ⟨rate.n * figure, rate.d * 100000000000⟩

/-- The channel runs a full verify (R201). -/
def State.pverify (s : State) (ch : Nat) : Bool := s.pcv ch K.CH_BOUND_VERIFY = 1

/-- The loads of a channel (Table 1-12); a PASS_THROUGH channel has none (R300). -/
def State.loadOf (s : State) (ch : Nat) : Load :=
  let f := s.pfmt ch
  let r := s.sampleRate f
  let fed := if f.kind = 1 ∨ f.kind = 2 then ⟨f.samples * f.num, max 1 f.den⟩ else ⟨0, 1⟩
  if s.pdec ch then { px := loadAt r 2000, df := loadAt r 3125 }
  else if f.pass then { ingest := fed }
  else
    let archive := s.pcv ch K.CH_SEARCH_PRESET = 1
    let v := s.pverify ch
    { px := loadAt r ((if archive then 5882 else 3000) + (if v then 2000 else 0))
      ms := loadAt r (if archive then 5000 else 4167)
      ee := ⟨r.n * 4000, r.d * 192 * 1000000000⟩
      df := loadAt r (if v then 3125 else 0), ingest := fed }

/-- Parts of a picture or pictures of a frame: P of Table 7-5. -/
def Fmt.streams (f : Fmt) : Nat := f.pictures * f.parts

/-- Engines of a tile: WPP_ENGINES with WAVEFRONT set. -/
def Fmt.engines (f : Fmt) : Nat := if f.wavefront then f.wpp else 1

/-! ### Settings: formats and sources (R114, R115, R211) -/

/-- Accepted frame formats (Table 5-3); the kinds are those of an encode channel. -/
def formatOk (f : Fmt) (decode : Bool) : Bool :=
  let even := fun n => n % 2 == 0
  let d4 := f.depth == 8 || f.depth == 10 || f.depth == 12 || f.depth == 16
  let size := 64 ≤ f.width && f.width ≤ 16384 && 64 ≤ f.height && f.height ≤ 8640
  match f.sampling with
  | 0 => !decode && 256 ≤ f.width && f.width ≤ 16384 && even f.width && 128 ≤ f.height && f.height ≤ 8640 &&
      even f.height && (f.depth == 10 || f.depth == 12 || f.depth == 14 || f.depth == 16) && f.kind ≤ 1
  | 1 => size && 8 ≤ f.depth && f.depth ≤ 16 && (decode || f.kind ≤ 1)
  | 2 => size && even f.width && even f.height && d4 && (decode || f.kind = 0 || f.kind = 3)
  | 3 => size && even f.width && d4
  | 4 | 5 => size && d4
  | _ => false

/-- RATE_NUM / RATE_DEN lies from 1 to 120, the frame holds at most 141,557,760 samples, and the picture 524,288 CTUs. -/
def Fmt.sizeOk (f : Fmt) : Bool :=
  decide (f.den ≤ f.num ∧ f.num ≤ 120 * f.den ∧ f.width * f.height ≤ 141557760 ∧ f.ctus ≤ 524288)

/-- The format of a decode channel as an OPEN counts its CTUs: a stream has its own CTU size (R17, R210). DEDUCED, log entry 215. -/
def Fmt.forDecode (f : Fmt) : Fmt := { f with ctu := if f.codec = 1 then 16 else if f.codec = 2 then 64 else 128 }

/-- The source that a channel names: its kind and what identifies it. DEDUCED, log entry 58. -/
def sourceKey (rd : Nat → Nat) : List Nat :=
  match rd K.CH_SOURCE_KIND with
  | 1 => [1, rd K.CH_SOURCE_PORT]
  | 2 => [2, rd K.CH_SOURCE_PORT, rd K.CH_SOURCE_MCAST_ADDR, rd K.CH_SOURCE_SRC_ADDR, rd K.CH_SOURCE_UDP_PORT]
  | 3 => [3, rd K.CH_SOURCE_SOURCE_CHANNEL, rd K.CH_SOURCE_PORT]
  | _ => []

/-- Channels open or draining other than this one. -/
def State.othersOpen (s : State) (ch : Nat) : List Nat :=
  (s.chans.filter (fun e => e.1 ≠ ch && e.2.working)).map Prod.fst

/-- PORT names a unit with the role that KIND needs, no other channel has the source (R114), and at most 8 ST 2110-20 flows
are received at a time (R121): a ninth is refused as an invalid setting. DEDUCED, log entry 236. -/
def State.sourceOk (s : State) (ch : Nat) : Bool :=
  let f := s.pfmt ch
  let port := match f.kind with
    | 1 => f.port < 6 && s.role f.port == 0x40
    | 2 => f.port / 16 < 6 && s.portRate f.port ≠ 0
    | 3 => decide (f.port < 4)
    | _ => true
  let key := sourceKey (s.pcv ch)
  let flows := (s.othersOpen ch).filter (fun c => s.cv c K.CH_DECODE_DIRECTION = 0 && s.cv c K.CH_SOURCE_KIND = 2)
  port && (f.kind ≠ 2 || flows.length < 8) && (key.isEmpty || (s.othersOpen ch).all (fun c =>
    s.cv c K.CH_DECODE_DIRECTION = 1 || sourceKey (s.cv c) ≠ key))

/-- Kinds 1 and 2 together stay within 24.0 Gsample/s (R115). -/
def State.ingestOk (s : State) (ch : Nat) : Bool :=
  let l := (s.loadOf ch).ingest
  l.n = 0 || ((s.loadSum (·.ingest)).add l).le ⟨24000000000, 1⟩

/-- DECODE PORT holds the role its input needs. -/
def State.decodePortOk (s : State) (ch : Nat) : Bool :=
  let p := s.pcv ch K.CH_DECODE_PORT
  match s.pcv ch K.CH_DECODE_INPUT with
  | 1 => decide (p < ((List.range 6).filter (fun q => s.role q == 0x10)).length)
  | 2 => p / 16 < 6 && s.portRate p ≠ 0
  | _ => true

/-! ### Settings: coding (R135, R140, R162, R163, R168, R170, R187) -/

/-- The checks of R162. -/
def State.codecOk (s : State) (ch : Nat) : Bool :=
  let f := s.pfmt ch
  let ip := s.pcv ch K.CH_CODEC_INTRA_PERIOD
  let b := s.pcv ch K.CH_CODEC_B_PICTURES
  let profile := s.pcv ch K.CH_CODEC_PROFILE
  let intra := match profileInfo profile with
    | some p => p.2.2.2.2
    | none => false
  let ctu := match f.codec with
    | 1 => f.ctu == 16
    | 2 => f.ctu == 32 || f.ctu == 64
    | _ => f.ctu == 64 || f.ctu == 128
  profileOk f.codec profile f.chroma f.codedDepth && ctu && (!intra || ip == 1) &&
    (b == 0 || (ip ≠ 1 && (ip == 0 || ip % (b + 1) == 0))) &&
    (f.codec ≠ 1 || (s.pcv ch K.CH_CODEC_HASH_SEI == 0 && s.pcv ch K.CH_CODEC_IRAP_KIND == 0 &&
      s.pcv ch K.CH_CODEC_TIER == 0))

/-- The level in use at the pending values (R163). -/
def State.levelUsed (s : State) (ch : Nat) : Nat := (s.pfmt ch).levelOf (s.pcv ch K.CH_CODEC_LEVEL)

/-- The check of R163. -/
def State.levelOk (s : State) (ch : Nat) : Bool :=
  let f := s.pfmt ch
  let l := s.levelUsed ch
  if f.parts = 4 then l == 255
  else (levelCodes f.codec).contains l && levelFits f f.colStarts.length f.rowStarts.length l

/-- The check of R168. The standard's smallest tile binds every tile of a part that is divided, by cells or by tiles. -/
def State.tilesOk (s : State) (ch : Nat) : Bool :=
  let f := s.pfmt ch
  let (minW, minH) := Config.tileMin f.codec
  let divided := f.codec ≠ 1 && 1 < f.colStarts.length * f.rowStarts.length
  let gaps := fun (l : List Nat) (fin : Nat) => (l.zip (l.tail ++ [fin])).map (fun e => e.2 - e.1)
  (f.codec ≠ 1 || (f.tileCols == 1 && !f.wavefront)) &&
    (s.pcv ch K.CH_STATE_MODE == 1 || (f.tileCols == 1 && f.tileRows == 1 && f.wpp == 1)) &&
    (gaps f.colStarts f.cols).all (fun w => w ≠ 0 && (!divided || minW ≤ w * f.ctu)) &&
    (gaps f.rowStarts f.rows).all (fun h => h ≠ 0 && (!divided || minH ≤ h * f.ctu))

/-- CTUs of the largest tile of a part in the region of a device, and of the part's region. -/
def Fmt.tileShare (f : Fmt) (part d : Nat) : Nat × Nat :=
  let mine := (List.range f.ctus).filter (fun c =>
    (f.parts = 1 || f.ctuPart c = part) && (!f.array || f.mapDev (f.cellOf part c) = d))
  ((mine.map (fun c => (mine.filter (fun x => f.tileNum x = f.tileNum c)).length)).foldl max 0, mine.length)

/-- The devices whose regions R170 is applied to: this one, or for a standby each one whose region it may take over (R171).
DEDUCED, log entry 60. -/
def State.binDevs (s : State) (f : Fmt) : List Nat :=
  let mapped := (List.range (f.cellCols * f.cellRows)).map f.mapDev
  if !f.array || mapped.contains s.dev then [s.dev] else mapped

/-- The bin rate of the largest tile of every part stays within one engine's 4.0 Gbin/s (R170). -/
def State.binsOk (s : State) (ch : Nat) : Bool :=
  let f := s.pfmt ch
  (s.binDevs f).all (fun d => (List.range f.streams).all (fun part =>
    let samples := if f.array then f.regionOf d else f.samples
    let (a, b) := f.tileShare part d
    decide (samples * f.num * a * s.pcv ch K.CH_TILING_BIN_BUDGET ≤
      4000000000 * (max 1 f.den * b * f.streams * f.engines))))

/-- Engines that the tile grid needs at once stay within EE_ACTIVE (R170). -/
def State.enginesOk (s : State) (ch : Nat) : Bool :=
  let f := s.pfmt ch
  s.pdec ch || f.pass || decide (f.streams * f.tileCols * f.tileRows * f.engines ≤ s.activeOf .ee)

/-- The ceiling rate that the pending settings give (Table 8-2). -/
def State.pceiling (s : State) (ch : Nat) : Nat :=
  match s.pcv ch K.CH_RATE_MODE with
  | 2 => s.pcv ch K.CH_RATE_TARGET_BITRATE
  | 1 | 4 | 5 => s.pcv ch K.CH_RATE_MAX_BITRATE
  | _ => 0

/-- The checks of R187. -/
def State.rateOk (s : State) (ch : Nat) : Bool :=
  let f := s.pfmt ch
  let mode := s.pcv ch K.CH_RATE_MODE
  let bounded := mode == 5 || mode == 6
  let skip := s.pcv ch K.CH_RATE_OVERLOAD == 1
  let hrd := s.pcv ch K.CH_CODEC_HRD_SEI == 1
  let c := s.pceiling ch
  let (br, cpb) := Config.levelRate f.codec (s.pcv ch K.CH_CODEC_PROFILE) (s.levelUsed ch) (s.pcv ch K.CH_CODEC_TIER)
  mode ≤ 6 && !(bounded && f.codec == 1) && !(bounded && (skip || hrd)) &&
    !(mode == 4 && (s.pcv ch K.CH_RATE_MAX_BITRATE < s.pcv ch K.CH_RATE_TARGET_BITRATE ||
      s.pcv ch K.CH_RATE_MAX_BITRATE == 0)) &&
    !(hrd && c == 0) && !(skip && s.pcv ch K.CH_CODEC_INTRA_PERIOD == 1) &&
    (!hrd || decide (c ≤ br * f.streams ∧ c * s.pcv ch K.CH_RATE_CPB_MS ≤ cpb * f.streams * 1000))

/-- LUT stores held: by open, draining and FAULTED channels (R135). -/
def State.lutStores (s : State) : List Nat := s.chans.filterMap (fun e => e.2.lutStore)

/-- The checks of R133 and R135. -/
def State.rawOk (s : State) (ch : Nat) : Bool :=
  let f := s.pfmt ch
  let img := ((s.chan ch).lut 4).pending
  let max_ := 2 ^ f.lutDepth - 1
  (!(f.raw && f.rawMode == 2) || (f.width % 256 == 0 && f.codec == 3)) &&
    (!f.lutEn || (f.sampling ≤ 1 && (s.lutStores).length < 2 && img.all (fun e => e.2 ≤ max_)))

/-- The check of R140. -/
def State.searchOk (s : State) (ch : Nat) : Bool :=
  s.pcv ch K.CH_SEARCH_PRESET == 1 || s.pcv ch K.CH_SEARCH_SEARCH_REFS ≤ 2

/-! ### Frame buffers (R239 to R241) -/

/-- FB_BYTES. -/
def State.fbBytes (s : State) (ch : Nat) : Nat :=
  let f := s.pfmt ch
  let w := if f.codedDepth = 8 then 1 else 2
  let r := ceilDiv (f.withChroma (f.picW * f.picH) * f.pictures * w * 65) 64
  let m := 16 * ceilDiv f.picW 16 * ceilDiv f.picH 16 * f.pictures
  let y := if s.pdec ch then 0 else
    w * ((List.range 6).map (fun k => levelSize f.p0W k * levelSize f.p0H k)).sum
  let k := if s.pdec ch then 0 else 16 * (ceilDiv f.p0W 16 * ceilDiv f.p0H 16)
  roundUp (r + m + y + k) 0x200000

/-- FB_COUNT. The level of a decode channel with LEVEL 0 is the highest it accepts, 6.2. -/
def State.fbCount (s : State) (ch : Nat) : Nat :=
  let f := s.pfmt ch
  let extra := s.pcv ch K.CH_REFS_FB_EXTRA
  if s.pdec ch then
    let l := s.pcv ch K.CH_CODEC_LEVEL
    Config.levelDpb f.codec (if l = 0 then (levelCodes f.codec).getLast?.getD 0 else l) (f.width * f.height) + extra
  else if f.pass then 0
  else s.pcv ch K.CH_REFS_DPB_FRAMES + extra

/-- The region and the 4,096 frame buffers hold what the channel needs (R239). -/
def State.fbsOk (s : State) (ch : Nat) : Bool :=
  decide (s.fbCount ch * (s.fbBytes ch / 0x200000) ≤ s.granulesFree ∧ s.fbs.length + s.fbCount ch ≤ 4096)

/-- The checks of R241. -/
def State.refsOk (s : State) (ch : Nat) : Bool :=
  let f := s.pfmt ch
  let dpb := s.pcv ch K.CH_REFS_DPB_FRAMES
  let b := s.pcv ch K.CH_CODEC_B_PICTURES
  s.pcv ch K.CH_SEARCH_SEARCH_REFS ≤ dpb && (b == 0 || 2 + Nat.log2 (b + 1) ≤ dpb) &&
    (f.parts == 4 || dpb ≤ Config.levelDpb f.codec (s.levelUsed ch) (f.picW * f.picH)) &&
    (!s.pverify ch || 3 ≤ s.pcv ch K.CH_REFS_FB_EXTRA)

/-! ### Outputs, working region and arrays (R286, R299, R313, R328) -/

/-- Egress queues that the streams of a channel name. -/
def queuesNamed (rd : Nat → Nat) (streams : Nat) : List Nat :=
  ((List.range streams).map (fun k => rd (K.CH_OUTPUT_QUEUE + k))).filter (· ≠ 0xFFFF)

/-- The checks of R299 and R313. -/
def State.outputOk (s : State) (ch : Nat) : Bool :=
  let f := s.pfmt ch
  let qs := queuesNamed (s.pcv ch) f.pictures
  let owner := (s.chan ch).owner
  qs.all (fun q => (s.ring q).owner == some owner) && qs.dedup.length == qs.length &&
    (s.othersOpen ch).all (fun c => (queuesNamed (s.cv c) (s.fmt c).pictures).all (fun q => !qs.contains q)) &&
    (qs.isEmpty || !f.pass || 3 ≤ f.sampling)

/-- Bytes of the working region for the channel's ingest, and for a derived output under the pending values (R328). -/
def State.ingestSpace (s : State) (ch : Nat) : Nat :=
  let f := s.pfmt ch
  roundUp (s.pcv ch K.CH_SOURCE_INGEST_DEPTH * f.frameBytes) 0x200000 +
    (if !s.pdec ch && f.kind = 2 then roundUp (s.pcv ch K.CH_SOURCE_BUF_BYTES) 0x200000 else 0)
def State.derSpace (s : State) (ch k : Nat) : Nat :=
  let rd := fun key => s.pv (derKey ch k key)
  if rd K.CH_DERIVEDk_ENABLE = 0 then 0
  else
    let f : Fmt := { fmtOf (fun _ => 0) with
      kind := 3, width := rd K.CH_DERIVEDk_OUT_WIDTH, height := rd K.CH_DERIVEDk_OUT_HEIGHT
      sampling := rd K.CH_DERIVEDk_OUT_SAMPLING, depth := rd K.CH_DERIVEDk_OUT_DEPTH }
    roundUp (2 * f.frameBytes) 0x200000
def State.spaceNeed (s : State) (ch : Nat) : Nat :=
  s.ingestSpace ch + ((List.range 4).map (s.derSpace ch)).sum

/-- An ACTIVE member of the array. -/
def State.activeMember (s : State) (d : Nat) : Bool := bit s.array.members d && !bit s.array.standby d

/-- The checks of R286. -/
def State.arrayOk (s : State) (ch : Nat) : Bool :=
  let f := s.pfmt ch
  let cells := List.range (f.cellCols * f.cellRows)
  !f.array || (s.array.state ≠ 0 && s.array.state ≠ 4 && s.pcv ch K.CH_STATE_MODE == 1 &&
    f.frameW == f.cellCols * f.width && f.frameH == f.cellRows * f.height &&
    cells.all (fun k => s.activeMember (f.mapDev k)) && (cells.map f.mapDev).Nodup &&
    (List.range f.cellCols).all (fun c => c * f.cellW % max 1 f.ctu == 0))

/-! ### The checks of Table 4-6 -/

/-- Every setting of an encode channel is valid. -/
def State.encodeOk (s : State) (ch : Nat) : Bool :=
  let f := s.pfmt ch
  formatOk f false && f.sizeOk && s.sourceOk ch && s.ingestOk ch && s.arrayOk ch && s.outputOk ch &&
    (f.pass || (s.rawOk ch && s.codecOk ch && s.levelOk ch && s.tilesOk ch && s.binsOk ch && s.rateOk ch &&
      s.searchOk ch && s.refsOk ch && s.fbsOk ch))

/-- Every setting of a decode channel is valid. DEDUCED, log entry 59. -/
def State.decodeOk (s : State) (ch : Nat) : Bool :=
  let f := s.pfmt ch
  let l := s.pcv ch K.CH_CODEC_LEVEL
  let belongs := match profileInfo (s.pcv ch K.CH_CODEC_PROFILE) with
    | some p => p.1 == f.codec
    | none => false
  formatOk f true && f.forDecode.sizeOk && belongs && (l == 0 || (levelCodes f.codec).contains l || (f.codec == 3 && l == 255)) &&
    s.decodePortOk ch && s.arrayOk ch && s.fbsOk ch

/-- BUF_NEED (R98). -/
def State.bufNeed (s : State) (ch : Nat) : Nat :=
  let f := s.pfmt ch
  let b := if s.pdec ch then f.depth else if f.pass then f.depth else f.codedDepth
  ceilDiv (2 * f.samples * b) (8 * s.pool.bufBytes) + 8

/-- Buffer headroom: FREE, less what open and draining channels need beyond what they hold (R98). -/
def State.headroom (s : State) : Nat :=
  s.pool.free - ((s.chans.filter (fun e => e.2.working)).map (fun e => e.2.bufNeed - s.buffersHeld e.1)).sum

/-- Wide channels open or draining. -/
def State.wideOpen (s : State) : Nat := (s.chans.filter (fun e => e.2.working && e.2.wide)).length

/-- ADMIT_RESULT: the first check of Table 4-6 that fails, in table order. DEDUCED, log entry 57. -/
def State.admitResult (s : State) (ch : Nat) : Nat :=
  let l := s.loadOf ch
  let f := s.pfmt ch
  let fits := fun (g : Load → Frac) (cap : Frac) => ((s.loadSum g).add (g l)).le cap
  if !fits (·.px) s.capPx then 1
  else if !fits (·.ms) s.capMs then 2
  else if !fits (·.ee) s.capEe || !s.enginesOk ch then 3
  else if !fits (·.df) s.capDf then 4
  else if s.pcv ch K.CH_STATE_MODE = 0 && !(f.pass && !s.pdec ch) && !(s.sampleRate f).le ⟨1000000000, 1⟩ then 5
  else if s.pcv ch K.CH_STATE_MODE = 1 && 4 ≤ s.wideOpen then 6
  else if s.headroom < s.bufNeed ch then 7
  else if s.boot.state ≠ .ready || s.workFree < s.spaceNeed ch ||
      !(if s.pdec ch then s.decodeOk ch else s.encodeOk ch) then 8
  else 0

end Sys2Proof.Machine
end

