-- ==== Sys2Proof/Machine/Channels.lean ====
section
/-! DEFINITION. Channel states, functions and their resets, and the completion of descriptors (R87 to R94, R99 to R108, R113,
R135, R236, R239, R247, R323, R328). -/

namespace Sys2Proof.Machine

/-! ### OPEN (R92) -/

/-- Objects whose read-only entries are cleared at OPEN: CH_STATUS and the status objects 0x31 to 0x35; and single entries of
CH_REFS, CH_LAUNCH and CH_ARRAY. -/
def clearedAtOpen (k : Nat) : Bool :=
  (0x30 ≤ k / 256 && k / 256 ≤ 0x35) || k == K.CH_REFS_FB_WAIT_NS ||
    (K.CH_LAUNCH_LIST_RD ≤ k && k ≤ K.CH_LAUNCH_LIST_ERRORS) ||
    (K.CH_ARRAY_TAKEOVER_PIC ≤ k && k ≤ K.CH_ARRAY_VOID_REGIONS)

/-- The key belongs to a channel. -/
def keyOfChan (ch k : Nat) : Bool := chKey ch 0 ≤ k && k < chKey (ch + 1) 0

/-- A channel's status entries return to their defaults. -/
def State.clearStatus (s : State) (ch : Nat) : State :=
  { s with dict := { s.dict with ro := s.dict.ro.filter (fun e => !(keyOfChan ch e.1 && clearedAtOpen (chanPart e.1))) } }

/-- The LUT store that an OPEN with LUT_EN takes. -/
def State.freeLutStore (s : State) : Option Nat := [0, 1].find? (fun n => !s.lutStores.contains n)

/-- A multicast flow is joined with IGMPv3. -/
def State.joinFlows (s : State) (ch : Nat) : State :=
  let join := fun (s : State) (port addr src : Nat) => if addr / 2 ^ 28 = 14 then s.emit (.igmp port addr src) else s
  if s.cv ch K.CH_DECODE_DIRECTION = 1 then
    if s.cv ch K.CH_DECODE_INPUT = 2 then join s (s.cv ch K.CH_DECODE_PORT) (s.cv ch K.CH_DECODE_MCAST_ADDR) 0 else s
  else if s.cv ch K.CH_SOURCE_KIND = 2 then
    join s (s.cv ch K.CH_SOURCE_PORT) (s.cv ch K.CH_SOURCE_MCAST_ADDR) (s.cv ch K.CH_SOURCE_SRC_ADDR)
  else s

/-- An admitted channel opens: pending FRAME values apply, its frame buffers, LUT store and working space are taken, and its
status is cleared. DEDUCED, log entry 62. -/
def State.openChan (s : State) (ch need : Nat) : State :=
  let load := s.loadOf ch
  let count := s.fbCount ch
  let granules := s.fbBytes ch / 0x200000
  let space := s.ingestSpace ch
  let wide := s.pcv ch K.CH_STATE_MODE = 1
  let s := (s.applyWaiting ch s.time (s.time + 1)).clearStatus ch
  let f := s.fmt ch
  let old := s.chan ch
  let new : Chan := {
    state := .open_, owner := old.owner, wide := wide, load := load, bufNeed := need, openedAt := s.time, planFrom := s.time, luts := old.luts
    roi := old.roi, history := old.history, space := space
    lutStore := if f.lutEn && !f.pass && s.cv ch K.CH_DECODE_DIRECTION = 0 then s.freeLutStore else none }
  let s := { (s.setChan ch new) with
    dram := { s.dram with workUsed := s.dram.workUsed + space }
    array := { s.array with taken := s.array.taken.filter (fun e => e.1 ≠ ch) } }
  let s := (s.takeFbs ch count granules).derCheck ch (fun _ => true)
  let s := (s.setRo (chKey ch K.CH_REFS_FB_BYTES) (if count = 0 then 0 else granules * 0x200000)).setRo
    (chKey ch K.CH_REFS_FB_COUNT) count
  let s := if f.array then s.setRo (chKey ch K.CH_ARRAY_REGION_SAMPLES) (s.regionSamples ch f) else s
  (s.joinFlows ch).listHeadRead ch 4097

/-- The OPEN command. -/
def State.chOpen (s : State) (ch : Nat) : Option Abort × State :=
  if (s.chan ch).state ≠ .closed then (some A.state, s)
  else
    let r := s.admitResult ch
    let need := s.bufNeed ch
    let s := (s.setRo (chKey ch K.CH_STATE_ADMIT_RESULT) r).setRo (chKey ch K.CH_STATE_BUF_NEED) need
    if r = 0 then (none, s.openChan ch need) else (some A.store, s)

/-! ### Closing (R94, R236, R247) -/

/-- FLAGS of CH_STATUS of a channel that is not CLOSED (Table 4-17): a chunk that waits for a descriptor of its OUT ring
waits for its destination. -/
def State.chanFlags (s : State) (ch : Nat) : Nat :=
  let c := s.chan ch
  bitsOf [c.lastLate, s.pool.waiters.any (·.chan == ch), c.fbWait.isSome, c.destWait || !c.outQ.isEmpty, c.lastOverrun,
    c.working && s.degraded ch]

/-- Everything that a channel holds goes back, and it is CLOSED. Its status stays until the next OPEN (R113). -/
def State.closeChan (s : State) (ch : Nat) : State :=
  let c := s.chan ch
  let flags := s.chanFlags ch
  let s := s.closeFbs ch
  let back := c.space + (List.map Prod.snd c.derivedSpace).sum
  let s := { s with
    dram := { s.dram with workUsed := s.dram.workUsed - back }
    firn := s.firn.filter (fun e => e.1 / 2 ^ 55 ≠ ch)
    pool := { s.pool with waiters := s.pool.waiters.filter (·.chan ≠ ch) }
    array := { s.array with
      taken := s.array.taken.filter (fun e => e.1 ≠ ch), mismatch := s.array.mismatch.filter (· ≠ ch)
      halos := s.array.halos.filter (fun e => e.2.req.chan ≠ ch)
      halosDone := s.array.halosDone.filter (fun e => e.1 ≠ ch) } }
  let s := s.setChan ch {
    state := .closed, owner := c.owner, luts := c.luts, roi := c.roi, history := c.history, picCount := c.picCount
    lastLate := c.lastLate, lastOverrun := c.lastOverrun, lastLaunch := c.lastLaunch, lastDone := c.lastDone, flagsKept := flags }
  (s.each (List.range 4) (fun s k => s.setRo (derKey ch k K.CH_DERIVEDk_STATUS) 0)).endFault F.ARRAY_CHANNEL_MISMATCH ch

/-- The anchor that a prevented launch put into coding order leaves it, and the B frames that it brought wait again. -/
def Chan.dropAnchor (c : Chan) (q : Nat) : Chan :=
  let pre := c.order.takeWhile (· ≠ q)
  let after := c.order.drop (pre.length + 1)
  let back := if pre.length = c.order.length then [] else
    (c.launched.filter (fun (l : Launched) => after.contains l.frameSeq)).map (·.frameSeq)
  { c with order := pre, gop := (c.gop ++ back).filter (· ≠ q) }

/-- The launch of this very instant, if one has fired, is prevented (R93): its frame is not coded, and it counts as no launch.
A picture starts only after the instant of its launch. DEDUCED, log entry 225. -/
def State.unlaunch (s : State) (ch : Nat) : State :=
  let c := s.chan ch
  let t := s.time
  if c.lastLaunch ≠ some t then s
  else
    let mine := (c.launched.filter (fun (l : Launched) => l.time == t)).map (fun (l : Launched) => (l.frameSeq, l.base))
    let c := { c with
      pairs := c.pairs.filter (fun (w : PairWait) => w.time ≠ t)
      pics := c.pics.filter (fun (p : Pic) => p.launch ≠ t)
      history := c.history.filter (fun e => e.1 ≠ t)
      frames := c.frames.map (fun (x : Frame) => if mine.any (fun e => e.1 == x.seq) then { x with taken := false } else x)
      lastLaunch := c.launchBefore }
    let c := mine.foldl (fun (c : Chan) e =>
      let c := if (s.fmt ch).pass then c else c.dropAnchor e.1
      { c with picCount := e.2.getD c.picCount, launched := c.launched.filter (fun (l : Launched) => l.frameSeq ≠ e.1) }) c
    let key := chKey ch K.CH_LAUNCH_LAUNCHES
    let s := s.setChan ch c
    (s.setRo key (s.ro key - 1)).setRo (chKey ch K.CH_LAUNCH_LAST_LAUNCH) (c.lastLaunch.getD 0)

/-- DRAIN: nothing is launched at or after this instant (R93). -/
def State.chDrain (s : State) (ch : Nat) : Option Abort × State :=
  if (s.chan ch).state ≠ .open_ then (some A.state, s)
  else
    let s := s.unlaunch ch
    (none, (s.modChan ch (fun c => { c with state := .draining, listHead := none, sched := [] })).drainGop ch)

/-- Chunks of a channel that some destination has not yet taken in full. -/
def State.undelivered (s : State) (ch : Nat) : Bool :=
  !(s.chan ch).outQ.isEmpty || s.magChunks.any (·.chan == ch) ||
    s.queues.any (fun e => e.2.held.any (·.chan == ch))

/-- The last launched frame of a draining channel is delivered. In a decode channel: its input is parsed, and its pictures
are output as far as they were launched. -/
def State.drained (s : State) (ch : Nat) : Bool :=
  let c := s.chan ch
  c.state = .draining && !s.undelivered ch &&
    (if s.cv ch K.CH_DECODE_DIRECTION = 1 then
      c.dec.cur.isNone && c.dec.input.isEmpty && c.dec.pics.all (fun p => p.dealt && p.reported ||
        s.cv ch K.CH_LAUNCH_MODE ≠ 2 && c.dec.owed.isEmpty)
    else c.pairs.isEmpty && c.launched.isEmpty && c.pics.isEmpty)

/-- Rings bound to a channel whose fetched descriptors can still complete, by type: those in ERROR among them. -/
def State.ringsOf (s : State) (ch type : Nat) : List Nat :=
  (s.rings.filter (fun e => e.2.chan == ch && e.2.type == type && e.2.state ≠ .disabled)).map Prod.fst

/-- The chunk that an OUT ring takes bytes of, without its data: what its last descriptor says where it is discarded (R94). -/
def State.chunkInWork (s : State) (ch : Nat) (r : Ring) : Option OutChunk :=
  if r.chunkDone = 0 then none
  else ((s.chan ch).outQ.find? (fun (x : OutChunk) => x.stream == r.stream)).map (fun x => { x with data := [], bufs := [] })

/-- Fetched descriptors of an IN ring complete with CHAN_CLOSED. -/
def State.inClosed (s : State) (ch n : Nat) : State :=
  let s := s.each (s.ring n).fetched (fun s _ =>
    s.completeHead n { status := 4, loc := locCode s.dev (Loc.ofChan ch), time := s.time })
  s.modRing n (fun r => { r with frame := none })

/-- Grants of a channel's work end; verifies go on (R247). DEDUCED, log entry 54. -/
def State.dropWork (s : State) (ch : Nat) : State :=
  { s with
    units := Store.map s.units (fun _ u => match u.grant with
      | some g => if g.chan = ch ∧ !g.verify then { u with grant := none } else u
      | none => u)
    reissue := s.reissue.filter (fun g => !(g.2.chan == ch && !g.2.verify)) }

/-- The action of R94. `silent`: nothing is written to the channel's rings (R88). -/
def State.abortChan (s : State) (ch : Nat) (silent : Bool) : State :=
  let s := if silent then s else s.each (s.ringsOf ch 0) (fun s n => s.inClosed ch n)
  let s := s.each (s.ringsOf ch 1) (fun s n => s.modRing n (fun r => { r with
    chunkAborted := r.chunkAborted.orElse (fun _ => if silent then none else s.chunkInWork ch r), chunkDone := 0 }))
  let s := s.dropWork ch
  let s := s.each ((s.chan ch).outQ.flatMap (·.bufs)) (fun s b => s.doneBuf b 4)
  (((s.freeChanBufs ch).clipsAbort ch).closeChan ch).serveEngines

/-- ABORT. -/
def State.chAbort (s : State) (ch : Nat) : Option Abort × State :=
  if (s.chan ch).state = .closed then (some A.state, s) else (none, s.abortChan ch false)

/-- What stands for a stream's end where its last picture stood. -/
def State.endPic (s : State) (ch stream : Nat) : Pic :=
  let c := s.chan ch
  { stream := stream, count := c.lastDone.getD c.picCount, num := (Store.get c.rate {} stream).started, frameSeq := c.frameSeq
    frameCount := 0, capture := 0, launch := c.lastLaunch.getD 0, type := .i, irap := false, skipped := false, refs := []
    base := 0, fb := 0 }

/-- A stream of coded pictures still lacks its end of sequence (Table 7-6). In an array the device that forms the prefix NAL
units forms it. DEDUCED, log entry 247. -/
def State.endOwed (s : State) (ch : Nat) : Option Nat :=
  let c := s.chan ch
  let f := s.fmt ch
  if s.cv ch K.CH_DECODE_DIRECTION = 1 || f.pass || !s.emitsPrefix f then none
  else (List.map Prod.fst c.sentParams).find? (fun k => !c.ended.contains k && s.destCount ch (s.endPic ch k) ≠ 0)

/-- A stream's end of sequence goes to its destinations, as a chunk after the last picture does. -/
def State.sendEnd (s : State) (ch stream : Nat) : State :=
  let p := s.endPic ch stream
  let data := s.endBytes ch p
  if s.destWaits ch p data.length then s.modChan ch (fun c => { c with destWait := true })
  else if !s.pathFree then s.pathWaits ch stream
  else
    let (got, s) := s.obtain ch 1 0 (max 1 (ceilDiv data.length (max 1 s.pool.bufBytes)))
    match got with
    | none => s
    | some bufs =>
      let s := (s.fillBufs bufs data.length).modChan ch (fun c => { c with
        destWait := false, ended := c.ended ++ [stream] })
      let s := s.pathTaken ch stream (8 * data.length * s.destCount ch p)
      let s := s.handChunk ch p bufs data (Loc.ofPic ch p.count) false false (s.chan ch).lastLate 0
      (s.tick K.RATE_COUNTERS_OUTPUT_BITS (8 * data.length)).cbump ch K.CH_STATUS_BYTES_OUT data.length

/-- CHANNEL_DRAIN_COMPLETE: each stream's end of sequence leaves, and once it is delivered the channel closes. No channel
closes while SH2 is out of service (R361). -/
def execChannelDrainComplete (t : Time) (ch : Nat) (s : State) : Out :=
  inRange "CH" ch 256 <| live t s (fun s =>
    if s.drained ch && s.coreWorks 2 then match s.endOwed ch with
      | some k => s.sendEnd ch k
      | none => (s.closeChan ch).serveEngines
    else s)

/-- A CH_STATE COMMAND write. -/
def State.chCommand (s : State) (ch v : Nat) : Option Abort × State :=
  match v with
  | 1 => s.chOpen ch
  | 2 => s.chDrain ch
  | 3 => s.chAbort ch
  | _ => (some A.value, s)

/-- An OWNER write (R91); where both refusals apply, Table 2-14 gives the earlier one (R53). A ring in ERROR whose ENABLE is 1
is an enabled ring. DEDUCED, log entry 223. -/
def State.ownerWrite (s : State) (r : Requester) (ch v : Nat) : Except Abort State :=
  let vf : Bool := match r with
    | .func n => n ≠ 0
    | _ => false
  if vf then .error A.right
  else if !s.funcExists v then .error A.value
  else if (s.chan ch).state ≠ .closed || s.rings.any (fun e => e.2.enable && e.2.chan == ch) then .error A.state
  else .ok (s.modChan ch (fun c => { c with owner := v }))

/-! ### Functions (R87 to R89) -/

/-- Channels that a function owns, beside those CLOSED at F000 since reset. -/
def State.chansOf (s : State) (f : Nat) : List Nat := (s.chans.filter (fun e => e.2.owner == f)).map Prod.fst

/-- A function-level reset: its rings stop without a write to host memory, and its channels are aborted (R88). -/
def State.flr (s : State) (f : Nat) : State :=
  let s := s.killRingsOf f
  s.each (s.chansOf f) (fun s ch => if (s.chan ch).state = .closed then s else s.abortChan ch true)

/-- Functions that exist. -/
def State.funcs (s : State) : List Nat := (List.range 256).filter s.funcExists

/-- A function-level reset of F000 acts on every function, and clears every EXPORT_HOLD (R89, R247). -/
def State.flrAll (s : State) : State := (s.each s.funcs State.flr).clearExports

/-- Counts function-level resets. DEDUCED, log entry 43. -/
def State.countFlr (s : State) (n : Nat) : State :=
  { s with host := { s.host with flrCount := s.host.flrCount + w32 n } }

/-- A virtual function ceases to exist: it is reset, its channels return to F000 and its rings to no owner (R89). DEDUCED, log entry 65. -/
def State.endVf (s : State) (f : Nat) : State :=
  let s := (s.flr f).countFlr 1
  { s with
    chans := Store.map s.chans (fun _ c => if c.owner = f then { c with owner := 0 } else c)
    rings := Store.map s.rings (fun _ r => if r.owner = some f then { r with owner := none, loc := 0 } else r) }

/-- FLR_VF (R88). -/
def execFlrVf (t : Time) (f : Nat) (s : State) : Out :=
  inRange "F" f 256 <| live t s (fun s => if f ≠ 0 && s.funcReaches f then (s.flr f).countFlr 1 else s)

/-- FLR_PF (R89). -/
def execFlrPf (t : Time) (s : State) : Out := live t s (fun s => if s.funcReaches 0 then s.flrAll.countFlr 1 else s)

/-- VF_ENABLE (R87). -/
def execVfEnable (t : Time) (numVfs : Nat) (s : State) : Out :=
  inRange "NUM_VFS" numVfs 256 <| live t s (fun s =>
    if s.funcReaches 0 && !s.host.vfEnable then { s with host := { s.host with vfEnable := true, numVfs := numVfs } } else s)

/-- VF_DISABLE (R89): VF Enable is cleared, or NumVFs lowered. -/
def execVfDisable (t : Time) (numVfs : Nat) (s : State) : Out :=
  inRange "NUM_VFS" numVfs 256 <| live t s (fun s =>
    if s.funcReaches 0 && s.host.vfEnable && (numVfs = 0 || numVfs < s.host.numVfs) then
      let gone := (List.range 256).filter (fun f => numVfs < f && f ≤ s.host.numVfs)
      let s := s.each gone State.endVf
      { s with host := { s.host with vfEnable := numVfs ≠ 0, numVfs := numVfs } }
    else s)

/-! ### RING_ENABLE, RING_DISABLE (R100) -/

/-- A function writes a ring's ENABLE: its owner and F000 may (R99). -/
def State.mayWriteRing (s : State) (f n : Nat) : Bool := s.funcReaches f && (f == 0 || (s.ring n).owner == some f)

/-- RING_ENABLE. -/
def execRingEnable (t : Time) (f ring : Nat) (s : State) : Out :=
  inRange "F" f 256 <| inRange "ring" ring 32768 <| live t s (fun s =>
    if s.fatal || !s.mayWriteRing f ring || (s.ring ring).enable then s else s.ringEnable ring)

/-- RING_DISABLE. -/
def execRingDisable (t : Time) (f ring : Nat) (s : State) : Out :=
  inRange "F" f 256 <| inRange "ring" ring 32768 <| live t s (fun s =>
    if s.fatal || !s.mayWriteRing f ring || !(s.ring ring).enable then s else s.ringDisable ring)

/-! ### DESCRIPTOR_COMPLETE (R105 to R108) -/

/-- What a descriptor of an encode IN ring leaves open, and how it completes (R108): the frame in progress, whether it is
ready, the STATUS, and the buffers of frames dropped. -/
structure InFrame where
  open_ : Option (Time × List Byte × List Nat) := none
  ready : Option (Time × List Byte × List Nat) := none
  status : Nat := 0
  dropped : Bool := false
  free : List Nat := []

/-- Data of one descriptor enters a frame of `size` bytes. A descriptor that reads nothing cannot fail, and one whose read
failed at the end of a frame drops the frame: it completes with ADDR_FAULT. DEDUCED, log entry 226. -/
def takeIn (size : Nat) (old : Option (Time × List Byte × List Nat)) (d : Desc) (data : List Byte) (bufs : List Nat)
    (failed : Bool) : InFrame :=
  let failed := failed && d.len ≠ 0
  let oldBufs := (old.map (·.2.2)).getD []
  let cur := if d.sof then some (d.time, [], []) else old
  let lost := if d.sof then oldBufs else []
  let broke := d.sof && old.isSome
  match cur with
  | none => { free := bufs, status := if failed then 3 else 0 }
  | some (time, bytes, held) =>
    let all := bytes ++ data
    if size < all.length then { status := 6, dropped := true, free := lost ++ held ++ bufs }
    else
      let x := (time, all, held ++ bufs)
      if d.eof then
        if all.length = size && !failed then
          { ready := some x, status := if broke then 5 else 0, dropped := broke, free := lost }
        else { status := if failed then 3 else 5, dropped := true, free := lost ++ held ++ bufs }
      else { open_ := some x, status := if failed then 3 else if broke then 5 else 0, dropped := broke, free := lost }

/-- A frame of an IN ring is dropped (R105, R127). -/
def State.inDropped (s : State) (ch : Nat) : State :=
  (s.cbump ch K.CH_INGEST_STATUS_FRAMES_DROPPED 1).raise F.INGEST_FRAME_DROPPED
    { loc := Loc.ofChan ch, detail := [(s.chan ch).accepted % 2 ^ 32] }

/-- The head descriptor of an encode IN ring completes. -/
def State.inEncode (s : State) (n : Nat) (d : Desc) (data : List Byte) (bufs : List Nat) (failed : Bool) (x : Done) :
    State :=
  let r := s.ring n
  if (s.fmt r.chan).kind ≠ 0 then (s.each bufs (fun s b => s.freeBuf b 2)).completeHead n x
  else
    let g := takeIn (s.fmt r.chan).frameBytes r.frame d data bufs failed
    let s := s.setRing n { r with frame := g.open_ }
    let s := (s.each g.free (fun s b => s.freeBuf b 2)).completeHead n { x with status := g.status }
    let s := if g.dropped then s.inDropped r.chan else s
    match g.ready with
    | some (time, bytes, held) => s.wholeFrame r.chan bytes time held
    | none => s

/-- The head descriptor of an IN ring completes. `data` is what the host gave. An unbound ring closes every descriptor (R100);
on a bound one LEN above the buffer size comes before CHAN_CLOSED, and CHAN_CLOSED before the OK of LEN 0. DEDUCED, log
entries 53 and 227; the LOC of an unbound ring: DESIGN CHOICE, log entry 228. -/
def State.inComplete (s : State) (n : Nat) (d : Desc) (data : List Byte) (hostError : Bool) : State :=
  let ch := (s.ring n).chan
  let x : Done := { loc := locCode s.dev (Loc.ofChan ch), time := s.time, len := if hostError then 0 else d.len }
  if 256 ≤ ch then s.completeHead n { x with status := 4, len := 0 }
  else if s.pool.bufBytes < d.len then s.completeHead n { x with status := 1, len := 0 }
  else if !(s.chan ch).working then s.completeHead n { x with status := 4, len := 0 }
  else
    let decode := s.cv ch K.CH_DECODE_DIRECTION = 1
    let bytes := if hostError then [] else (data ++ List.replicate (d.len - data.length) 0).take d.len
    let use := if decode then 3 else 2
    let (got, s) := if bytes.isEmpty then (some [], s) else s.obtain ch use 0 1
    match got with
    | none => s
    | some bufs =>
      let s := s.fillBufs bufs bytes.length
      if !decode then s.inEncode n d bytes bufs hostError { x with status := if hostError then 3 else 0 }
      else if s.cv ch K.CH_DECODE_INPUT ≠ 0 then
        (s.each bufs (fun s b => s.freeBuf b 3)).completeHead n { x with status := if hostError then 3 else 0 }
      else if hostError then (s.addGap ch).completeHead n { x with status := 3 }
      else (s.addInput ch bytes (bufs.map (fun b => (b, bytes.length))) false).completeHead n x

/-- What a completion says of its chunk (Table 4-11). -/
def OutChunk.done (x : OutChunk) : Done :=
  { depth := x.depth, loc := x.loc, pic := x.picCount, time := x.time, skipped := x.skipped, late := x.late
    overrun := x.overrun, key := x.key, eop := x.eop }

/-- A descriptor of an OUT ring without a chunk stays posted; on a ring that stops it completes with no bytes (R100).
DESIGN CHOICE, log entry 229. -/
def State.outIdle (s : State) (n : Nat) (x : Done) : State :=
  if (s.ring n).state = .stopping then s.completeHead n x else s

/-- Whether a chunk's picture overruns is still open: its completions say it, so they wait for its size (R194). DEDUCED, log
entry 246. -/
def State.sizeOpen (s : State) (ch : Nat) (x : OutChunk) : Bool :=
  x.waits && (s.chan ch).pics.any (fun p => p.count == x.picCount && p.size.isNone)

/-- The head descriptor of an OUT ring takes bytes of the chunk in progress, or begins the next one (R107). On an unbound ring
it stays posted (R100). EOP stands in the picture's last descriptor (R215). A completion that belongs to no chunk gives the
channel, PIC_COUNT 0 and this instant. DESIGN CHOICE, log entry 230. -/
def State.outComplete (s : State) (n : Nat) (d : Desc) : State :=
  let r := s.ring n
  let none_ : Done := { loc := locCode s.dev (Loc.ofChan r.chan), time := s.time }
  match r.chunkAborted with
  | some x => (s.setRing n { r with chunkAborted := none }).completeHead n { x.done with status := 7, eoc := true }
  | none =>
    if 256 ≤ r.chan then s.outIdle n none_
    else if d.len = 0 then s.completeHead n { none_ with status := 2 }
    else if s.pool.bufBytes < d.len then s.completeHead n { none_ with status := 1 }
    else match takeFirst (fun (x : OutChunk) => x.stream == r.stream) (s.chan r.chan).outQ with
      | none => s.outIdle n none_
      | some (x, rest) =>
        if s.sizeOpen r.chan x then s
        else
        let part := (x.data.drop r.chunkDone).take d.len
        let done := r.chunkDone + part.length
        let last := x.data.length ≤ done
        let s := (s.emit (.hostWrite d.addr part)).setRing n { r with chunkDone := if last then 0 else done }
        let s := s.completeHead n { x.done with
          len := part.length, eop := x.eop && last, eoc := last, soc := r.chunkDone = 0 }
        if last then s.each x.bufs (fun s b => s.doneBuf b 4) |>.modChan r.chan (fun c => { c with outQ := rest }) else s

/-- DESCRIPTOR_COMPLETE: the oldest fetched descriptor of a ring that is ENABLED, in ERROR or STOPPING. -/
def execDescriptorComplete (t : Time) (ring : Nat) (data : List Byte) (hostError : Bool) (s : State) : Out :=
  inRange "ring" ring 32768 <| live t s (fun s =>
    let r := s.ring ring
    match r.fetched with
    | d :: _ =>
      if r.state = .disabled then s
      else if r.type = 0 then s.inComplete ring d data hostError
      else s.outComplete ring d
    | [] => s)

end Sys2Proof.Machine
end

