-- ==== Sys2Proof/Machine/Array.lean ====
section
/-! DEFINITION. Ronox device links and arrays (R277 to R298): link protocol, formation, liveness, fencing, epochs and
takeover. -/

namespace Sys2Proof.Machine

/-! ### Messages of this device (Table 12-2) -/

/-- The coordinator of the array is this device. -/
def State.coordinates (s : State) : Bool := s.inArray && s.array.coordinator == s.dev

/-- Array channels open or draining, in channel order: the slots of HEARTBEAT (R278). -/
def State.slots (s : State) : List HbSlot :=
  ((s.chans.filter (fun e => e.2.working && (s.fmt e.1).array)).map (fun e => ({
    chan := e.1, isOpen := e.2.state = .open_, crc := s.settingsCrc e.1, lastDone := e.2.lastDone.getD 0 } : HbSlot))).take 4

/-- Bytes 28 to 75 of HEARTBEAT. -/
def slotBytes (l : List HbSlot) : List Byte :=
  (l.flatMap (fun x => leBytes 1 x.chan ++ leBytes 1 (if x.isOpen then 1 else 0) ++ leBytes 2 0 ++ leBytes 4 x.crc.toNat ++
    leBytes 4 x.lastDone)) ++ (List.range (4 - l.length)).flatMap (fun _ => leBytes 1 0xFF ++ leBytes 11 0)

/-- The body of a HEARTBEAT. -/
def heartbeatBody (h : Heartbeat) : List Byte :=
  leBytes 8 h.sendTime ++ leBytes 1 h.state ++ leBytes 1 h.heard ++
    ((h.neighbours ++ [0xFF, 0xFF, 0xFF, 0xFF]).take 4).flatMap (leBytes 1) ++ leBytes 2 0 ++ slotBytes h.slots

/-- FLAGS of a HEARTBEAT. -/
def heartbeatFlags (h : Heartbeat) : Nat := (if h.fenced then 1 else 0) + (if h.coordinator then 2 else 0)

/-- This device's HEARTBEAT. -/
def State.ownHeartbeat (s : State) : Heartbeat :=
  { sendTime := s.time, state := s.array.state, heard := s.array.heard, neighbours := s.neighbourList, slots := s.slots
    fenced := s.array.state = 4, coordinator := s.coordinates }

/-- The body of an EPOCH. -/
def epochBody (e : EpochMsg) : List Byte :=
  leBytes 2 e.epoch ++ leBytes 1 e.members ++ leBytes 1 e.standby ++ leBytes 1 e.dead ++ leBytes 1 e.taker ++
    leBytes 1 e.coordinator ++ leBytes 1 0 ++ leBytes 8 e.declareTime

/-- FENCE_ORDER to a device (R298). -/
def State.sendFence (s : State) (d : Nat) : State := s.ronoxSend 0x12 0 0 d (leBytes 2 s.array.epoch)

/-- HELLO on one port. -/
def State.sendHello (s : State) (q : Nat) : State :=
  s.sendUnsequenced q 0x03 0 (leBytes 1 s.dev ++ leBytes 1 (s.v K.ARRAY_CONFIG_MEMBERS) ++
    leBytes 1 (s.v K.ARRAY_CONFIG_STANDBY) ++ leBytes 1 (s.v K.ARRAY_CONFIG_TOPOLOGY) ++ leBytes 1 s.array.state)

/-! ### Fencing (R294) -/

/-- The device fences itself, or stays fenced. -/
def State.fence (s : State) : State :=
  if s.array.state = 4 then s
  else State.raise { s with array := { s.array with state := 4 } } F.ARRAY_FENCED {}

/-! ### Epochs and takeover (R159, R295 to R297) -/

/-- How far an epoch number lies after another, modulo 2^16. -/
def epochAfter (new old : Nat) : Nat := (new + 65536 - old) % 65536

/-- An epoch older than another: 0, that of a device that has been reset, is older than every epoch of an array (R298). -/
def epochOlder (new old : Nat) : Bool := (new == 0 && old ≠ 0) || 0x8000 ≤ epochAfter new old

/-- The next epoch number: from 0xFFFF to 1. -/
def epochNext (e : Nat) : Nat := if e = 0xFFFF then 1 else e + 1

/-- Cells of a channel that a device codes now. -/
def State.codesAny (s : State) (ch d : Nat) : Bool :=
  let f := s.fmt ch
  (List.range (f.cellCols * f.cellRows)).any (fun k => s.cellDev ch f k == d)

/-- Array channels that are open or draining. -/
def State.arrayChans (s : State) : List Nat :=
  (s.chans.filter (fun e => e.2.working && (s.fmt e.1).array)).map Prod.fst

/-- First picture whose LAUNCH is sent in a new epoch: launches sent before it have their pictures in hand. -/
def State.newEpochPic (s : State) (ch : Nat) : Nat :=
  let c := s.chan ch
  c.picCount + (s.fmt ch).pictures * c.sched.length

/-- First picture lost with a dead device (R297). DEDUCED, log entry 149. -/
def State.lostFirst (s : State) (ch dead : Nat) : Nat :=
  match Store.find? (s.peer dead).lastDone ch with
  | some n => n + 1
  | none => 0

/-- The takeover report of one channel: lost pictures, raised by the coordinator. -/
def State.takeoverReport (s : State) (ch dead : Nat) (report : Bool) : State :=
  let next := s.newEpochPic ch
  let first := min (s.lostFirst ch dead) next
  let key := chKey ch
  let s := ((s.setRo (key K.CH_ARRAY_TAKEOVER_PIC) next).setRo (key K.CH_ARRAY_LOST_FIRST) first).setRo
    (key K.CH_ARRAY_LOST_COUNT) (next - first)
  if !report then s
  else s.each (List.range (next - first)) (fun s i =>
    s.raise F.ARRAY_PICTURE_LOST { loc := Loc.ofPic ch (first + i), locDev := some dead })

/-- The taker takes a dead device's cells in a channel, from the first LAUNCH sent in the new epoch; with no taker they stay
void (R296). DEDUCED, log entry 150. -/
def State.takeCells (s : State) (ch dead taker : Nat) : State :=
  let c := s.chan ch
  let quiet := (c.lastLaunch.toList ++ c.sched.map Prod.fst).foldl max c.quiet
  let s := { s with array := { s.array with taken := s.array.taken ++ [(ch, dead, taker, quiet)] } }
  if taker = s.dev then s.modChan ch (fun c => { c with quiet := quiet }) else s

/-- What the death of a device changes in a member. -/
def State.applyDeath (s : State) (dead taker : Nat) : State :=
  let s := { s with array := { s.array with
    closedHalo := s.array.closedHalo ++ [(dead, s.array.epochTime)]
    halos := s.array.halos.filter (fun e => e.2.owner ≠ dead) } }
  let s := s.each (List.map Prod.fst s.fbs) (fun s n => s.modFb n (fun b => b.dropPeer dead))
  let s := s.noteClosedHalos
  let hit := s.arrayChans.filter (fun ch => s.codesAny ch dead)
  let s := s.each hit (fun s ch => (s.takeoverReport ch dead s.coordinates).takeCells ch dead taker)
  if taker = 0xFF && !hit.isEmpty then s.raise F.ARRAY_DEGRADED {} else s

/-- State of a device in a membership. A FENCED device leaves that state only as the readmitted standby of an epoch that
declares no death (R298). -/
def State.memberState (s : State) (e : EpochMsg) : Nat :=
  if !bit e.members s.dev then (if s.array.state = 2 ∨ s.array.state = 3 then 4 else s.array.state)
  else if s.array.state = 4 && !(e.dead = 0xFF && bit e.standby s.dev) then 4
  else if bit e.standby s.dev then 3 else 2

/-- A device adopts an epoch (R295). -/
def State.adopt (s : State) (e : EpochMsg) : State :=
  let st := s.memberState e
  let was := s.array.state
  let s := { s with array := { s.array with
    epoch := e.epoch, members := e.members, standby := e.standby, coordinator := e.coordinator, epochTime := e.declareTime
    state := if st = 4 then was else st, declared := if e.coordinator = s.dev then s.array.declared else none } }
  let s := if st = 4 then s.fence else if was = 4 then s.endFault F.ARRAY_FENCED 0 else s
  if e.dead < 8 then s.applyDeath e.dead e.taker else s

/-- The coordinator broadcasts EPOCH, and repeats it every 100 µs for 1 ms. -/
def State.declare (s : State) (e : EpochMsg) : State :=
  let s := s.adopt e
  let s := { s with array := { s.array with declared := some (e, s.time + 1000000), lastRepeat := s.time } }
  s.ronoxSend 0x11 0 0 0xFF (epochBody e)

/-- The lowest device of a set, 0xFF for none. -/
def lowest (set : Nat) : Nat := ((List.range 8).find? (bit set ·)).getD 0xFF

/-- A member has been silent for 1 ms. -/
def State.silent (s : State) (d : Nat) : Bool :=
  decide (max ((s.peer d).lastHb.getD 0) s.array.epochTime + 1000000 ≤ s.time)

/-- Members that may coordinate when one is dead: not a standby, not fenced, and not silent themselves. DEDUCED, log entry
153. -/
def State.eligible (s : State) (dead : Nat) : List Nat :=
  (List.range 8).filter (fun d => bit s.array.members d && !bit s.array.standby d && d ≠ dead &&
    (if d = s.dev then s.array.state ≠ 4 else !(s.peer d).fenced && !s.silent d))

/-- A live standby member. -/
def State.liveStandby (s : State) (dead d : Nat) : Bool :=
  bit s.array.members d && bit s.array.standby d && d ≠ dead && (if d = s.dev then s.array.state ≠ 4 else !(s.peer d).fenced)

/-- The device that declares a member dead: the coordinator, or, of a silent coordinator, the next lowest eligible one
(R293). -/
def State.declares (s : State) (dead : Nat) : Bool :=
  s.inArray && dead ≠ s.dev && (s.eligible dead).head? == some s.dev &&
    (dead == s.array.coordinator || s.coordinates)

/-- A member is declared dead (R293, R295, R296). -/
def State.declareDead (s : State) (dead : Nat) : State :=
  let taker := ((List.range 8).find? (s.liveStandby dead)).getD 0xFF
  let standby := setBit s.array.standby dead false
  let e : EpochMsg := {
    epoch := epochNext s.array.epoch, members := setBit s.array.members dead false
    standby := if taker < 8 then setBit standby taker false else standby, dead := dead, taker := taker
    coordinator := s.dev, declareTime := s.time }
  let s := (s.declare e).raise F.ARRAY_MEMBER_DEAD { inst := dead, detail := [dead] }
  s.sendFence dead

/-! ### Formation (R284, R285) -/

/-- Devices that a link path joins to this one, itself included. -/
def State.reachable (s : State) : Nat :=
  ((layers s.adj 8 [s.dev] [s.dev]).flatten).foldl (fun m d => setBit m d true) 0

/-- Member links of a device. -/
def State.degree (s : State) (members d : Nat) : Nat := ((s.adj d).filter (bit members ·)).length

/-- The link graph of all members meets TOPOLOGY (R285). -/
def State.topologyOk (s : State) (members : Nat) : Bool :=
  let ds := (List.range 8).filter (bit members ·)
  let deg := ds.map (s.degree members)
  match s.v K.ARRAY_CONFIG_TOPOLOGY with
  | 0 => deg.all (· == 2)
  | 1 => deg.all (· ≤ 2) && deg.sum + 2 == 2 * ds.length
  | _ => true

/-- The membership forms under its coordinator. -/
def State.formAs (s : State) (members : Nat) : State :=
  let standby := (List.range 8).foldl (fun m d => if bit members d then m else setBit m d false) (s.v K.ARRAY_CONFIG_STANDBY)
  let coord := lowest ((List.range 8).foldl (fun m d => if bit standby d then setBit m d false else m) members)
  if coord ≠ s.dev then s
  else s.declare {
    epoch := 1, members := members, standby := standby, dead := 0xFF, taker := 0xFF, coordinator := coord
    declareTime := s.time }

/-- Formation completes once the link graph holds every member and meets TOPOLOGY. DEDUCED, log entry 153. -/
def State.tryForm (s : State) : State :=
  let all := s.v K.ARRAY_CONFIG_MEMBERS
  if s.array.state = 1 && (List.range 8).all (fun d => !bit all d || bit s.reachable d) && s.topologyOk all then s.formAs all
  else s

/-- Formation fails: the device stays ISOLATED until reset. -/
def State.formFailed (s : State) : State :=
  State.raise { s with array := { s.array with state := 0 } } F.ARRAY_FORM_FAILED {}

/-- FORM_TIMEOUT: the array forms from a connected majority of MEMBERS, or formation fails. -/
def execFormTimeout (t : Time) (s : State) : Out :=
  live t s (fun s =>
    match s.array.firstUp with
    | some up =>
      if s.array.state ≠ 1 ∨ s.time < up + s.v K.ARRAY_CONFIG_FORM_TIMEOUT_MS * 1000000 then s
      else
        let all := s.v K.ARRAY_CONFIG_MEMBERS
        let there := (List.range 8).foldl (fun m d => if bit all d && bit s.reachable d then setBit m d true else m) 0
        if popCount 8 all < 2 * popCount 8 there then
          let gone := (List.range 8).filter (fun d => bit all d && !bit there d)
          (s.each gone (fun s d => s.raise F.ARRAY_MEMBER_MISSING { inst := d, detail := [d] })).formAs there
        else s.formFailed
    | none => s)

/-! ### Ports (R277 to R281, R284) -/

/-- A quad in RONOX role. -/
def State.isRonox (s : State) (q : Nat) : Bool := s.role q == 0x30

/-- RONOX_LINK_UP: the port's state starts anew, with the credit of its receive buffers, and it sends HELLO and CREDIT. -/
def execRonoxLinkUp (t : Time) (port : Nat) (s : State) : Out :=
  inRange "Q" port 6 <| live t s (fun s =>
    if !s.isRonox port || s.v K.ARRAY_CONFIG_ARRAY_EN = 0 then s
    else
      let s := s.setPort port { up := true, rxCredit := (256, 512, 7424), ackAt := s.time }
      let s := { s with array := { s.array with firstUp := s.array.firstUp.orElse (fun _ => some s.time) } }
      ((s.endFault F.RONOX_LINK_DOWN port).sendHello port).sendCredit port false)

/-- HELLO. -/
def execHello (t : Time) (port : Nat) (h : Hello) (s : State) : Out :=
  inRange "Q" port 6 <| live t s (fun s =>
    let p := s.port port
    if !s.isRonox port || !p.up || s.v K.ARRAY_CONFIG_ARRAY_EN = 0 then s
    else
      let members := s.v K.ARRAY_CONFIG_MEMBERS
      let same := h.members = members && h.standby = s.v K.ARRAY_CONFIG_STANDBY && h.topology = s.v K.ARRAY_CONFIG_TOPOLOGY
      if !same || h.dev = s.dev || 8 ≤ h.dev || !bit members h.dev then
        let s := (s.setPort port { p with neighbour := none }).raise F.ARRAY_CONFIG_MISMATCH { inst := port, detail := [port] }
        if h.dev = s.dev then
          let s := s.raise F.ARRAY_ID_CONFLICT { detail := [h.dev] }
          if s.array.state = 1 then s.formFailed else s
        else s
      else
        let s := (s.setPort port { p with neighbour := some h.dev }).endFault F.ARRAY_CONFIG_MISMATCH port
        let s := s.setPeer h.dev { s.peer h.dev with state := h.state, fenced := h.state = 4 }
        let older := s.inArray && epochOlder h.epoch s.array.epoch
        (if s.coordinates && older then s.sendFence h.dev else s).tryForm)

/-- A port's flit is refused: counted, and answered with CREDIT and NAK (R281). -/
def State.nak (s : State) (q : Nat) : State := (s.tick K.ARRAY_COUNTERS_NAKS 1).sendCredit q true

/-- RONOX_FLIT_REJECT: a flit whose CHECK fails. -/
def execRonoxFlitReject (t : Time) (port : Nat) (s : State) : Out :=
  inRange "Q" port 6 <| live t s (fun s => if s.isRonox port && (s.port port).up then s.nak port else s)

/-- A retrain starts. -/
def State.retrain (s : State) (q : Nat) : State :=
  (s.setPort q { s.port q with retraining := true, retrainAt := s.time, naks := 0 }).raise F.RONOX_LINK_RETRAIN
    { inst := q, detail := [q] }

/-- Every flit from ACK_SEQ + 1 is sent again in order. DEDUCED, log entry 148. -/
def State.resend (s : State) (q : Nat) : State :=
  s.each (s.port q).replay (fun s e => s.emit (e.2.output q e.1))

/-- CREDIT: acknowledges flits, gives credit, and with NAK asks for a replay. -/
def execCredit (t : Time) (port ackSeq : Nat) (totals : Nat × Nat × Nat) (nak : Bool) (s : State) : Out :=
  inRange "Q" port 6 <| live t s (fun s =>
    let p := s.port port
    if !s.isRonox port || !p.up then s
    else
      let left := p.replay.filter (fun e => let d := (e.1 + 2 ^ 32 - ackSeq) % 2 ^ 32; 0 < d && d < 2 ^ 31)
      let moved := left.length < p.replay.length
      let naks := (if moved then 0 else p.naks) + (if nak then 1 else 0)
      let s := s.setPort port { p with
        replay := left, acked := ackSeq, txCredit := totals, naks := naks, ackAt := if moved then s.time else p.ackAt }
      if p.retraining then s
      else if 8 ≤ naks then s.retrain port
      else (if nak then s.resend port else s).drainPort port (p.waiting.length + 1))

/-- RONOX_CREDIT_SEND: CREDIT_TOTAL of each class rises by the flits that left its receive buffer. -/
def execRonoxCreditSend (t : Time) (port : Nat) (drained : Nat × Nat × Nat) (s : State) : Out :=
  inRange "Q" port 6 <| live t s (fun s =>
    let p := s.port port
    if !s.isRonox port || !p.up then s
    else
      let size := fun c => if c = 0 then 256 else if c = 1 then 512 else 7424
      let rise := fun c => min (cls3 drained c) ((cls3 p.rxCount c + size c + 2 ^ 32 - cls3 p.rxCredit c) % 2 ^ 32)
      let total := addCls3 (addCls3 (addCls3 p.rxCredit 0 (rise 0)) 1 (rise 1)) 2 (rise 2)
      (s.setPort port { p with rxCredit := total }).sendCredit port false)

/-- IDLE: accepted without credit, and it changes nothing. -/
def execIdle (t : Time) (port : Nat) (s : State) : Out := inRange "Q" port 6 <| live t s (fun s => s)

/-- RONOX_ACK_TIMEOUT: 100 µs without ACK progress while flits are outstanding. -/
def execRonoxAckTimeout (t : Time) (port : Nat) (s : State) : Out :=
  inRange "Q" port 6 <| live t s (fun s =>
    let p := s.port port
    if s.isRonox port && p.up && !p.retraining && !p.replay.isEmpty && p.ackAt + 100000 ≤ s.time then s.retrain port else s)

/-- RONOX_RETRAIN_DONE: what is outstanding is sent again, and sequenced traffic resumes. -/
def execRonoxRetrainDone (t : Time) (port : Nat) (s : State) : Out :=
  inRange "Q" port 6 <| live t s (fun s =>
    let p := s.port port
    if !s.isRonox port || !p.up || !p.retraining || p.retrainAt + 10000000 < s.time then s
    else ((s.setPort port { p with retraining := false, ackAt := s.time }).resend port).drainPort port (p.waiting.length + 1))

/-- RONOX_LINK_DOWN: the flits of that link are discarded. -/
def execRonoxLinkDown (t : Time) (port : Nat) (s : State) : Out :=
  inRange "Q" port 6 <| live t s (fun s =>
    if !s.isRonox port || !(s.port port).up then s
    else (s.setPort port {}).raise F.RONOX_LINK_DOWN { inst := port, detail := [port] })

/-! ### Accepting flits (R279 to R283, R295) -/

/-- DST names this link, all members, this device or a live member (R282). DEDUCED, log entry 146. -/
def State.dstOk (s : State) (d : Nat) : Bool := d == 0xFE || d == 0xFF || d == s.dev || (d < 8 && bit s.array.members d)

/-- A sequenced flit arrives. The answer says whether this device takes its message; a flit for others is forwarded. DEDUCED, log entry 147. -/
def State.acceptFlit (s : State) (f : FlitHead) (type cls flags : Nat) (body : List Byte) : Bool × State :=
  let p := s.port f.port
  if !s.isRonox f.port || !p.up || p.neighbour.isNone then (false, s)
  else if !creditLeft (cls3 p.rxCredit f.cls) (cls3 p.rxCount f.cls) then
    (false, (s.tick K.ARRAY_COUNTERS_CREDIT_DROPS 1).raise F.RONOX_CREDIT_VIOLATION { inst := f.port, detail := [f.port] })
  else if f.seq ≠ p.rxSeq then (false, s.nak f.port)
  else
    let s := s.setPort f.port { p with rxSeq := (p.rxSeq + 1) % 2 ^ 32, rxCount := addCls3 p.rxCount f.cls 1 }
    if f.cls ≠ cls || 8 ≤ f.hops || !s.dstOk f.dst then (false, s.tick K.ARRAY_COUNTERS_FLIT_ERRORS 1)
    else
      let exempt := type = 0x11 || type = 0x12
      let after := epochAfter f.epoch s.array.epoch
      if !exempt && after ≠ 0 then
        (false, s.tick (if epochOlder f.epoch s.array.epoch then K.ARRAY_COUNTERS_STALE_FLITS
          else K.ARRAY_COUNTERS_EPOCH_AHEAD) 1)
      else
        let s := if f.dst = s.dev ∨ f.dst = 0xFE then s else s.route {
          type := type, flags := flags, epoch := f.epoch, src := f.src, dst := f.dst, hops := f.hops + 1, cls := cls
          body := body }
        (f.dst = s.dev || 0xFE ≤ f.dst, s)

/-! ### Liveness (R283, R292, R293) -/

/-- HEARTBEAT_SEND: every 10 µs, from hardware. -/
def execHeartbeatSend (t : Time) (s : State) : Out :=
  live t s (fun s =>
    if s.array.state = 0 ∨ s.time < s.array.lastHbSend + 10000 then s
    else
      let h := s.ownHeartbeat
      let s := { s with array := { s.array with lastHbSend := s.time } }
      s.ronoxSend 0x10 (heartbeatFlags h) 0 0xFF (heartbeatBody h))

/-- What a member's heartbeat tells. -/
def State.heard (s : State) (d : Nat) (epoch : Nat) (h : Heartbeat) : State :=
  let m := s.peer d
  let s := s.setPeer d { m with
    lastHb := some s.time, heardMe := if bit h.heard s.dev then some s.time else m.heardMe, state := h.state
    neighbours := h.neighbours, slots := h.slots, epoch := epoch, fenced := h.fenced
    lastDone := h.slots.foldl (fun l x => Store.put l x.chan x.lastDone) m.lastDone }
  { s with array := { s.array with heard := setBit s.array.heard d true } }

/-- HEARTBEAT. One of an older epoch is discarded, but the coordinator orders its sender to fence, and notes that it is
fenced (R298). -/
def execHeartbeat (t : Time) (f : FlitHead) (h : Heartbeat) (s : State) : Out :=
  inRange "Q" f.port 6 <| inRange "DEV" f.src 8 <| live t s (fun s =>
    let older := s.inArray && epochOlder f.epoch s.array.epoch
    let counted := s.count K.ARRAY_COUNTERS_STALE_FLITS
    let (mine, s) := s.acceptFlit f 0x10 0 (heartbeatFlags h) (heartbeatBody h)
    if !mine then
      if older && s.coordinates && s.count K.ARRAY_COUNTERS_STALE_FLITS ≠ counted then
        (s.setPeer f.src { s.peer f.src with fenced := h.fenced, state := h.state, neighbours := h.neighbours }).sendFence f.src
      else s
    else if f.src = s.dev then s
    else if h.sendTime + 50000 < s.time then s.tick K.ARRAY_COUNTERS_HB_LATE 1
    else
      let s := (s.heard f.src f.epoch h).tryForm
      if h.fenced && bit s.array.members f.src && s.declares f.src then s.declareDead f.src else s)

/-- HEARD_EXPIRY: no heartbeat accepted within the last 100 µs. -/
def execHeardExpiry (t : Time) (peer : Nat) (s : State) : Out :=
  inRange "DEV" peer 8 <| live t s (fun s =>
    let fresh : Bool := match (s.peer peer).lastHb with
      | some l => s.time ≤ l + 100000
      | none => false
    if fresh then s else { s with array := { s.array with heard := setBit s.array.heard peer false } })

/-- Peers that have shown this device in HEARD within 750 µs. -/
def State.hearers (s : State) : Nat :=
  (s.others.filter (fun d => match (s.peer d).heardMe with
    | some l => decide (s.time ≤ l + 750000)
    | none => false)).length

/-- ARRAY_FENCED: fewer than Q peers list this device. DEDUCED, log entry 144. -/
def execArrayFenced (t : Time) (s : State) : Out :=
  live t s (fun s => if s.inArray && s.hearers < popCount 8 s.array.members / 2 then s.fence else s)

/-- MEMBER_SILENCE_TIMEOUT. Simultaneous declarations are handled in DEV order. -/
def execMemberSilenceTimeout (t : Time) (peer : Nat) (s : State) : Out :=
  inRange "DEV" peer 8 <| live t s (fun s =>
    if bit s.array.members peer && s.declares peer && s.silent peer &&
        !(s.others.any (fun d => d < peer && s.declares d && s.silent d)) then s.declareDead peer
    else s)

/-- EPOCH_REPEAT. -/
def execEpochRepeat (t : Time) (s : State) : Out :=
  live t s (fun s =>
    match s.array.declared with
    | some (e, fin) =>
      if !s.coordinates || s.time < s.array.lastRepeat + 100000 then s
      else if fin < s.time then { s with array := { s.array with declared := none } }
      else State.ronoxSend { s with array := { s.array with lastRepeat := s.time } } 0x11 0 0 0xFF (epochBody e)
    | none => s)

/-- EPOCH. -/
def execEpoch (t : Time) (f : FlitHead) (e : EpochMsg) (s : State) : Out :=
  inRange "Q" f.port 6 <| inRange "DEV" f.src 8 <| live t s (fun s =>
    let (mine, s) := s.acceptFlit f 0x11 0 0 (epochBody e)
    let d := epochAfter e.epoch s.array.epoch
    if mine && s.array.state ≠ 0 && 1 ≤ d && d ≤ 0x7FFF then s.adopt e else s)

/-- FENCE_ORDER. -/
def execFenceOrder (t : Time) (f : FlitHead) (epoch : Nat) (s : State) : Out :=
  inRange "Q" f.port 6 <| inRange "DEV" f.src 8 <| live t s (fun s =>
    let (mine, s) := s.acceptFlit f 0x12 0 0 (leBytes 2 epoch)
    if mine && s.array.state ≠ 0 then s.fence else s)

/-- FAULT_RELAY: the coordinator takes the record as its own. -/
def execFaultRelay (t : Time) (f : FlitHead) (rec : RelayRecord) (s : State) : Out :=
  inRange "Q" f.port 6 <| inRange "DEV" f.src 8 <| live t s (fun s =>
    let r : FaultRecord := {
      fault := rec.fault, event := rec.event, reaction := rec.reaction, depth := rec.depth, dev := rec.dev, loc := rec.loc
      time := rec.time, seq := rec.seq, detail := rec.detail }
    let (mine, s) := s.acceptFlit f 0x13 0 0 r.bytes
    if mine && s.coordinates && (faultInfo? r.fault).isSome then s.relayRecord r else s)

/-- READMIT (R298). DEDUCED, log entry 145. -/
def State.readmit (s : State) (d : Nat) : Except Abort State :=
  if !s.coordinates then .error A.state
  else if 8 ≤ d || bit s.array.members d || !bit s.reachable d || !(s.peer d).fenced then .error A.value
  else
    let s := s.endFault F.ARRAY_MEMBER_MISSING d
    .ok (s.declare {
      epoch := epochNext s.array.epoch, members := setBit s.array.members d true
      standby := setBit s.array.standby d true, dead := 0xFF, taker := 0xFF, coordinator := s.dev
      declareTime := s.time })

/-! ### Halos (R157, R158, R290) -/

/-- HALO_REQ. -/
def execHaloReq (t : Time) (f : FlitHead) (q : HaloReq) (s : State) : Out :=
  inRange "Q" f.port 6 <| inRange "DEV" f.src 8 <| inRange "CH" q.chan 256 <| live t s (fun s =>
    let (mine, s) := s.acceptFlit f 0x20 1 (if q.final then 1 else 0) (haloBody q)
    if mine then s.takeHaloReq f.src q else s)

/-- HALO_DATA. -/
def execHaloData (t : Time) (f : FlitHead) (reqId offset : Nat) (data : List Byte) (s : State) : Out :=
  inRange "Q" f.port 6 <| inRange "DEV" f.src 8 <| live t s (fun s =>
    let (mine, s) := s.acceptFlit f 0x21 2 0 (leBytes 4 reqId ++ leBytes 4 offset ++ data)
    if mine then s.takeHaloData reqId offset data else s)

/-- HALO_REQ_REISSUE. -/
def execHaloReqReissue (t : Time) (reqId : Nat) (s : State) : Out := live t s (fun s => s.reissueHalo reqId)

/-- HALO_FINAL_SEND. -/
def execHaloFinalSend (t : Time) (ch pic owner : Nat) (s : State) : Out :=
  inRange "CH" ch 256 <| inRange "DEV" owner 8 <| live t s (fun s => s.sendHaloFinal ch pic owner)

end Sys2Proof.Machine
end

