-- ==== Sys2Proof/Machine/Moraine.lean ====
section
/-! DEFINITION. The management cores, the device-fatal sequence and the Moraine dump (R52, R356, R357, R361 to R364). -/

namespace Sys2Proof.Machine

/-! ### Management cores (R52, R361) -/

def State.core (s : State) (k : Nat) : Core' := Store.get s.cores {} k
def State.setCore (s : State) (k : Nat) (c : Core') : State := { s with cores := Store.put s.cores k c }

/-- The core that restarts a core: SH3, or SH2 for SH3 itself. -/
def restarter (k : Nat) : Nat := if k = 3 then 2 else 3

/-- MGMT_STALL: a core's loop has not been serviced for 100 ms. A core that stalls again within 1 s of returning, or while
another is stalled, raises MGMT_STALL_REPEAT too. -/
def execMgmtStall (t : Time) (core : Nat) (s : State) : Out :=
  inRange "SH" core 4 <| live t s (fun s =>
    let c := s.core core
    if c.stalled then s
    else
      let soon : Bool := match c.returned with
        | some x => s.time < x + 1000000000
        | none => false
      let others := (List.range 4).any (fun k => k ≠ core && (s.core k).stalled)
      let s := (s.setCore core { c with stalled := true }).raise F.MGMT_STALL { inst := core, detail := [core] }
      if soon || others then s.raise F.MGMT_STALL_REPEAT { inst := core, detail := [core] } else s)

/-- SHAWM_CORE_RESTART: the stalled core is reset and its firmware reloaded. -/
def execShawmCoreRestart (t : Time) (core : Nat) (s : State) : Out :=
  inRange "SH" core 4 <| live t s (fun s =>
    let c := s.core core
    if c.stalled && s.coreWorks (restarter core) then s.setCore core { c with restarting := true } else s)

/-- SHAWM_LOOP_RESUME: the core's loop runs again, and its MGMT_STALL clears. Notices that waited go out. DEDUCED, log entry 180. -/
def execShawmLoopResume (t : Time) (core : Nat) (s : State) : Out :=
  inRange "SH" core 4 <| live t s (fun s =>
    let c := s.core core
    if c.stalled then
      ((s.setCore core { stalled := false, restarting := false, returned := some s.time }).endFault F.MGMT_STALL
        core).flushNotices
    else s)

/-! ### What a dump holds -/

/-- The selectors among the device entries. -/
def selectorKeys : List Nat :=
  [K.NVM_WEAR_QUERY_TARGET, K.APPLIED_VIEW_TARGET, K.BAR2_SELECT_APERTURE, K.BAR2_SELECT_APERTURE + 1,
    K.BAR2_SELECT_APERTURE + 2, K.FAULT_LOG_SELECT, K.INT_SELECT_SOURCE, K.INT_SELECT_GROUP, K.DRAM_ERR_LOG_SELECT,
    K.REF_EXPORT_CHAN, K.REF_EXPORT_PIC_COUNT, K.EQ_SELECT_TARGET, K.METER_SELECT_TARGET, K.FLASH_UPDATE_REGION]

/-- LUT_INDEX of CH_RAW, or of a CH_DERIVEDk (R135, R136). -/
def isLutIndex (key : Nat) : Bool :=
  isChanIdx (key / 256) &&
    (chanPart key == K.CH_RAW_LUT_INDEX || (List.range 4).any (fun k => chanPart key == K.CH_DERIVEDk_LUT_INDEX + 256 * k))

/-- LUT_DATA likewise. -/
def isLutData (key : Nat) : Bool :=
  isChanIdx (key / 256) &&
    (chanPart key == K.CH_RAW_LUT_DATA || (List.range 4).any (fun k => chanPart key == K.CH_DERIVEDk_LUT_DATA + 256 * k))

def isSelector (key : Nat) : Bool := selectorKeys.contains key || isLutIndex key


/-- Unit state of section 3 (R364). -/
def UnitSt.code (x : UnitSt) : Nat :=
  if x.retired then 3 else if x.quarantined then 2 else if x.inService then 0 else 1


/-- Entries of the dictionary snapshot: those with a pending value and one in effect, of at most 8 bytes. The rows of
the interrupt table and what stands behind EQ_SELECT and METER_SELECT are left out. -/
def snapshotHas (e : Entry) : Bool :=
  (e.acc == .rw || e.acc == .rwp) && e.ty.size.isSome &&
    !(([0x2501, 0x2502, 0x2A41, 0x2A81] : List Nat).contains e.idx)

/-- Keys of the dictionary snapshot, each with its row; a value kept per requester has none. -/
def snapshotKeys : List (Nat × Entry) :=
  let keys := fun (base : Nat) (e : Entry) => (List.range e.idxN).flatMap (fun i =>
    (List.range e.subN).map (fun j => (base + keyOf (e.idx + i) (e.sub + j), e)))
  ((devEntries.filter snapshotHas).flatMap (keys 0) ++ (List.range 256).flatMap (fun n =>
    (chanEntries.filter snapshotHas).flatMap (keys (chKey n 0)))).filter (fun k => !isSelector k.1 && !isLutData k.1)

/-- A table with the owner of each channel, which is kept apart from the other entries. -/
def State.withOwners (s : State) (m : Store W64) : Store W64 :=
  s.chans.foldl (fun m e => Store.put m (chKey e.1 K.CH_STATE_OWNER) (w64 e.2.owner)) m

/-- Unit state records of one kind in number order. -/
def State.unitRecords (s : State) (k : UnitKind) : List (Nat × Nat × Nat × Nat × Nat × Time) :=
  (List.range k.total).map (fun n =>
    let x := s.unit k n
    (unitKey k n, x.code, clusterOf k n, (x.grant.map (·.gen)).getD 0, (x.grant.map (fun g => locCode s.dev (s.grantLoc k g))).getD 0,
      x.lastHandshake))

/-- Records of the blocks of Table 1-1 in order: the first power domain of each, and no grant (R364). -/
def blockRecords : List (Nat × Nat × Nat × Nat × Nat × Time) :=
  (List.range 19).map (fun k => (0x300 + k, 0, if k = 0 then 0 else if k = 1 then 8 else k + 14, 0, 0, 0))

/-- Sections of Table 15-11 as they stand: fault log, reaction table, unit state, ring pointers, launch history,
dictionary snapshot and Shawm state. PRESUMED, log entry 178. -/
def State.dumpAll (s : State) : Moraine :=
  { s.moraine with
    sections := [1, 2, 3, 4, 5, 6, 7]
    log := s.faults.log
    rows := (List.range 512).map (fun n => w64 (s.faultRowWord n))
    units := [UnitKind.px, .ee, .ms, .df].flatMap s.unitRecords ++ blockRecords
    rings := List.map (fun e => (e.1, e.2.pi, e.2.ci, w64 (e.2.row / 2 ^ 64))) s.rings
    launches := List.map (fun e => (e.1, e.2.history)) s.chans
    appl := s.withOwners s.dict.appl, pend := s.withOwners s.dict.pend, lost := s.dict.lost }

/-- Sections that the boot ROM can fill: unit state and the fault log from PD28, and the dictionary snapshot from the
shadow copies (R362). -/
def State.dumpRom (s : State) : Moraine :=
  { s.dumpAll with sections := [1, 3, 6], rows := [], rings := [], launches := [] }

/-- A dump with its header: writer, final STATE, and the first device-fatal source, or 0xFFFF for DUMP_NOW. -/
def State.dumpDone (s : State) (m : Moraine) (writer st : Nat) : State :=
  let r := if writer = 3 then none else s.faults.cause
  { s with moraine := { m with
      valid := true, state := st, writer := writer, dumping := false, dev := s.dev
      cause := (r.map (·.fault)).getD 0xFFFF, causeLoc := (r.map (·.loc)).getD 0
      causeDepth := (r.map (·.depth)).getD 0, time := (r.map (·.time)).getD s.time, doneTime := s.time
      swVersion := s.boot.swVersion } }

/-- A dump may be written: with KEEP_FIRST only while VALID is 0 (R363). DEDUCED, log entry 177. -/
def State.mayDump (s : State) : Bool := s.v K.MORAINE_KEEP_FIRST = 0 || !s.moraine.valid

/-- The boot ROM's dump after a warm reset, where SH3 did not write one (R362). -/
def State.romDump (s : State) : State := if s.mayDump then s.dumpDone s.dumpRom 2 3 else s

/-! ### COMMAND (Table 15-9) -/

/-- DUMP_NOW: SH3 begins a dump while the device runs. DEDUCED, log entry 179. -/
def State.dumpNow (s : State) : Except Abort State :=
  if !s.mayDump then .error A.busy
  else .ok { s with moraine := { s.moraine with dumping := true, state := 1 } }

/-- RELEASE clears VALID and leaves the contents. -/
def State.moraineRelease (s : State) : State := { s with moraine := { s.moraine with valid := false } }

/-- SH3 sets the final STATE. In a device-fatal sequence DEVICE_STATE becomes FATAL; a dump kept
under KEEP_FIRST is left as it is. -/
def State.dumpComplete (s : State) : State :=
  if !s.coreWorks 3 then s
  else if s.faults.device = .fatalDumping then
    let s := if s.mayDump then s.dumpDone s.dumpAll 1 2 else s
    { s with faults := { s.faults with device := .fatal } }
  else if s.moraine.dumping then s.dumpDone s.dumpAll 3 2
  else s

/-! ### The region as the host reads it (R363, R364, BAR2 table code 0x07) -/

/-- Bytes of a section. A value of section 6 stands with its index, subindex and type, and whether its pending value
differs. -/
def Moraine.section (m : Moraine) (ty : Nat) : List Byte :=
  match ty with
  | 1 => m.log.flatMap FaultRecord.bytes
  | 2 => m.rows.flatMap (fun w => leBytes 8 w.toNat)
  | 3 => m.units.flatMap (fun u =>
      leBytes 2 u.1 ++ leBytes 1 u.2.1 ++ leBytes 1 u.2.2.1 ++ leBytes 4 u.2.2.2.1 ++ leBytes 8 u.2.2.2.2.1 ++
        leBytes 8 u.2.2.2.2.2 ++ (List.range 232).map (Config.unitRegister m.doneTime u.1))
  | 4 => (List.range 32768).flatMap (fun n =>
      match m.rings.find? (·.1 == n) with
      | some r => leBytes 4 r.2.1.toNat ++ leBytes 4 r.2.2.1.toNat ++ leBytes 8 r.2.2.2.toNat
      | none => leBytes 16 0)
  | 5 => (List.range 256).flatMap (fun n =>
      let l := (m.launches.find? (·.1 == n)).map Prod.snd
      let bs := (l.getD []).flatMap (fun x => leBytes 8 x.1 ++ leBytes 4 x.2.1 ++ leBytes 4 x.2.2)
      bs ++ List.replicate (1024 - bs.length) 0)
  | 6 => snapshotKeys.flatMap (fun k =>
      let d := w64 (if k.1 = K.UDP_CONFIG_IP_ADDR then k.2.dflt + m.dev else k.2.dflt)
      let v := Store.get m.appl d k.1
      if k.1 / 256 = 0x2403 ∨ k.1 / 256 = 0x2404 then
        match m.rows[(k.1 / 256 - 0x2403) * 255 + k.1 % 256 - 1]? with
        | some w => leBytes 2 (k.1 / 256) ++ leBytes 1 k.1 ++ leBytes 1 k.2.ty.code ++ leBytes 1 0 ++ leBytes 3 0 ++ leBytes 8 w.toNat
        | none => []
      else if m.lost.contains k.1 then []
      else leBytes 2 (k.1 / 256) ++ leBytes 1 k.1 ++ leBytes 1 k.2.ty.code ++
        leBytes 1 (if Store.get m.pend d k.1 = v then 0 else 1) ++ leBytes 3 0 ++ leBytes 8 v.toNat)
  | _ => (List.range (9 * 2 ^ 20)).map (Config.shawmByte m.doneTime)

/-- Offset of a section (Table 15-11). -/
def sectionOffset (ty : Nat) : Nat :=
  match ty with
  | 1 => 0x1000 | 2 => 0x5000 | 3 => 0x10000 | 4 => 0x100000 | 5 => 0x200000 | 6 => 0x400000 | _ => 0x1000000

/-- One directory entry: TYPE, FLAGS, OFFSET, LENGTH and CHECK. -/
def Moraine.dirEntry (m : Moraine) (ty : Nat) : List Byte :=
  let bs := m.section ty
  leBytes 2 ty ++ leBytes 2 0 ++ leBytes 4 (sectionOffset ty) ++ leBytes 4 bs.length ++ leBytes 4 (crc32c bs).toNat

/-- The header of Table 15-10. -/
def Moraine.header (m : Moraine) : List Byte :=
  let rev := [Config.stepping.2, Config.stepping.1, 0, 0]
  let dir := m.sections.flatMap m.dirEntry
  let body := leBytes 4 0x4D525A48 ++ leBytes 1 1 ++ leBytes 1 m.state ++ leBytes 1 m.writer ++ leBytes 1 m.dev ++
    leBytes 2 m.cause ++ leBytes 2 m.sections.length ++ leBytes 1 m.causeDepth ++ leBytes 3 0 ++ leBytes 8 m.time ++
    leBytes 8 m.doneTime ++ leBytes 8 m.causeLoc ++ (m.swVersion ++ List.replicate 32 0).take 32 ++ rev ++
    leBytes 4 Config.serial.toNat ++ List.replicate 16 0 ++ dir ++ List.replicate (4092 - 96 - dir.length) 0
  body ++ leBytes 4 (crc32c body).toNat

/-- Bytes of the Moraine region at an offset: the header, then the sections at their offsets, 0 elsewhere (R364). -/
def Moraine.byteAt (m : Moraine) (off : Nat) : Byte :=
  if off < 4096 then (if m.state = 0 then 0 else m.header.getD off 0)
  else match (m.sections.reverse.find? (fun ty => sectionOffset ty ≤ off)) with
    | some ty => (m.section ty).getD (off - sectionOffset ty) 0
    | none => 0

end Sys2Proof.Machine
end

