-- ==== Sys2Proof/Machine/Dram.lean ====
section
/-! DEFINITION. The DRAM controllers and the DMA engine (chapter 14). -/

namespace Sys2Proof.Machine

/-! ### Channels, addresses and regions (R324 to R329) -/

/-- The allowed interleave groups (DC_ENABLE of Table 14-1). -/
def dramGroups : List Nat := [0xFF, 0x0F, 0xF0, 0x03, 0x0C, 0x30, 0xC0]

/-- The largest allowed group within DC_ENABLE whose channels all trained, the lower-numbered one on a tie (R329). -/
def dramGroup (enable trained : Nat) : Option Nat :=
  (dramGroups.filter (fun g => g &&& enable = g ∧ g &&& trained = g)).foldl
    (fun best g => match best with
      | some b => if popCount 8 b < popCount 8 g then some g else some b
      | none => some g) none

/-- GiB that a channel holds (R324). -/
def channelGib (ranks width density : Nat) : Nat := 2 * ranks * (32 / width) * density / 8

/-- The interleave group in use, and its lowest channel. -/
def State.dramUse (s : State) : Nat := s.ro K.DRAM_STATUS_IN_USE
def State.dramLow (s : State) : Nat := ((List.range 8).find? (bit s.dramUse)).getD 0

/-- Channel and subchannel of a device address (R325). -/
def State.dramPlace (s : State) (addr : Nat) : Nat × Nat :=
  (s.dramLow + addr / 128 % max 1 (popCount 8 s.dramUse), addr / 64 % 2)

/-- The capacity in use, in bytes. -/
def State.dramBytes (s : State) : Nat := s.ro K.DRAM_STATUS_CAPACITY_MIB * 2 ^ 20

/-- One region lowered in steps of 2 MiB, none below its minimum, until an excess is gone: the size left and the excess. -/
def lowerRegion (mib minimum excess : Nat) : Nat × Nat :=
  let cut := min ((mib - minimum) / 2 * 2) (2 * ceilDiv excess 2)
  (mib - cut, excess - cut)

/-- Base and size of every region for a capacity, and whether sizes were lowered (R327, Table 14-2). -/
def placeRegions (capMib work ref spill bufBytes poolWant : Nat) : List (Nat × Nat) × Bool :=
  let room := ceilDiv (1024 * bufBytes) (2 ^ 20)
  let excess := 16 + room + work + ref + spill + 512 + 64 - capMib
  let (ref', e) := lowerRegion ref 1024 excess
  let (work', e) := lowerRegion work 1024 e
  let (spill', _) := lowerRegion spill 0 e
  let m := 2 ^ 20
  let b6 := capMib - 64
  let b5 := b6 - 512
  let b4 := b5 - spill'
  let b3 := b4 - ref'
  let b2 := b3 - work'
  let n := min poolWant (min (2 ^ 38 / bufBytes) ((b2 - 16) * m / bufBytes))
  ([(0, 16 * m), (16 * m, n * bufBytes), (b2 * m, work' * m), (b3 * m, ref' * m), (b4 * m, spill' * m),
    (b5 * m, 512 * m), (b6 * m, 64 * m)], 0 < excess)

/-! ### Refresh and retraining (R326, R331) -/

/-- A launch, gate-list cycle start or scheduled snapshot is planned from now until `gap` ns from now. ARRIVAL launches are
not planned. -/
def State.plannedWithin (s : State) (gap : Nat) : Bool :=
  let near := fun x => s.time ≤ x && x ≤ s.time + gap
  let launches := (List.map Prod.fst s.chans).any (fun n =>
    let x := s.nextLaunch n
    x ≠ 0 && near x)
  let cycles := s.eth.any (fun e =>
    (!e.2.active.entries.isEmpty &&
      near (e.2.cycleStart + ceilDiv (s.time - e.2.cycleStart) (max 1 e.2.active.cycle) * e.2.active.cycle)) ||
    (match e.2.commitAt with
      | some c => near (s.switchAt e.1 c)
      | none => false))
  let snap := s.v K.SNAPSHOT_SNAP_AT
  launches || cycles || (snap ≠ 0 && near snap)

/-- The instant at which a channel of the group becomes, or became, due. -/
def State.retrainDue (s : State) (dc : Nat) : Option Time :=
  if bit s.dramUse dc then Store.find? s.dram.due dc else none

/-- A channel retrains: LAST_RETRAIN and RETRAINS; it becomes due again a period after it became due. -/
def State.retrainNow (s : State) (dc due : Nat) : State :=
  let s := (s.setRo K.DRAM_STATUS_LAST_RETRAIN s.time).tick K.MEMORY_COUNTERS_RETRAINS 1
  { s with dram := { s.dram with
      due := Store.put s.dram.due dc (due + s.v K.DRAM_CONFIG_RETRAIN_MS * 1000000) } }

/-- DRAM_REFRESH: an enabled channel's refresh is issued. -/
def execDramRefresh (t : Time) (dc : Nat) (s : State) : Out :=
  inRange "DC" dc 8 <| live t s (fun s => if bit s.dramUse dc then s.emit (.dramRefresh dc) else s)

/-- DRAM_RETRAIN: a due channel finds a gap. DEDUCED, log entry 167. -/
def execDramRetrain (t : Time) (dc : Nat) (s : State) : Out :=
  inRange "DC" dc 8 <| live t s (fun s => match s.retrainDue dc with
    | some due =>
      if due ≤ s.time && !s.plannedWithin (s.v K.DRAM_CONFIG_GAP_US * 1000) then s.retrainNow dc due else s
    | none => s)

/-- DRAM_RETRAIN_FORCED: a due channel has found no gap within RETRAIN_MS. -/
def execDramRetrainForced (t : Time) (dc : Nat) (s : State) : Out :=
  inRange "DC" dc 8 <| live t s (fun s => match s.retrainDue dc with
    | some due =>
      if due + s.v K.DRAM_CONFIG_RETRAIN_MS * 1000000 ≤ s.time then
        ((s.retrainNow dc due).tick K.MEMORY_COUNTERS_RETRAINS_FORCED 1).raise F.DRAM_RETRAIN_FORCED
          { inst := dc, detail := [dc] }
      else s
    | none => s)

/-! ### Data errors and the error log (R332 to R337) -/

/-- A record of the error log (Table 14-7). -/
def errRecord (time kind source dc sub rank device addr : Nat) : BitVec 128 :=
  BitVec.ofNat 128 (time * 2 ^ 64 + kind * 2 ^ 62 + source % 16 * 2 ^ 58 + dc * 2 ^ 55 + sub * 2 ^ 54 +
    rank % 2 * 2 ^ 53 + device % 256 * 2 ^ 45 + addr / 64 * 64 % 2 ^ 38)

/-- An event enters the error log, which holds the last 16. -/
def State.logDram (s : State) (kind source rank device addr : Nat) : State :=
  let p := s.dramPlace addr
  let s := s.bump K.DRAM_ERR_LOG_TOTAL 1
  { s with dram := { s.dram with
      errLog := (errRecord s.time kind source p.1 p.2 rank device addr :: s.dram.errLog).take 16 } }

/-- Instants within the second that ends now, this one added. -/
def State.withinSecond (s : State) (l : List Time) : List Time :=
  s.time :: l.filter (fun x => s.time < x + 1000000000)

/-- A corrected read is counted against CE_THRESH: the error with which a channel comes to exceed it raises
DRAM_CE_RATE. DEDUCED, log entry 168. -/
def State.ceRate (s : State) (dc : Nat) : State :=
  let l := s.withinSecond (Store.get s.dram.ceTimes [] dc)
  let s := { s with dram := { s.dram with ceTimes := Store.put s.dram.ceTimes dc l } }
  if l.length = s.v K.DRAM_CONFIG_CE_THRESH + 1 then s.raise F.DRAM_CE_RATE { inst := dc, detail := [dc] } else s

/-- Key of a device of a rank. -/
def deviceKey (dc sub rank device : Nat) : Nat := ((dc * 2 + sub) * 2 + rank % 2) * 256 + device

/-- With x8 parts, the 16th corrected read within one second that locates one device marks it (R333). DEDUCED, log entry 169. -/
def State.locate (s : State) (source rank device addr : Nat) : State :=
  let p := s.dramPlace addr
  let key := deviceKey p.1 p.2 rank device
  let l := s.withinSecond (Store.get s.dram.located [] key)
  let s := { s with dram := { s.dram with located := Store.put s.dram.located key l } }
  if s.v K.DRAM_CONFIG_DEVICE_WIDTH = 8 && 16 ≤ l.length && !s.dram.marked.contains key then
    (({ s with dram := { s.dram with marked := s.dram.marked ++ [key] } }).logDram 1 source rank device addr).raise
      F.DRAM_CE_RATE { inst := p.1, detail := [p.1, p.2, rank % 2, device] }
  else s

/-- A corrected read: counted, logged, and its corrected line written back. -/
def State.corrected (s : State) (source rank : Nat) (device : Option Nat) (addr : Nat) : State :=
  let s := (s.tick K.MEMORY_COUNTERS_CE 1).logDram 1 source rank (device.getD 0xFF) addr
  let s := s.ceRate (s.dramPlace addr).1
  match device with
  | some d => s.locate source rank d addr
  | none => s

/-- Address of a line. -/
def lineOf (addr : Nat) : Nat := addr / 64 * 64

/-- A read that stays uncorrectable: the line is logged and counted, and DRAM_UNCORRECTABLE raised (R334, Table 14-5). A
Shawm core as requester raises SHAWM_MEM_ERROR too (R353). A patrol scrubber's read, one of data that no channel owns, and
one of a DMA channel, whose STATUS shows it, are logged only. DEDUCED, log entry 169. -/
def State.uncorrectable (s : State) (source rank chan addr : Nat) : State :=
  let s := (s.tick K.MEMORY_COUNTERS_UE 1).logDram 2 source rank 0xFF addr
  let s := { s with dram := { s.dram with
      badLines := if s.dram.badLines.contains (lineOf addr) then s.dram.badLines
        else s.dram.badLines ++ [lineOf addr] } }
  let loc := if chan < 256 then Loc.ofChan chan else {}
  let s := s.raise F.DRAM_UNCORRECTABLE { loc := loc, detail := [lineOf addr], recordOnly := source == 0 || source == 10 || 256 ≤ chan }
  if source = 11 then s.raise F.SHAWM_MEM_ERROR { detail := [lineOf addr] } else s

/-- PATROL_SCRUB_READ: the scrubber reads a line in use. An uncorrectable line is read again (DRAM_REREAD); a line known
to be uncorrectable stays so, whatever the read finds (R335). -/
def execPatrolScrubRead (t : Time) (addr rank : Nat) (res : ReadResult) (s : State) : Out :=
  live t s (fun s =>
    if s.v K.DRAM_CONFIG_SCRUB_HOURS = 0 || s.dramBytes ≤ addr || s.dram.badLines.contains (lineOf addr) then s
    else match res with
      | .clean | .uncorrectable => s
      | .corrected d => s.corrected 0 rank d addr)

/-- DRAM_REREAD: the second read of an uncorrectable line. -/
def execDramReread (t : Time) (addr rank source chan : Nat) (res : ReadResult) (s : State) : Out :=
  inRange "SOURCE" source 14 <| live t s (fun s =>
    if s.dramBytes ≤ addr then s
    else if s.dram.badLines.contains (lineOf addr) then s.uncorrectable source rank chan addr
    else match res with
      | .clean => s.corrected source rank none addr
      | .corrected d => s.corrected source rank d addr
      | .uncorrectable => s.uncorrectable source rank chan addr)

/-- DRAM_CA_ALERT: commands are replayed from the one that failed; a third replay of one command within 1 ms raises
DRAM_CA_FAIL (R336). -/
def execDramCaAlert (t : Time) (dc sub rank addr cmd source : Nat) (s : State) : Out :=
  inRange "DC" dc 8 <| inRange "subchannel" sub 2 <| inRange "SOURCE" source 14 <| live t s (fun s =>
    if !bit s.dramUse dc then s
    else
      let key := dc * 2 + sub
      let recent := (Store.get s.dram.replays [] key).filter (fun r => s.time ≤ r.2 + 1000000)
      let l := recent ++ [(cmd, s.time)]
      let s := (s.tick K.MEMORY_COUNTERS_CA_REPLAYS 1).bump K.DRAM_ERR_LOG_TOTAL 1
      let s := { s with dram := { s.dram with
          replays := Store.put s.dram.replays key l
          errLog := (errRecord s.time 3 source dc sub rank 0xFF addr :: s.dram.errLog).take 16 } }
      if 3 ≤ (l.filter (·.1 == cmd)).length then s.raise F.DRAM_CA_FAIL { detail := [dc, sub, cmd] } else s)

/-- CLEAR of DRAM_ERR_LOG: any value empties the log, TOTAL is kept. -/
def State.clearDramLog (s : State) : State := { s with dram := { s.dram with errLog := [] } }

/-- REC_LO and REC_HI: 64 bits of the record SELECT names, 0 for an empty entry (R337). -/
def State.dramRec (s : State) (sel : Nat) (high : Bool) : Nat :=
  let r := (s.dram.errLog[sel]?.map BitVec.toNat).getD 0
  if high then r / 2 ^ 64 else r % 2 ^ 64

/-! ### DMA channels (R339 to R343) -/

def State.dmaCh (s : State) (dm : Nat) : Dma := Store.get s.dma {} dm
def State.setDma (s : State) (dm : Nat) (d : Dma) : State := { s with dma := Store.put s.dma dm d }

/-- Key of an entry of a DMA channel. -/
def dmaKey (dm k : Nat) : Nat := k + dm * 256

/-- BUSY or STOPPING: START and writes of sub 0x01 to 0x05 are refused (R340). -/
def Dma.busy (d : Dma) : Bool := d.status == 1 || d.status == 4

/-- MODE in effect. -/
def State.dmaMode (s : State) (dm : Nat) : Nat := s.v (dmaKey dm K.DMA_CH_MODE)

/-- Signals IRQ_SRC where IRQ_EN is set, as the function that FUNC names. -/
def State.dmaSignal (s : State) (dm : Nat) : State :=
  let m := s.dmaMode dm
  if bit m 30 then s.signal (bits m 29 18) (some (bits m 17 10)) else s

/-- The transfer that the registers hold. -/
def State.dmaRegs (s : State) (dm : Nat) : DmaXfer :=
  let m := s.dmaMode dm
  { src := s.v (dmaKey dm K.DMA_CH_SRC), dst := s.v (dmaKey dm K.DMA_CH_DST)
    count := s.v (dmaKey dm K.DMA_CH_COUNT_BYTES), last := true, irq := false
    dstHost := bit m 8, srcHost := bit m 7, dstWidth := bits m 6 4, srcWidth := bits m 3 1, next := 0 }

/-- The transfer that a descriptor holds (Table 14-10). -/
def dmaOf (b : BitVec 256) : DmaXfer :=
  let v := b.toNat
  { src := bits v 255 192, dst := bits v 191 128, count := bits v 127 96, last := bit v 95, irq := bit v 94
    dstHost := bit v 72, srcHost := bit v 71, dstWidth := bits v 70 68, srcWidth := bits v 67 65, next := bits v 63 0 }

/-- The run ends with an error status: ERR_ADDR, DMA_ERROR and the interrupt. -/
def State.dmaFail (s : State) (dm status addr : Nat) : State :=
  let s := s.setDma dm { s.dmaCh dm with status := status, errAddr := w64 addr, cur := none, ending := none }
  (s.raise F.DMA_ERROR { inst := dm, detail := [dm, status, addr] }).dmaSignal dm

/-- The run ends in DONE (2) or STOPPED (3): at once, or after the zero-length read that follows its last host write. -/
def State.dmaFinish (s : State) (dm status : Nat) : State :=
  let d := s.dmaCh dm
  if d.hostDst then s.setDma dm { d with cur := none, ending := some status }
  else (s.setDma dm { d with cur := none, status := status }).dmaSignal dm

/-- The check of a transfer when it starts: status and address of a failure (R341). DEDUCED, log entry 171. -/
def State.dmaCheck (s : State) (x : DmaXfer) : Option (Nat × Nat) :=
  let pool := s.dram.regions.getD 1 (0, 0)
  if x.count = 0 then none
  else if x.src % 2 ^ x.srcWidth ≠ 0 then some (8, x.src)
  else if x.dst % 2 ^ x.dstWidth ≠ 0 then some (8, x.dst)
  else if !x.srcHost && s.dramBytes < x.src + x.count then some (9, max x.src s.dramBytes)
  else if !x.dstHost && (x.dst < pool.1 || pool.1 + pool.2 < x.dst + x.count) then
    some (9, if x.dst < pool.1 then x.dst else max x.dst (pool.1 + pool.2))
  else none

/-- A transfer starts. -/
def State.dmaBegin (s : State) (dm : Nat) (x : DmaXfer) : State :=
  match s.dmaCheck x with
  | some (st, a) => s.dmaFail dm st a
  | none => s.setDma dm { s.dmaCh dm with cur := some x }

/-- A descriptor is fetched: DESC_ADDR follows it. One unaligned, unreadable or holding width 7 is a DESC_ERROR. -/
def State.dmaFetch (s : State) (dm addr : Nat) (desc : Option (BitVec 256)) : State :=
  let s := s.setImm (dmaKey dm K.DMA_CH_DESC_ADDR) addr
  let beyond := !bit (s.dmaMode dm) 0 && s.dramBytes < addr + 32
  match desc with
  | none => s.dmaFail dm 12 addr
  | some b =>
    let x := dmaOf b
    if addr % 32 ≠ 0 || beyond || x.srcWidth = 7 || x.dstWidth = 7 then s.dmaFail dm 12 addr
    else s.dmaBegin dm x

/-- START (R340). While the device is fatal a transfer to device DRAM is refused (R356). -/
def State.dmaStart (s : State) (dm : Nat) (first : Option (BitVec 256)) : Except Abort State :=
  let d := s.dmaCh dm
  let chain := bit (s.dmaMode dm) 31
  let toDram := if chain then (first.map (fun b => !(dmaOf b).dstHost)).getD false else !(s.dmaRegs dm).dstHost
  if d.busy then .error A.state
  else if s.fatal && toDram then .error A.busy
  else
    let s := s.setDma dm { d with
      status := 1, bytesDone := 0, descDone := 0, cur := none, hostDst := false, ending := none }
    if chain then .ok (s.dmaFetch dm (s.v (dmaKey dm K.DMA_CH_DESC_ADDR)) first)
    else
      let x := s.dmaRegs dm
      if x.count = 0 then .ok (s.dmaFinish dm 2) else .ok (s.dmaBegin dm x)

/-- STOP: while BUSY, STOPPING; in any other state it has no effect (R342). -/
def State.dmaStop (s : State) (dm : Nat) : State :=
  let d := s.dmaCh dm
  if d.status = 1 then s.setDma dm { d with status := 4 } else s

/-- The bytes a transfer's source gives: what DMA wrote where the source is a pool buffer that has never been out of the
pool, the dump in the Moraine region (R363), and what units and the host left there elsewhere (an operand). DESIGN CHOICE,
log entry 170. -/
def State.dmaSource (s : State) (x : DmaXfer) (data : List Byte) : List Byte :=
  let pool := s.dram.regions.getD 1 (0, 0)
  let dump := s.dram.regions.getD 6 (0, 0)
  if x.srcHost then data
  else List.map (fun e =>
    let a := x.src + e.2
    if pool.1 ≤ a && a < pool.1 + pool.2 && !s.pool.used.contains ((a - pool.1) / max 1 s.pool.bufBytes) then
      s.dram.mem.read a
    else if dump.1 ≤ a && a < dump.1 + dump.2 then s.moraine.byteAt (a - dump.1)
    else e.1) data.zipIdx

/-- The destination of a transfer takes bytes. A DRAM line of which all 64 bytes are written is no longer uncorrectable
(R335). -/
def State.dmaWrite (s : State) (dm : Nat) (x : DmaXfer) (bs : List Byte) : State :=
  if bs.isEmpty then s
  else if x.dstHost then (s.setDma dm { s.dmaCh dm with hostDst := true }).emit (.hostWrite x.dst bs)
  else { s with dram := { s.dram with
      mem := s.dram.mem.writeBytes x.dst bs
      badLines := s.dram.badLines.filter (fun l => !(x.dst ≤ l && l + 64 ≤ x.dst + bs.length)) } }

/-- A descriptor is complete: it counts, signals, and the next one starts or the run ends (R340, R342). The signal of the
descriptor that ends the run is that of DONE or STOPPED. -/
def State.dmaNext (s : State) (dm : Nat) (x : DmaXfer) (next_ : Option (BitVec 256)) : State :=
  let d := s.dmaCh dm
  if !bit (s.dmaMode dm) 31 then s.dmaFinish dm 2
  else
    let s := s.setDma dm { d with descDone := d.descDone + 1 }
    if x.last then s.dmaFinish dm 2
    else if d.status = 4 then (s.setImm (dmaKey dm K.DMA_CH_DESC_ADDR) x.next).dmaFinish dm 3
    else (if x.irq then s.dmaSignal dm else s).dmaFetch dm x.next next_

/-- A transfer completes or fails (R341). An error is that of an access the transfer makes: of the host where source or
destination is the host, of DRAM where the source is. DEDUCED, log entry 172. -/
def State.dmaDone (s : State) (dm : Nat) (x : DmaXfer) (m : DmaMove) (next_ : Option (BitVec 256)) : State :=
  let hostErr := m.hostError && (x.srcHost || x.dstHost)
  let dramErr := m.dramError && !x.srcHost
  let bs := (s.dmaSource x m.data).take x.count
  if !hostErr && !dramErr && bs.length < x.count then s
  else
    let s := s.dmaWrite dm x bs
    let d := s.dmaCh dm
    let s := (s.setDma dm { d with bytesDone := d.bytesDone + w64 bs.length }).tick
      K.MEMORY_COUNTERS_DMA_BYTES bs.length
    let srcAt := (x.src + bs.length) / 2 ^ x.srcWidth * 2 ^ x.srcWidth
    let dstAt := (x.dst + bs.length) / 2 ^ x.dstWidth * 2 ^ x.dstWidth
    if dramErr then s.dmaFail dm 11 srcAt
    else if hostErr then s.dmaFail dm 10 (if x.srcHost then srcAt else dstAt)
    else s.dmaNext dm x next_

/-- DMA_DESCRIPTOR_COMPLETE. DEDUCED, log entry 173. -/
def execDmaDescriptorComplete (t : Time) (dm : Nat) (m : DmaMove) (next_ : Option (BitVec 256)) (s : State) : Out :=
  inRange "DM" dm 64 <| live t s (fun s => match (s.dmaCh dm).cur with
    | some x => s.dmaDone dm x m next_
    | none => s)

/-- DMA_FINAL_READ_COMPLETE (R343). -/
def execDmaFinalReadComplete (t : Time) (dm : Nat) (s : State) : Out :=
  inRange "DM" dm 64 <| live t s (fun s => match (s.dmaCh dm).ending with
    | some st => (s.setDma dm { s.dmaCh dm with status := st, ending := none }).dmaSignal dm
    | none => s)

end Sys2Proof.Machine
end

