-- ==== Sys2Proof/Machine/Power.lean ====
section
/-! DEFINITION. Supplies, deadline-driven voltage, the power ladder, temperature, and margin calibration (chapter 16). -/

namespace Sys2Proof.Machine

/-! ### Domains and setpoints (R365, R366, R369 to R371) -/

/-- Setpoint of a domain in mV: 0.75 V before any evaluation. -/
def State.setpointMv (s : State) (pd : Nat) : Nat := Store.get s.power.setpoint 750 pd

/-- Domains whose voltage scales: the cluster logic, its SRAM, and PD16 to PD19 (Table 16-1). -/
def scalable (pd : Nat) : Bool := pd < 20

/-- DOMAIN_MV as its sensor has it: scalable domains stand at retention voltage in L1, and a domain that is off shows 0. -/
def State.shownMv (s : State) (pd : Nat) : Nat :=
  let gone := (s.power.off && pd < 30) || (s.power.shutdown && s.nvm.current.isNone && pd < 20) || (4 ≤ s.power.ladder && pd < 30) ||
    (2 ≤ s.power.ladder && pd < 24)
  if gone then 0 else if s.power.ladder = 1 && scalable pd then Config.retentionMv pd else s.domainMv pd

/-- The class of units that a setpoint serves: PD00 to PD07 serve three, PD16 to PD19 one each. -/
def classesOf (pd : Nat) : List Nat := if pd = 0 then [0, 1, 2] else [pd - 13]

/-- S(v) of a class at a 5 mV step above 0.55 V, with 16 fraction bits; at 0.75 V it is 1 (R370). -/
def State.speed (s : State) (cls step : Nat) : Nat :=
  if step = 40 then 65536
  else match Store.find? s.power.speed (cls * 64 + step) with
    | some x => x
    | none => Config.factorySpeed cls step

/-- A measured point enters the table with a weight of 1/8 where the class runs at that point. -/
def State.measureSpeed (s : State) (x : Nat × Nat × Nat) : State :=
  let pd := if x.1 < 3 then 0 else x.1 + 13
  if x.1 < 7 && s.domainMv pd = 550 + 5 * x.2.1 && x.2.1 ≠ 40 then
    { s with power := { s.power with
        speed := Store.put s.power.speed (x.1 * 64 + x.2.1) ((7 * s.speed x.1 x.2.1 + x.2.2) / 8) } }
  else s

/-- est(f) in nominal ns: the work of the channel's last completed frame of the type, or samples times the preset's
constant before there is one. -/
def State.estOf (s : State) (ch : Nat) (l : Launched) (cls : Nat) : Nat :=
  match Store.find? (s.chan ch).workOf l.type.code with
  | some t => Config.workUsed ch t cls
  | none => (s.fmt ch).samples * Config.workConstant (s.pval l.vals ch K.CH_SEARCH_PRESET) cls / 65536

/-- Launched frames with work left in a class, as deadline, channel and launch, earliest deadline first. -/
def State.framesLeft (s : State) (cls : Nat) : List (Time × Nat × Launched) :=
  let all := s.chans.flatMap (fun e =>
    if e.2.working then
      (e.2.launched.filter (fun l => Config.workDone e.1 l.time cls s.time < Config.workUsed e.1 l.time cls)).map
        (fun l => (l.time + s.deadlineNs e.1 l.vals, e.1, l))
    else [])
  all.foldl (fun l f => l.takeWhile (fun x => x.1 ≤ f.1) ++ f :: l.dropWhile (fun x => x.1 ≤ f.1)) []

/-- The pairs of R369: ten times the work w up to a frame, in nominal ns, and a hundred times the time t it has, in ns;
none where t is not above 0. -/
def State.needs (s : State) (cls : Nat) : List (Nat × Option Nat) :=
  ((s.framesLeft cls).foldl (fun acc f =>
    let est := s.estOf f.2.1 f.2.2 cls
    let w := acc.1 + max (10 * (est - Config.workDone f.2.1 f.2.2.time cls s.time)) est
    let t := if f.1 ≤ s.time then none else some ((f.1 - s.time) * (100 - s.v K.POWER_CONFIG_VGUARD_PCT))
    (w, acc.2 ++ [(w, t)])) (0, ([] : List (Nat × Option Nat)))).2

/-- S meets every pair: S × t is at least w. -/
def speedMeets (sp : Nat) (l : List (Nat × Option Nat)) : Bool :=
  l.all (fun x => match x.2 with
    | some t => x.1 * 655360 ≤ sp * t
    | none => false)

/-- The voltage of one class in mV before the caps. -/
def State.classMv (s : State) (cls : Nat) : Nat :=
  let l := s.needs cls
  let v := match (List.range 61).find? (fun k => speedMeets (s.speed cls k) l) with
    | some k => 550 + 5 * k
    | none => 850
  let v := if (s.framesLeft cls).any (fun f => s.cv f.2.1 K.CH_POWER_POLICY = 1) then max v 750 else v
  if s.v K.POWER_CONFIG_BOOST_EN = 0 then min v 750 else v

/-- The setpoint of a scalable domain under both caps. -/
def State.target (s : State) (pd : Nat) : Nat :=
  let v := ((classesOf pd).map s.classMv).foldl max 0
  max 550 (min v (min s.power.thermalCap s.power.powerCap))

/-- Setpoints of every domain in L0 (Table 16-1). -/
def State.targets (s : State) : List (Nat × Nat) :=
  let cl := s.target 0
  (List.range 32).map (fun pd =>
    (pd, if pd < 8 then cl else if pd < 16 then max cl 650 else if pd < 20 then s.target pd else 750))

/-- The change is confirmed: READ_VOUT within 10 mV, or the change divided by 1 mV/µs plus 50 µs (R366). -/
def State.vinConfirmed (s : State) : Bool :=
  let p := s.power
  let near := (p.pmbus.1 * 1000 - p.vin) + (p.vin - p.pmbus.1 * 1000) ≤ 10000
  near || p.vinAt + ((p.vin - p.vinWas) + (p.vinWas - p.vin)) + 50000 ≤ s.time

/-- The highest voltage a domain may be raised to: while PMBUS_FAULT is active, the last confirmed VCORE_IN less the
headroom (R367). -/
def State.raiseLimit (s : State) : Nat :=
  if s.faultActive F.PMBUS_FAULT then s.power.pmbus.1 - s.v K.PMBUS_CONFIG_VIN_HEADROOM_MV else 850

/-- VCORE_IN for the setpoints: the highest plus the headroom, rounded up to the regulator's step, in µV. -/
def State.vinFor (s : State) : Nat :=
  let top := ((List.range 30).map s.setpointMv).foldl max 0
  let step := max 1 Config.voutStep
  ceilDiv ((top + s.v K.PMBUS_CONFIG_VIN_HEADROOM_MV) * 1000) step * step

/-- VCORE_IN follows the setpoints, unless the supply is fixed or PMBUS_FAULT is active. 0x21 is VOUT_COMMAND. -/
def State.followVin (s : State) : State :=
  let v := s.vinFor
  if s.v K.PMBUS_CONFIG_EXT_MODE = 0 || s.faultActive F.PMBUS_FAULT || v = s.power.vin then s
  else
    ({ s with power := { s.power with vin := v, vinWas := s.power.vin, vinAt := s.time } }).emit (.pmbus 0x21 v)

/-- At boot VOUT_TRANSITION_RATE (0x27) is written as 1 mV/µs, and VCORE_IN set (R367, Table 17-3 step 3). -/
def State.startRegulator (s : State) : State :=
  if s.v K.PMBUS_CONFIG_EXT_MODE = 0 then s else (s.emit (.pmbus 0x27 1)).followVin

/-- A domain's new setpoint: a lower voltage at once, a higher one after VCORE_IN, or at once on a fixed supply. -/
def State.setDomain (s : State) (pd mv : Nat) : State :=
  let now := s.domainMv pd
  let p := { s.power with setpoint := Store.put s.power.setpoint pd mv, raising := Store.erase s.power.raising pd }
  if mv ≤ now || s.v K.PMBUS_CONFIG_EXT_MODE = 0 then
    ({ s with power := { p with mv := Store.put p.mv pd mv, boosted := p.boosted || 750 < mv } }).enterBand pd now
  else { s with power := { p with raising := Store.put p.raising pd mv } }

/-- The power cap falls or rises by 10 mV with the power measured over the last 1 ms (R371). -/
def State.stepPowerCap (s : State) (mw : Nat) : State :=
  let limit := s.v K.POWER_CONFIG_POWER_LIMIT_W * 1000
  let cap := s.power.powerCap
  let cap := if limit < mw then max 550 (cap - 10) else if mw * 100 < limit * 95 then min 850 (cap + 10) else cap
  { s with power := { s.power with powerCap := cap, powerMw := mw } }

/-- WORK_EST and SLACK_US of a channel with launched frames (Table 16-3): est of its last frame, and t − w / S(v) of its
earliest one, both of the pixel class. -/
def State.showWork (s : State) (ch : Nat) : State :=
  let step := (s.domainMv 0 - 550) / 5
  let s := match (s.chan ch).launched.getLast? with
    | some l => s.setRo (chKey ch K.CH_POWER_WORK_EST) (s.estOf ch l 0)
    | none => s
  match ((s.framesLeft 0).zip (s.needs 0)).find? (fun x => x.1.2.1 == ch) with
  | some (f, w, _) =>
    let have_ := ((f.1 : Int) - s.time) * (100 - s.v K.POWER_CONFIG_VGUARD_PCT : Nat) / 100
    let used : Int := (w * 65536 / (10 * max 1 (s.speed 0 step)) : Nat)
    s.setRo (chKey ch K.CH_POWER_SLACK_US) (ofSigned 32 ((have_ - used) / 1000))
  | none => s

/-- VOLTAGE_EVALUATION: every 100 µs, in L0. DEDUCED, log entry 183. -/
def State.evaluate (s : State) (mw : Nat) (rates : List (Nat × Nat × Nat)) : State :=
  let s := (s.each rates State.measureSpeed).stepPowerCap mw
  let s := s.each s.targets (fun s x => s.setDomain x.1 x.2)
  let s := s.followVin
  s.each (List.map Prod.fst s.chans) State.showWork

def execVoltageEvaluation (t : Time) (powerMw : Nat) (rates : List (Nat × Nat × Nat)) (s : State) : Out :=
  .next (
    let s := s.at t
    if s.up && s.power.ladder = 0 && s.time % 100000 = 0 then s.evaluate powerMw rates else s)

/-- DOMAIN_RAISE: a domain that waits for VCORE_IN is raised once it is confirmed. -/
def execDomainRaise (t : Time) (pd : Nat) (s : State) : Out :=
  inRange "PD" pd 32 <| .next (
    let s := s.at t
    match Store.find? s.power.raising pd with
    | some v =>
      if s.supplied && !s.power.off && s.vinConfirmed then
        let mv := max (s.domainMv pd) (min v s.raiseLimit)
        ({ s with power := { s.power with
            mv := Store.put s.power.mv pd mv, raising := Store.erase s.power.raising pd
            boosted := s.power.boosted || 750 < mv } }).enterBand pd (s.domainMv pd)
      else s
    | none => s)

/-! ### PMBus and regulator faults (R367, R368) -/

/-- A failed transaction: the third in a row raises PMBUS_FAULT. DEDUCED, log entry 185. -/
def State.pmbusFailed (s : State) : State :=
  let s := s.bump K.PMBUS_CONFIG_ERRORS 1
  let n := s.power.pmbusFails + 1
  let s := { s with power := { s.power with pmbusFails := n } }
  if n = 3 then s.raise F.PMBUS_FAULT {} else s

/-- A successful transaction ends PMBUS_FAULT. -/
def State.pmbusPassed (s : State) : State :=
  ({ s with power := { s.power with pmbusFails := 0 } }).endFault F.PMBUS_FAULT 0

/-- The PMBus master works: PD29 is supplied, and EXT_MODE is 1. -/
def State.pmbusOn (s : State) : Bool :=
  s.supplied && !s.pins.resetLow && !s.power.off && s.power.ladder ≤ 3 && s.v K.PMBUS_CONFIG_EXT_MODE = 1

/-- PMBUS_POLL: the READ commands and STATUS_WORD, every 10 ms. -/
def execPmbusPoll (t : Time) (ok : Bool) (vin iin : Nat) (temp : Int) (statusWord : Nat) (s : State) : Out :=
  always t s (fun s =>
    if !s.pmbusOn then s
    else if ok then
      ({ s with power := { s.power with pmbus := (vin % 65536, iin % 2 ^ 32, temp, statusWord % 65536) } }).pmbusPassed
    else s.pmbusFailed)

/-- PMBUS_ALERT: STATUS_WORD is read, and CLEAR_FAULTS (0x03) follows. -/
def execPmbusAlert (t : Time) (ok : Bool) (statusWord : Nat) (s : State) : Out :=
  always t s (fun s =>
    if !s.pmbusOn then s
    else if ok then
      let q := s.power.pmbus
      (({ s with power := { s.power with pmbus := (q.1, q.2.1, q.2.2.1, statusWord % 65536) } }).pmbusPassed).emit
        (.pmbus 0x03 0)
    else s.pmbusFailed)

/-- VREG_FAULT: DETAIL is the domain, or 32 for the external regulator. -/
def execVregFault (t : Time) (pd : Nat) (s : State) : Out :=
  inRange "PD" pd 33 <| live t s (fun s => s.raise F.VREG_FAULT { inst := pd, detail := [pd] })

/-! ### The power ladder (R372 to R376) -/

/-- No request queue holds a request. -/
def State.queuesEmpty (s : State) : Bool := s.access.queues.all (fun e => e.2.items.isEmpty && !e.2.blocked)

/-- A retrain is due, or falls due within a span. -/
def State.retrainWithin (s : State) (gap : Nat) : Bool :=
  s.dram.due.any (fun e => bit s.dramUse e.1 && e.2 ≤ s.time + gap)

/-- The conditions of L1 (R373). -/
def State.frostReady (s : State) : Bool :=
  let gap := s.v K.POWER_CONFIG_FROST_MIN_GAP_US * 1000
  s.up && s.power.ladder = 0 && s.power.entering.isNone && !s.fatal && s.v K.POWER_CONFIG_FROST_AUTO = 1 &&
    s.units.all (fun e => e.2.grant.isNone) && s.dma.all (fun e => !e.2.busy) && s.queuesEmpty &&
    !s.plannedWithin gap && !s.retrainWithin gap

/-- FROST_ENTRY. -/
def execFrostEntry (t : Time) (s : State) : Out :=
  .next (
    let s := s.at t
    if s.frostReady then { s with power := { s.power with ladder := 1, frostSince := s.time } } else s)

/-- FROST_EXIT: 1 µs ahead of the next planned event. -/
def execFrostExit (t : Time) (s : State) : Out := .next (s.at t).awake

/-- A TARGET write is refused outside L0, and while work is under way (R374). -/
def State.ladderRefused (s : State) : Bool :=
  s.power.ladder ≠ 0 || s.power.entering.isSome || s.chans.any (fun e => e.2.state ≠ .closed) ||
    s.dma.any (fun e => e.2.busy) || s.recs.any (fun e => e.2.state = 1) || s.queues.any (fun e => e.2.state = 2) ||
    (s.array.state ≠ 0 && s.array.state ≤ 3)

/-! ### Trim banks (R387) -/

/-- The newest bank, and its trims. -/
def State.newestBank (s : State) : Option (Nat × Time × TrimSet) :=
  s.power.banks.foldl (fun (best : Option (Nat × Time × TrimSet)) e => match best with
    | some b => if b.1 < e.2.1 then some e.2 else best
    | none => some e.2) none

/-- The trims in effect differ from the newest bank. -/
def State.trimsDiffer (s : State) : Bool :=
  match s.newestBank with
  | some b => b.2.2 ≠ s.power.trims
  | none => true

/-- CAL_STORE_H has passed since the last store, or since reset where TIME_NOW now lies before it. DEDUCED, log entry 188. -/
def State.storeDue (s : State) : Bool :=
  decide ((if s.power.lastStore ≤ s.time then s.power.lastStore else 0) + s.v K.CAL_CONFIG_CAL_STORE_H * 3600000000000 ≤ s.time)

/-- The trims in effect are written to the banks in turn. Once STORES has reached 200,000 nothing is stored. -/
def State.storeTrims (s : State) : State :=
  let p := s.power
  if 200000 ≤ p.stores then s
  else
    let n := p.stores + 1
    let s := { s with power := { p with
        banks := Store.put p.banks ((n - 1) % 2) (n, s.time, p.trims), stores := n, lastStore := s.time } }
    if n = 200000 then s.raise F.NVM_WEAR {} else s

/-- TRIM_STORE: the trims in effect differ from the newest bank, and CAL_STORE_H has passed since the last store. -/
def execTrimStore (t : Time) (s : State) : Out :=
  live t s (fun s => if s.trimsDiffer && s.storeDue then s.storeTrims else s)

/-- A TARGET write of 2 to 5 (R374). At every entry to L4 or L5 the trims are stored. DEDUCED, log entry 188. -/
def State.ladderTarget (s : State) (n : Nat) : Except Abort State :=
  if n < 2 || 5 < n then .error A.value
  else if s.ladderRefused then .error A.state
  else
    let s := if 4 ≤ n then s.storeTrims else s
    .ok { s with power := { s.power with entering := some n } }

/-- What L3 stops: SH1 to SH3, and the ETH and MAG quads. DEDUCED, log entry 187. -/
def State.drift (s : State) : State :=
  let s := (List.map Prod.fst s.eth).foldl (fun s p => s.setRo (ethKey p K.ETH_PORT_LINK) 0) s
  { s with
    cores := (List.range 3).foldl (fun m k => Store.erase m (k + 1)) s.cores
    eth := Store.map s.eth (fun _ e => { e with link := false, busy := none })
    mags := Store.map s.mags (fun _ m => { m with state := 0, inFlight := [] }) }

/-- What L4 and L5 lose: every link, DRAM with the Moraine, and every state of PD00 to PD29 but what R376 keeps. Dictionary
values stay, except those of channel objects, which return to their defaults; counters read 0. -/
def State.loseCore (s : State) : State :=
  let dev := fun (m : Store W64) => m.filter (fun e => !(0x400000 ≤ e.1 % 2 ^ 24 && e.1 % 2 ^ 24 < 0x800000))
  let z : State := {}
  { z with
    time := s.time, pending := s.pending, reqs := List.map (fun e => (e.1, { e.2 with shadow := none, stage := none })) s.reqs
    dict := { pend := dev s.dict.pend, appl := dev s.dict.appl, ro := dev s.dict.ro, strs := s.dict.strs }
    access := { s.access with can := s.access.can }
    nvm := s.nvm
    faults := { rows := s.faults.rows, active := s.faults.active, records := s.faults.records, seq := s.faults.seq
                errOut := s.faults.errOut, errHold := s.faults.errHold, errPin := s.faults.errPin }
    ints := { sources := Store.map s.ints.sources (fun _ r => { r with pending := false, active := false })
              groups := Store.map s.ints.groups (fun _ g => { g with timer := none, masked := true, msixPending := false }) }
    tb := s.tb, recIn := s.recIn, array := s.array
    mags := Store.map s.mags (fun _ g => { content := g.content })
    power := s.power, boot := s.boot, pins := s.pins, slow := s.slow, slowFrozen := s.slowFrozen
    free := s.free, out := s.out }

/-- LADDER_ENTRY_COMPLETE: after any NVM slot write in progress. 0x01 is OPERATION: off in L4 and L5. -/
def execLadderEntryComplete (t : Time) (s : State) : Out :=
  .next (
    let s := s.at t
    match s.power.entering with
    | none => s
    | some n =>
      if !s.up || s.nvm.current.isSome then s
      else
        let s := { s with power := { s.power with ladder := n, entering := none } }
        if n = 2 then s
        else if n = 3 then s.drift
        else
          let s := s.drift.loseCore
          let s := { s with pins := { s.pins with mainEn := s.v K.PMBUS_CONFIG_EXT_MODE = 0 } }
          if s.v K.PMBUS_CONFIG_EXT_MODE = 1 then s.emit (.pmbus 0x01 0) else s)

/-! ### Temperature (R377 to R382) -/

/-- Temperatures as the slow domain has them: TJ_MAX and its domain. -/
def State.tempOf (s : State) (pd : Nat) : Int := Store.get s.power.temps 0 pd
def State.hottest (s : State) : Nat × Int :=
  ((List.range 32).map (fun pd => (pd, s.tempOf pd))).foldl
    (fun best e => if best.2 < e.2 then e else best) (0, s.tempOf 0)

def State.diode (s : State) (n : Nat) : Tdiode := Store.get s.power.diodes {} n

/-- TC (R377). -/
def State.controlTemp (s : State) : Int :=
  let tj := s.hottest.2
  ((List.range 4).filter (fun n => s.v (K.TDIODE_ROLE + n) = 2)).foldl
    (fun m n => max m (if (s.diode n).valid then (s.diode n).temp
      else tj + 8 * (s.v K.THERMAL_FALLBACK_C : Int))) tj

/-- A warning threshold: raised at or above it, ended at or below it minus 5 °C. -/
def State.threshold (s : State) (fault degrees : Nat) : State :=
  let tc := s.controlTemp
  if (8 * degrees : Int) ≤ tc then s.raise fault {}
  else if tc ≤ (8 * degrees : Int) - 40 then s.endFault fault 0
  else s

/-- The condition of TEMP_THROTTLE holds. -/
def State.throttling (s : State) : Bool :=
  match Store.find? s.faults.active F.TEMP_THROTTLE with
  | some a => !a.holders.isEmpty
  | none => false

/-- Time throttled runs while TEMP_THROTTLE's condition holds. -/
def State.throttleClock (s : State) : State :=
  match s.power.throttleSince, s.throttling with
  | none, true => { s with power := { s.power with throttleSince := some s.time } }
  | some t, false =>
    ({ s with power := { s.power with throttleSince := none } }).bump K.THERMAL_THROTTLE_NS (s.since t)
  | _, _ => s

/-- The switched rails and the external regulator come back; 0x80 is OPERATION on. -/
def State.suppliesOn (s : State) : State :=
  let s := { s with pins := { s.pins with mainEn := true } }
  if s.v K.PMBUS_CONFIG_EXT_MODE = 1 then s.emit (.pmbus 0x01 0x80) else s

/-- TEMP_SHUTDOWN: the device returns to L0 supplies and stops as Table 16-6 states. -/
def State.thermalStop (s : State) : State :=
  let s := if 4 ≤ s.power.ladder then s.suppliesOn else s
  let s := if s.power.ladder = 0 then s
    else ({ s with power := { s.power with ladder := 0, entering := none } }).setRo K.POWER_CONFIG_WAKE_CAUSE 0x80
  State.raise { s with power := { s.power with shutdown := true, stopAt := s.time, entering := none } } F.TEMP_SHUTDOWN {}

/-- A new reading acts on the three thresholds (R379). DEDUCED, log entry 192. -/
def State.thermal (s : State) : State :=
  if s.power.shutdown then s
  else
    let s := s.threshold F.TEMP_WARNING (s.v K.THERMAL_WARN_C)
    let s := (s.threshold F.TEMP_THROTTLE (s.v K.THERMAL_THROTTLE_C)).throttleClock
    if (8 * (s.v K.THERMAL_SHUTDOWN_C) : Int) ≤ s.controlTemp then s.thermalStop else s

/-- The sensors work: out of reset and supplied, before boot too (R381). -/
def State.sensing (s : State) : Bool := s.supplied && !s.pins.resetLow && !s.power.off

/-- A sensor's new reading. -/
def State.sensorReading (s : State) (pd : Nat) (reading : Int) : State :=
  { s with power := { s.power with temps := Store.put s.power.temps pd reading } }

/-- The discards of a remote-diode channel. -/
def State.diodeDiscard (s : State) (n k : Nat) : State := s.bump (K.TDIODE_DISCARDS + n) k

def State.setDiode (s : State) (n : Nat) (d : Tdiode) : State :=
  { s with power := { s.power with diodes := Store.put s.power.diodes n d } }

/-- A failed end step: every unpublished result is discarded, and the channel is invalid (DETAIL 1). -/
def State.diodeOpen (s : State) (n : Nat) : State :=
  let d := s.diode n
  let s := s.setDiode n { d with valid := false, unpublished := none, passes := 0, outOfRange := 0 }
  (s.diodeDiscard n (if d.unpublished.isSome then 2 else 1)).raise F.TDIODE_OPEN { inst := n, detail := [n, 1] }

/-- A passed end step publishes the result before; a result out of range is discarded, and the fourth in a row makes the
channel invalid (DETAIL 2). Four conversions that pass make it valid. DEDUCED, log entry 189. -/
def State.diodePass (s : State) (n : Nat) (reading : Int) : State :=
  let d := s.diode n
  let d := { d with temp := d.unpublished.getD d.temp, unpublished := none }
  if reading < -440 ∨ 1200 < reading then
    let k := d.outOfRange + 1
    let s := (s.setDiode n { d with outOfRange := k, passes := 0, valid := d.valid && k < 4 }).diodeDiscard n 1
    if k = 4 then s.raise F.TDIODE_OPEN { inst := n, detail := [n, 2] } else s
  else
    let k := d.passes + 1
    let s := s.setDiode n { d with unpublished := some reading, outOfRange := 0, passes := k, valid := d.valid || 4 ≤ k }
    if !d.valid && 4 ≤ k then s.endFault F.TDIODE_OPEN n else s

/-- TDIODE_CONVERSION: a ROLE 0 channel keeps its slot but drives no current. -/
def execTdiodeConversion (t : Time) (n : Nat) (reading : Int) (endOk : Bool) (s : State) : Out :=
  inRange "TD" n 4 <| always t s (fun s =>
    if !s.sensing || s.v (K.TDIODE_ROLE + n) = 0 then s
    else (if endOk then s.diodePass n reading else s.diodeOpen n).thermal)

/-- TEMP as the slow domain has it: −32,768 while invalid or off. -/
def State.diodeTemp (s : State) (n : Nat) : Int :=
  if s.v (K.TDIODE_ROLE + n) = 0 || !(s.diode n).valid then -32768 else (s.diode n).temp

/-- VALID. -/
def State.diodeValid (s : State) : Nat :=
  ((List.range 4).filter (fun n => s.v (K.TDIODE_ROLE + n) ≠ 0 && (s.diode n).valid)).foldl (fun a n => a + 2 ^ n) 0

/-- THERMAL_CAP_STEP: every 10 ms. -/
def execThermalCapStep (t : Time) (s : State) : Out :=
  always t s (fun s =>
    let cap := s.power.thermalCap
    let cap := if s.throttling then max 550 (cap - 25) else min 850 (cap + 25)
    if s.sensing then { s with power := { s.power with thermalCap := cap } } else s)

/-- Table 16-6 step 5: every domain but PD30 and PD31 off, the external regulator off, ERR_OUT_N held asserted. -/
def State.powerOff (s : State) : State :=
  let s := { s with
    power := { s.power with off := true }, boot := { s.boot with afterShutdown := true }
    pins := { s.pins with mainEn := s.v K.PMBUS_CONFIG_EXT_MODE = 0 } }
  (if s.v K.PMBUS_CONFIG_EXT_MODE = 1 then s.emit (.pmbus 0x01 0) else s).assertErr

/-- Step 5 of Table 16-6 follows once the dump is complete and no slot write is in progress (R59). -/
def State.stopGo (s : State) : State :=
  if s.power.shutdown && s.faults.device == .fatal && !s.power.off && s.nvm.current.isNone then s.powerOff else s

/-! ### Margin calibration (R383 to R386) -/

/-- Self-timed domains: PD00 to PD07 and PD16 to PD29. -/
def selfTimed (pd : Nat) : Bool := pd < 8 || (16 ≤ pd && pd < 30)

/-- Key of a trim group. -/
def trimKey (pd cls band : Nat) : Nat := (pd * 8 + cls) * 4 + band

/-- The trim of a line in effect. -/
def State.trim (s : State) (g l : Nat) : Nat :=
  let base := if s.power.trims.factory then Config.factoryTrim (g * 64 + l) else 15
  Store.get s.power.trims.diff base (g * 64 + l)

/-- s of R384: the largest p for which every probe up to p is late no more than CAL_LATE_PPM. -/
def passProbes (ppm : Nat) (l : Nat) (ws : List (List Nat × List Nat)) : Nat :=
  (ws.takeWhile (fun w => w.1.getD l 0 * 1000000 ≤ ppm * w.2.getD l 0)).length

/-- Result of a run: one trim for each line. -/
def State.runResult (s : State) (g : Nat) (ws : List (List Nat × List Nat)) : List Nat :=
  (List.range 64).map (fun l =>
    let x : Int := (s.trim g l : Int) - passProbes (s.v K.CAL_CONFIG_CAL_LATE_PPM) l ws + s.v K.CAL_CONFIG_CAL_GUARD
    (max 0 (min 15 x)).toNat)

/-- Two results agree: they differ by at most 1 on every line. -/
def agree (a b : List Nat) : Bool := (a.zip b).all (fun x => x.1 ≤ x.2 + 1 && x.2 ≤ x.1 + 1)

def State.setGroup (s : State) (g : Nat) (x : CalGroup) : State :=
  { s with power := { s.power with groups := Store.put s.power.groups g x } }

/-- A run is complete. An accepted result is applied at the next launch, or at once while no channel is open (R385), and
the domain goes on to its next class. DEDUCED, log entry 190. -/
def State.runDone (s : State) (pd cls band : Nat) (x : CalGroup) (ws : List (List Nat × List Nat)) : State :=
  let g := trimKey pd cls band
  let res := s.runResult g ws
  let s := s.bump K.CAL_STATUS_RUNS 1
  match x.prev with
  | none => s.setGroup g { x with probe := 1, windows := [], prev := some res }
  | some p =>
    if agree res p then
      let best := (res.zip p).map (fun y => max y.1 y.2)
      let s := s.setGroup g {}
      let s := { s with power := { s.power with
          accepted := s.power.accepted ++ [(g, best)], calClass := Store.put s.power.calClass pd ((cls + 1) % 8) } }
      if s.anyOpen then s else s.applyTrims
    else if x.fails = 2 then
      let s := s.setGroup g { backoff := some (s.time + s.v K.CAL_CONFIG_CAL_BACKOFF_S * 1000000000) }
      (s.bump K.CAL_STATUS_DISAGREE_COUNT 1).raise F.CAL_DISAGREE { inst := g, detail := [pd, cls, band] }
    else s.setGroup g { x with probe := 1, windows := [], prev := some res, fails := x.fails + 1 }

/-- CAL_WINDOW: one window of the group being calibrated in the domain, in the band in use, with the next probe offset. It
counts if every line saw CAL_MIN_TRANS transitions; otherwise it is repeated. -/
def execCalWindow (t : Time) (pd cls band : Nat) (late trans : List Nat) (s : State) : Out :=
  inRange "PD" pd 32 <| inRange "class" cls 8 <| inRange "band" band 4 <| live t s (fun s =>
    let g := trimKey pd cls band
    let x : CalGroup := Store.get s.power.groups {} g
    let full := late.length = 64 && trans.length = 64 && trans.all (fun n => s.v K.CAL_CONFIG_CAL_MIN_TRANS ≤ n)
    if s.v K.CAL_CONFIG_CAL_EN = 0 || !selfTimed pd || Store.get s.power.calClass 0 pd ≠ cls ||
        bandOf (s.domainMv pd) ≠ band || x.backoff.isSome || !full then s
    else
      let ws := x.windows ++ [(late, trans)]
      if x.probe = 8 then s.runDone pd cls band x ws
      else s.setGroup g { x with probe := x.probe + 1, windows := ws })

/-- CAL_BACKOFF_EXPIRY: the group's runs start again. -/
def execCalBackoffExpiry (t : Time) (pd cls band : Nat) (s : State) : Out :=
  inRange "PD" pd 32 <| inRange "class" cls 8 <| inRange "band" band 4 <| live t s (fun s =>
    let g := trimKey pd cls band
    match (Store.get s.power.groups {} g).backoff with
    | some e => if e ≤ s.time then s.setGroup g {} else s
    | none => s)

/-- A line's trim rises by CAL_GUARD in every band, to 15 at most. -/
def State.emergencyTrim (s : State) (pd cls line : Nat) : State :=
  let up := fun (m : Store Nat) b =>
    let g := trimKey pd cls b
    Store.put m (g * 64 + line) (min 15 (s.trim g line + s.v K.CAL_CONFIG_CAL_GUARD))
  ({ s with power := { s.power with
      trims := { s.power.trims with diff := (List.range 4).foldl up s.power.trims.diff } } }).bump K.CAL_STATUS_EMERGENCY 1

/-- STAGE_CAPTURE_ERROR: the unit reports an uncorrectable error in its state (R181); a block without grant-holding units is
block-reset (R386). -/
def execStageCaptureError (t : Time) (pd cls line : Nat) (u : Option UnitId) (s : State) : Out :=
  inRange "PD" pd 32 <| inRange "class" cls 8 <| inRange "line" line 64 <|
    inRange "unit" (unitNum u) (unitBound u) <| live t s (fun s =>
    if !selfTimed pd then s
    else
      let s := match u with
        | some u => if pd < 8 && (s.unit u.kind u.num).inService && clusterOf u.kind u.num = pd then
            s.leaveService u.kind u.num (retiredFault u.kind) true else s
        | none => if pd < 8 then s else { s with blockReset := s.blockReset ++ [({ pd := pd } : BlockReset)] }
      s.emergencyTrim pd cls line)

/-! ### Slow-domain copies (R79, R80) -/

/-- The slow-domain readings as they stand: telemetry, thermal readings, remote diodes and wake status. -/
def State.slowReadings (s : State) : Store W64 :=
  let q := s.power.pmbus
  let t16 := fun (x : Int) => w64 (ofSigned 16 x)
  let mv := (List.range 32).map (fun pd => (K.DOMAIN_MV + pd, w64 (s.shownMv pd)))
  let tj := (List.range 32).map (fun pd => (K.TJ + pd, t16 (s.tempOf pd)))
  let td := (List.range 4).map (fun n => (K.TDIODE_TEMP + n, t16 (s.diodeTemp n)))
  [(K.POWER_CONFIG_POWER_MW, w64 s.power.powerMw), (K.POWER_CONFIG_WAKE_CAUSE, w64 (s.ro K.POWER_CONFIG_WAKE_CAUSE))] ++ mv ++
    [(K.PMBUS_CONFIG_VIN_MV, w64 q.1), (K.PMBUS_CONFIG_IIN_MA, w64 q.2.1), (K.PMBUS_CONFIG_EXT_TEMP_C, t16 q.2.2.1),
      (K.PMBUS_CONFIG_STATUS_WORD, w64 q.2.2.2), (K.THERMAL_TJ_MAX, t16 s.hottest.2),
      (K.THERMAL_TJ_DOMAIN, w64 s.hottest.1), (K.THERMAL_TC, t16 s.controlTemp)] ++ tj ++ td

/-- SLOW_COPY_REFRESH: a 32.768 kHz edge refreshes every copy. -/
def execSlowCopyRefresh (t : Time) (s : State) : Out :=
  always t s (fun s =>
    if !s.sensing then s
    else
      let s := { s with slow := s.slowReadings, slowFrozen := false }
      ((s.bump K.SLOW_COPY_REFRESH_COUNT 1).setRo K.SLOW_COPY_LAST_REFRESH s.time).endFault F.AO_CLOCK_STOP 0)

/-- AO_CLOCK_STOP: no edge for 122 µs freezes the copies. -/
def execAoClockStop (t : Time) (s : State) : Out :=
  always t s (fun s =>
    if s.sensing && s.ro K.SLOW_COPY_LAST_REFRESH + 122000 ≤ s.time && !s.slowFrozen then
      State.raise { s with slowFrozen := true } F.AO_CLOCK_STOP {}
    else s)

end Sys2Proof.Machine
end

