-- ==== Sys2Proof/Machine/Boot.lean ====
section
/-! DEFINITION. Flash images and updates, microcode patches, and the life record (chapter 17, R421, R422). -/

namespace Sys2Proof.Machine

/-! ### Images (R389) -/

/-- Bytes of one copy of a region (Table 17-1). -/
def copySize (region : Nat) : Nat :=
  if region = 1 then 0x80000 else if region = 2 then 0x2000000 else 0x100000

/-- The device's stepping as STEPPING codes it. -/
def steppingCode : Nat := Config.stepping.1.toNat * 256 + Config.stepping.2.toNat

/-- IDCODE of the TAP (R415): the stepping digit, 0xE016, the manufacturer and 1. DESIGN CHOICE, log entry 200. -/
def idcode : W32 := BitVec.ofNat 4 (Config.stepping.2.toNat - 0x30) ++ (0xE016#16 ++ (Config.jtagId ++ 1#1))

/-- The number of the first check of R389 that a copy fails. DEDUCED, log entry 195. -/
def State.imageFault (s : State) (region : Nat) (i : Image) : Option Nat :=
  if !i.magicOk || i.region ≠ region then some 1
  else if copySize region - 512 < i.length then some 2
  else if !i.keyOk || 4 ≤ i.keyIndex || bit (s.v K.BOOT_STATUS_KEY_REVOKED) i.keyIndex then some 3
  else if !i.signatureOk then some 4
  else if !i.digestOk then some 5
  else if i.secVersion < s.v K.BOOT_STATUS_MIN_SEC_VERSION then some 6
  else if (i.stepping ≠ 0 && i.stepping ≠ steppingCode) ||
      (region == 5 && i.base ≠ (s.boot.pixelName, s.boot.entropyName)) then some 7
  else none

/-- A patch payload is well formed: at most 1,024 records, each in its store (R398). -/
def patchOk (i : Image) : Bool :=
  i.records.length ≤ 1024 && i.records.all (fun r => (r.1 == 0 && r.2 < 8192) || (r.1 == 1 && r.2 < 4096))

/-- UCODE_VERSION (Table 17-8). -/
def State.ucodeVersion (s : State) : List Byte :=
  let trim := fun (l : List Byte) => l.takeWhile (· ≠ 0)
  if s.boot.pixelName.isEmpty && s.boot.entropyName.isEmpty then []
  else trim s.boot.pixelName ++ [0x2F] ++ trim s.boot.entropyName ++
    (if s.boot.patchName.isEmpty then [] else [0x2B] ++ trim s.boot.patchName)

/-! ### Flash updates (R395, R396) -/

def State.flash (s : State) (r : Nat) : FlashRegion := Store.get s.boot.regions {} r
def State.setFlash (s : State) (r : Nat) (x : FlashRegion) : State :=
  { s with boot := { s.boot with regions := Store.put s.boot.regions r x } }

/-- BEGIN: any pending trial is cancelled, and the copy that is not selected is erased. -/
def State.flashBegin (s : State) (r : Nat) : Except Abort State :=
  let x := s.flash r
  if x.state = 1 || x.state = 2 || (r == 5 && s.boot.patchState == 1) then .error A.busy
  else .ok (s.setFlash r { selected := x.selected, state := 1 })

/-- FLASH_ERASE_COMPLETE. -/
def execFlashEraseComplete (t : Time) (region : Nat) (s : State) : Out :=
  inRange "region" region 6 <| live t s (fun s =>
    let x := s.flash region
    if x.state = 1 then s.setFlash region { x with state := 2 } else s)

/-- Bytes go into the inactive copy. -/
def FlashRegion.take (x : FlashRegion) (offset : Nat) (bs : List Byte) : FlashRegion :=
  { x with data := x.data.writeBytes offset bs, written := max x.written (offset + bs.length) }

/-- A DATA write. DEDUCED, log entry 193. -/
def State.flashData (s : State) (r offset : Nat) (bs : List Byte) : Except Abort State :=
  let x := s.flash r
  if copySize r < offset + bs.length then .error A.above
  else if x.state ≠ 2 || x.fetching.isSome then .error A.busy
  else .ok (s.setFlash r (x.take offset bs))

/-- FETCH: F000 only. It reads FETCH_LEN bytes, starting at offset WRITTEN. -/
def State.flashFetch (s : State) (who : Requester) (r : Nat) : Except Abort State :=
  let x := s.flash r
  let n := s.v K.FLASH_UPDATE_FETCH_LEN
  if who ≠ .func 0 then .error A.right
  else if copySize r < x.written + n then .error A.above
  else if x.state ≠ 2 || x.fetching.isSome then .error A.busy
  else .ok (s.setFlash r { x with fetching := some (x.written, n) })

/-- FLASH_FETCH_COMPLETE: a host read that fails sets ERROR. -/
def execFlashFetchComplete (t : Time) (region : Nat) (data : Option (List Byte)) (s : State) : Out :=
  inRange "region" region 6 <| live t s (fun s =>
    let x := s.flash region
    match x.fetching, data with
    | some (o, n), some bs =>
      if bs.length = n then s.setFlash region (({ x with fetching := none } : FlashRegion).take o bs) else s
    | some _, none => s.setFlash region { x with fetching := none, state := 4 }
    | none, _ => s)

/-- COMMIT: the copy is read back and compared; on a match it is the region's trial. -/
def State.flashCommit (s : State) (r : Nat) (same : Bool) : Option Abort × State :=
  let x := s.flash r
  if x.state ≠ 2 || x.fetching.isSome then (some A.busy, s)
  else if same then (none, s.setFlash r { x with state := 3, trial := true })
  else (some A.store, s.setFlash r { x with state := 4 })

/-- ABORT: STATE returns to IDLE; a partly written copy is never selected. -/
def State.flashAbort (s : State) (r : Nat) : State :=
  s.setFlash r { s.flash r with state := 0, fetching := none }

/-- CONFIRM makes the trial copy that runs the selected one. -/
def State.flashConfirm (s : State) (r : Nat) : Except Abort State :=
  let x := s.flash r
  if bit s.boot.trialRun (r - 1) then
    let s := s.setFlash r { x with selected := 1 - x.selected }
    .ok { s with boot := { s.boot with trialRun := setBit s.boot.trialRun (r - 1) false } }
  else .error A.state

/-! ### Patches (R398, R399) -/

/-- A patch is rejected: STATE, REJECT_CAUSE and UCODE_PATCH_REJECTED. The stores are left unchanged. -/
def State.patchReject (s : State) (cause : Nat) : State :=
  State.raise { s with boot := { s.boot with patchState := 3, rejectCause := cause, patch := none } }
    F.UCODE_PATCH_REJECTED { detail := [cause] }

/-- The last cluster has been written: UCODE_VERSION changes and STATE becomes APPLIED. OPEN commands that waited take
effect. -/
def State.patchDone (s : State) (name : List Byte) : State :=
  let held := s.boot.heldOpens
  let s := { s with boot := { s.boot with
      patch := none, patchState := 2, patchName := name, heldOpens := [] } }
  s.each held (fun s ch => (s.chOpen ch).2)

/-- Patched words of the control stores once clusters have taken further records. -/
def Boot.withPatch (b : Boot) (cls : List Nat) (recs : List (Nat × Nat)) : Store (List (Nat × Nat)) :=
  cls.foldl (fun m c => Store.put m c (Store.get m [] c ++ recs)) b.patched

/-- A patch without SAME_OUTPUT is applied to every cluster at once while no channel is OPEN or DRAINING. -/
def State.patchAll (s : State) : State :=
  match s.boot.patch with
  | some (false, name, recs) =>
    if s.chans.any (fun e => e.2.working) then s
    else State.patchDone { s with boot := { s.boot with
        patched := s.boot.withPatch (List.range 8) recs, clustersDone := 0xFF } } name
  | _ => s

/-- APPLY: the region-5 copy that the next boot would load is read and checked. DEDUCED, log entry 194. -/
def State.patchApply (s : State) (i : Image) : Except Abort State :=
  let x := s.flash 5
  if s.boot.patchState = 1 || x.state = 1 || x.state = 2 then .error A.busy
  else match s.imageFault 5 i with
    | some k => .ok ((s.raise F.IMAGE_AUTH_FAIL { detail := [k] }).patchReject k)
    | none =>
      if patchOk i then
        .ok (State.patchAll { s with boot := { s.boot with
          patchState := 1, clustersDone := 0, patch := some (i.sameOutput, i.name, i.records) } })
      else .ok (s.patchReject 8)

/-- The cluster holds no grant. -/
def State.clusterIdle (s : State) (c : Nat) : Bool :=
  [UnitKind.px, .ee, .ms, .df].all (fun k => s.busyOf k c = 0)

/-- PATCH_CLUSTER_WRITE: the records of a SAME_OUTPUT patch are written to the withheld cluster, which then takes grants
again; a patch that waits for every channel to close is written at once. -/
def execPatchClusterWrite (t : Time) (cluster : Nat) (s : State) : Out :=
  inRange "CL" cluster 8 <| live t s (fun s => match s.boot.patch with
    | some (true, name, recs) =>
      if s.withheld ≠ some cluster || !s.clusterIdle cluster then s
      else
        let s := { s with boot := { s.boot with
            patched := s.boot.withPatch [cluster] recs, clustersDone := setBit s.boot.clustersDone cluster true } }
        (if cluster = 7 then s.patchDone name else s).serveEngines
    | some (false, _, _) => s.patchAll
    | none => s)

/-! ### The life record (R421, R422) -/

/-- LIFE_USED_PPM: weighted hours in millionths of 350,640. -/
def Power.lifePpm (p : Power) : Nat := min (2 ^ 32 - 1) (p.lifeUsed * 1000000 / (350640 * 65536))

/-- TJ_AVG. -/
def Power.tjAvg (p : Power) : Int := if p.lifeHours = 0 then 0 else p.lifeTj / p.lifeHours

/-- LIFE_HOUR_UPDATE: the end of a powered hour, with its mean TJ_MAX in 1/8 °C. -/
def execLifeHourUpdate (t : Time) (meanTj : Int) (s : State) : Out :=
  always t s (fun s =>
    if !s.sensing then s
    else
      let p := s.power
      { s with power := { p with
          lifeHours := p.lifeHours + 1, lifeTj := p.lifeTj + meanTj
          lifeHot := p.lifeHot + (if 840 < meanTj then 1 else 0)
          lifeBoost := p.lifeBoost + (if p.boosted then 1 else 0)
          lifeUsed := p.lifeUsed + Config.lifeWeight meanTj * (if p.boosted then 2 else 1)
          boosted := (List.range 30).any (fun pd => 750 < s.domainMv pd) } })

end Sys2Proof.Machine
end

