-- ==== Sys2Proof/Machine/Nvm.lean ====
section
/-! DEFINITION. The records of the non-volatile memory: slots, wear, and the values a boot reads from them (R54 to R60). -/

namespace Sys2Proof.Machine

def State.nvmRecord (s : State) (key : Nat) : NvmRecord := Store.get s.nvm.records {} key

/-- The 32 bytes of a slot (Table 2-16): CHECK is the CRC-32C of the others. -/
def slotBytes32 (key seq len value : Nat) : List Byte :=
  let ty := match entryOfKey key with
    | some e => e.ty.code
    | none => 0
  let body := leBytes 2 (key / 256) ++ leBytes 1 key ++ leBytes 1 ty ++ leBytes 4 seq ++ leBytes 16 value ++
    leBytes 2 len ++ leBytes 2 0
  body ++ leBytes 4 (crc32c body).toNat

/-- SEQ, LENGTH and VALUE of a slot that is valid for an entry: CHECK matches, and INDEX and SUB name the entry (R55). -/
def Slot.valid (key : Nat) : Slot → Option (Nat × Nat × W64)
  | .broken => none
  | .bytes b =>
    if b.length = 32 ∧ leNat (b.drop 28) = (crc32c (b.take 28)).toNat ∧ leNat (b.take 2) = key / 256 ∧
        leNat ((b.drop 2).take 1) = key % 256 then
      some (leNat ((b.drop 4).take 4), leNat ((b.drop 24).take 2), w64 (leNat ((b.drop 8).take 16)))
    else none

/-- The valid slot of an entry with the highest SEQ: SEQ, LENGTH and VALUE (R55). -/
def NvmRecord.newest (r : NvmRecord) (key : Nat) : Option (Nat × Nat × W64) :=
  r.slots.foldl (fun best e => match e.2.valid key, best with
    | some x, some b => if b.1 < x.1 then some x else best
    | some x, none => some x
    | none, _ => best) none

/-- Bytes of VALUE that an entry uses. -/
def valueLength (key : Nat) : Nat := ((entryOfKey key).bind (fun e => e.ty.size)).getD 8

/-- One slot write is consumed, whatever it leaves in slot WEAR mod 8 (R56, R57). DEDUCED, log entry 198. -/
def State.slotWrite (s : State) (j : NvmJob) (content : Slot) : State :=
  let r := s.nvmRecord j.key
  { s with nvm := { s.nvm with
      current := none, slotWrites := s.nvm.slotWrites + 1
      records := Store.put s.nvm.records j.key
        { slots := Store.put r.slots (r.wear % 8) content, wear := r.wear + 1 } } }

/-- The slot that a job programs: sequence number WEAR + 1 (R56). -/
def State.nvmSlotOf (s : State) (j : NvmJob) : Slot :=
  .bytes (slotBytes32 j.key ((s.nvmRecord j.key).wear + 1) (if j.restored then 0xFFFF else valueLength j.key) j.value.toNat)

/-- A slot write in progress completes at a reset that waits for it (R405), or is interrupted (R58, R406). DEDUCED, log entry 35. -/
def State.slotSettle (s : State) (completes : Bool) : State :=
  match s.nvm.current with
  | some (j, _) => s.slotWrite j (if completes then s.nvmSlotOf j else .broken)
  | none => s

/-- One record read at boot (R55). The slot after the newest valid one, where neither blank nor valid, holds an interrupted
write and is ignored (R58). DEDUCED, log entry 37. -/
def State.loadRecord (s : State) (key : Nat) (r : NvmRecord) : State :=
  let (seq, s) := match r.newest key with
    | some (q, l, v) => (q, if l = 0xFFFF then s else s.setImm key v.toNat)
    | none => (0, s)
  match Store.find? r.slots (seq % 8) with
  | some x => if (x.valid key).isSome then s else s.bumpSat K.NVM_STATUS_FAILED_SLOTS 1
  | none => s

/-- Every record read at boot. -/
def State.loadNvm (s : State) : State := s.each s.nvm.records (fun s e => s.loadRecord e.1 e.2)

end Sys2Proof.Machine
end

