-- ==== Sys2Proof/Machine/Reset.lean ====
section
/-! DEFINITION. Resets, the boot sequence of Table 17-3, the host link, and the exits from the ladder states (chapters 16, 17
and 18). -/

namespace Sys2Proof.Machine

/-! ### What a reset leaves (R36, R250, R362, R387, R394, R405) -/

/-- The state just after any reset: every value at its default and every unit idle. The NVM, the boot area, the trim banks,
the life record, the sensors, the pins and the magazines keep what they hold; the Moraine is kept by a warm reset only. DEDUCED, log entry 10. -/
def State.wipe (s : State) (warm : Bool) (cause : Nat) : State :=
  let z : State := {}
  { z with
    pending := s.pending, free := s.free, out := s.out
    nvm := { s.nvm with current := none, waiting := [] }
    mags := Store.map s.mags (fun _ g => { content := g.content })
    moraine := if warm then { s.moraine with dumping := false } else {}
    host := { z.host with perstLow := s.host.perstLow }
    power := { z.power with
      temps := s.power.temps, banks := s.power.banks, stores := s.power.stores, lastStore := s.power.lastStore
      lifeHours := s.power.lifeHours, lifeTj := s.power.lifeTj, lifeHot := s.power.lifeHot
      lifeBoost := s.power.lifeBoost, lifeUsed := s.power.lifeUsed, boosted := s.power.boosted }
    boot := { z.boot with
      cause := cause, bootCount := s.boot.bootCount, afterShutdown := s.boot.afterShutdown
      regions := Store.map s.boot.regions (fun _ x => { selected := x.selected, trial := x.trial }) }
    recIn := { z.recIn with pinA := s.recIn.pinA, pinB := s.recIn.pinB }
    pins := { s.pins with xspiHighZ := true, wakeN := false, ppsHigh := 0 } }

/-! ### Quad roles (R20, R21, Table 1-9) -/

/-- A role code on a quad that Table 1-8 allows it. -/
def roleAllowed (q code : Nat) : Bool :=
  match code with
  | 0x00 | 0x30 | 0x40 => true
  | 0x01 | 0x02 | 0x03 => q == 0
  | 0x04 => 1 ≤ q && q ≤ 3
  | 0x10 => 2 ≤ q && q ≤ 5
  | c => 0x20 ≤ c && c ≤ 0x25 && 1 ≤ q && q ≤ 5

/-- Quads that Q0's host code covers. -/
def hostCovers (code : Nat) : List Nat := if code = 0x02 then [1] else if code = 0x03 then [1, 2, 3] else []

/-- The group of codes that Table 1-9 limits, and the limit. -/
def roleLimit (code : Nat) : Option (List Nat × Nat) :=
  if code = 0x10 then some ([0x10], 2)
  else if 0x20 ≤ code ∧ code ≤ 0x25 then some ([0x20, 0x21, 0x22, 0x23, 0x24, 0x25], 2)
  else if code = 0x30 then some ([0x30], 4)
  else if code = 0x40 then some ([0x40], 2) else none

/-- A quad breaks Table 1-9 in a set of roles: a covered quad that lacks HOST_EXT, and a quad past a count's limit, are the
ones that break it. -/
def roleBad (roles : Nat → Nat) (q : Nat) : Bool :=
  let covered := (hostCovers (roles 0)).contains q
  !roleAllowed q (roles q) || (covered && roles q ≠ 0x04) || (roles q = 0x04 && !covered) ||
    match roleLimit (roles q) with
    | some (l, n) => n ≤ ((List.range q).filter (fun p => l.contains (roles p))).length
    | none => false

/-- The stored set is applied, or the fallback set where it breaks Table 1-9. The stored values are left as they are. -/
def State.applyRoles (s : State) : State :=
  let key := fun q => K.QUAD_ROLE_QUAD_ROLE + q
  match (List.range 6).find? (roleBad (fun q => s.pv (key q))) with
  | none => s
  | some q =>
    let s := s.each (List.range 6) (fun s p => s.setV (key p) (if p = 0 then 0x01 else 0x00))
    ((s.setRo K.QUAD_ROLE_STATUS_ROLE_CHECK 1).setRo K.QUAD_ROLE_STATUS_FIRST_BAD_QUAD q).raise F.QUAD_ROLE_INVALID
      { detail := [q] }

/-! ### Images at boot (R389, R392, R396) -/

/-- A copy's check at boot: IMAGE_AUTH_FAIL names the check that fails. A copy that holds no image fails the first. -/
def State.checkCopy (s : State) (b : BootFacts) (r copy : Nat) : Option Image × State :=
  let img := (b.copies.find? (·.1 == r * 2 + copy)).map Prod.snd
  match img with
  | none => (none, s.raise F.IMAGE_AUTH_FAIL { detail := [1] })
  | some i => match s.imageFault r i with
    | none => (some i, s)
    | some k => (none, s.raise F.IMAGE_AUTH_FAIL { detail := [k] })

/-- The image a region runs: the trial copy once, or the selected copy, or the other one as a fallback. DEDUCED, log entry 41. -/
def State.loadRegion (s : State) (b : BootFacts) (r : Nat) : Option Image × State :=
  let x := s.flash r
  let s := s.setFlash r { x with trial := false }
  let run := fun (s : State) (copy : Nat) => { s with boot := { s.boot with copyB := setBit s.boot.copyB (r - 1) (copy = 1) } }
  let (t, s) := if x.trial then s.checkCopy b r (1 - x.selected) else (none, s)
  match t with
  | some i =>
    let s := run s (1 - x.selected)
    (some i, { s with boot := { s.boot with trialRun := setBit s.boot.trialRun (r - 1) true } })
  | none =>
    match s.checkCopy b r x.selected with
    | (some i, s) => (some i, run s x.selected)
    | (none, s) =>
      if x.trial then (none, s)
      else match s.checkCopy b r (1 - x.selected) with
        | (some i, s) => (some i, (run s (1 - x.selected)).raise F.BOOT_REGION_FALLBACK { inst := r, detail := [r] })
        | (none, s) => (none, s)

/-- The check of R389 that a copy fails at boot; 1 for a copy that holds no image. -/
def State.copyFault (s : State) (b : BootFacts) (r copy : Nat) : Nat :=
  match b.copies.find? (·.1 == r * 2 + copy) with
  | some e => (s.imageFault r e.2).getD 0
  | none => 1

/-- Step 9: the base microcode of both stores, and a patch if one is selected. A region 5 without any image selects none. A
patch loaded at boot reads as APPLIED in every cluster, and a rejected one as REJECTED. DEDUCED, log entry 41. -/
def State.loadUcode (s : State) (b : BootFacts) : State :=
  let (px, s) := s.loadRegion b 3
  let (ee, s) := s.loadRegion b 4
  match px, ee with
  | some i, some j =>
    let s := { s with boot := { s.boot with pixelName := i.name, entropyName := j.name } }
    let trial := (s.flash 5).trial
    if b.copies.any (fun e => e.1 / 2 = 5) then
      match s.loadRegion b 5 with
      | (some p, s) =>
        if patchOk p then
          { s with boot := { s.boot with
              patchName := p.name, patched := s.boot.withPatch (List.range 8) p.records, clustersDone := 0xFF
              patchState := 2 } }
        else s.patchReject 8
      | (none, s) =>
        let x := s.flash 5
        s.patchReject (s.copyFault b 5 (if trial then x.selected else 1 - x.selected))
    else s
  | _, _ => { s with boot := { s.boot with state := .degraded } }

/-! ### DRAM at boot (R324, R327, R329, R231) -/

/-- Training and initialisation: the interleave group, the capacity, the regions and the pool. None where no pair trains. DEDUCED, log entry 47. -/
def State.dramUp (s : State) (b : BootFacts) : Option State :=
  let want := s.v K.DRAM_CONFIG_DC_ENABLE
  match dramGroup want b.trained with
  | none => none
  | some g =>
    let gib := channelGib (s.v K.DRAM_CONFIG_RANKS) (s.v K.DRAM_CONFIG_DEVICE_WIDTH) (s.v K.DRAM_CONFIG_DENSITY_GBIT)
    let mib := popCount 8 g * min 32 gib * 1024
    let s := ((s.setRo K.DRAM_STATUS_TRAINED (b.trained % 256)).setRo K.DRAM_STATUS_IN_USE g).setRo
      K.DRAM_STATUS_CAPACITY_MIB mib
    let s := s.setRo K.DRAM_STATUS_INIT_MS b.initMs
    let s := if g = want then s else s.raise F.DRAM_TRAIN_FAIL { detail := [want - (want &&& b.trained)] }
    let s := if 32 < gib then s.raise F.DRAM_CAPACITY_CLIPPED { detail := [gib] } else s
    let (regions, reduced) := placeRegions mib (s.v K.DRAM_CONFIG_WORK_MIB) (s.v K.REF_CONFIG_REGION_MIB)
      (s.v K.CODING_CONFIG_SPILL_MIB) (bufSizeOf (s.v K.POOL_CONFIG_BUF_SIZE)) (s.v K.POOL_CONFIG_BUF_COUNT)
    let s := if reduced then s.raise F.DRAM_REGIONS_REDUCED {} else s
    let due := ((List.range 8).filter (bit g)).map (fun c => (c, s.time + s.v K.DRAM_CONFIG_RETRAIN_MS * 1000000))
    some (State.createPool { s with dram := { regions := regions, due := due } } ((regions.getD 1 (0, 0)).2))

/-! ### The boot sequence (Table 17-3) -/

/-- BOOT_FAILED: ERR_OUT_N held asserted, xSPI pins high impedance (R393). -/
def State.bootFailed (s : State) : State :=
  State.driveErr { s with boot := { s.boot with state := .failed }, pins := { s.pins with xspiHighZ := true } }

/-- Units that fail the boot self-test are retired (R13). -/
def State.bootUnits (s : State) (b : BootFacts) : State :=
  s.each (b.failedUnits.filter (fun u => u.num < u.kind.total)) (fun s u =>
    s.leaveService u.kind u.num (retiredFault u.kind) true)

/-- Trims loaded at boot (R387). -/
def State.loadTrims (s : State) (b : BootFacts) : State :=
  match s.newestBank with
  | some x =>
    State.setRo { s with power := { s.power with trims := x.2.2 } } K.CAL_STATUS_TRIM_SOURCE ((x.1 - 1) % 2)
  | none =>
    State.setRo { s with power := { s.power with trims := { factory := b.factoryTrimsOk } } } K.CAL_STATUS_TRIM_SOURCE
      (if b.factoryTrimsOk then 2 else 3)

/-- The CAN nodes start: CAN1 stays off where both are enabled under one node-ID (R49). -/
def State.startCan (s : State) : State :=
  let en := s.v K.CAN_CONFIG_CAN_ENABLE
  let clash : Bool := bit en 0 && bit en 1 && s.v K.CAN_CONFIG_CAN0_NODE_ID == s.v K.CAN_CONFIG_CAN1_NODE_ID
  let s := s.each [0, 1] (fun s k =>
    if bit en k && !(clash && k == 1) then (s.setCan k { on := true, lastHb := s.time }).emit (.canBootUp k) else s)
  if clash then s.raise F.CAN_ID_CONFLICT {} else s

/-- Formation begins after reset with ARRAY_EN set, or fails where MEMBERS lacks the own DEV or every member is a standby
(R284). -/
def State.startArray (s : State) : State :=
  if s.v K.ARRAY_CONFIG_ARRAY_EN = 0 then s
  else
    let m := s.v K.ARRAY_CONFIG_MEMBERS
    let allStandby := (List.range 8).all (fun d => !bit m d || bit (s.v K.ARRAY_CONFIG_STANDBY) d)
    if !bit m s.dev || allStandby then s.formFailed
    else { s with array := { s.array with state := 1 } }

/-- Step 10. HOST_LINK_DOWN is active while PERST_N is low (R408). DEDUCED, log entry 196. -/
def State.bootReady (s : State) (b : BootFacts) : State :=
  let s := { s with boot := { s.boot with
      state := if s.boot.state = BootState.degraded then BootState.degraded else BootState.ready, readyMs := b.readyMs, afterShutdown := false
      held := none, coolSince := none } }
  let s := if s.hostRole && s.host.perstLow then s.raise F.HOST_LINK_DOWN {} else s
  s.startCan.startArray.driveErr.flushNotices

/-- Steps 3 to 10. -/
def State.bootRest (s : State) (b : BootFacts) : State :=
  let s := { s with pins := { s.pins with xspiHighZ := false }, boot := { s.boot with held := none } }
  match s.loadRegion b 1 with
  | (none, s) => s.bootFailed
  | (some _, s) => match s.dramUp b with
    | none => s.bootFailed
    | some s => match s.loadRegion b 2 with
      | (none, s) => s.bootFailed
      | (some fw, s) =>
        let name := (fw.name.reverse.dropWhile (· = 0)).reverse
        let s := { s with boot := { s.boot with swVersion := name } }
        (((s.loadUcode b).bootUnits b).loadTrims b).bootReady b

/-- Steps 1 and 2, and the hold of R381 after a thermal shutdown. BOOT_COUNT rises, up to 800,000 (R394). -/
def State.boot1 (s : State) (b : BootFacts) : State :=
  let s := { s with
    pins := { s.pins with straps := b.straps, resetLow := false }
    boot := { s.boot with cause := if s.boot.afterShutdown then 5 else s.boot.cause } }
  let s := s.loadNvm.applyRoles.startRegulator
  let n := s.boot.bootCount
  let s := { s with boot := { s.boot with bootCount := if n < 800000 then n + 1 else n } }
  let s := if n + 1 = 800000 then s.raise F.NVM_WEAR {} else s
  if s.boot.afterShutdown then { s with boot := { s.boot with held := some b } } else s.bootRest b

/-! ### Resets (R36, R356, R362, R405, R406) -/

/-- A warm reset. Where SH3 has not written the Moraine of a device-fatal fault, the boot ROM writes it first. -/
def State.warmReset (s : State) (cause : Nat) (b : BootFacts) : State :=
  let s := s.slotSettle true
  let s := if s.faults.device = .fatalDumping then s.romDump else s
  (s.wipe true cause).boot1 b

/-- RESET_N_ASSERT: the pin is low for `lowNs`, or for longer. A pulse below 100 ns is ignored; from 100 ns to 1 µs it may or
may not reset the device; then a full reset, after a slot write in progress. -/
def execResetNAssert (t : Time) (lowNs : Nat) (s : State) : Out :=
  always t s (fun s =>
    if s.pins.resetLow || lowNs < 100 then s
    else if lowNs < 1000 && !Config.shortPulse s.free then s.draws
    else
      let s := if lowNs < 1000 then s.draws else s
      let s := (s.slotSettle true).wipe false 2
      { s with pins := { s.pins with resetLow := true, mainEn := true } })

/-- RESET_N_RELEASE: the device boots once its switched rails are on and no supply condition lasts. DEDUCED, log entry 39. -/
def execResetNRelease (t : Time) (b : BootFacts) (s : State) : Out :=
  always t s (fun s =>
    if !s.pins.resetLow || !s.pins.mainEn then s
    else
      let s := { s with pins := { s.pins with resetLow := false } }
      if s.pins.supplyBad || s.pins.tcxoLost then s else s.boot1 b)

/-- FATAL_WARM_RESET: STATE 2 not reached within 100 ms. Steps 5 and 6 of Table 15-6 do not occur in a thermal shutdown, which
ends in Table 16-6 step 5 instead. DEDUCED, log entry 44. -/
def execFatalWarmReset (t : Time) (b : BootFacts) (s : State) : Out :=
  always t s (fun s =>
    if s.faults.device ≠ .fatalDumping || s.time < s.faults.fatalAt + 100000000 || s.power.off then s
    else if s.power.shutdown then (s.slotSettle false).powerOff
    else s.warmReset 3 b)

/-- MORAINE_DUMP_COMPLETE. In a thermal shutdown Table 16-6 step 5 follows, after a slot write in progress. -/
def execMoraineDumpComplete (t : Time) (s : State) : Out :=
  live t s (fun s =>
    s.dumpComplete.stopGo)

/-- Rails of Table 18-3 that must be on in a state: all from L0 to L3; in L4 and L5 VAON and VDD_IO18, and VCORE_IN with
EXT_MODE 0. Rails are numbered in the table's order, VCORE_IN first. -/
def State.railNeeded (s : State) (rail : Nat) : Bool :=
  s.power.ladder ≤ 3 || rail = 1 || rail = 2 || (rail = 0 && s.v K.PMBUS_CONFIG_EXT_MODE = 0)

/-- What acts as RESET_N held low: an interrupted slot write is left broken (R58), RESET_CAUSE will read 1, and MAIN_EN is
driven as after any reset (R407). -/
def State.supplyReset (s : State) : State :=
  let s := (s.slotSettle false).wipe false 1
  { s with pins := { s.pins with mainEn := true } }

/-- SUPPLY_FAULT. -/
def execSupplyFault (t : Time) (rail : Nat) (s : State) : Out :=
  inRange "rail" rail 7 <| always t s (fun s =>
    if s.pins.resetLow || !s.railNeeded rail then s
    else
      let s := s.supplyReset
      { s with pins := { s.pins with supplyBad := true } })

/-- TCXO_LOSS. In L5 the time base is stopped and needs no edge. DEDUCED, log entry 40. -/
def execTcxoLoss (t : Time) (s : State) : Out :=
  always t s (fun s =>
    if s.pins.resetLow || s.power.ladder = 5 then s
    else
      let s := s.supplyReset
      { s with pins := { s.pins with tcxoLost := true } })

/-- SUPPLY_RESTORE: the condition ends, and the device boots unless RESET_N holds it. -/
def execSupplyRestore (t : Time) (b : BootFacts) (s : State) : Out :=
  always t s (fun s =>
    if !s.pins.supplyBad && !s.pins.tcxoLost then s
    else
      let s := { s with pins := { s.pins with supplyBad := false, tcxoLost := false, mainEn := true } }
      if s.pins.resetLow then s else s.boot1 b)

/-- POWER_UP: MAIN_EN is driven high. -/
def execPowerUp (t : Time) (s : State) : Out :=
  always t s (fun s => if s.pins.resetLow then { s with pins := { s.pins with mainEn := true } } else s)

/-- TEMP_SENSOR_CONVERSION: the sensors act on their thresholds, and on a boot that R381 holds until TC has stayed at or below
SHUTDOWN_C − 15 °C for 1 s. DEDUCED, log entry 48. -/
def execTempSensorConversion (t : Time) (pd : Nat) (reading : Int) (s : State) : Out :=
  inRange "PD" pd 32 <| always t s (fun s =>
    if !s.sensing then s
    else
      let s := s.sensorReading pd reading
      match s.boot.held with
      | none => s.thermal
      | some b =>
        if s.controlTemp ≤ 8 * ((s.v K.THERMAL_SHUTDOWN_C : Int) - 15) then
          let since := s.boot.coolSince.getD s.time
          let s := { s with boot := { s.boot with coolSince := some since } }
          if since + 1000000000 ≤ s.time then s.bootRest b else s
        else { s with boot := { s.boot with coolSince := none } })

/-! ### The host link (R408, R410) -/

/-- The link is down: LINK_GEN and LINK_WIDTH read 0. -/
def State.linkDown (s : State) : State :=
  State.raise { s with host := { s.host with linkUp := false, gen := 0, width := 0 } } F.HOST_LINK_DOWN {}

/-- PERST_ASSERT: a fundamental reset clears VF Enable as well, so the virtual functions cease to exist. DEDUCED, log entry 42. -/
def execPerstAssert (t : Time) (s : State) : Out :=
  always t s (fun s =>
    let s := { s with host := { s.host with perstLow := true } }
    if !s.up || !s.hostRole then s
    else
      let s := s.awake.linkDown.flrAll.countFlr 1
      let vfs := s.funcs.filter (· ≠ 0)
      let s := { s with host := { s.host with vfEnable := false, numVfs := 0 } }
      s.each vfs State.endVf)

/-- PERST_RELEASE: the link trains again. -/
def execPerstRelease (t : Time) (s : State) : Out :=
  always t s (fun s => { s with host := { s.host with perstLow := false } })

/-- HOST_LINK_UP. -/
def execHostLinkUp (t : Time) (gen width : Nat) (s : State) : Out :=
  live t s (fun s =>
    if s.host.perstLow || !s.hostRole then s
    else State.endFault { s with
      host := { s.host with linkUp := true, gen := gen, width := width }
      pins := { s.pins with wakeN := false } } F.HOST_LINK_DOWN 0)

/-- HOST_LINK_DOWN. -/
def execHostLinkDown (t : Time) (s : State) : Out :=
  live t s (fun s => if s.host.linkUp then s.linkDown else s)

/-! ### Waking (R372, R375, R376) -/

/-- WAKE_MASK bit of a source. -/
def wakeBit : WakeSource → Nat
  | .can0 => 0 | .can1 => 1 | .recInput => 2 | .host => 3 | .timer => 4 | .mgmtEth => 5

/-- Table 16-4 lists the source for a ladder state. DEDUCED, log entry 45. -/
def wakeListed (n : Nat) (w : WakeSource) : Bool :=
  match n, w with
  | 2, _ => true
  | 3, .mgmtEth => false
  | 3, _ => true
  | 4, .host | 5, .host | 4, .mgmtEth | 5, .mgmtEth => false
  | 4, _ => true
  | 5, _ => true
  | _, _ => false

/-- Exit from L4 or L5: the switched rails and the regulator come back, DRAM is trained and initialised as at reset, and the
units are tested. DEDUCED, log entry 46. -/
def State.coreBack (s : State) (b : BootFacts) : State :=
  let s := s.suppliesOn
  match s.dramUp b with
  | some s => s.bootUnits b
  | none => s.bootFailed

/-- Return to L0 from the deepest state reached. From L2 and L3 every channel's first retrain falls due at once. From L5
TIME_NOW resumes from the always-on count, and the time base is in FREERUN (R257). -/
def State.wake (s : State) (w : WakeSource) (ao : Time) (b : BootFacts) : State :=
  let n := s.power.ladder
  let s := State.setRo { s with power := { s.power with ladder := 0, entering := none } } K.POWER_CONFIG_WAKE_CAUSE
    (2 ^ wakeBit w)
  if n = 2 ∨ n = 3 then
    { s with
      dram := { s.dram with due := Store.map s.dram.due (fun _ _ => s.time) }
      pins := { s.pins with wakeN := w == .host } }
  else if n = 4 then s.coreBack b
  else if n = 5 then
    let s := { s with time := ao, tb := { s.tb with state := .freerun } }
    s.coreBack b
  else s

/-- A wake source acts where its WAKE_MASK bit is set and Table 16-4 lists it for the state held or being entered. -/
def State.mayWake (s : State) (w : WakeSource) : Bool :=
  bit (s.v K.POWER_CONFIG_WAKE_MASK) (wakeBit w) && wakeListed (s.power.entering.getD s.power.ladder) w

/-- The timer has expired: WAKE_AT from L2 to L4, WAKE_AFTER_S in L5. -/
def State.timerDue (s : State) : Bool :=
  if s.power.ladder = 5 then s.v K.POWER_CONFIG_WAKE_AFTER_S ≠ 0
  else
    let at_ := s.v K.POWER_CONFIG_WAKE_AT
    at_ ≠ 0 && at_ ≠ 2 ^ 64 - 1 && at_ ≤ s.time

/-- LADDER_WAKE. -/
def execLadderWake (t : Time) (w : WakeSource) (aoSeconds : Time) (b : BootFacts) (s : State) : Out :=
  always t s (fun s =>
    if s.sensing && s.mayWake w && (w ≠ .timer || s.timerDue) then s.wake w aoSeconds b else s)

/-- WAKE_TIMER. -/
def execWakeTimer (t : Time) (aoSeconds : Time) (b : BootFacts) (s : State) : Out :=
  always t s (fun s => if s.sensing && s.mayWake .timer && s.timerDue then s.wake .timer aoSeconds b else s)

end Sys2Proof.Machine
end

