-- ==== Sys2Proof/Machine/Reading.lean ====
section
/-! DEFINITION. Reading the dictionary: rights, selectors, the values formed when they are read, and the whole read of an entry
in the order of Table 2-14 (chapters 2 and 3, and the RO entries of every chapter). -/

namespace Sys2Proof.Machine

/-! ### Rights (R37, R85, R90) -/

/-- What a virtual function reaches: Table 2-2 and HOST_FUNC read-only, the objects of its channels, and its own FUNC_SELF,
FENCE, LAST_ACCESS_ERROR, APPLIED_VIEW and BAR2_SELECT. -/
def State.vfReaches (s : State) (f idx : Nat) (write : Bool) : Bool :=
  if isChanIdx idx then (s.chan (chanOf idx)).owner == f
  else if (0x1000 ≤ idx && idx ≤ 0x1FFF) || idx = 0x2F00 then !write
  else [0x2F02, 0x2F10, 0x2053, 0x2054, 0x2057].contains idx

/-- The requester has the right to an entry. BAR2_SELECT is reached only through BAR0, and GRANT only by F000. -/
def State.mayReach (s : State) (r : Requester) (idx sub : Nat) (write : Bool) : Bool :=
  match r with
  | .func f => f = 0 || s.vfReaches f idx write
  | .can _ | .udp _ _ => idx ≠ 0x2057 && keyOf idx sub ≠ K.RING_GRANT_GRANT
  | .shawm => true

/-! ### Selectors kept per requester (R61) -/

/-- A requester's selector. -/
def State.sel (s : State) (r : Requester) (key : Nat) : Nat :=
  match Store.find? (s.req r).sel key with
  | some v => v.toNat
  | none => s.dflt key

def State.setSel (s : State) (r : Requester) (key v : Nat) : State :=
  s.modReq r (fun q => { q with sel := Store.put q.sel key (w64 v) })

/-- The key under which an entry's value stands: the entries behind EQ_SELECT and METER_SELECT have one for each queue and
meter. -/
def State.regKey (s : State) (r : Requester) (key : Nat) : Nat :=
  if key / 256 = 0x2A41 then winKey (s.sel r K.EQ_SELECT_TARGET) key
  else if key / 256 = 0x2A81 then winKey (s.sel r K.METER_SELECT_TARGET) key
  else key

/-! ### Values formed on read -/

/-- CL_UNITS of a cluster (Table 1-5). -/
def State.clUnits (s : State) (c : Nat) : Nat :=
  let ok := fun (k : UnitKind) => bitsOf ((List.range k.perCluster).map (fun i => (s.unit k (c * k.perCluster + i)).inService))
  ok .px + ok .ee * 2 ^ 16 + ok .ms * 2 ^ 24 + ok .df * 2 ^ 26

/-- Channels that a function owns: F000 owns every channel not given away. -/
def State.channelsHeld (s : State) (f : Nat) : Nat :=
  let others := (s.chans.filter (fun e => e.2.owner ≠ 0)).length
  if f = 0 then 256 - others else (s.chansOf f).length

/-- Buffer headroom of R98 with its sign. -/
def State.headroomNow (s : State) : Int :=
  (s.pool.free : Int) -
    (((s.chans.filter (fun e => e.2.working)).map (fun e => e.2.bufNeed - s.buffersHeld e.1)).sum : Nat)

/-- Codes of channel and time-base states, of DEVICE_STATE and of BOOT_STATE. -/
def ChState.code : ChState → Nat
  | .closed => 0 | .open_ => 1 | .draining => 2 | .faulted => 3
def TbState.code : TbState → Nat
  | .freerun => 0 | .acquiring => 1 | .locked => 2 | .holdover => 3
def DeviceState.code : DeviceState → Nat
  | .normal => 0 | .fatalDumping => 1 | .fatal => 2
def BootState.code : BootState → Nat
  | .booting => 0 | .ready => 1 | .degraded => 2 | .failed => 3

/-- The function with whose eyes a requester sees FUNC_SELF: CAN FD and OD/UDP act with the rights of F000. -/
def asFunc (r : Requester) : Nat :=
  match r with
  | .func f => f
  | _ => 0

/-- A number of entries with a wear of at least `n`. -/
def State.wornAt (s : State) (n : Nat) : Nat := (List.filter (fun e => decide (n ≤ e.2.wear)) s.nvm.records).length

/-- Requests that one element of a queue stands for: each item of a packet is one (R50). -/
def Request.count : Request → Nat
  | .udp _ _ _ _ items => (items.filter (fun i => i.answer.isNone)).length
  | _ => 1

/-- DEPTH of a queue. -/
def State.queueDepth (s : State) (q : Nat) : Nat :=
  ((Store.get s.access.queues {} q).items.map Request.count).sum

/-- WEAR of the entry named by TARGET. -/
def State.wearOf (s : State) (target : Nat) : Nat :=
  match lookup (target / 256 % 65536) (target % 256) with
  | .ok e => if e.acc = .rwp then (s.nvmRecord (target % 2 ^ 24)).wear else 2 ^ 32 - 1
  | .error _ => 2 ^ 32 - 1

/-- NEXT_PIC: the next picture in coding order, or the count that the next launch takes (Table 4-17). -/
def Chan.nextPic (c : Chan) : Nat :=
  match c.nextCoded with
  | some l => (l.base.map (· + l.startedPhases)).getD c.picCount
  | none => c.picCount

/-- RO entries of a channel object that are formed on read. DEDUCED, log entry 63. -/
def State.chanRo (s : State) (ch k : Nat) : Option Nat :=
  let c := s.chan ch
  match k / 256 with
  | 0x00 =>
    if k = K.CH_STATE_STATE then some c.state.code else none
  | 0x04 => if k = K.CH_RAW_LUT_STORE then some (c.lutStore.getD 0xFF) else none
  | 0x0A =>
    if k = K.CH_REFS_FB_IN_USE then some ((s.fbsOf ch).filter (fun e => e.2.marked)).length
    else if k = K.CH_REFS_BUFFERS_HELD then some (s.buffersHeld ch) else none
  | 0x10 => if k = K.CH_LAUNCH_NEXT_LAUNCH then some (s.nextLaunch ch) else none
  | 0x19 => if k = K.CH_MAG_CLIP_STATE then some (s.recOf ch).state else none
  | 0x30 =>
    if k = K.CH_STATUS_STATE then some c.state.code
    else if k = K.CH_STATUS_NEXT_PIC then some (c.nextPic % 2 ^ 32)
    else if k = K.CH_STATUS_FLAGS then some (if c.state = .closed then c.flagsKept else s.chanFlags ch) else none
  | 0x34 =>
    if k = K.CH_RATE_STATUS_BUCKET_MAX then some ((List.map (fun e => e.2.bucket / 65536) c.rate).foldl max 0) else none
  | 0x3E => if k = K.CH_APPLY_PENDING_COUNT then some (s.waitingOf ch (s.time + 1)).length else none
  | _ => none

/-- Time base, array time and record inputs. -/
def State.timeRo (s : State) (key : Nat) : Option Nat :=
  if key = K.TIME_BASE_TIME_NOW then some s.time
  else if key = K.TIME_BASE_STATE then some s.tb.state.code
  else if key = K.TIME_BASE_EFFECTIVE_SOURCE then some s.source
  else if key = K.TIME_BASE_OFFSET_NS then some (ofSigned 64 s.tb.offset)
  else if key = K.TIME_BASE_FREQ_PPM then some (ofSigned 32 s.tb.freq)
  else if key = K.TIME_BASE_HOLDOVER_EST_NS then some s.holdoverEst
  else if key = K.ARRAY_TIME_SYNC_ROLE then some s.syncRole
  else if key = K.REC_INPUT_STATE then some s.recIn.state
  else if key = K.REC_INPUT_RECORDING then some s.recIn.recording.toNat
  else if key = K.REC_INPUT_PIN_LEVELS then some (bitsOf [s.recIn.pinA, s.recIn.pinB])
  else none

/-- Power, temperature, calibration and life. -/
def State.powerRo (s : State) (key : Nat) : Option Nat :=
  let slow := [K.POWER_CONFIG_POWER_MW, K.PMBUS_CONFIG_VIN_MV, K.PMBUS_CONFIG_IIN_MA, K.PMBUS_CONFIG_EXT_TEMP_C,
    K.PMBUS_CONFIG_STATUS_WORD, K.THERMAL_TJ_MAX, K.THERMAL_TJ_DOMAIN, K.THERMAL_TC, K.POWER_CONFIG_WAKE_CAUSE]
  let isSlow : Bool := slow.contains key || ((key / 256 = 0x2201 || key / 256 = 0x2211) && key % 256 ≠ 0) ||
    (K.TDIODE_TEMP ≤ key && key < K.TDIODE_TEMP + 4)
  if isSlow then some (match Store.find? s.slow key with
    | some v => v.toNat
    | none => s.dflt key)
  else if key = K.POWER_CONFIG_STATE then some s.power.ladder
  else if key = K.THERMAL_THERMAL_CAP_MV then some s.power.thermalCap
  else if key = K.THERMAL_THROTTLE_NS then
    some ((s.ro key + (match s.power.throttleSince with
      | some t => s.since t
      | none => 0)) % 2 ^ 64)
  else if key = K.TDIODE_VALID then some s.diodeValid
  else if key = K.LIFE_STATUS_POWER_ON_H then some s.power.lifeHours
  else if key = K.LIFE_STATUS_TJ_AVG then some (ofSigned 16 s.power.tjAvg)
  else if key = K.LIFE_STATUS_HOURS_ABOVE_105 then some s.power.lifeHot
  else if key = K.LIFE_STATUS_BOOST_H then some s.power.lifeBoost
  else if key = K.LIFE_STATUS_LIFE_USED_PPM then some s.power.lifePpm
  else if key = K.CAL_STATUS_STORES then some s.power.stores
  else if key = K.CAL_STATUS_LAST_STORE then some s.power.lastStore
  else none

/-- Faults, the Moraine and interrupts. -/
def State.faultRo (s : State) (r : Requester) (key : Nat) : Option Nat :=
  let f := s.faults
  let src := s.intSource (s.sel r K.INT_SELECT_SOURCE)
  let g := s.sel r K.INT_SELECT_GROUP
  let grp := s.intGroup (g / 64) (g % 64)
  if key = K.FAULT_STATUS_DEVICE_STATE then some f.device.code
  else if key = K.FAULT_STATUS_ACTIVE_COUNT then some f.active.length
  else if key = K.FAULT_STATUS_ERR_OUT_LEVEL then some (bitsOf [f.errOut, f.errPin])
  else if key = K.FAULT_STATUS_RECORDS then some f.records.toNat
  else if key / 256 = 0x2401 then
    some (bitsOf ((List.range 64).map (fun i => s.faultActive (64 * (key % 256 - 1) + i))))
  else if key / 256 = 0x2402 then some (s.logWord (s.sel r K.FAULT_LOG_SELECT) (key - K.FAULT_LOG_WORD))
  else if key / 256 = 0x2403 then some (s.faultRowWord (key % 256 - 1))
  else if key / 256 = 0x2404 then some (s.faultRowWord (key % 256 + 254))
  else if key = K.MORAINE_VALID then some s.moraine.valid.toNat
  else if key = K.MORAINE_STATE then some s.moraine.state
  else if key = K.MORAINE_CAUSE then some s.moraine.cause
  else if key = K.MORAINE_TIME then some s.moraine.time
  else if key = K.MORAINE_WRITER then some s.moraine.writer
  else if key = K.INT_SOURCE_FUNC then some src.func
  else if key = K.INT_SOURCE_GROUP then some src.group
  else if key = K.INT_SOURCE_PRIO then some src.prio
  else if key = K.INT_SOURCE_ENABLE then some src.enable.toNat
  else if key = K.INT_SOURCE_PENDING then some src.pending.toNat
  else if key = K.INT_SOURCE_ACTIVE then some src.active.toNat
  else if key = K.INT_SOURCE_SIGNALS then some src.signals.toNat
  else if key = K.INT_SOURCE_MISROUTED then some src.misrouted.toNat
  else if key = K.INT_GROUP_HOLDOFF_US then some grp.holdoffUs
  else if key = K.INT_GROUP_BYPASS_IDLE then some grp.bypassIdle.toNat
  else if key = K.INT_GROUP_MESSAGES then some grp.messages.toNat
  else if key = K.INT_GROUP_SPURIOUS then some grp.spurious.toNat
  else if key = K.INT_GROUP_BAD_COMPLETES then some grp.badCompletes.toNat
  else none

/-- DRAM, DMA, the pools, the traffic manager and the magazines. -/
def State.memoryRo (s : State) (r : Requester) (idx sub : Nat) : Option Nat :=
  let key := keyOf idx sub
  let rec_ := s.dramRec (s.sel r K.DRAM_ERR_LOG_SELECT)
  let q := s.queue (s.sel r K.EQ_SELECT_TARGET)
  if idx = 0x2602 then
    let g := s.dram.regions.getD ((sub - 1) / 2) (0, 0)
    some (if sub % 2 = 1 then g.1 else g.2)
  else if key = K.DRAM_ERR_LOG_REC_LO then some (rec_ false)
  else if key = K.DRAM_ERR_LOG_REC_HI then some (rec_ true)
  else if 0x2700 ≤ idx ∧ idx < 0x2740 then
    let d := s.dmaCh (idx - 0x2700)
    match sub with
    | 7 => some d.status
    | 8 => some d.bytesDone.toNat
    | 9 => some d.descDone.toNat
    | 10 => some d.errAddr.toNat
    | _ => none
  else if key = K.POOL_STATUS_BUF_BYTES then some s.pool.bufBytes
  else if key = K.POOL_STATUS_BUF_TOTAL then some s.pool.total
  else if key = K.POOL_STATUS_FREE then some s.pool.free
  else if key = K.POOL_STATUS_MIN_FREE then some s.pool.minFree
  else if key = K.POOL_STATUS_WAITERS then some s.pool.waiters.length
  else if key = K.POOL_STATUS_HEADROOM then some (ofSigned 32 s.headroomNow)
  else if key = K.POOL_STATUS_LOW then some s.pool.low.toNat
  else if key = K.REF_STATUS_GRANULES_TOTAL then some s.granulesTotal
  else if key = K.REF_STATUS_GRANULES_FREE then some s.granulesFree
  else if key = K.REF_STATUS_FB_ALLOCATED then some s.fbs.length
  else if key = K.REF_STATUS_ORPHANS then some (s.fbs.filter (fun e => e.2.chan.isNone)).length
  else if key = K.EQ_CONFIG_STATE then some q.state
  else if key = K.EQ_CONFIG_COUNTS then some q.counts
  else if idx = 0x2B00 ∨ idx = 0x2B01 then
    let m := s.mag (idx - 0x2B00)
    if sub = 1 then some m.state else if sub = 2 then some m.capacity else none
  else none

/-- The array, quad roles are stored; boot, flash and microcode. -/
def State.bootRo (s : State) (r : Requester) (key : Nat) : Option Nat :=
  let a := s.array
  let x := s.flash (s.sel r K.FLASH_UPDATE_REGION)
  if key = K.ARRAY_STATUS_STATE then some a.state
  else if key = K.ARRAY_STATUS_EPOCH then some a.epoch
  else if key = K.ARRAY_STATUS_COORDINATOR then some a.coordinator
  else if key = K.ARRAY_STATUS_ACTIVE_SET then
    some (bitsOf ((List.range 8).map (fun d => bit a.members d && !bit a.standby d)))
  else if key = K.ARRAY_STATUS_STANDBY_SET then some a.standby
  else if key = K.ARRAY_STATUS_NEIGHBOURS then
    some (leNat (((s.neighbourList ++ List.replicate 4 0xFF).take 4).map (fun n => BitVec.ofNat 8 n)))
  else if key = K.ARRAY_STATUS_EPOCH_TIME then some a.epochTime
  else if key = K.BOOT_STATUS_BOOT_STATE then some s.boot.state.code
  else if key = K.BOOT_STATUS_RESET_CAUSE then some s.boot.cause
  else if key = K.BOOT_STATUS_READY_MS then some s.boot.readyMs
  else if key = K.BOOT_STATUS_COPY_B then some s.boot.copyB
  else if key = K.BOOT_STATUS_TRIAL then some s.boot.trialRun
  else if key = K.BOOT_STATUS_BOOT_COUNT then some s.boot.bootCount
  else if key = K.FLASH_UPDATE_STATE then some x.state
  else if key = K.FLASH_UPDATE_WRITTEN then some x.written
  else if key = K.FLASH_UPDATE_SELECTED then some (x.selected + 2 * x.trial.toNat)
  else if key = K.PATCH_STATE then some s.boot.patchState
  else if key = K.PATCH_CLUSTERS_DONE then some s.boot.clustersDone
  else if key = K.PATCH_REJECT_CAUSE then some s.boot.rejectCause
  else none

/-- The access paths, the host link and the trackers. -/
def State.accessRo (s : State) (r : Requester) (idx sub : Nat) : Option Nat :=
  let key := keyOf idx sub
  let q := s.req r
  match idx with
  | 0x1001 => some s.errorRegister
  | 0x2011 =>
    if sub = 0 then none
    else if sub ≤ 8 then some (s.clUnits (sub - 1))
    else if sub = 9 then some (s.activeOf .px)
    else if sub = 10 then some (s.activeOf .ee)
    else if sub = 11 then some (s.activeOf .ms)
    else some (s.activeOf .df)
  | 0x2012 => if key = K.CODING_CONFIG_SPILL_IN_USE then some (s.spillWritten / 1024) else none
  | 0x2052 =>
    if 1 ≤ sub ∧ sub ≤ 5 then some (s.queueDepth (sub - 1)) else none
  | 0x2053 =>
    match sub with
    | 1 => some q.code.toNat
    | 2 => some q.entry
    | 3 => some q.errTime
    | 4 => some q.errCount.toNat
    | _ => none
  | 0x2080 =>
    match sub with
    | 1 => some s.nvm.slotWrites.toNat
    | 2 => some (s.wornAt 800000)
    | 3 => some (s.wornAt 720000)
    | _ => none
  | 0x2081 => if sub = 2 then some (s.wearOf (s.sel r K.NVM_WEAR_QUERY_TARGET)) else none
  | 0x2F00 =>
    match sub with
    | 2 => some (if s.host.vfEnable then s.host.numVfs else 0)
    | 3 => some s.host.gen
    | 4 => some s.host.width
    | 5 => some s.host.flrCount.toNat
    | 6 => some s.ringsGranted
    | _ => none
  | 0x2F02 =>
    if sub = 1 then some (s.ringsHeld (asFunc r)) else if sub = 2 then some (s.channelsHeld (asFunc r)) else none
  | 0x2F10 => if sub = 1 then some q.fences.toNat else none
  | 0x2F20 =>
    if sub = 0 then none
    else if sub ≤ 5 then some (s.txn.used (sub - 1)) else some s.txn.peak
  | _ => none

/-- The device entries formed on read. -/
def State.devRo (s : State) (r : Requester) (idx sub : Nat) : Option Nat :=
  let key := keyOf idx sub
  if sub = 0 ∧ idx ≠ 0x1001 then none
  else if 0x2100 ≤ idx ∧ idx < 0x2200 then s.timeRo key
  else if 0x2200 ≤ idx ∧ idx < 0x2400 then s.powerRo key
  else if 0x2400 ≤ idx ∧ idx < 0x2600 then s.faultRo r key
  else if 0x2600 ≤ idx ∧ idx < 0x2C00 then s.memoryRo r idx sub
  else if 0x2C00 ≤ idx ∧ idx < 0x2F00 then s.bootRo r key
  else s.accessRo r idx sub

/-- The value of an entry, counters and strings apart: constants, selectors, values formed on read, pending values and
stored RO values. -/
def State.entryValue (s : State) (r : Requester) (e : Entry) (idx sub : Nat) : Nat :=
  let key := keyOf idx sub
  let formed := if isChanIdx idx then s.chanRo (chanOf idx) (chanPart key) else s.devRo r idx sub
  match e.acc with
  | .const =>
    if idx = 0x1018 ∧ sub = 3 then steppingCode
    else if idx = 0x1018 ∧ sub = 4 then Config.serial.toNat else e.dflt
  | .wo => 0
  | .ro => match formed with
    | some v => v
    | none => s.ro (s.regKey r key)
  | .rw | .rwp =>
    if isSelector key then s.sel r key
    else if isChanIdx idx ∧ chanPart key = K.CH_STATE_OWNER then (s.chan (chanOf idx)).owner
    else match formed with
      | some v => v
      | none => s.pv (s.regKey r key)

/-- The characters of a VISIBLE_STRING. -/
def State.stringValue (s : State) (idx : Nat) : List Byte :=
  if idx = 0x1008 then [0x48, 0x5A, 0x45, 0x31, 0x36]
  else if idx = 0x1009 then [Config.stepping.1, Config.stepping.2]
  else if idx = 0x100A then s.boot.swVersion
  else if idx = 0x2E10 then s.ucodeVersion else []

/-! ### Counters (R76, R77) -/

/-- The counters of MEMORY_COUNTERS that no rule gives: a free value at each reading. -/
def trafficKeys : List Nat :=
  [K.MEMORY_COUNTERS_READ_BYTES, K.MEMORY_COUNTERS_WRITE_BYTES, K.MEMORY_COUNTERS_FORWARDS]

/-- A counter of 0x3001 to 0x3FFF: subindices above 0x80 read the live value, the others the held one. -/
def State.counterValue (s : State) (idx sub : Nat) : Nat × State :=
  if sub ≤ 0x80 then ((Store.get s.dict.held 0 (keyOf idx sub)).toNat, s)
  else
    let key := keyOf idx (sub - 0x80)
    if trafficKeys.contains key then (Config.dramTraffic key s.free % 2 ^ 64, s.draws)
    else (s.count key, s)

/-! ### The read of an entry -/

/-- The object number of a channel entry. -/
def objNumber (key : Nat) : Nat := chanPart key / 256

/-- A whole read: the value, and the state it leaves (FENCE counts, LUT_INDEX advances). -/
def State.readValue (s : State) (r : Requester) (e : Entry) (idx sub : Nat) : Nat × State :=
  let key := keyOf idx sub
  if 0x3001 ≤ idx ∧ idx < 0x4000 ∧ sub ≠ 0 then s.counterValue idx sub
  else if key = K.MAILBOX_FENCE_FENCE then
    let s := s.modReq r (fun q => { q with fences := q.fences + 1 })
    ((s.req r).fences.toNat, s)
  else if isLutData key then s.lutRead r (chanOf idx) (objNumber key)
  else (s.entryValue r e idx sub, s)

/-- STATUS and VALUE of APPLIED_VIEW for a requester (R71). -/
def State.appliedView (s : State) (r : Requester) : Nat × Nat :=
  let target := s.sel r K.APPLIED_VIEW_TARGET
  let idx := target / 256 % 65536
  let sub := target % 256
  let key := keyOf idx sub
  match lookup idx sub with
  | .error _ => (1, 0)
  | .ok e =>
    if !s.mayReach r idx sub false then (1, 0)
    else if e.acc = .wo then (4, 0)
    else if e.ty = .str ∨ e.ty = .dom then
      let l := s.stringValue idx
      if 8 < l.length then (3, 0) else (2, leNat l)
    else if isLutData key then (2, (s.chan (chanOf idx)).lutWord (objNumber key)
      ((s.req r).selOf (lutIndexKey (chanOf idx) (objNumber key))))
    else if key = K.APPLIED_VIEW_STATUS then (2, 2)
    else if key = K.APPLIED_VIEW_VALUE then (2, Config.ownView s.free)
    else if e.ap = .imm then (2, if 0x3001 ≤ idx ∧ idx < 0x4000 ∧ sub ≠ 0 then (s.counterValue idx sub).1 else s.entryValue r e idx sub)
    else (0, s.v (s.regKey r key))

/-- The first abort code that refuses a read (Table 2-14), or the entry. A configuration word without a value is a hardware
error (R83). -/
def State.readCheck (s : State) (r : Requester) (idx sub : Nat) : Except Abort Entry :=
  match lookup idx sub with
  | .error a => .error a
  | .ok e =>
    if !s.mayReach r idx sub false then .error A.right
    else if e.acc = .wo then .error A.writeOnly
    else if s.dict.lost.contains (s.regKey r (keyOf idx sub)) || (keyOf idx sub == K.APPLIED_VIEW_VALUE &&
        s.dict.lost.contains (s.regKey r (s.sel r K.APPLIED_VIEW_TARGET))) then .error A.hardware
    else .ok e

/-- The read of an entry: its bytes, or an abort code, and the state left. -/
def State.readEntry (s : State) (r : Requester) (idx sub : Nat) : Except Abort (List Byte) × State :=
  match s.readCheck r idx sub with
  | .error a => (.error a, s)
  | .ok e =>
    match e.ty.size with
    | none => (.ok (s.stringValue idx), s)
    | some n =>
      if idx = 0x2054 ∧ sub = 2 then (.ok (leBytes n (s.appliedView r).2), s)
      else if idx = 0x2054 ∧ sub = 3 then (.ok (leBytes n (s.appliedView r).1), s)
      else
        let (v, s) := s.readValue r e idx sub
        (.ok (leBytes n v), s)

/-- A read on a path, with a refusal recorded (R42, R66). -/
def State.readFor (s : State) (r : Requester) (idx sub : Nat) : Except Abort (List Byte) × State :=
  match s.readEntry r idx sub with
  | (.error a, s) => (.error a, s.accessError r a idx sub)
  | x => x

end Sys2Proof.Machine
end

