-- ==== Sys2Proof/Machine/Writing.lean ====
section
/-! DEFINITION. Writing the dictionary: the checks of Table 2-14, the pending value and its apply point, and the actions of
WO entries. -/

namespace Sys2Proof.Machine

/-! ### What a write finds outside the device -/

/-- Operands that some actions take beside their value. -/
structure Env where
  facts : BootFacts
  image : Image
  same : Bool
  desc : Option (BitVec 256)
  /-- Byte offset of a DOMAIN transfer. -/
  offset : Nat := 0

/-- The operands of a write that no command names: free values. -/
def State.freeEnv (s : State) (offset : Nat) : Env :=
  { facts := Config.bootFacts s.free, image := Config.patchImage s.free, same := Config.readBackSame s.free
    desc := Config.firstDescriptor s.free, offset := offset }

/-! ### Refusals (Table 2-14) -/

/-- The order of the codes in Table 2-14. DEDUCED, log entry 13. -/
def abortOrder : List Abort :=
  [A.command, A.index, A.subindex, A.right, A.writeOnly, A.readOnly, A.worn, A.unmappable, A.length, A.value, A.above,
    A.below, A.unitRange, A.state, A.busy, A.fenced, A.readBack, A.store, A.hardware, A.general]

def abortRank (a : Abort) : Nat := abortOrder.findIdx (· == a)

/-- The earlier of two refusals. -/
def firstAbort (a b : Option Abort) : Option Abort :=
  match a, b with
  | some x, some y => if abortRank y < abortRank x then b else a
  | none, y => y
  | x, none => x

/-- Writes that are served while a device-fatal fault lasts (R356). DEDUCED, log entry 27. -/
def servedInFatal (key v : Nat) : Bool :=
  [K.NVM_WEAR_QUERY_TARGET, K.APPLIED_VIEW_TARGET, K.FAULT_LOG_SELECT, K.DRAM_ERR_LOG_SELECT, K.EQ_SELECT_TARGET,
    K.METER_SELECT_TARGET, K.BOOT_STATUS_WARM_RESET].contains key || key / 256 = 0x2057 ||
    (0x2700 ≤ key / 256 && key / 256 < 0x2740) || (key = K.MORAINE_COMMAND && v = 2)

/-- Array and egress entries, which a fenced device refuses to write (R294): the array and traffic-manager ranges of Table
2-1, and CH_ARRAY. DEDUCED, log entry 28. -/
def fencedEntry (idx : Nat) : Bool :=
  (0x2C00 ≤ idx && idx < 0x2D00) || (0x2A00 ≤ idx && idx < 0x2B00) || (isChanIdx idx && objOf idx == 0x11)

/-- What turns a write away whatever its value: the device-fatal state and the fence. -/
def State.writeBlocked (s : State) (key v : Nat) : Option Abort :=
  if s.fatal && !servedInFatal key v then some A.busy
  else if s.array.state = 4 && fencedEntry (key / 256) then some A.fenced
  else none

/-- A PDO mapping word: index in [31:16], subindex in [15:8], length in bits in [7:0]. -/
def mapKey (v : Nat) : Nat := v / 256 % 2 ^ 24

/-- The entry may be mapped into a PDO (R48). -/
def mayMap (v : Nat) : Bool :=
  match lookup (v / 65536 % 65536) (v / 256 % 256) with
  | .ok e => Config.mappable (mapKey v) && e.ty.size.isSome
  | .error _ => false

/-- Mapping entries of RPDOs and TPDOs. -/
def isMapping (idx sub : Nat) : Bool :=
  ((0x1600 ≤ idx && idx < 0x1608) || (0x1A00 ≤ idx && idx < 0x1A08)) && sub ≠ 0

/-- Refusals that depend on other values, and that the owning chapters make at the write. DEDUCED, log entry 29. -/
def State.writeRule (s : State) (r : Requester) (e : Entry) (idx sub v : Nat) : Option Abort :=
  let key := keyOf idx sub
  let warn : Int := s.pv K.THERMAL_WARN_C
  let throttle : Int := s.pv K.THERMAL_THROTTLE_C
  let stop : Int := s.pv K.THERMAL_SHUTDOWN_C
  let i := e.ty.toInt v
  if isMapping idx sub then (if v ≠ 0 ∧ !mayMap v then some A.unmappable else none)
  else if isChanIdx idx ∧ e.adm ∧ (s.chan (chanOf idx)).state ≠ .closed then some A.state
  else if key = K.POOL_CONFIG_LOW_WATER then (if s.pv K.POOL_CONFIG_HIGH_WATER < v then some A.above else none)
  else if key = K.POOL_CONFIG_HIGH_WATER then (if v < s.pv K.POOL_CONFIG_LOW_WATER then some A.below else none)
  else if key = K.THERMAL_WARN_C then (if i < throttle then none else some A.value)
  else if key = K.THERMAL_THROTTLE_C then (if warn < i ∧ i < stop then none else some A.value)
  else if key = K.THERMAL_SHUTDOWN_C then (if throttle < i then none else some A.value)
  else if key = K.BOOT_STATUS_MIN_SEC_VERSION then (if v < s.pv key then some A.below else none)
  else if key = K.BOOT_STATUS_KEY_REVOKED then
    (if s.pv key &&& v ≠ s.pv key ∨ v % 16 = 15 then some A.value else none)
  else if idx = 0x2A41 ∧ s.eqLocked (s.sel r K.EQ_SELECT_TARGET) key then some A.state
  else if 0x2700 ≤ idx ∧ idx < 0x2740 ∧ 1 ≤ sub ∧ sub ≤ 5 ∧ (s.dmaCh (idx - 0x2700)).busy then some A.state
  else if idx = 0x2057 then
    match r with
    | .func f => if f ≠ 0 ∧ bits v 31 24 ≠ 0x00 ∧ bits v 31 24 ≠ 0x01 ∧ bits v 31 24 ≠ 0x04 then some A.right else none
    | _ => none
  else none

/-- An RWP entry past its endurance limit refuses a write of another value (R56). -/
def State.wornOut (s : State) (e : Entry) (key : Nat) (data : List Byte) : Bool :=
  e.acc = .rwp && 800000 ≤ (s.nvmRecord key).wear && (leNat data ≠ s.pv key || e.ty.size ≠ some data.length)

/-- The first refusal of a write that its own action does not make: the entry, or the code. -/
def State.writeCheck (s : State) (r : Requester) (idx sub : Nat) (data : List Byte) : Except Abort (Entry × Option Abort) :=
  match lookup idx sub with
  | .error a => .error a
  | .ok e =>
    let key := keyOf idx sub
    if !s.mayReach r idx sub true then .error A.right
    else if e.acc = .const ∨ e.acc = .ro then .error A.readOnly
    else
      let own := if s.wornOut e key data then some A.worn
        else firstAbort (e.check data) (s.writeRule r e idx sub (leNat data))
      .ok (e, own)

/-! ### Snapshots (R76, R78) -/

/-- A snapshot: every counter is held, SNAP_TIME and SNAP_SEQ advance. The counters that no rule gives take free values. -/
def State.snapshot (s : State) : State :=
  let held := trafficKeys.foldl (fun (m : Store W64) k => Store.put m k (w64 (Config.dramTraffic k s.free))) s.dict.live
  ((State.draws { s with dict := { s.dict with held := held } }).bump K.SNAPSHOT_SNAP_SEQ 1).setRo K.SNAPSHOT_SNAP_TIME
    s.time

/-- SNAP_AT is reached, or lies at or before the present time when it is written: the snapshot fires and SNAP_AT is 0. -/
def State.snapFire (s : State) : State := (s.snapshot).setImm K.SNAPSHOT_SNAP_AT 0

/-- A scheduled snapshot has been reached; the all-ones value means never (R32). -/
def State.snapDue (s : State) : Bool :=
  let at_ := s.v K.SNAPSHOT_SNAP_AT
  at_ ≠ 0 && at_ ≠ 2 ^ 64 - 1 && at_ ≤ s.time

/-! ### Heartbeats (Table 2-2) -/

/-- Codes of NMT states in a heartbeat (CiA 1301). -/
def Nmt.code : Nmt → Nat
  | .stopped => 4 | .operational => 5 | .preOperational => 127

/-- A controller sends its heartbeat now. -/
def State.heartbeat (s : State) (k : Nat) : State :=
  let c := s.canNode k
  if c.sends then (s.setCan k { c with lastHb := s.time }).emit (.canHeartbeat k c.nmt.code) else s

/-- The heartbeat of a controller is due. -/
def State.heartbeatDue (s : State) (k : Nat) : Bool :=
  let ms := s.v K.HEARTBEAT_TIME
  ms ≠ 0 && (s.canNode k).lastHb + ms * 1000000 ≤ s.time

/-- After an accepted HEARTBEAT_TIME: a change from 0 sends one at once, and so does a period that has passed. -/
def State.heartbeatChanged (s : State) (old : Nat) : State :=
  s.each [0, 1] (fun s k =>
    if s.v K.HEARTBEAT_TIME ≠ 0 && (old = 0 || s.heartbeatDue k) then s.heartbeat k else s)

/-! ### Accepted values -/

/-- What follows an IMM value of a device entry at once. -/
def State.immEffect (s : State) (key old : Nat) : State :=
  if key = K.HEARTBEAT_TIME then (if s.v key = old then s else s.heartbeatChanged old)
  else if key = K.REC_INPUT_REC_SOURCE then s.recSourceChanged old
  else if key = K.POOL_CONFIG_LOW_WATER ∨ key = K.POOL_CONFIG_HIGH_WATER then s.poolLevel
  else if key = K.SNAPSHOT_SNAP_AT then (if s.snapDue then s.snapFire else s)
  else s

/-- A stored value of a plain entry is accepted: pending, and in effect under its apply point (Table 2-5). -/
def State.acceptPlain (s : State) (e : Entry) (key v : Nat) : State :=
  match e.ap with
  | .imm => (s.setImm key v).immEffect key (s.v key)
  | .boot => s.setPv key v
  | .frame | .cycle | .refill => (s.setPv key v).setWaiting key

/-- A field of a source's row changed. -/
def State.modInt (s : State) (n : Nat) (f : IntSource → IntSource) : State := s.updateSource n (f (s.intSource n))

/-- A write of an interrupt source row's field (R349): FUNC and GROUP withdraw a signal sent; ENABLE and PRIO act at once. -/
def State.writeIntSource (s : State) (n sub v : Nat) : State :=
  let r := s.intSource n
  match sub with
  | 1 => State.modInt (if r.func = v then s else s.withdraw n) n (fun r => { r with func := v })
  | 2 => State.modInt (if r.group = v then s else s.withdraw n) n (fun r => { r with group := v })
  | 3 => s.updateSource n { r with prio := v }
  | _ => s.updateSource n { r with enable := v = 1 }
/-- A result of an action as a refusal and a state. -/
def State.outcome (s : State) (x : Except Abort State) : Option Abort × State :=
  match x with
  | .ok s' => (none, s')
  | .error a => (some a, s)

/-- An accepted write of an RW entry, wherever its value stands. -/
def State.acceptRw (s : State) (r : Requester) (e : Entry) (idx sub v : Nat) : Option Abort × State :=
  let key := keyOf idx sub
  let ch := chanOf idx
  let k := chanPart key
  let q := s.sel r K.EQ_SELECT_TARGET
  let g := s.sel r K.INT_SELECT_GROUP
  if isSelector key then (none, s.setSel r key v)
  else if isLutData key then s.outcome (s.lutWrite r ch (chanPart key / 256) v)
  else if isChanIdx idx ∧ k = K.CH_STATE_OWNER then s.outcome (s.ownerWrite r ch v)
  else if isChanIdx idx ∧ k = K.CH_LAUNCH_LIST_WR then s.outcome (s.listWr ch v)
  else if isChanIdx idx ∧ k = K.CH_MAG_CLIP then s.outcome (s.clipWrite ch v)
  else if idx = 0x2403 ∨ idx = 0x2404 then
    if v &&& faultRowReserved ≠ 0 then (some A.value, s)
    else
      let x := s.writeFaultRow (if idx = 0x2403 then sub - 1 else sub + 254) v
      (x.2, x.1)
  else if idx = 0x2501 then (none, s.writeIntSource (s.sel r K.INT_SELECT_SOURCE) sub v)
  else if idx = 0x2502 then
    let x := s.intGroup (g / 64) (g % 64)
    (none, s.setIntGroup (g / 64) (g % 64)
      (if sub = 1 then { x with holdoffUs := v } else { x with bypassIdle := v = 1 }))
  else if key = K.EQ_CONFIG_ENABLE then (none, (s.setImm (winKey q key) v).eqEnable q (v = 1))
  else (none, s.acceptPlain e (s.regKey r key) v)

/-! ### Actions of WO entries -/

/-- OPEN under a patch that waits for every channel to close is accepted and held (R399). -/
def State.command (s : State) (ch v : Nat) : Option Abort × State :=
  match v, s.boot.patch with
  | 1, some (false, _, _) =>
    if (s.chan ch).state = .closed then
      (none, { s with boot := { s.boot with heldOpens := s.boot.heldOpens ++ [ch] } })
    else s.chCommand ch v
  | _, _ =>
    let x := s.chCommand ch v
    (x.1, x.2.patchAll)

/-- A LUT_COMMIT, a ROI_COMMIT: it waits for the frame boundary. A second ROI_COMMIT before it is counted (R208). DEDUCED, log entry 109. -/
def State.commit (s : State) (ch key : Nat) : State :=
  let s := if chanPart key = K.CH_ROI_ROI_COMMIT ∧ s.waits key then s.cbump ch K.CH_ROI_SUPERSEDED 1 else s
  s.setWaiting key

/-- Slot writes accepted and not yet complete. -/
def State.nvmJobs (s : State) : List NvmJob := ((s.nvm.current.map Prod.fst).toList) ++ s.nvm.waiting

/-- RESTORE_DEFAULTS: the entries that R30 restores whose stored value differs from its default, or will once the slot writes
accepted before are complete. -/
def State.restorable (s : State) : List Nat :=
  ((List.map Prod.fst s.nvm.records ++ s.nvmJobs.map (·.key)).eraseDups).filter (fun k =>
    k ≠ K.BOOT_STATUS_MIN_SEC_VERSION && k ≠ K.BOOT_STATUS_KEY_REVOKED && (s.nvmRecord k).wear < 800000 &&
      (s.pv k ≠ s.dflt k || s.nvmJobs.any (fun j => j.key = k)))

/-- RESTORE_DEFAULTS: one slot write for each, carried out one at a time. DEDUCED, log entry 30. -/
def State.restoreDefaults (s : State) (r : Requester) : State :=
  { s with nvm := { s.nvm with
      waiting := s.nvm.waiting ++ s.restorable.map (fun k =>
        { key := k, value := w64 (s.dflt k), restored := true, back := .silent, who := r }) } }

/-- COMMAND of FLASH_UPDATE (Table 17-5). -/
def State.flashCommand (s : State) (r : Requester) (v : Nat) (same : Bool) : Option Abort × State :=
  let region := s.sel r K.FLASH_UPDATE_REGION
  match v with
  | 1 => s.outcome (s.flashBegin region)
  | 2 => s.flashCommit region same
  | 3 => (none, s.flashAbort region)
  | 4 => s.outcome (s.flashConfirm region)
  | 5 => s.outcome (s.flashFetch r region)
  | _ => (some A.value, s)

/-- Actions of the WO entries of a channel. -/
def State.chanAction (s : State) (ch key v : Nat) : Option Abort × State :=
  let k := chanPart key
  if k = K.CH_STATE_COMMAND then s.command ch v
  else if k = K.CH_MAG_CLIP_CMD then s.outcome (s.clipCmd ch v)
  else if k = K.CH_MAG_EXTENT_ADD then s.outcome (s.extentAdd ch 0 v)
  else if k = K.CH_MAG_EXTENT_ADD + 1 then s.outcome (s.extentAdd ch 1 v)
  else (none, s.commit ch key)

/-- Actions of the WO entries of the device. -/
def State.devAction (s : State) (r : Requester) (idx sub v : Nat) (data : List Byte) (env : Env) : Option Abort × State :=
  let key := keyOf idx sub
  let q := s.sel r K.EQ_SELECT_TARGET
  let ch := s.sel r K.REF_EXPORT_CHAN
  let pic := s.sel r K.REF_EXPORT_PIC_COUNT
  if key = K.RESTORE_DEFAULTS then
    (if v = 0x64616F6C then (none, s.restoreDefaults r) else (some A.store, s))
  else if key = K.LAST_ACCESS_ERROR_CLEAR then
    (none, s.modReq r (fun x => { x with code := 0, entry := 0, errTime := 0 }))
  else if key = K.TIME_BASE_TOD_SET then s.outcome (s.todSet v)
  else if key = K.REC_INPUT_COMMAND then s.outcome (s.recCommand v)
  else if key = K.POWER_CONFIG_TARGET then s.outcome (s.ladderTarget v)
  else if key = K.FAULT_STATUS_ACK then (if 509 < v then (some A.above, s) else (none, s.ackFault v))
  else if key = K.FAULT_LOG_CLEAR then (none, { s with faults := { s.faults with log := [], replaced := 0 } })
  else if key = K.MORAINE_COMMAND then
    (if v = 1 then s.outcome s.dumpNow else if v = 2 then (none, s.moraineRelease) else (some A.value, s))
  else if key = K.DRAM_ERR_LOG_CLEAR then (none, s.clearDramLog)
  else if 0x2700 ≤ idx ∧ idx < 0x2740 then
    (if v = 1 then s.outcome (s.dmaStart (idx - 0x2700) env.desc)
     else if v = 2 then (none, s.dmaStop (idx - 0x2700)) else (some A.value, s))
  else if key = K.REF_EXPORT_COMMAND then
    (if v = 1 then s.outcome (s.exportFb r ch pic) else if v = 2 then s.outcome (s.returnFb ch pic) else (some A.value, s))
  else if 0x2A00 ≤ idx ∧ idx < 0x2A18 then s.outcome (s.gateCommit ((idx - 0x2A00) / 4 * 16 + (idx - 0x2A00) % 4))
  else if key = K.EQ_CONFIG_OFFLOAD_CMD then s.outcome (s.offloadCmd q v)
  else if key = K.ARRAY_CMD_READMIT then s.outcome (s.readmit v)
  else if key = K.BOOT_STATUS_WARM_RESET then
    (if v = 0x74736572 then (none, s.warmReset 4 env.facts) else (some A.store, s))
  else if key = K.FLASH_UPDATE_COMMAND then s.flashCommand r v env.same
  else if key = K.FLASH_UPDATE_DATA then s.outcome (s.flashData (s.sel r K.FLASH_UPDATE_REGION) env.offset data)
  else if key = K.PATCH_COMMAND then (if v = 1 then s.outcome (s.patchApply env.image) else (some A.value, s))
  else if key = K.RING_GRANT_GRANT then s.outcome (s.grantRing v)
  else if key = K.SNAPSHOT_TRIGGER then (none, s.snapshot)
  else (some A.general, s)

/-- The effect of a write that passed its checks, RWP entries apart. -/
def State.writeEffect (s : State) (r : Requester) (e : Entry) (idx sub : Nat) (data : List Byte) (env : Env) :
    Option Abort × State :=
  let v := leNat data
  match e.acc with
  | .wo =>
    if isChanIdx idx then s.chanAction (chanOf idx) (keyOf idx sub) v else s.devAction r idx sub v data env
  | _ => s.acceptRw r e idx sub v

/-- A write carried out: refused, done, or left to an NVM slot write of a value (R34). -/
inductive Written where
  | done (a : Option Abort) (s : State)
  | slot (key v : Nat)

/-- A write of one entry, checked whole and in the order of Table 2-14, and carried out where nothing refuses it. -/
def State.writeEntry (s : State) (r : Requester) (idx sub : Nat) (data : List Byte) (env : Env) : Written :=
  match s.writeCheck r idx sub data with
  | .error a => .done (some a) s
  | .ok (e, own) =>
    let key := keyOf idx sub
    let blocked := s.writeBlocked key (leNat data)
    match firstAbort own blocked with
    | none =>
      if e.acc = .rwp then .slot key (leNat data)
      else
        let x := s.writeEffect r e idx sub data env
        .done x.1 x.2
    | some a =>
      if own.isSome ∨ e.acc = .rwp then .done (some a) s
      else .done (firstAbort (s.writeEffect r e idx sub data env).1 blocked) s

/-- A write that no queue holds, with a refusal recorded (R66). -/
def State.writeFor (s : State) (r : Requester) (idx sub : Nat) (data : List Byte) (env : Env) : Written :=
  match s.writeEntry r idx sub data env with
  | .done (some a) s => .done (some a) (s.accessError r a idx sub)
  | x => x

end Sys2Proof.Machine
end

