-- ==== Sys2Proof/Machine/Access.lean ====
section
/-! DEFINITION. The access paths: request queues, NVM slot writes in order, CANopen FD, OD/UDP, BAR0 and BAR2 (chapters 2
and 3). -/

namespace Sys2Proof.Machine

/-! ### Answers -/

/-- A message to a USDO client, while its node may send it. -/
def State.usdoSend (s : State) (can client idx sub : Nat) (a : Option Abort) (data : List Byte) : State :=
  let c := s.canNode can
  if c.on && !c.busOff && c.nmt ≠ .stopped then s.emit (.usdo can client idx sub (a.getD 0) data) else s

/-- A client's session ends. -/
def State.endSession (s : State) (can client : Nat) : State :=
  s.setCan can { s.canNode can with sessions := Store.erase (s.canNode can).sessions client }

/-- A request of a USDO client. -/
def Request.ofClient (client : Nat) : Request → Bool
  | .usdoRead _ c _ _ => c == client
  | .usdoWrite _ c _ _ _ => c == client
  | _ => false

/-- The answer of a USDO request. Its session ends, but not a newer one that the client has opened since: one whose request
has yet to come, or still waits (R46). -/
def State.usdoAnswer (s : State) (can client idx sub : Nat) (a : Option Abort) (data : List Byte) : State :=
  let newer := match Store.find? (s.canNode can).sessions client with
    | some x => !x.queued || (Store.get s.access.queues {} can).items.any (Request.ofClient client)
    | none => false
  (if newer then s else s.endSession can client).usdoSend can client idx sub a data

/-- A segment that is not valid ends its session. -/
def State.usdoAbort (s : State) (can client idx sub : Nat) (a : Abort) : State :=
  ((s.accessError (.can can) a idx sub).endSession can client).usdoSend can client idx sub (some a) []

/-- Type code of an entry, 0 where none exists. -/
def typeCode (idx sub : Nat) : Nat :=
  match lookup idx sub with
  | .ok e => e.ty.code
  | .error _ => 0

/-- Data padded with zero bytes to a multiple of 4. -/
def pad4 (bs : List Byte) : List Byte := bs ++ List.replicate ((4 - bs.length % 4) % 4) 0

/-- One item of a READ_ANSWER or WRITE_ANSWER (Table 2-8). -/
def answerItem (isWrite : Bool) (i : Item) (a : Nat × List Byte) : List Byte :=
  let ty := if isWrite then i.type else typeCode i.index i.sub
  itemHeader i.index i.sub ty i.offset a.2.length a.1 ++ pad4 a.2

/-- The bytes of an answer. -/
def answerBytes (opcode seq flags : Nat) (isWrite : Bool) (l : List (Item × (Nat × List Byte))) : List Byte :=
  udpHeader opcode seq l.length flags ++ l.flatMap (fun x => answerItem isWrite x.1 x.2)

/-- A packet refused as a whole: ABORTED set and one STATUS in every item (R43, R50), each recorded (R66). DEDUCED, log entry 20. -/
def State.udpRefuse (s : State) (addr port opcode seq : Nat) (status : Abort) (items : List Item) : State :=
  (s.each items (fun s i => s.accessError (.udp addr port) status i.index i.sub)).emit (.udp addr port (answerBytes opcode seq 1 true (items.map (fun i => (i, (status.toNat, []))))))

/-- The answer of an executed packet goes out and is kept, the last 16 for each requester (R45). -/
def State.packetDone (s : State) (p : OpenPacket) : State :=
  let bytes := answerBytes (if p.isWrite then 0x82 else 0x81) p.seq 0 p.isWrite
    (p.items.zipIdx.map (fun x => (x.1, Store.get p.answers (0, []) x.2)))
  let k := (Requester.udp p.addr p.port).key
  let kept := ({ seq := p.seq, bytes := bytes } : KeptAnswer) :: Store.get s.access.kept [] k
  State.emit { s with access := { s.access with
      kept := Store.put s.access.kept k (kept.take 16), openPackets := Store.erase s.access.openPackets 2 } }
    (.udp p.addr p.port bytes)

/-! ### Queues (R50 to R52) -/

def State.reqQueue (s : State) (n : Nat) : Queue := Store.get s.access.queues {} n
def State.setReqQueue (s : State) (n : Nat) (q : Queue) : State :=
  { s with access := { s.access with queues := Store.put s.access.queues n q } }

/-- The queue that a requester's requests enter (Table 2-12). -/
def queueOf : Requester → Nat
  | .can k => k
  | .udp _ _ => 2
  | .func f => if f = 0 then 3 else 4
  | .shawm => 3

/-- Keys that a request names. -/
def Request.keys : Request → List Nat
  | .write _ i j _ => [keyOf i j]
  | .usdoRead _ _ i j => [keyOf i j]
  | .read _ i j _ => [keyOf i j]
  | .usdoWrite _ _ i j _ => [keyOf i j]
  | .rpdo _ vals => vals.map Prod.fst
  | .udp _ _ _ _ items => items.map (fun x => keyOf x.index x.sub)

/-- A LUT's copy after a swap is running: requests that reach the LUT wait (R136). DEDUCED, log entry 24. -/
def State.lutBusy (s : State) (key : Nat) : Bool :=
  isLutData key && ((s.chan (chanOf (key / 256))).lut (chanPart key / 256)).copying

/-- A request that must wait at the head of its queue: a channel command while SH2 is out of service, a LUT being copied. -/
def State.mustWait (s : State) (r : Request) : Bool :=
  r.keys.any (fun k => s.lutBusy k ||
    (isChanIdx (k / 256) && chanPart k == K.CH_STATE_COMMAND && !s.coreWorks 2))

/-- The head of a queue can be served now. -/
def State.servable (s : State) (n : Nat) : Bool :=
  let q := s.reqQueue n
  match q.items with
  | [] => false
  | r :: _ => !q.blocked && s.pathsServed && !s.mustWait r

/-- The queue goes on after a slot write. -/
def State.unblock (s : State) (n : Nat) : State := s.setReqQueue n { s.reqQueue n with blocked := false }

/-! ### NVM slot writes (R56, R59, R60) -/

/-- A request is complete. -/
def State.answerRequest (s : State) (r : Request) (a : Option Abort) : State :=
  match r with
  | .usdoWrite can client idx sub _ => s.usdoAnswer can client idx sub a []
  | _ => s

/-- One item of an open packet is answered; with the last one the packet is. -/
def State.answerItem (s : State) (q item : Nat) (a : Option Abort) : State :=
  match Store.find? s.access.openPackets q with
  | none => s
  | some p =>
    let p := { p with answers := Store.put p.answers item ((a.getD 0).toNat, []), left := p.left - 1 }
    if p.left = 0 then (s.unblock q).packetDone p
    else { s with access := { s.access with openPackets := Store.put s.access.openPackets q p } }

/-- A write of an RWP entry is answered. -/
def State.nvmAnswer (s : State) (j : NvmJob) (a : Option Abort) : State :=
  let s := match a with
    | some x => s.accessError j.who x (j.key / 256) (j.key % 256)
    | none => s
  match j.back with
  | .silent => s
  | .pdo q => if s.nvm.waiting.any (fun k => k.back == .pdo q) then s else s.unblock q
  | .request q r => (s.unblock q).answerRequest r a
  | .packet q i => s.answerItem q i a

/-- The next slot write starts, one at a time, and none while a thermal shutdown is pending. An equal value needs no slot, and
an entry at its limit takes none. -/
def State.nvmNext (s : State) (fuel : Nat) : State :=
  match fuel with
  | 0 => s
  | n + 1 =>
    if s.nvm.current.isSome || s.power.shutdown then s
    else match s.nvm.waiting with
      | [] => s
      | j :: rest =>
        let s := { s with nvm := { s.nvm with waiting := rest } }
        if j.value.toNat = s.pv j.key then (s.nvmAnswer j none).nvmNext n
        else if 800000 ≤ (s.nvmRecord j.key).wear then (s.nvmAnswer j (if j.restored then none else some A.worn)).nvmNext n
        else { s with nvm := { s.nvm with current := some (j, s.time) } }

/-- Slot writes that wait are taken up. -/
def State.nvmGo (s : State) : State := s.nvmNext (s.nvm.waiting.length + 1)

/-- An RWP value waits for its slot write. -/
def State.nvmWait (s : State) (j : NvmJob) : State :=
  { s with nvm := { s.nvm with waiting := s.nvm.waiting ++ [j] } }

/-- An RWP value is stored: pending, and in effect unless its apply point is a reset. -/
def State.rwpStored (s : State) (key v : Nat) : State :=
  match entryOfKey key with
  | some e => s.acceptPlain e key v
  | none => s

/-- NVM_SLOT_WRITE_DONE: the read-back passes and the value is current, or it fails and the previous value stands. WEAR
counts both (R57). -/
def execNvmSlotWriteDone (t : Time) (ok : Bool) (s : State) : Out :=
  live t s (fun s => match s.nvm.current with
    | none => s
    | some (j, _) =>
      if ok then
        let s := (s.slotWrite j (s.nvmSlotOf j)).rwpStored j.key j.value.toNat
        let s := if (s.nvmRecord j.key).wear = 800000 then s.raise F.NVM_WEAR { detail := [j.key] } else s
        (s.nvmAnswer j none).nvmGo.stopGo
      else
        let s := (s.slotWrite j .broken).bumpSat K.NVM_STATUS_FAILED_SLOTS 1
        (s.nvmAnswer j (some A.readBack)).nvmGo.stopGo)

/-- NVM_WRITE_ABANDON: a slot write not complete 100 µs after a thermal shutdown arrived, which then proceeds. -/
def execNvmWriteAbandon (t : Time) (s : State) : Out :=
  live t s (fun s =>
    if s.power.shutdown ∧ s.power.stopAt + 100000 ≤ s.time then (s.slotSettle false).stopGo else s)

/-! ### Serving a request -/

/-- One write of a request: its answer, or none while a slot write is to come. -/
def State.runWrite (s : State) (r : Requester) (idx sub : Nat) (data : List Byte) (env : Env) (back : NvmBack) :
    Option (Option Abort) × State :=
  match s.writeFor r idx sub data env with
  | .done a s => (some a, s)
  | .slot key v => (none, s.nvmWait { key := key, value := w64 v, restored := false, back := back, who := r })

/-- Bytes of an item's WRITE: a fixed-size value takes no OFFSET (R424). -/
def itemData (i : Item) : List Byte :=
  match lookup i.index i.sub with
  | .ok e => if e.ty.size.isSome ∧ i.offset ≠ 0 then [] else i.data
  | .error _ => i.data

/-- The READ of an item (R424). -/
def State.readItem (s : State) (r : Requester) (i : Item) : (Nat × List Byte) × State :=
  let fail := fun (s : State) (a : Abort) => ((a.toNat, ([] : List Byte)), s.accessError r a i.index i.sub)
  let short : Bool := match lookup i.index i.sub with
    | .ok e => match e.ty.size with
      | some n => i.offset ≠ 0 || i.length < n
      | none => false
    | .error _ => false
  match s.readCheck r i.index i.sub with
  | .error a => fail s (if short && a = A.hardware then A.length else a)
  | .ok e =>
    if short then fail s A.length
    else match s.readEntry r i.index i.sub with
      | (.error a, s) => fail s a
      | (.ok bs, s) => ((0, if e.ty.size.isSome then bs else (bs.drop i.offset).take i.length), s)

/-- The items of a packet, in order; one aborted item does not stop the rest (R44). An item that restarts the device ends
the packet: none, with the state restarted. -/
def State.runItems (s : State) (p : OpenPacket) (env : Env) : Option OpenPacket × State :=
  let r := Requester.udp p.addr p.port
  let boots := s.boot.bootCount
  p.items.zipIdx.foldl (fun (acc : Option OpenPacket × State) x => match acc with
    | (none, s) => (none, s)
    | (some p, s) =>
      if p.isWrite then
        match s.runWrite r x.1.index x.1.sub (itemData x.1) { env with offset := x.1.offset } (.packet 2 x.2) with
        | (some a, s) =>
          if s.boot.bootCount ≠ boots then (none, s)
          else (some { p with answers := Store.put p.answers x.2 ((a.getD 0).toNat, []) }, s)
        | (none, s) => (some { p with left := p.left + 1 }, s)
      else
        let y := match x.1.answer with
          | some a => (a, s)
          | none => s.readItem r x.1
        (some { p with answers := Store.put p.answers x.2 y.1 }, y.2)) (some p, s)

/-- A packet is executed: answered at once, or when its last slot write is done. -/
def State.runPacket (s : State) (p : OpenPacket) (env : Env) : State :=
  match s.runItems p env with
  | (none, s) => s
  | (some p, s) =>
    if p.left = 0 then (s.packetDone p).nvmGo
    else
      let s := s.setReqQueue 2 { s.reqQueue 2 with blocked := true }
      State.nvmGo { s with access := { s.access with openPackets := Store.put s.access.openPackets 2 p } }

/-! ### BAR0 reads (R72, R73) -/

/-- BAR0 of every function is 128 MiB, with an 8-byte slot for each index and subindex (R40). -/
def bar0Size : Nat := 0x8000000
def bar0Offset (idx sub : Nat) : Nat := idx * 2048 + sub * 8

/-- Index, subindex and byte of the slot that a byte offset of BAR0 lies in. -/
def bar0Place (offset : Nat) : Nat × Nat × Nat := (offset / 2048, offset % 2048 / 8, offset % 8)

/-- The slot is one of a 64-bit value. -/
def wideSlot (e : Entry) : Bool := e.ty.size = some 8 || e.ty.size = none

/-- VISIBLE_STRING entries of at most 8 bytes: DEVICE_NAME and HW_VERSION. SW_VERSION and UCODE_VERSION may be longer (R41). -/
def shortString (idx : Nat) : Bool := idx == 0x1008 || idx == 0x1009

/-- A whole slot as it reads: a value, a string of an entry of at most 8 bytes, or the length of a longer one (R41). DEDUCED, log entry 21. -/
def State.slotRead (s : State) (r : Requester) (e : Entry) (idx sub : Nat) : Except Abort (List Byte) × State :=
  match s.readEntry r idx sub with
  | (.ok bs, s) =>
    (.ok (if e.ty.size.isSome then bs
      else if shortString idx then bs ++ List.replicate (8 - bs.length) 0 else leBytes 8 bs.length), s)
  | x => x

/-- The 64-bit value at a slot without any effect of its read: LUT_DATA does not advance. -/
def State.slotPeek (s : State) (r : Requester) (e : Entry) (idx sub : Nat) : Except Abort Nat :=
  match (s.slotRead r e idx sub).1 with
  | .ok bs => .ok (leNat bs)
  | .error a => .error a

/-- A BAR0 read that answers a value. -/
def State.bar0Answer (s : State) (f v : Nat) : State := s.emit (.bar0 f (w64 v))

/-- A refused BAR0 read returns zero and is recorded (R64). -/
def State.bar0Refuse (s : State) (f : Nat) (a : Abort) (idx sub : Nat) : State :=
  (s.accessError (.func f) a idx sub).bar0Answer f 0

/-- A read of the low word (R72): the live low word, with the high word kept in the read shadow. DEDUCED, log entry 25. -/
def State.lowRead (s : State) (f idx sub : Nat) : State :=
  let r := Requester.func f
  match lookup idx sub with
  | .error a => s.bar0Refuse f a idx sub
  | .ok e =>
    if wideSlot e then
      match s.slotPeek r e idx sub with
      | .error a => s.bar0Refuse f a idx sub
      | .ok v =>
        (s.modReq r (fun q => { q with shadow := some (keyOf idx sub, w32 (v / 2 ^ 32)) })).bar0Answer f (v % 2 ^ 32)
    else match s.readEntry r idx sub with
      | (.error a, s) => s.bar0Refuse f a idx sub
      | (.ok bs, s) => s.bar0Answer f (leNat bs)

/-- A read of the high word (R73): the shadow of the tagged slot, else the live high word. The high word of a narrower entry's
slot reads zero (R65). -/
def State.highRead (s : State) (f idx sub : Nat) : State :=
  let r := Requester.func f
  match lookup idx sub with
  | .error a => s.bar0Refuse f a idx sub
  | .ok e =>
    match s.readCheck r idx sub with
    | .error a => s.bar0Refuse f a idx sub
    | .ok _ =>
      if !wideSlot e then s.bar0Answer f 0
      else
        let x := s.slotRead r e idx sub
        let live_ : Nat := match x.1 with
          | .ok bs => leNat bs / 2 ^ 32
          | .error _ => 0
        match (s.req r).shadow with
        | some (k, w) => x.2.bar0Answer f (if k = keyOf idx sub then w.toNat else live_)
        | none => x.2.bar0Answer f live_

/-- A read of a whole slot. -/
def State.wholeRead (s : State) (f idx sub : Nat) : State :=
  match lookup idx sub with
  | .error a => s.bar0Refuse f a idx sub
  | .ok e =>
    match s.slotRead (.func f) e idx sub with
    | (.error a, s) => s.bar0Refuse f a idx sub
    | (.ok bs, s) => s.bar0Answer f (leNat bs)

/-- A BAR0 read of a part of a slot. -/
def State.partRead (s : State) (f idx sub : Nat) (part : Part) : State :=
  match part with
  | .whole => s.wholeRead f idx sub
  | .low => s.lowRead f idx sub
  | .high => s.highRead f idx sub

/-- The answer kept of a packet of a requester (R45). -/
def State.keptAnswer (s : State) (addr port seq : Nat) : Option KeptAnswer :=
  (Store.get s.access.kept [] (Requester.udp addr port).key).find? (·.seq == seq)

/-- A request taken from its queue is executed and answered; a packet that repeats one executed since it arrived is answered
again (R45). -/
def State.runRequest (s : State) (q : Nat) (r : Request) (env : Env) : State :=
  let single := fun (s : State) (x : Option (Option Abort) × State) => match x with
    | (some a, s') => if s'.boot.bootCount ≠ s.boot.bootCount then s' else (s'.answerRequest r a).nvmGo
    | (none, s') => (s'.setReqQueue q { s'.reqQueue q with blocked := true }).nvmGo
  match r with
  | .write who idx sub data => single s (s.runWrite who idx sub data env (.request q r))
  | .usdoWrite can _ idx sub data => single s (s.runWrite (.can can) idx sub data env (.request q r))
  | .read who idx sub part =>
    match who with
    | .func f => s.partRead f idx sub part
    | w => (s.readFor w idx sub).2
  | .usdoRead can client idx sub =>
    match s.readFor (.can can) idx sub with
    | (.ok bs, s) => s.usdoAnswer can client idx sub none bs
    | (.error a, s) => s.usdoAnswer can client idx sub (some a) []
  | .rpdo can vals =>
    let s := s.each vals (fun s x => (s.runWrite (.can can) (x.1 / 256) (x.1 % 256) x.2 env (.pdo q)).2)
    (if s.nvm.waiting.any (fun k => k.back == .pdo q) then s.setReqQueue q { s.reqQueue q with blocked := true } else s).nvmGo
  | .udp addr port seq w items =>
    match s.keptAnswer addr port seq with
    | some k => s.emit (.udp addr port k.bytes)
    | none => s.runPacket { addr := addr, port := port, seq := seq, isWrite := w, items := items, answers := [], left := 0 } env

/-- The head of a queue is served; the arbiter goes on from the next queue. -/
def State.serveQueue (s : State) (n : Nat) (env : Env) : State :=
  let q := s.reqQueue n
  match q.items with
  | [] => s
  | r :: rest =>
    let s := s.setReqQueue n { q with items := rest }
    State.runRequest { s with access := { s.access with arbiter := (n + 1) % 5 } } n r env

/-- The queue that the arbiter takes from next (R39). -/
def State.nextQueue (s : State) : Option Nat :=
  ((List.range 5).map (fun i => (s.access.arbiter + i) % 5)).find? s.servable

/-- QUEUED_REQUEST_SERVE. -/
def execQueuedRequestServe (t : Time) (q : Nat) (s : State) : Out :=
  inRange "queue" q 5 <| live t s (fun s =>
    if s.nextQueue = some q then s.draws.serveQueue q (s.freeEnv 0) else s)

/-- A request that finds its queue full is answered at once and not executed (R50). -/
def State.queueFull (s : State) (q : Nat) (r : Request) : State :=
  let s := s.bump (K.DICT_QUEUE_BUSY_COUNT + q) r.count
  match r with
  | .write who idx sub _ => s.accessError who A.busy idx sub
  | .read who idx sub _ =>
    let s := s.accessError who A.busy idx sub
    match who with
    | .func f => s.bar0Answer f 0
    | _ => s
  | .usdoRead can client idx sub | .usdoWrite can client idx sub _ =>
    (s.accessError (.can can) A.busy idx sub).usdoAnswer can client idx sub (some A.busy) []
  | .rpdo can vals => s.each vals (fun s x => s.accessError (.can can) A.busy (x.1 / 256) (x.1 % 256))
  | .udp addr port seq w items =>
    s.udpRefuse addr port
      (if w then 0x82 else 0x81) seq A.busy items

/-- A request enters its queue, and is served at once where nothing else waits to be served. DESIGN CHOICE, log entry 17. -/
def State.submit (s : State) (q : Nat) (r : Request) (env : Env) : State :=
  if 64 < s.queueDepth q + r.count then s.queueFull q r
  else
    let first : Bool := (List.range 5).all (fun n => !s.servable n)
    let old := s.reqQueue q
    let s := s.setReqQueue q { old with items := old.items ++ [r] }
    if first && old.items.isEmpty && s.servable q then s.serveQueue q env else s

/-! ### BAR0 writes (R65, R41, R50) -/

/-- The bytes of a BAR0 write that reach an entry: the full size exactly, or an aligned 4-byte or 8-byte write of it. -/
def bar0Data (size : Nat) (data : List Byte) : List Byte :=
  if (data.length = 4 ∧ size < 4) ∨ (data.length = 8 ∧ size < 8) then data.take size else data

/-- The code of a write that a slot refuses whatever its bytes: that of its access, else the length (R53, R65). -/
def State.slotCode (s : State) (r : Requester) (idx sub : Nat) : Abort :=
  match s.writeCheck r idx sub [] with
  | .error a => a
  | .ok _ => A.length

/-- A BAR0 write goes through a request queue: WO actions, RWP entries, and a LUT that is being copied. -/
def State.queued (s : State) (e : Entry) (key : Nat) : Bool := e.acc = .wo || e.acc = .rwp || s.lutBusy key

/-- A write of one entry as a requester makes it. -/
def State.requestWrite (s : State) (r : Requester) (idx sub : Nat) (data : List Byte) (env : Env) : State :=
  match r with
  | .func f =>
    if !s.funcReaches f then s
    else match lookup idx sub with
      | .error a => s.accessError r a idx sub
      | .ok e =>
        match e.ty.size with
        | none => s.accessError r (s.slotCode r idx sub) idx sub
        | some n =>
          let data := bar0Data n data
          if s.queued e (keyOf idx sub) then s.submit (queueOf r) (.write r idx sub data) env
          else match s.writeFor r idx sub data env with
            | .done _ s => s
            | .slot _ _ => s
  | _ => s.submit (queueOf r) (.write r idx sub data) env

/-- A write with the operands that no command names drawn. -/
def State.freeWrite (s : State) (r : Requester) (idx sub : Nat) (data : List Byte) (offset : Nat) : State :=
  s.draws.requestWrite r idx sub data (s.freeEnv offset)

/-- A write that starts at a byte. Over BAR0 it must start at byte 0 of its slot: at another byte of the entry it is recorded with
the code of its access or as a wrong length, and above the entry's size it is ignored and not recorded (R65). Over the other
paths the byte is an OFFSET, which a fixed-size value does not take (R424). -/
def State.writeAt (s : State) (r : Requester) (idx sub off : Nat) (data : List Byte) : State :=
  let size : Option Nat := match lookup idx sub with
    | .ok e => e.ty.size
    | .error _ => none
  if off = 0 then s.freeWrite r idx sub data 0
  else match r with
    | .func f =>
      if !s.funcReaches f || size.any (· ≤ off) then s else s.accessError r (s.slotCode r idx sub) idx sub
    | _ => s.freeWrite r idx sub (if size.isSome then [] else data) off

/-- A write of an entry by its key, as a value of a number of bytes. -/
def State.keyWrite (s : State) (r : Requester) (key : Nat) (data : List Byte) : State :=
  s.freeWrite r (key / 256) (key % 256) data 0

/-! ### BAR0 half accesses (R72 to R75) -/

/-- A read by a function that exists, at once, or from its request queue while the LUT it reaches is being copied. -/
def State.bar0Read (s : State) (f idx sub : Nat) (part : Part) : State :=
  if !s.funcReaches f then s
  else if s.lutBusy (keyOf idx sub) then
    s.draws.submit (queueOf (.func f)) (.read (.func f) idx sub part) (s.freeEnv 0)
  else s.partRead f idx sub part

/-- BAR0_LOW_WORD_READ. -/
def execBar0LowWordRead (t : Time) (f idx sub : Nat) (s : State) : Out :=
  inRange "F" f 256 <| inRange "index" idx 65536 <| inRange "sub" sub 256 <| live t s (fun s => s.bar0Read f idx sub .low)

/-- BAR0_HIGH_WORD_READ. -/
def execBar0HighWordRead (t : Time) (f idx sub : Nat) (s : State) : Out :=
  inRange "F" f 256 <| inRange "index" idx 65536 <| inRange "sub" sub 256 <| live t s (fun s => s.bar0Read f idx sub .high)

/-- A word staged for another slot is discarded by a low-word write, and recorded against that slot; no other write touches it (R75). DEDUCED, log entry 25. -/
def State.dropStage (s : State) (f key : Nat) : State :=
  let r := Requester.func f
  match (s.req r).stage with
  | some (k, _) =>
    if k = key then s
    else (s.modReq r (fun q => { q with stage := none })).accessError r A.store (k / 256) (k % 256)
  | none => s

/-- BAR0_LOW_WORD_WRITE: staged for a 64-bit entry, a write of its own for a narrower one. -/
def execBar0LowWordWrite (t : Time) (f idx sub : Nat) (word : W32) (s : State) : Out :=
  inRange "F" f 256 <| inRange "index" idx 65536 <| inRange "sub" sub 256 <| live t s (fun s =>
    let r := Requester.func f
    if !s.funcReaches f then s
    else
      let s := s.dropStage f (keyOf idx sub)
      match lookup idx sub with
      | .error a => s.accessError r a idx sub
      | .ok e =>
        if e.ty.size = some 8 then s.modReq r (fun q => { q with stage := some (keyOf idx sub, word) })
        else s.freeWrite r idx sub (leBytes 4 word.toNat) 0)

/-- BAR0_HIGH_WORD_WRITE: it commits both halves; with no low word staged for the slot, the present pending low word, which is 0
for a WO entry (DEDUCED, log entry 220). A string or DOMAIN slot refuses it (R41, R64); bytes above a narrower entry are
ignored and not recorded (R65). -/
def execBar0HighWordWrite (t : Time) (f idx sub : Nat) (word : W32) (s : State) : Out :=
  inRange "F" f 256 <| inRange "index" idx 65536 <| inRange "sub" sub 256 <| live t s (fun s =>
    let r := Requester.func f
    if !s.funcReaches f then s
    else match lookup idx sub with
      | .error a => s.accessError r a idx sub
      | .ok e =>
        if e.ty.size = none then s.accessError r (s.slotCode r idx sub) idx sub
        else if e.ty.size ≠ some 8 then s
        else
          let present : Nat := match s.slotPeek r e idx sub with
            | .ok v => v % 2 ^ 32
            | .error _ => 0
          let low : Nat := match (s.req r).stage with
            | some (k, w) => if k = keyOf idx sub then w.toNat else present
            | none => present
          let s := match (s.req r).stage with
            | some (k, _) => if k = keyOf idx sub then s.modReq r (fun q => { q with stage := none }) else s
            | none => s
          s.freeWrite r idx sub (leBytes 4 low ++ leBytes 4 word.toNat) 0)

/-! ### CANopen FD (R46 to R49) -/

/-- A controller takes part on its bus. -/
def CanNode.serves (c : CanNode) : Bool := c.on && !c.busOff && c.nmt ≠ .stopped

/-- Until READY every request is answered 0x0800_0022, while the device is out of reset and supplied (R391). -/
def State.booting (s : State) : Bool :=
  !s.pins.resetLow && !s.pins.supplyBad && !s.pins.tcxoLost && !s.power.off &&
    (s.boot.state == .booting || s.boot.state == .failed)

/-- A USDO request before READY: answered as busy, and recorded (R66, R391). -/
def State.usdoBusy (s : State) (can client idx sub : Nat) : State :=
  if bit (s.v K.CAN_CONFIG_CAN_ENABLE) can then
    (s.accessError (.can can) A.busy idx sub).emit (.usdo can client idx sub A.busy []) else s

/-- A meaning that answers before READY too. DESIGN CHOICE, log entry 49. -/
def served (t : Time) (s : State) (early f : State → State) : Out :=
  .next (if (s.at t).booting then early (s.at t) else if (s.at t).up then f (s.at t).awake else s.at t)

/-- USDO_UPLOAD: a new session, which ends the client's open one; FENCE enters no queue (R111). DEDUCED, log entry 16. -/
def execUsdoUpload (t : Time) (can client idx sub : Nat) (s : State) : Out :=
  inRange "CAN" can 2 <| inRange "node" client 128 <| inRange "index" idx 65536 <| inRange "sub" sub 256 <|
    served t s (fun s => s.usdoBusy can client idx sub) (fun s =>
    let c := s.canNode can
    if !c.serves then s
    else
      let s := s.setCan can { c with
        sessions := Store.put c.sessions client { idx := idx, sub := sub, isWrite := false, data := [], queued := true } }
      let q : Request := .usdoRead can client idx sub
      if keyOf idx sub = K.MAILBOX_FENCE_FENCE then s.draws.runRequest can q (s.freeEnv 0)
      else s.draws.submit can q (s.freeEnv 0))

/-- USDO_DOWNLOAD: the first segment opens a session, the last one completes the write. A segment without its session is a
command that is not valid. -/
def execUsdoDownload (t : Time) (can client idx sub : Nat) (data : List Byte) (first last : Bool) (s : State) : Out :=
  inRange "CAN" can 2 <| inRange "node" client 128 <| inRange "index" idx 65536 <| inRange "sub" sub 256 <|
    served t s (fun s => s.usdoBusy can client idx sub) (fun s =>
    let c := s.canNode can
    if !c.serves then s
    else
      let old : Option Session := if first then some { idx := idx, sub := sub, isWrite := true, data := [], queued := false }
        else Store.find? c.sessions client
      match old with
      | none => s.usdoAbort can client idx sub A.command
      | some x =>
        if !x.isWrite || x.queued || x.idx ≠ idx || x.sub ≠ sub then
          s.usdoAbort can client idx sub A.command
        else
          let x := { x with data := x.data ++ data, queued := last }
          let s := s.setCan can { c with sessions := Store.put c.sessions client x }
          if last then s.draws.submit can (.usdoWrite can client idx sub x.data) (s.freeEnv 0) else s)

/-- The node that an NMT command addresses: its node-ID, or 0 for every node. -/
def State.nmtAddressed (s : State) (can node : Nat) : Bool :=
  let c := s.canNode can
  c.on && !c.busOff && (node = 0 || node = s.v (K.CAN_CONFIG_CAN0_NODE_ID + can))

/-- An NMT state is entered. Sessions of a stopped node end. -/
def State.nmtEnter (s : State) (can : Nat) (n : Nmt) : State :=
  let c := s.canNode can
  s.setCan can { c with nmt := n, sessions := if n = .stopped then [] else c.sessions }

/-- NMT_START. -/
def execNmtStart (t : Time) (can node : Nat) (s : State) : Out :=
  inRange "CAN" can 2 <| inRange "node" node 128 <| live t s (fun s =>
    if s.nmtAddressed can node then s.nmtEnter can .operational else s)

/-- NMT_STOP. -/
def execNmtStop (t : Time) (can node : Nat) (s : State) : Out :=
  inRange "CAN" can 2 <| inRange "node" node 128 <| live t s (fun s =>
    if s.nmtAddressed can node then s.nmtEnter can .stopped else s)

/-- NMT_ENTER_PRE_OPERATIONAL. -/
def execNmtEnterPreOperational (t : Time) (can node : Nat) (s : State) : Out :=
  inRange "CAN" can 2 <| inRange "node" node 128 <| live t s (fun s =>
    if s.nmtAddressed can node then s.nmtEnter can .preOperational else s)

/-- The CANopen state of one controller is reset, and its boot-up message sent (CiA 1301). -/
def State.nmtReset (s : State) (can : Nat) : State :=
  (s.setCan can { s.canNode can with nmt := .preOperational, sessions := [], tpdos := [], lastHb := s.time }).emit (.canBootUp can)

/-- NMT_RESET_NODE. -/
def execNmtResetNode (t : Time) (can node : Nat) (s : State) : Out :=
  inRange "CAN" can 2 <| inRange "node" node 128 <| live t s (fun s =>
    if s.nmtAddressed can node then s.nmtReset can else s)

/-- NMT_RESET_COMMUNICATION. -/
def execNmtResetCommunication (t : Time) (can node : Nat) (s : State) : Out :=
  inRange "CAN" can 2 <| inRange "node" node 128 <| live t s (fun s =>
    if s.nmtAddressed can node then s.nmtReset can else s)

/-- CAN_HEARTBEAT. -/
def execCanHeartbeat (t : Time) (can : Nat) (s : State) : Out :=
  inRange "CAN" can 2 <| live t s (fun s => if s.heartbeatDue can then s.heartbeat can else s)

/-- CAN_BUS_OFF. -/
def execCanBusOff (t : Time) (can : Nat) (s : State) : Out :=
  inRange "CAN" can 2 <| live t s (fun s =>
    let c := s.canNode can
    if c.on && !c.busOff then (s.setCan can { c with busOff := true }).bumpSat K.CAN_CONFIG_BUS_OFF_COUNT 1 else s)

/-- CAN_BUS_OFF_RECOVERY. -/
def execCanBusOffRecovery (t : Time) (can : Nat) (s : State) : Out :=
  inRange "CAN" can 2 <| live t s (fun s => s.setCan can { s.canNode can with busOff := false })

/-- The entries mapped into a PDO, in order, with their sizes in bytes. -/
def State.pdoMap (s : State) (mapIdx : Nat) : List (Nat × Nat) :=
  (List.range (s.v (keyOf mapIdx 0))).map (fun i =>
    let w := s.v (keyOf mapIdx (i + 1))
    (mapKey w, w % 256 / 8))

/-- A PDO is in use: its COB-ID is valid, bit 31 clear, and what it maps is at most 64 bytes (R46). PRESUMED of CiA 1301, log
entry 219. -/
def State.pdoValid (s : State) (comIdx : Nat) : Bool :=
  !bit (s.v (keyOf comIdx 1)) 31 && decide (((s.pdoMap (comIdx + 0x200)).map Prod.snd).sum ≤ 64)

/-- A TPDO is due: the inhibit time since its last transmission is over, and the event timer has run out or a mapped value
has changed; the first transmission waits for neither. A transmission type below 0xFE asks for SYNC, which the Elvoz does not
provide. PRESUMED of CiA 1301, log entry 219. -/
def State.tpdoDue (s : State) (can pdo : Nat) (bytes : List Byte) : Bool :=
  let com := 0x1800 + pdo
  let event := s.v (keyOf com 5)
  decide (0xFE ≤ s.v (keyOf com 2)) && match Store.find? (s.canNode can).tpdos pdo with
    | none => true
    | some (last, old) =>
      decide (last + s.v (keyOf com 3) * 100000 ≤ s.time) &&
        (old != bytes || (event ≠ 0 && decide (last + event * 1000000 ≤ s.time)))

/-- Mapped values cut from the bytes of a PDO; none where the bytes are too few. -/
def cutPdo : List (Nat × Nat) → List Byte → Option (List (Nat × List Byte))
  | [], _ => some []
  | (k, n) :: rest, bs =>
    if bs.length < n then none else (cutPdo rest (bs.drop n)).map (fun l => (k, bs.take n) :: l)

/-- RPDO_RECEIVE: an operational node writes the mapped entries. DEDUCED, log entry 22. -/
def execRpdoReceive (t : Time) (can pdo : Nat) (data : List Byte) (s : State) : Out :=
  inRange "CAN" can 2 <| inRange "RPDO" pdo 8 <| live t s (fun s =>
    let c := s.canNode can
    if !c.serves || c.nmt ≠ .operational || !s.pdoValid (0x1400 + pdo) then s
    else match cutPdo (s.pdoMap (0x1600 + pdo)) data with
      | some vals => s.draws.submit can (.rpdo can vals) (s.freeEnv 0)
      | none => s)

/-- The bytes of a TPDO: its mapped values in order, zero for one that cannot be read. -/
def State.tpdoBytes (s : State) (can pdo : Nat) : List Byte × State :=
  (s.pdoMap (0x1A00 + pdo)).foldl (fun (acc : List Byte × State) e =>
    match acc.2.readEntry (.can can) (e.1 / 256) (e.1 % 256) with
    | (.ok bs, s) => (acc.1 ++ bs.take e.2, s)
    | (.error _, s) => (acc.1 ++ List.replicate e.2 0, s)) ([], s)

/-- TPDO_TRANSMIT: an operational node sends the mapped values, where the TPDO is due. -/
def execTpdoTransmit (t : Time) (can pdo : Nat) (s : State) : Out :=
  inRange "CAN" can 2 <| inRange "TPDO" pdo 8 <| live t s (fun s =>
    let c := s.canNode can
    if !c.serves || c.nmt ≠ .operational || !s.pdoValid (0x1800 + pdo) then s
    else
      let x := s.tpdoBytes can pdo
      if !s.tpdoDue can pdo x.1 then s
      else
        let n := x.2.canNode can
        (x.2.setCan can { n with tpdos := Store.put n.tpdos pdo (x.2.time, x.1) }).emit (.tpdo can pdo x.1))

/-! ### OD/UDP (R43 to R45, R424) -/

/-- The items at the front of a packet's body, up to a count, and the bytes left. -/
def parseItems (withData : Bool) : Nat → List Byte → List Item × List Byte
  | 0, bs => ([], bs)
  | n + 1, bs =>
    if bs.length < 16 then ([], bs)
    else
      let len := leNat ((bs.drop 8).take 2)
      let body := bs.drop 16
      let padded := if withData then (len + 3) / 4 * 4 else 0
      if body.length < padded then ([], bs)
      else
        let i : Item := {
          index := leNat (bs.take 2), sub := leNat ((bs.drop 2).take 1), type := leNat ((bs.drop 3).take 1)
          offset := leNat ((bs.drop 4).take 4), length := len, data := if withData then body.take len else [] }
        let x := parseItems withData n (body.drop padded)
        (i :: x.1, x.2)

/-- What a datagram is (R43). -/
inductive Datagram where
  | dropped
  | refused (opcode seq : Nat) (items : List Item)
  | echo (seq : Nat)
  | packet (isWrite : Bool) (seq : Nat) (items : List Item)

/-- A datagram taken apart. -/
def parseDatagram (bs : List Byte) : Datagram :=
  let op := leNat ((bs.drop 3).take 1)
  let seq := leNat ((bs.drop 4).take 4)
  let count := leNat ((bs.drop 8).take 2)
  if bs.length < 12 ∨ 1472 < bs.length ∨ leNat (bs.take 2) ≠ 0x485A ∨ leNat ((bs.drop 2).take 1) ≠ 1 ∨
      op = 0x81 ∨ op = 0x82 ∨ op = 0x90 then .dropped
  else
    let x := parseItems (op = 2) count (bs.drop 12)
    let fills : Bool := x.1.length == count && x.2.isEmpty
    let answer := if op = 1 then 0x81 else if op = 2 then 0x82 else op
    if op = 0x7F ∧ count = 0 ∧ fills then .echo seq
    else if (op = 1 ∨ op = 2) ∧ 1 ≤ count ∧ count ≤ 64 ∧ fills then .packet (op = 2) seq x.1
    else .refused answer seq x.1

/-- The FENCE items of a READ packet are read as it arrives: FENCE enters no request queue (R111). -/
def State.readFences (s : State) (r : Requester) (items : List Item) : List Item × State :=
  items.foldl (fun acc i =>
    if i.index = 0x2F10 ∧ i.sub = 1 then
      let y := acc.2.readItem r i
      (acc.1 ++ [{ i with answer := some y.1 }], y.2)
    else (acc.1 ++ [i], acc.2)) ([], s)

/-- A datagram for the port served. -/
def State.udpArrive (s : State) (addr port : Nat) (bs : List Byte) : State :=
  if s.v K.UDP_CONFIG_UDP_PORT = 0 then s
  else match parseDatagram bs with
    | .dropped => { s with access := { s.access with dropped := s.access.dropped + 1 } }
    | .refused op seq items => s.udpRefuse addr port op seq A.command items
    | .echo seq => s.emit (.udp addr port (udpHeader 0x7F seq 0 0))
    | .packet w seq items =>
      if s.booting then s.udpRefuse addr port (if w then 0x82 else 0x81) seq A.busy items
      else match s.keptAnswer addr port seq with
        | some k => s.emit (.udp addr port k.bytes)
        | none =>
          let x := if w then (items, s) else s.readFences (.udp addr port) items
          let q : Request := .udp addr port seq w x.1
          if q.count = 0 then x.2.draws.runRequest 2 q (x.2.freeEnv 0) else x.2.draws.submit 2 q (x.2.freeEnv 0)

/-- A datagram on the management port, before READY too. -/
def udpMeaning (t : Time) (addr port : Nat) (bs : List Byte) (s : State) : Out :=
  served t s (fun s => s.udpArrive addr port bs) (fun s => s.udpArrive addr port bs)

/-- OD_UDP_READ. -/
def execOdUdpRead (t : Time) (addr port : Nat) (bytes : List Byte) (s : State) : Out :=
  inRange "address" addr (2 ^ 32) <| inRange "port" port 65536 <| udpMeaning t addr port bytes s

/-- OD_UDP_WRITE. -/
def execOdUdpWrite (t : Time) (addr port : Nat) (bytes : List Byte) (s : State) : Out :=
  inRange "address" addr (2 ^ 32) <| inRange "port" port 65536 <| udpMeaning t addr port bytes s

/-- OD_UDP_ECHO. -/
def execOdUdpEcho (t : Time) (addr port : Nat) (bytes : List Byte) (s : State) : Out :=
  inRange "address" addr (2 ^ 32) <| inRange "port" port 65536 <| udpMeaning t addr port bytes s

/-- OD_UDP_BAD_DATAGRAM. -/
def execOdUdpBadDatagram (t : Time) (addr port : Nat) (bytes : List Byte) (s : State) : Out :=
  inRange "address" addr (2 ^ 32) <| inRange "port" port 65536 <| udpMeaning t addr port bytes s

/-! ### BAR2 (R84 to R86) -/

/-- A refused BAR2 access, recorded against BAR2_SELECT and its aperture. -/
def State.bar2Error (s : State) (f ap : Nat) (a : Option Abort) : State :=
  match a with
  | some x => s.accessError (.func f) x 0x2057 ap
  | none => s

/-- Bytes of a number with some of them replaced. -/
def mergeBytes (v size off : Nat) (data : List Byte) : Nat :=
  let old := leBytes size v
  leNat (old.take off ++ data ++ old.drop (off + data.length))

/-- Aperture 0: the mailbox and the doorbells (Table 4-9). DESIGN CHOICE, log entry 197. -/
def State.writeMailbox (s : State) (f o : Nat) (data : List Byte) : State :=
  if o + data.length ≤ 0x800 then
    { s with host := { s.host with mailbox := s.host.mailbox.writeBytes (f * 4096 + o) data } }
  else if o < 0x800 then s.bar2Error f 0 (some A.length)
  else if o < 0x1000 then s.bar2Error f 0 (some A.readOnly)
  else if 0x10000 ≤ o ∧ o < 0x10400 then
    if data.length ≠ 4 ∨ o % 8 ≠ 0 then s
    else match s.ringOf f ((o - 0x10000) / 8) with
      | some n => s.doorbell n (w32 (leNat data))
      | none => s
  else s.bar2Error f 0 (some A.index)

/-- Size of a table in bytes, and of one of its rows (Tables 4-8, 13-4, 10-4, 11-7, 10-9, 15-5, R363); none for code 0. -/
def State.tableSize (s : State) (code : Nat) : Nat × Nat :=
  match code with
  | 1 => (0x200000, 64)
  | 2 => (24 * 0x4000, 8)
  | 3 => (8 * s.pool.total, 8)
  | 4 => (0x1000000, 16)
  | 5 => (0x20000, 32)
  | 6 => (0x1000, 8)
  | 7 => (0x4000000, 1)
  | _ => (0, 1)

/-- A byte of a table. -/
def State.tableByte (s : State) (code off : Nat) : Byte :=
  match code with
  | 1 => byteOf ((s.ring (off / 64)).row / 2 ^ (8 * (off % 64)))
  | 2 =>
    let e := s.ethPort (off / 0x4000 / 4 * 16 + off / 0x4000 % 4)
    let i := off % 0x2000 / 8
    let w := if off % 0x4000 < 0x2000 then e.pendingEntry i else match e.active.entries[i]? with
      | some g => g.1 * 2 ^ 32 + g.2
      | none => 0
    byteOf (w / 2 ^ (8 * (off % 8)))
  | 3 => byteOf (s.bufRow (off / 8) / 2 ^ (8 * (off % 8)))
  | 4 => (s.dram.lists.readBytes off 1).headD 0
  | 5 => byteOf (s.fbRow (off / 32) / 2 ^ (8 * (off % 32)))
  | 6 => byteOf (s.faultRowWord (off / 8) / 2 ^ (8 * (off % 8)))
  | 7 => s.moraine.byteAt off
  | _ => 0

/-- A function's right to a row of a table: a virtual function reaches rows of its own rings and channels (R85). -/
def State.tableRight (s : State) (f code off : Nat) : Bool :=
  f == 0 || (match code with
    | 1 => (s.ring (off / 64)).owner == some f
    | 4 => (s.chan (off / 0x10000)).owner == f
    | _ => true)

/-- A word of a table that CFG_SHADOW_LOST left without a value lies among its bytes (R83). -/
def State.tableLost (s : State) (code off n : Nat) : Bool :=
  s.dict.lostCells.any (fun c => (c.1 == code || (c.1 == 0 && code == 4)) && c.2 * 4 < off + n && off < c.2 * 4 + 4)

/-- What a BAR2 read answers: bytes of the mailbox, CI of a ring at its doorbell, or bytes of the table that the aperture
shows; zeros where the read is refused, which is recorded (R84, R86, R101, Table 4-9). No row of the command table is such a
read: it is the host's view of the state. -/
def State.bar2Read (s : State) (f offset n : Nat) : List Byte × State :=
  let ap := offset / 0x4000000
  let o := offset % 0x4000000
  let zeros := List.replicate n (0 : Byte)
  if !s.funcReaches f then (zeros, s)
  else if ap = 0 then
    if o + n ≤ 0x1000 then (s.host.mailbox.readBytes (f * 4096 + o) n, s)
    else if 0x10000 ≤ o ∧ o < 0x10400 then
      (if n ≠ 4 ∨ o % 8 ≠ 0 then zeros
       else match s.ringOf f ((o - 0x10000) / 8) with
        | some r => leBytes 4 (s.ring r).ci.toNat
        | none => zeros, s)
    else (zeros, s.bar2Error f 0 (some A.index))
  else
    let w := s.sel (.func f) (K.BAR2_SELECT_APERTURE + ap - 1)
    let code := bits w 31 24
    let off := bits w 15 0 * 0x4000000 + o
    if (s.tableSize code).1 < off + n then (zeros, s.bar2Error f ap (some A.index))
    else if !s.tableRight f code off then (zeros, s.bar2Error f ap (some A.right))
    else if s.tableLost code off n then (zeros, s.bar2Error f ap (some A.hardware))
    else ((List.range n).map (fun i => s.tableByte code (off + i)), s)

/-- A write into the table that an aperture shows, at an offset of the table. DEDUCED, log entries 23 and 199. -/
def State.writeTable (s : State) (f code off : Nat) (data : List Byte) : Option Abort × State :=
  let n := data.length
  match code with
  | 1 =>
    let r := off / 64
    if 0x200000 ≤ off then (some A.index, s)
    else if 64 < off % 64 + n then (some A.length, s)
    else if !s.mayWriteRing f r then (some A.right, s)
    else
      let x := s.writeRingRow r (mergeBytes (s.ring r).row 64 (off % 64) data)
      (x.2, x.1)
  | 2 =>
    let p := off / 0x4000 / 4 * 16 + off / 0x4000 % 4
    let i := off % 0x2000 / 8
    if 24 * 0x4000 ≤ off then (some A.index, s)
    else if 0x2000 ≤ off % 0x4000 then (some A.readOnly, s)
    else if 8 < off % 8 + n then (some A.length, s)
    else
      let e := s.ethPort p
      (none, s.setEth p { e with
        pendingList := Store.put e.pendingList i (w64 (mergeBytes (e.pendingEntry i) 8 (off % 8) data)) })
  | 3 => (if 8 * s.pool.total ≤ off then some A.index else some A.readOnly, s)
  | 4 =>
    if 0x1000000 ≤ off then (some A.index, s)
    else if 16 < off % 16 + n then (some A.length, s)
    else if f ≠ 0 ∧ (s.chan (off / 0x10000)).owner ≠ f then (some A.right, s)
    else (none, { s with dram := { s.dram with lists := s.dram.lists.writeBytes off data } })
  | 6 =>
    if 0x1000 ≤ off then (some A.index, s)
    else if 8 < off % 8 + n then (some A.length, s)
    else if 510 ≤ off / 8 then (some A.value, s)
    else
      let v := mergeBytes (s.faultRowWord (off / 8)) 8 (off % 8) data
      let x := s.writeFaultRow (off / 8) v
      (x.2, x.1)
  | 5 | 7 => (if (s.tableSize code).1 ≤ off then some A.index else some A.readOnly, s)
  | _ => (some A.index, s)

/-- BAR2_TABLE_WRITE. -/
def execBar2TableWrite (t : Time) (f offset : Nat) (data : List Byte) (s : State) : Out :=
  inRange "F" f 256 <| inRange "BAR2" offset 0x10000000 <| live t s (fun s =>
    let ap := offset / 0x4000000
    let o := offset % 0x4000000
    if !s.funcReaches f then s
    else if s.fatal then s.bar2Error f ap (some A.busy)
    else if ap = 0 then s.writeMailbox f o data
    else
      let w := s.sel (.func f) (K.BAR2_SELECT_APERTURE + ap - 1)
      let x := s.writeTable f (bits w 31 24) (bits w 15 0 * 0x4000000 + o) data
      x.2.bar2Error f ap x.1)

/-- BAR2_SELECT_WRITE. -/
def execBar2SelectWrite (t : Time) (f sub : Nat) (data : List Byte) (s : State) : Out :=
  inRange "F" f 256 <| inRange "sub" sub 256 <| live t s (fun s => s.freeWrite (.func f) 0x2057 sub data 0)

/-! ### Configuration parity (R81 to R83) -/

/-- CFG_PARITY_SWEEP: a complete sweep is counted, and a mismatch that a sweep or a use has found is raised. The word is restored
also where the fault's row names another reaction than a block reset. DEDUCED, log entry 221. -/
def execCfgParitySweep (t : Time) (found : ParityCheck) (s : State) : Out :=
  live t s (fun s =>
    let s := if found.swept then s.bump K.CFG_PARITY_STATUS_SWEEP_COUNT 1 else s
    match found.bad with
    | none => s
    | some x =>
      let s := (s.bumpSat K.CFG_PARITY_STATUS_PARITY_EVENTS 1).setRo K.CFG_PARITY_STATUS_LAST_WORD x.word
      let s := s.setRo K.CFG_PARITY_STATUS_LAST_PD x.pd
      let s' := s.raise F.CFG_PARITY
        { inst := x.word, detail := [x.word, x.pd], pd := some x.pd, keys := x.keys, cells := x.cells }
      if s'.blockReset = s.blockReset then
        { s' with blockReset := s.blockReset ++ [{ pd := x.pd, restart := false, keys := x.keys, cells := x.cells }] }
      else s')

/-- Work in flight on a block-reset cluster is repeated, as for a failed unit. -/
def State.repeatCluster (s : State) (c : Nat) : State :=
  let s := s.each [UnitKind.px, .ee, .ms, .df] (fun s k =>
    s.each ((List.range k.perCluster).map (fun i => c * k.perCluster + i)) (fun s n =>
      let u := s.unit k n
      match u.grant with
      | some g =>
        let s := s.setUnit k n { u with grant := none }
        if (s.chan g.chan).working || g.verify then s.repeatGrant k n g else s
      | none => s))
  s.serveEngines

/-- The words of an uncorrectable shadow copy hold no value until reset: reads are refused, and what a unit would find there is
free. -/
def State.loseWords (s : State) (x : BlockReset) : State :=
  let s := s.each x.keys (fun s k => (s.draws.setPv k (Config.lostWord s.free)).setV k (Config.lostWord s.free))
  { s with dict := { s.dict with lost := s.dict.lost ++ x.keys, lostCells := s.dict.lostCells ++ x.cells } }

/-- BLOCK_RESET_COMPLETE: the values are restored from the shadow copy, and work in flight on units that were reset is repeated.
Where the copy is uncorrectable, the words hold no value until reset. DEDUCED, log entry 50. -/
def execBlockResetComplete (t : Time) (pd : Nat) (shadowOk : Bool) (s : State) : Out :=
  inRange "PD" pd 32 <| live t s (fun s => match s.blockReset.find? (·.pd == pd) with
    | none => s
    | some x =>
      let s := { s with blockReset := s.blockReset.erase x }
      if shadowOk then (if x.restart && pd < 8 then s.repeatCluster pd else s)
      else (s.loseWords x).raise F.CFG_SHADOW_LOST { detail := x.keys })

end Sys2Proof.Machine
end

