-- ==== Sys2Proof/Machine/Actions.lean ====
section
/-! DEFINITION. Commands that are writes of one entry by one requester: what such a write does is the same on every path (R33), and a
controller or an address makes it through its request queue. -/

namespace Sys2Proof.Machine

/-- A write by a requester of an entry of the dictionary. DESIGN CHOICE, log entry 19. -/
def State.act (s : State) (r : Requester) (key : Nat) (data : List Byte) : State := s.keyWrite r key data

/-- A one-byte command code written to an entry. -/
def State.code (s : State) (r : Requester) (key v : Nat) : State := s.keyWrite r key (leBytes 1 v)

/-- A write with some of its outside operands named by the command. -/
def State.envWrite (s : State) (r : Requester) (key : Nat) (data : List Byte) (f : Env → Env) : State :=
  s.draws.requestWrite r (key / 256) (key % 256) data (f (s.freeEnv 0))

/-- Subindex of LUT_DATA and of LUT_COMMIT in a LUT's object. -/
def lutDataSub (obj : Nat) : Nat := if obj = 4 then 0x06 else 0x14
def lutCommitSub (obj : Nat) : Nat := if obj = 4 then 0x07 else 0x19

/-! ### The dictionary -/

/-- DICT_WRITE: a write of any entry (R33). -/
def execDictWrite (t : Time) (r : Requester) (idx sub : Nat) (data : SlotBytes) (s : State) : Out :=
  inRange "requester" (Requester.place r) 256 <| inRange "index" idx 65536 <| inRange "sub" sub 256 <|
    live t s (fun s => s.writeAt r idx sub data.off data.bytes)

/-- RWP_WRITE: the value is answered after its slot write (R56). -/
def execRwpWrite (t : Time) (r : Requester) (idx sub : Nat) (data : List Byte) (s : State) : Out :=
  inRange "requester" (Requester.place r) 256 <| inRange "index" idx 65536 <| inRange "sub" sub 256 <|
    live t s (fun s => s.freeWrite r idx sub data 0)

/-- RESTORE_DEFAULTS (R30). -/
def execRestoreDefaults (t : Time) (r : Requester) (data : List Byte) (s : State) : Out :=
  inRange "requester" (Requester.place r) 256 <|
    live t s (fun s => s.act r K.RESTORE_DEFAULTS data)

/-- HEARTBEAT_TIME_WRITE (Table 2-2). -/
def execHeartbeatTimeWrite (t : Time) (r : Requester) (data : List Byte) (s : State) : Out :=
  inRange "requester" (Requester.place r) 256 <|
    live t s (fun s => s.act r K.HEARTBEAT_TIME data)

/-- LAST_ACCESS_ERROR_CLEAR (R66). -/
def execLastAccessErrorClear (t : Time) (r : Requester) (data : List Byte) (s : State) : Out :=
  inRange "requester" (Requester.place r) 256 <|
    live t s (fun s => s.act r K.LAST_ACCESS_ERROR_CLEAR data)

/-- WARM_RESET (R36, Table 17-4). -/
def execWarmReset (t : Time) (r : Requester) (data : List Byte) (b : BootFacts) (s : State) : Out :=
  inRange "requester" (Requester.place r) 256 <|
    live t s (fun s => s.envWrite r K.BOOT_STATUS_WARM_RESET data (fun e => { e with facts := b }))

/-- SNAPSHOT_TRIGGER (R76). -/
def execSnapshotTrigger (t : Time) (r : Requester) (data : List Byte) (s : State) : Out :=
  inRange "requester" (Requester.place r) 256 <|
    live t s (fun s => s.act r K.SNAPSHOT_TRIGGER data)

/-- SNAP_AT_WRITE (R78). -/
def execSnapAtWrite (t : Time) (r : Requester) (data : List Byte) (s : State) : Out :=
  inRange "requester" (Requester.place r) 256 <|
    live t s (fun s => s.act r K.SNAPSHOT_SNAP_AT data)

/-- SNAPSHOT_SCHEDULED: TIME_NOW has reached SNAP_AT (R78). -/
def execSnapshotScheduled (t : Time) (s : State) : Out :=
  live t s (fun s => if s.snapDue then s.snapFire else s)

/-! ### Functions, channels and rings -/

/-- RING_GRANT (R90). -/
def execRingGrant (t : Time) (r : Requester) (data : List Byte) (s : State) : Out :=
  inRange "requester" (Requester.place r) 256 <|
    live t s (fun s => s.act r K.RING_GRANT_GRANT data)

/-- RING_REVOKE: a GRANT with REVOKE 1 (R90). -/
def execRingRevoke (t : Time) (r : Requester) (data : List Byte) (s : State) : Out :=
  inRange "requester" (Requester.place r) 256 <|
    live t s (fun s => s.act r K.RING_GRANT_GRANT data)

/-- CH_OWNER_WRITE (R91). -/
def execChOwnerWrite (t : Time) (r : Requester) (ch : Nat) (data : List Byte) (s : State) : Out :=
  inRange "requester" (Requester.place r) 256 <| inRange "CH" ch 256 <|
    live t s (fun s => s.act r (chKey ch K.CH_STATE_OWNER) data)

/-- CHANNEL_OPEN: COMMAND 1 (R96). -/
def execChannelOpen (t : Time) (r : Requester) (ch : Nat) (s : State) : Out :=
  inRange "requester" (Requester.place r) 256 <| inRange "CH" ch 256 <|
    live t s (fun s => s.code r (chKey ch K.CH_STATE_COMMAND) 1)

/-- CHANNEL_DRAIN: COMMAND 2 (R93). -/
def execChannelDrain (t : Time) (r : Requester) (ch : Nat) (s : State) : Out :=
  inRange "requester" (Requester.place r) 256 <| inRange "CH" ch 256 <|
    live t s (fun s => s.code r (chKey ch K.CH_STATE_COMMAND) 2)

/-- CHANNEL_ABORT: COMMAND 3 (R94). -/
def execChannelAbort (t : Time) (r : Requester) (ch : Nat) (s : State) : Out :=
  inRange "requester" (Requester.place r) 256 <| inRange "CH" ch 256 <|
    live t s (fun s => s.code r (chKey ch K.CH_STATE_COMMAND) 3)

/-- A fence's answer: a number of 4 bytes. DEDUCED, log entry 26. -/
def State.fenceRead (s : State) (r : Requester) : State :=
  match s.readFor r 0x2F10 0x01 with
  | (.ok bs, s) => s.emit (.fence r (w32 (leNat bs)))
  | (.error _, s) => s

/-- MAILBOX_FENCE_READ, which enters no queue and which the firmware makes too (R111). -/
def execMailboxFenceRead (t : Time) (r : Requester) (s : State) : Out :=
  inRange "requester" (Requester.readPlace r) 256 <|
    live t s (fun s => match r with
      | .func f => if s.funcReaches f then s.fenceRead r else s
      | _ => s.fenceRead r)

/-! ### Look-up tables and regions -/

/-- LUT_DATA_WRITE: four entries of the pending image (R135, R136). -/
def execLutDataWrite (t : Time) (r : Requester) (ch obj : Nat) (data : List Byte) (s : State) : Out :=
  inRange "requester" (Requester.place r) 256 <| inRange "CH" ch 256 <| inRange "object" obj 64 <|
    live t s (fun s => s.freeWrite r (0x4000 + 64 * ch + obj) (lutDataSub obj) data 0)

/-- LUT_DATA_READ: a whole read, which advances LUT_INDEX; during a copy it waits in its request queue (R136). -/
def execLutDataRead (t : Time) (r : Requester) (ch obj : Nat) (s : State) : Out :=
  inRange "requester" (Requester.place r) 256 <| inRange "CH" ch 256 <| inRange "object" obj 64 <|
    live t s (fun s => match r with
      | .func f => s.bar0Read f (0x4000 + 64 * ch + obj) (lutDataSub obj) .whole
      | _ => s.draws.submit (queueOf r) (.read r (0x4000 + 64 * ch + obj) (lutDataSub obj) .whole) (s.freeEnv 0))

/-- LUT_COMMIT (R136). -/
def execLutCommit (t : Time) (r : Requester) (ch obj : Nat) (s : State) : Out :=
  inRange "requester" (Requester.place r) 256 <| inRange "CH" ch 256 <| inRange "object" obj 64 <|
    live t s (fun s => s.freeWrite r (0x4000 + 64 * ch + obj) (lutCommitSub obj) (leBytes 1 1) 0)

/-- ROI_COMMIT (R208). -/
def execRoiCommit (t : Time) (r : Requester) (ch : Nat) (s : State) : Out :=
  inRange "requester" (Requester.place r) 256 <| inRange "CH" ch 256 <|
    live t s (fun s => s.code r (chKey ch K.CH_ROI_ROI_COMMIT) 1)

/-! ### Frame buffers, time and launch -/

/-- EXPORT: COMMAND 1 of REF_EXPORT (R246). -/
def execExport (t : Time) (r : Requester) (s : State) : Out :=
  inRange "requester" (Requester.place r) 256 <|
    live t s (fun s => s.code r K.REF_EXPORT_COMMAND 1)

/-- RETURN: COMMAND 2 of REF_EXPORT (R246). -/
def execReturn (t : Time) (r : Requester) (s : State) : Out :=
  inRange "requester" (Requester.place r) 256 <|
    live t s (fun s => s.code r K.REF_EXPORT_COMMAND 2)

/-- TOD_SET (R254). -/
def execTodSet (t : Time) (r : Requester) (data : List Byte) (s : State) : Out :=
  inRange "requester" (Requester.place r) 256 <|
    live t s (fun s => s.act r K.TIME_BASE_TOD_SET data)

/-- LIST_WR_WRITE (R261). -/
def execListWrWrite (t : Time) (r : Requester) (ch : Nat) (data : List Byte) (s : State) : Out :=
  inRange "requester" (Requester.place r) 256 <| inRange "CH" ch 256 <|
    live t s (fun s => s.act r (chKey ch K.CH_LAUNCH_LIST_WR) data)

/-- REC_COMMAND_START: COMMAND 1 of REC_INPUT (R273). -/
def execRecCommandStart (t : Time) (r : Requester) (s : State) : Out :=
  inRange "requester" (Requester.place r) 256 <|
    live t s (fun s => s.code r K.REC_INPUT_COMMAND 1)

/-- REC_COMMAND_STOP: COMMAND 2 of REC_INPUT (R273). -/
def execRecCommandStop (t : Time) (r : Requester) (s : State) : Out :=
  inRange "requester" (Requester.place r) 256 <|
    live t s (fun s => s.code r K.REC_INPUT_COMMAND 2)

/-- REC_SOURCE_WRITE (R273). -/
def execRecSourceWrite (t : Time) (r : Requester) (data : List Byte) (s : State) : Out :=
  inRange "requester" (Requester.place r) 256 <|
    live t s (fun s => s.act r K.REC_INPUT_REC_SOURCE data)

/-- READMIT (R298). -/
def execReadmit (t : Time) (r : Requester) (data : List Byte) (s : State) : Out :=
  inRange "requester" (Requester.place r) 256 <|
    live t s (fun s => s.act r K.ARRAY_CMD_READMIT data)

/-! ### Egress and magazines -/

/-- EQ_CONFIG_WRITE: a setting of the queue that the requester selects (R302). -/
def execEqConfigWrite (t : Time) (r : Requester) (sub : Nat) (data : List Byte) (s : State) : Out :=
  inRange "requester" (Requester.place r) 256 <| inRange "sub" sub 256 <|
    live t s (fun s => s.freeWrite r 0x2A41 sub data 0)

/-- OFFLOAD_START: OFFLOAD_CMD 1 (R314). -/
def execOffloadStart (t : Time) (r : Requester) (s : State) : Out :=
  inRange "requester" (Requester.place r) 256 <|
    live t s (fun s => s.code r K.EQ_CONFIG_OFFLOAD_CMD 1)

/-- OFFLOAD_STOP: OFFLOAD_CMD 2 (R314). -/
def execOffloadStop (t : Time) (r : Requester) (s : State) : Out :=
  inRange "requester" (Requester.place r) 256 <|
    live t s (fun s => s.code r K.EQ_CONFIG_OFFLOAD_CMD 2)

/-- GATE_COMMIT of a port of a quad, named as quad × 16 + port (R309). -/
def execGateCommit (t : Time) (r : Requester) (port : Nat) (s : State) : Out :=
  inRange "requester" (Requester.place r) 256 <| inRange "port" (port % 16) 4 <| inRange "port" (port / 16) 6 <|
    live t s (fun s => s.freeWrite r (0x2A00 + port / 16 * 4 + port % 16) 0x0B (leBytes 1 1) 0)

/-- CLIP_OPEN: CLIP_CMD 1 (R318). -/
def execClipOpen (t : Time) (r : Requester) (ch : Nat) (s : State) : Out :=
  inRange "requester" (Requester.place r) 256 <| inRange "CH" ch 256 <|
    live t s (fun s => s.code r (chKey ch K.CH_MAG_CLIP_CMD) 1)

/-- CLIP_CLOSE: CLIP_CMD 2 (R318). -/
def execClipClose (t : Time) (r : Requester) (ch : Nat) (s : State) : Out :=
  inRange "requester" (Requester.place r) 256 <| inRange "CH" ch 256 <|
    live t s (fun s => s.code r (chKey ch K.CH_MAG_CLIP_CMD) 2)

/-- EXTENT_ADD of a magazine (R318). -/
def execExtentAdd (t : Time) (r : Requester) (ch mag : Nat) (data : List Byte) (s : State) : Out :=
  inRange "requester" (Requester.place r) 256 <| inRange "CH" ch 256 <| inRange "MAG" mag 2 <|
    live t s (fun s => s.act r (chKey ch (K.CH_MAG_EXTENT_ADD + mag)) data)

/-- CLIP_WRITE (R318). -/
def execClipWrite (t : Time) (r : Requester) (ch : Nat) (data : List Byte) (s : State) : Out :=
  inRange "requester" (Requester.place r) 256 <| inRange "CH" ch 256 <|
    live t s (fun s => s.act r (chKey ch K.CH_MAG_CLIP) data)

/-! ### DRAM, DMA, interrupts, faults and the dump -/

/-- DRAM_ERR_LOG_CLEAR (R337). -/
def execDramErrLogClear (t : Time) (r : Requester) (s : State) : Out :=
  inRange "requester" (Requester.place r) 256 <|
    live t s (fun s => s.code r K.DRAM_ERR_LOG_CLEAR 1)

/-- DMA_START: CONTROL 1 of a DMA channel (R340). -/
def execDmaStart (t : Time) (r : Requester) (dm : Nat) (first : Option (BitVec 256)) (s : State) : Out :=
  inRange "requester" (Requester.place r) 256 <| inRange "DM" dm 64 <|
    live t s (fun s => s.envWrite r (keyOf (0x2700 + dm) 0x06) (leBytes 1 1) (fun e => { e with desc := first }))

/-- DMA_STOP: CONTROL 2 (R342). -/
def execDmaStop (t : Time) (r : Requester) (dm : Nat) (s : State) : Out :=
  inRange "requester" (Requester.place r) 256 <| inRange "DM" dm 64 <|
    live t s (fun s => s.code r (keyOf (0x2700 + dm) 0x06) 2)

/-- INT_SOURCE_WRITE: a field of the source that the requester selects (R349). -/
def execIntSourceWrite (t : Time) (r : Requester) (sub : Nat) (data : List Byte) (s : State) : Out :=
  inRange "requester" (Requester.place r) 256 <| inRange "sub" sub 256 <|
    live t s (fun s => s.freeWrite r 0x2501 sub data 0)

/-- FAULT_ACK (R352). -/
def execFaultAck (t : Time) (r : Requester) (data : List Byte) (s : State) : Out :=
  inRange "requester" (Requester.place r) 256 <|
    live t s (fun s => s.act r K.FAULT_STATUS_ACK data)

/-- FAULT_ROW_WRITE: rows 0 to 254 at 0x2403 and the rest at 0x2404 (R354). -/
def execFaultRowWrite (t : Time) (r : Requester) (row : Nat) (data : List Byte) (s : State) : Out :=
  inRange "requester" (Requester.place r) 256 <| inRange "row" row 510 <|
    live t s (fun s =>
      if row < 255 then s.freeWrite r 0x2403 (row + 1) data 0 else s.freeWrite r 0x2404 (row - 254) data 0)

/-- FAULT_LOG_CLEAR (R358). -/
def execFaultLogClear (t : Time) (r : Requester) (s : State) : Out :=
  inRange "requester" (Requester.place r) 256 <|
    live t s (fun s => s.code r K.FAULT_LOG_CLEAR 1)

/-- DUMP_NOW: COMMAND 1 of MORAINE (R362). -/
def execDumpNow (t : Time) (r : Requester) (s : State) : Out :=
  inRange "requester" (Requester.place r) 256 <|
    live t s (fun s => s.code r K.MORAINE_COMMAND 1)

/-- RELEASE: COMMAND 2 of MORAINE (R363). -/
def execRelease (t : Time) (r : Requester) (s : State) : Out :=
  inRange "requester" (Requester.place r) 256 <|
    live t s (fun s => s.code r K.MORAINE_COMMAND 2)

/-! ### Power, flash and patches -/

/-- ENTER_RIME: TARGET 2 (R374). -/
def execEnterRime (t : Time) (r : Requester) (s : State) : Out :=
  inRange "requester" (Requester.place r) 256 <|
    live t s (fun s => s.code r K.POWER_CONFIG_TARGET 2)

/-- ENTER_DRIFT: TARGET 3 (R374). -/
def execEnterDrift (t : Time) (r : Requester) (s : State) : Out :=
  inRange "requester" (Requester.place r) 256 <|
    live t s (fun s => s.code r K.POWER_CONFIG_TARGET 3)

/-- ENTER_NEVE: TARGET 4 (R374). -/
def execEnterNeve (t : Time) (r : Requester) (s : State) : Out :=
  inRange "requester" (Requester.place r) 256 <|
    live t s (fun s => s.code r K.POWER_CONFIG_TARGET 4)

/-- ENTER_GLACIER: TARGET 5 (R374). -/
def execEnterGlacier (t : Time) (r : Requester) (s : State) : Out :=
  inRange "requester" (Requester.place r) 256 <|
    live t s (fun s => s.code r K.POWER_CONFIG_TARGET 5)

/-- FLASH_BEGIN: COMMAND 1 of FLASH_UPDATE (R395). -/
def execFlashBegin (t : Time) (r : Requester) (s : State) : Out :=
  inRange "requester" (Requester.place r) 256 <|
    live t s (fun s => s.code r K.FLASH_UPDATE_COMMAND 1)

/-- FLASH_DATA_WRITE: bytes of DATA from an offset (R395). -/
def execFlashDataWrite (t : Time) (r : Requester) (offset : Nat) (data : List Byte) (s : State) : Out :=
  inRange "requester" (Requester.place r) 256 <|
    live t s (fun s => s.freeWrite r (K.FLASH_UPDATE_DATA / 256) (K.FLASH_UPDATE_DATA % 256) data offset)

/-- FLASH_FETCH: COMMAND 5 (R395). -/
def execFlashFetch (t : Time) (r : Requester) (s : State) : Out :=
  inRange "requester" (Requester.place r) 256 <|
    live t s (fun s => s.code r K.FLASH_UPDATE_COMMAND 5)

/-- FLASH_COMMIT: COMMAND 2, with what the read-back finds (R396). -/
def execFlashCommit (t : Time) (r : Requester) (readBackSame : Bool) (s : State) : Out :=
  inRange "requester" (Requester.place r) 256 <|
    live t s (fun s => s.envWrite r K.FLASH_UPDATE_COMMAND (leBytes 1 2) (fun e => { e with same := readBackSame }))

/-- FLASH_ABORT: COMMAND 3 (R395). -/
def execFlashAbort (t : Time) (r : Requester) (s : State) : Out :=
  inRange "requester" (Requester.place r) 256 <|
    live t s (fun s => s.code r K.FLASH_UPDATE_COMMAND 3)

/-- FLASH_CONFIRM: COMMAND 4 (R396). -/
def execFlashConfirm (t : Time) (r : Requester) (s : State) : Out :=
  inRange "requester" (Requester.place r) 256 <|
    live t s (fun s => s.code r K.FLASH_UPDATE_COMMAND 4)

/-- PATCH_APPLY: COMMAND 1 of PATCH, with the region-5 copy as read (R399). -/
def execPatchApply (t : Time) (r : Requester) (img : Image) (s : State) : Out :=
  inRange "requester" (Requester.place r) 256 <|
    live t s (fun s => s.envWrite r K.PATCH_COMMAND (leBytes 1 1) (fun e => { e with image := img }))

end Sys2Proof.Machine
end

