-- ==== Sys2Proof/Machine/Dispatch.lean ====
section
/-! DEFINITION. The dispatch: one arm for each command, each a call of that command's own meaning. -/

namespace Sys2Proof.Machine

/-- The effect of a command on everything but the queue. -/
def exec (i : Instr) (s : State) : Host.Outcome State Fault Refusal :=
  match i with
  | .resetNAssert t lowNs => Sys2Proof.Machine.execResetNAssert t lowNs s
  | .resetNRelease t b => Sys2Proof.Machine.execResetNRelease t b s
  | .warmReset t r data b => Sys2Proof.Machine.execWarmReset t r data b s
  | .supplyFault t rail => Sys2Proof.Machine.execSupplyFault t rail s
  | .tcxoLoss t => Sys2Proof.Machine.execTcxoLoss t s
  | .perstAssert t => Sys2Proof.Machine.execPerstAssert t s
  | .perstRelease t => Sys2Proof.Machine.execPerstRelease t s
  | .hostLinkUp t gen width => Sys2Proof.Machine.execHostLinkUp t gen width s
  | .dictWrite t r idx sub data => Sys2Proof.Machine.execDictWrite t r idx sub data s
  | .rwpWrite t r idx sub data => Sys2Proof.Machine.execRwpWrite t r idx sub data s
  | .nvmSlotWriteDone t ok => Sys2Proof.Machine.execNvmSlotWriteDone t ok s
  | .restoreDefaults t r data => Sys2Proof.Machine.execRestoreDefaults t r data s
  | .heartbeatTimeWrite t r data => Sys2Proof.Machine.execHeartbeatTimeWrite t r data s
  | .canHeartbeat t can => Sys2Proof.Machine.execCanHeartbeat t can s
  | .nmtStart t can node => Sys2Proof.Machine.execNmtStart t can node s
  | .nmtStop t can node => Sys2Proof.Machine.execNmtStop t can node s
  | .nmtEnterPreOperational t can node => Sys2Proof.Machine.execNmtEnterPreOperational t can node s
  | .nmtResetNode t can node => Sys2Proof.Machine.execNmtResetNode t can node s
  | .nmtResetCommunication t can node => Sys2Proof.Machine.execNmtResetCommunication t can node s
  | .usdoUpload t can client idx sub => Sys2Proof.Machine.execUsdoUpload t can client idx sub s
  | .usdoDownload t can client idx sub data first last => Sys2Proof.Machine.execUsdoDownload t can client idx sub data first last s
  | .rpdoReceive t can pdo data => Sys2Proof.Machine.execRpdoReceive t can pdo data s
  | .tpdoTransmit t can pdo => Sys2Proof.Machine.execTpdoTransmit t can pdo s
  | .canBusOff t can => Sys2Proof.Machine.execCanBusOff t can s
  | .canBusOffRecovery t can => Sys2Proof.Machine.execCanBusOffRecovery t can s
  | .odUdpRead t addr port bytes => Sys2Proof.Machine.execOdUdpRead t addr port bytes s
  | .odUdpWrite t addr port bytes => Sys2Proof.Machine.execOdUdpWrite t addr port bytes s
  | .odUdpEcho t addr port bytes => Sys2Proof.Machine.execOdUdpEcho t addr port bytes s
  | .odUdpBadDatagram t addr port bytes => Sys2Proof.Machine.execOdUdpBadDatagram t addr port bytes s
  | .queuedRequestServe t q => Sys2Proof.Machine.execQueuedRequestServe t q s
  | .mgmtStall t core => Sys2Proof.Machine.execMgmtStall t core s
  | .shawmCoreRestart t core => Sys2Proof.Machine.execShawmCoreRestart t core s
  | .shawmLoopResume t core => Sys2Proof.Machine.execShawmLoopResume t core s
  | .bar0LowWordRead t f idx sub => Sys2Proof.Machine.execBar0LowWordRead t f idx sub s
  | .bar0HighWordRead t f idx sub => Sys2Proof.Machine.execBar0HighWordRead t f idx sub s
  | .bar0LowWordWrite t f idx sub word => Sys2Proof.Machine.execBar0LowWordWrite t f idx sub word s
  | .bar0HighWordWrite t f idx sub word => Sys2Proof.Machine.execBar0HighWordWrite t f idx sub word s
  | .lastAccessErrorClear t r data => Sys2Proof.Machine.execLastAccessErrorClear t r data s
  | .snapshotTrigger t r data => Sys2Proof.Machine.execSnapshotTrigger t r data s
  | .snapAtWrite t r data => Sys2Proof.Machine.execSnapAtWrite t r data s
  | .snapshotScheduled t => Sys2Proof.Machine.execSnapshotScheduled t s
  | .aoClockStop t => Sys2Proof.Machine.execAoClockStop t s
  | .cfgParitySweep t found => Sys2Proof.Machine.execCfgParitySweep t found s
  | .blockResetComplete t pd shadowOk => Sys2Proof.Machine.execBlockResetComplete t pd shadowOk s
  | .bar2SelectWrite t f sub data => Sys2Proof.Machine.execBar2SelectWrite t f sub data s
  | .bar2TableWrite t f offset data => Sys2Proof.Machine.execBar2TableWrite t f offset data s
  | .vfEnable t numVfs => Sys2Proof.Machine.execVfEnable t numVfs s
  | .vfDisable t numVfs => Sys2Proof.Machine.execVfDisable t numVfs s
  | .flrVf t f => Sys2Proof.Machine.execFlrVf t f s
  | .flrPf t => Sys2Proof.Machine.execFlrPf t s
  | .ringGrant t r data => Sys2Proof.Machine.execRingGrant t r data s
  | .ringRevoke t r data => Sys2Proof.Machine.execRingRevoke t r data s
  | .chOwnerWrite t r ch data => Sys2Proof.Machine.execChOwnerWrite t r ch data s
  | .channelOpen t r ch => Sys2Proof.Machine.execChannelOpen t r ch s
  | .channelDrain t r ch => Sys2Proof.Machine.execChannelDrain t r ch s
  | .channelDrainComplete t ch => Sys2Proof.Machine.execChannelDrainComplete t ch s
  | .channelAbort t r ch => Sys2Proof.Machine.execChannelAbort t r ch s
  | .ringEnable t f ring => Sys2Proof.Machine.execRingEnable t f ring s
  | .ringDisable t f ring => Sys2Proof.Machine.execRingDisable t f ring s
  | .ringStoppingDone t ring => Sys2Proof.Machine.execRingStoppingDone t ring s
  | .doorbellWrite t f loc data => Sys2Proof.Machine.execDoorbellWrite t f loc data s
  | .descriptorFetch t ring slot => Sys2Proof.Machine.execDescriptorFetch t ring slot s
  | .descriptorComplete t ring data hostError => Sys2Proof.Machine.execDescriptorComplete t ring data hostError s
  | .mailboxFenceRead t r => Sys2Proof.Machine.execMailboxFenceRead t r s
  | .txnTrackerFreed t c f => Sys2Proof.Machine.execTxnTrackerFreed t c f s
  | .ingestLinkUp t quad => Sys2Proof.Machine.execIngestLinkUp t quad s
  | .ingestLinkDown t quad => Sys2Proof.Machine.execIngestLinkDown t quad s
  | .ingestFlitCheckFail t quad => Sys2Proof.Machine.execIngestFlitCheckFail t quad s
  | .ingestFlitUnknownType t quad type seq => Sys2Proof.Machine.execIngestFlitUnknownType t quad type seq s
  | .lineStart t quad h => Sys2Proof.Machine.execLineStart t quad h s
  | .lineData t quad last seq data => Sys2Proof.Machine.execLineData t quad last seq data s
  | .frameEnd t quad seq frameCount linesSent => Sys2Proof.Machine.execFrameEnd t quad seq frameCount linesSent s
  | .ingestIdle t quad seq => Sys2Proof.Machine.execIngestIdle t quad seq s
  | .ingestCreditSend t quad drained => Sys2Proof.Machine.execIngestCreditSend t quad drained s
  | .frameTimeout t ch => Sys2Proof.Machine.execFrameTimeout t ch s
  | .st2110Packet t ch p => Sys2Proof.Machine.execSt2110Packet t ch p s
  | .tileHandover t from_ ch frameCount dropped lines capture => Sys2Proof.Machine.execTileHandover t from_ ch frameCount dropped lines capture s
  | .derivedPicturesMade t ch frameCount => Sys2Proof.Machine.execDerivedPicturesMade t ch frameCount s
  | .lutDataWrite t r ch obj data => Sys2Proof.Machine.execLutDataWrite t r ch obj data s
  | .lutDataRead t r ch obj => Sys2Proof.Machine.execLutDataRead t r ch obj s
  | .lutCommit t r ch obj => Sys2Proof.Machine.execLutCommit t r ch obj s
  | .lutCopyDone t ch obj => Sys2Proof.Machine.execLutCopyDone t ch obj s
  | .searchGrantIssue t ms ch pic row ref => Sys2Proof.Machine.execSearchGrantIssue t ms ch pic row ref s
  | .searchGrantComplete t ms hits misses refetched => Sys2Proof.Machine.execSearchGrantComplete t ms hits misses refetched s
  | .unitWatchdogExpiry t u => Sys2Proof.Machine.execUnitWatchdogExpiry t u s
  | .unitStateError t u => Sys2Proof.Machine.execUnitStateError t u s
  | .staleWrite t u gen => Sys2Proof.Machine.execStaleWrite t u gen s
  | .unitSelfTestStart t u => Sys2Proof.Machine.execUnitSelfTestStart t u s
  | .unitSelfTestComplete t u pass => Sys2Proof.Machine.execUnitSelfTestComplete t u pass s
  | .pictureStart t ch stream refs unref longTerm => Sys2Proof.Machine.execPictureStart t ch stream refs unref longTerm s
  | .ctuIssue t px ee ch pic ctu => Sys2Proof.Machine.execCtuIssue t px ee ch pic ctu s
  | .pixelGrantComplete t px slip => Sys2Proof.Machine.execPixelGrantComplete t px slip s
  | .chunkCoded t ee ch pic => Sys2Proof.Machine.execChunkCoded t ee ch pic s
  | .chunkEmit t ch stream => Sys2Proof.Machine.execChunkEmit t ch stream s
  | .verifyDecodeComplete t df hashesMatch decodeError => Sys2Proof.Machine.execVerifyDecodeComplete t df hashesMatch decodeError s
  | .roiCommit t r ch => Sys2Proof.Machine.execRoiCommit t r ch s
  | .decodeRtpPacket t ch flow type seq payload => Sys2Proof.Machine.execDecodeRtpPacket t ch flow type seq payload s
  | .magClipReadComplete t port ch nvmeError => Sys2Proof.Machine.execMagClipReadComplete t port ch nvmeError s
  | .decodeNalUnit t ch bytes parse dfs => Sys2Proof.Machine.execDecodeNalUnit t ch bytes parse dfs s
  | .decodedPictureOutput t ch pic => Sys2Proof.Machine.execDecodedPictureOutput t ch pic s
  | .bufferAlloc t ch use ee => Sys2Proof.Machine.execBufferAlloc t ch use ee s
  | .bufferFree t buf owner => Sys2Proof.Machine.execBufferFree t buf owner s
  | .bufferRelease t buf owner => Sys2Proof.Machine.execBufferRelease t buf owner s
  | .export_ t r => Sys2Proof.Machine.execExport t r s
  | .return_ t r => Sys2Proof.Machine.execReturn t r s
  | .ptpSync t seq origin rx twoStep => Sys2Proof.Machine.execPtpSync t seq origin rx twoStep s
  | .ptpFollowUp t seq origin => Sys2Proof.Machine.execPtpFollowUp t seq origin s
  | .ptpDelayReqSend t => Sys2Proof.Machine.execPtpDelayReqSend t s
  | .ptpDelayResp t rx => Sys2Proof.Machine.execPtpDelayResp t rx s
  | .ptpAnnounce t gm steps utcOffset best => Sys2Proof.Machine.execPtpAnnounce t gm steps utcOffset best s
  | .ptpAnnounceTimeout t => Sys2Proof.Machine.execPtpAnnounceTimeout t s
  | .holdoverTimeout t => Sys2Proof.Machine.execHoldoverTimeout t s
  | .todSet t r data => Sys2Proof.Machine.execTodSet t r data s
  | .ppsInEdge t falling => Sys2Proof.Machine.execPpsInEdge t falling s
  | .ppsLossTimeout t => Sys2Proof.Machine.execPpsLossTimeout t s
  | .ppsOutPulse t => Sys2Proof.Machine.execPpsOutPulse t s
  | .ltcCodeword t syncOk rate code start => Sys2Proof.Machine.execLtcCodeword t syncOk rate code start s
  | .ltcTimeout t => Sys2Proof.Machine.execLtcTimeout t s
  | .launchFire t ch => Sys2Proof.Machine.execLaunchFire t ch s
  | .pairWindowExpiry t ch => Sys2Proof.Machine.execPairWindowExpiry t ch s
  | .listWrWrite t r ch data => Sys2Proof.Machine.execListWrWrite t r ch data s
  | .bugleLaunchSend t ch => Sys2Proof.Machine.execBugleLaunchSend t ch s
  | .launch t from_ ch forceIrap bugleSeq time picCount => Sys2Proof.Machine.execLaunch t from_ ch forceIrap bugleSeq time picCount s
  | .recStatusSend t => Sys2Proof.Machine.execRecStatusSend t s
  | .recStatus t from_ recording bugleSeq final agree edge => Sys2Proof.Machine.execRecStatus t from_ recording bugleSeq final agree edge s
  | .timeOfDaySend t => Sys2Proof.Machine.execTimeOfDaySend t s
  | .timeOfDay t from_ bugleSeq edge => Sys2Proof.Machine.execTimeOfDay t from_ bugleSeq edge s
  | .bugleUnknownKind t port kind => Sys2Proof.Machine.execBugleUnknownKind t port kind s
  | .syncIoDrive t => Sys2Proof.Machine.execSyncIoDrive t s
  | .syncIoEdge t => Sys2Proof.Machine.execSyncIoEdge t s
  | .syncLossTimeout t => Sys2Proof.Machine.execSyncLossTimeout t s
  | .recInputChange t a b => Sys2Proof.Machine.execRecInputChange t a b s
  | .recTdExpiry t => Sys2Proof.Machine.execRecTdExpiry t s
  | .recRearm t => Sys2Proof.Machine.execRecRearm t s
  | .recCommandStart t r => Sys2Proof.Machine.execRecCommandStart t r s
  | .recCommandStop t r => Sys2Proof.Machine.execRecCommandStop t r s
  | .recSourceWrite t r data => Sys2Proof.Machine.execRecSourceWrite t r data s
  | .ronoxLinkUp t port => Sys2Proof.Machine.execRonoxLinkUp t port s
  | .hello t port h => Sys2Proof.Machine.execHello t port h s
  | .formTimeout t => Sys2Proof.Machine.execFormTimeout t s
  | .ronoxFlitReject t port => Sys2Proof.Machine.execRonoxFlitReject t port s
  | .credit t port ackSeq totals nak => Sys2Proof.Machine.execCredit t port ackSeq totals nak s
  | .ronoxCreditSend t port drained => Sys2Proof.Machine.execRonoxCreditSend t port drained s
  | .idle t port => Sys2Proof.Machine.execIdle t port s
  | .ronoxAckTimeout t port => Sys2Proof.Machine.execRonoxAckTimeout t port s
  | .ronoxRetrainDone t port => Sys2Proof.Machine.execRonoxRetrainDone t port s
  | .ronoxLinkDown t port => Sys2Proof.Machine.execRonoxLinkDown t port s
  | .heartbeatSend t => Sys2Proof.Machine.execHeartbeatSend t s
  | .heartbeat t f h => Sys2Proof.Machine.execHeartbeat t f h s
  | .heardExpiry t peer => Sys2Proof.Machine.execHeardExpiry t peer s
  | .arrayFenced t => Sys2Proof.Machine.execArrayFenced t s
  | .memberSilenceTimeout t peer => Sys2Proof.Machine.execMemberSilenceTimeout t peer s
  | .epochRepeat t => Sys2Proof.Machine.execEpochRepeat t s
  | .epoch t f e => Sys2Proof.Machine.execEpoch t f e s
  | .fenceOrder t f epoch => Sys2Proof.Machine.execFenceOrder t f epoch s
  | .faultRelay t f rec => Sys2Proof.Machine.execFaultRelay t f rec s
  | .readmit t r data => Sys2Proof.Machine.execReadmit t r data s
  | .haloReq t f q => Sys2Proof.Machine.execHaloReq t f q s
  | .haloData t f reqId offset data => Sys2Proof.Machine.execHaloData t f reqId offset data s
  | .haloReqReissue t reqId => Sys2Proof.Machine.execHaloReqReissue t reqId s
  | .haloFinalSend t ch pic owner => Sys2Proof.Machine.execHaloFinalSend t ch pic owner s
  | .eqConfigWrite t r sub data => Sys2Proof.Machine.execEqConfigWrite t r sub data s
  | .offloadStart t r => Sys2Proof.Machine.execOffloadStart t r s
  | .offloadStop t r => Sys2Proof.Machine.execOffloadStop t r s
  | .transmitSelection t port => Sys2Proof.Machine.execTransmitSelection t port s
  | .packetTxDone t port => Sys2Proof.Machine.execPacketTxDone t port s
  | .shaperRefill t => Sys2Proof.Machine.execShaperRefill t s
  | .meterRefill t => Sys2Proof.Machine.execMeterRefill t s
  | .gateCommit t r port => Sys2Proof.Machine.execGateCommit t r port s
  | .gateCycleStart t port => Sys2Proof.Machine.execGateCycleStart t port s
  | .gateEntryChange t port => Sys2Proof.Machine.execGateEntryChange t port s
  | .ethLinkUp t port => Sys2Proof.Machine.execEthLinkUp t port s
  | .ethLinkDown t port => Sys2Proof.Machine.execEthLinkDown t port s
  | .arpRequest t port senderIp senderMac targetIp => Sys2Proof.Machine.execArpRequest t port senderIp senderMac targetIp s
  | .icmpEchoRequest t port srcIp dstIp payload => Sys2Proof.Machine.execIcmpEchoRequest t port srcIp dstIp payload s
  | .arpRefresh t port ip => Sys2Proof.Machine.execArpRefresh t port ip s
  | .magPresenceChange t mag id => Sys2Proof.Machine.execMagPresenceChange t mag id s
  | .magRemoved t mag => Sys2Proof.Machine.execMagRemoved t mag s
  | .magCommandTimeout t mag => Sys2Proof.Machine.execMagCommandTimeout t mag s
  | .nvmeCompletion t mag status => Sys2Proof.Machine.execNvmeCompletion t mag status s
  | .clipOpen t r ch => Sys2Proof.Machine.execClipOpen t r ch s
  | .clipClose t r ch => Sys2Proof.Machine.execClipClose t r ch s
  | .extentAdd t r ch mag data => Sys2Proof.Machine.execExtentAdd t r ch mag data s
  | .clipWrite t r ch data => Sys2Proof.Machine.execClipWrite t r ch data s
  | .magCheckpoint t ch => Sys2Proof.Machine.execMagCheckpoint t ch s
  | .magFlushComplete t mag ch => Sys2Proof.Machine.execMagFlushComplete t mag ch s
  | .clipRecordWriteComplete t mag ch stream => Sys2Proof.Machine.execClipRecordWriteComplete t mag ch stream s
  | .dramRefresh t dc => Sys2Proof.Machine.execDramRefresh t dc s
  | .dramRetrain t dc => Sys2Proof.Machine.execDramRetrain t dc s
  | .dramRetrainForced t dc => Sys2Proof.Machine.execDramRetrainForced t dc s
  | .patrolScrubRead t addr rank res => Sys2Proof.Machine.execPatrolScrubRead t addr rank res s
  | .dramReread t addr rank source chan res => Sys2Proof.Machine.execDramReread t addr rank source chan res s
  | .dramCaAlert t dc sub rank addr cmd source => Sys2Proof.Machine.execDramCaAlert t dc sub rank addr cmd source s
  | .dramErrLogClear t r => Sys2Proof.Machine.execDramErrLogClear t r s
  | .dmaStart t r dm first => Sys2Proof.Machine.execDmaStart t r dm first s
  | .dmaStop t r dm => Sys2Proof.Machine.execDmaStop t r dm s
  | .dmaDescriptorComplete t dm m next_ => Sys2Proof.Machine.execDmaDescriptorComplete t dm m next_ s
  | .dmaFinalReadComplete t dm => Sys2Proof.Machine.execDmaFinalReadComplete t dm s
  | .holdoffExpiry t f g => Sys2Proof.Machine.execHoldoffExpiry t f g s
  | .msixUnmask t f vector => Sys2Proof.Machine.execMsixUnmask t f vector s
  | .intSourceWrite t r sub data => Sys2Proof.Machine.execIntSourceWrite t r sub data s
  | .claimRead t f g => Sys2Proof.Machine.execClaimRead t f g s
  | .claimComplete t f g src => Sys2Proof.Machine.execClaimComplete t f g src s
  | .faultRaise t src inst depth chan pic tile ctu blk detail => Sys2Proof.Machine.execFaultRaise t src inst depth chan pic tile ctu blk detail s
  | .faultConditionEnd t src inst => Sys2Proof.Machine.execFaultConditionEnd t src inst s
  | .faultAck t r data => Sys2Proof.Machine.execFaultAck t r data s
  | .faultPath t src => Sys2Proof.Machine.execFaultPath t src s
  | .faultRowWrite t r row data => Sys2Proof.Machine.execFaultRowWrite t r row data s
  | .faultLogClear t r => Sys2Proof.Machine.execFaultLogClear t r s
  | .errOutPath t pinLow => Sys2Proof.Machine.execErrOutPath t pinLow s
  | .errOutAgree t => Sys2Proof.Machine.execErrOutAgree t s
  | .errOutHoldExpiry t => Sys2Proof.Machine.execErrOutHoldExpiry t s
  | .moraineDumpComplete t => Sys2Proof.Machine.execMoraineDumpComplete t s
  | .fatalWarmReset t b => Sys2Proof.Machine.execFatalWarmReset t b s
  | .dumpNow t r => Sys2Proof.Machine.execDumpNow t r s
  | .release t r => Sys2Proof.Machine.execRelease t r s
  | .voltageEvaluation t powerMw rates => Sys2Proof.Machine.execVoltageEvaluation t powerMw rates s
  | .domainRaise t pd => Sys2Proof.Machine.execDomainRaise t pd s
  | .pmbusPoll t ok vin iin temp statusWord => Sys2Proof.Machine.execPmbusPoll t ok vin iin temp statusWord s
  | .pmbusAlert t ok statusWord => Sys2Proof.Machine.execPmbusAlert t ok statusWord s
  | .vregFault t pd => Sys2Proof.Machine.execVregFault t pd s
  | .frostEntry t => Sys2Proof.Machine.execFrostEntry t s
  | .frostExit t => Sys2Proof.Machine.execFrostExit t s
  | .enterRime t r => Sys2Proof.Machine.execEnterRime t r s
  | .enterDrift t r => Sys2Proof.Machine.execEnterDrift t r s
  | .enterNeve t r => Sys2Proof.Machine.execEnterNeve t r s
  | .enterGlacier t r => Sys2Proof.Machine.execEnterGlacier t r s
  | .ladderEntryComplete t => Sys2Proof.Machine.execLadderEntryComplete t s
  | .ladderWake t w aoSeconds b => Sys2Proof.Machine.execLadderWake t w aoSeconds b s
  | .wakeTimer t aoSeconds b => Sys2Proof.Machine.execWakeTimer t aoSeconds b s
  | .tempSensorConversion t pd reading => Sys2Proof.Machine.execTempSensorConversion t pd reading s
  | .tdiodeConversion t n reading endOk => Sys2Proof.Machine.execTdiodeConversion t n reading endOk s
  | .thermalCapStep t => Sys2Proof.Machine.execThermalCapStep t s
  | .calWindow t pd cls band late transitions => Sys2Proof.Machine.execCalWindow t pd cls band late transitions s
  | .calBackoffExpiry t pd cls band => Sys2Proof.Machine.execCalBackoffExpiry t pd cls band s
  | .stageCaptureError t pd cls line u => Sys2Proof.Machine.execStageCaptureError t pd cls line u s
  | .trimStore t => Sys2Proof.Machine.execTrimStore t s
  | .flashBegin t r => Sys2Proof.Machine.execFlashBegin t r s
  | .flashEraseComplete t region => Sys2Proof.Machine.execFlashEraseComplete t region s
  | .flashDataWrite t r offset data => Sys2Proof.Machine.execFlashDataWrite t r offset data s
  | .flashFetch t r => Sys2Proof.Machine.execFlashFetch t r s
  | .flashFetchComplete t region data => Sys2Proof.Machine.execFlashFetchComplete t region data s
  | .flashCommit t r readBackSame => Sys2Proof.Machine.execFlashCommit t r readBackSame s
  | .flashAbort t r => Sys2Proof.Machine.execFlashAbort t r s
  | .flashConfirm t r => Sys2Proof.Machine.execFlashConfirm t r s
  | .patchApply t r img => Sys2Proof.Machine.execPatchApply t r img s
  | .patchClusterWrite t cluster => Sys2Proof.Machine.execPatchClusterWrite t cluster s
  | .lifeHourUpdate t meanTj => Sys2Proof.Machine.execLifeHourUpdate t meanTj s
  | .slowCopyRefresh t => Sys2Proof.Machine.execSlowCopyRefresh t s
  | .hostLinkDown t => Sys2Proof.Machine.execHostLinkDown t s
  | .powerUp t => Sys2Proof.Machine.execPowerUp t s
  | .supplyRestore t b => Sys2Proof.Machine.execSupplyRestore t b s
  | .nvmWriteAbandon t => Sys2Proof.Machine.execNvmWriteAbandon t s

end Sys2Proof.Machine
end

