-- ==== Sys2Proof/WellFormed.lean ====
section
/-! DEFINITION. When a command is well formed: every unit it names lies in the listed range of its kind (R4). A command that
names no unit has no effect to give, and its meaning stops with the fault noUnit. -/

namespace Sys2Proof

/-- Every name in the command lies in its listed range (R4). -/
def Instr.wf (i : Instr) : Bool :=
  match i with
  | .resetNAssert _ _ => true
  | .resetNRelease _ _ => true
  | .warmReset _ r _ _ => Requester.place r < 256
  | .supplyFault _ rail => rail < 7
  | .tcxoLoss _ => true
  | .perstAssert _ => true
  | .perstRelease _ => true
  | .hostLinkUp _ _ _ => true
  | .dictWrite _ r idx sub _ => Requester.place r < 256 && idx < 65536 && sub < 256
  | .rwpWrite _ r idx sub _ => Requester.place r < 256 && idx < 65536 && sub < 256
  | .nvmSlotWriteDone _ _ => true
  | .restoreDefaults _ r _ => Requester.place r < 256
  | .heartbeatTimeWrite _ r _ => Requester.place r < 256
  | .canHeartbeat _ can => can < 2
  | .nmtStart _ can node => can < 2 && node < 128
  | .nmtStop _ can node => can < 2 && node < 128
  | .nmtEnterPreOperational _ can node => can < 2 && node < 128
  | .nmtResetNode _ can node => can < 2 && node < 128
  | .nmtResetCommunication _ can node => can < 2 && node < 128
  | .usdoUpload _ can client idx sub => can < 2 && client < 128 && idx < 65536 && sub < 256
  | .usdoDownload _ can client idx sub _ _ _ => can < 2 && client < 128 && idx < 65536 && sub < 256
  | .rpdoReceive _ can pdo _ => can < 2 && pdo < 8
  | .tpdoTransmit _ can pdo => can < 2 && pdo < 8
  | .canBusOff _ can => can < 2
  | .canBusOffRecovery _ can => can < 2
  | .odUdpRead _ addr port _ => addr < 2 ^ 32 && port < 65536
  | .odUdpWrite _ addr port _ => addr < 2 ^ 32 && port < 65536
  | .odUdpEcho _ addr port _ => addr < 2 ^ 32 && port < 65536
  | .odUdpBadDatagram _ addr port _ => addr < 2 ^ 32 && port < 65536
  | .queuedRequestServe _ q => q < 5
  | .mgmtStall _ core => core < 4
  | .shawmCoreRestart _ core => core < 4
  | .shawmLoopResume _ core => core < 4
  | .bar0LowWordRead _ f idx sub => f < 256 && idx < 65536 && sub < 256
  | .bar0HighWordRead _ f idx sub => f < 256 && idx < 65536 && sub < 256
  | .bar0LowWordWrite _ f idx sub _ => f < 256 && idx < 65536 && sub < 256
  | .bar0HighWordWrite _ f idx sub _ => f < 256 && idx < 65536 && sub < 256
  | .lastAccessErrorClear _ r _ => Requester.place r < 256
  | .snapshotTrigger _ r _ => Requester.place r < 256
  | .snapAtWrite _ r _ => Requester.place r < 256
  | .snapshotScheduled _ => true
  | .aoClockStop _ => true
  | .cfgParitySweep _ _ => true
  | .blockResetComplete _ pd _ => pd < 32
  | .bar2SelectWrite _ f sub _ => f < 256 && sub < 256
  | .bar2TableWrite _ f offset _ => f < 256 && offset < 0x10000000
  | .vfEnable _ numVfs => numVfs < 256
  | .vfDisable _ numVfs => numVfs < 256
  | .flrVf _ f => f < 256
  | .flrPf _ => true
  | .ringGrant _ r _ => Requester.place r < 256
  | .ringRevoke _ r _ => Requester.place r < 256
  | .chOwnerWrite _ r ch _ => Requester.place r < 256 && ch < 256
  | .channelOpen _ r ch => Requester.place r < 256 && ch < 256
  | .channelDrain _ r ch => Requester.place r < 256 && ch < 256
  | .channelDrainComplete _ ch => ch < 256
  | .channelAbort _ r ch => Requester.place r < 256 && ch < 256
  | .ringEnable _ f ring => f < 256 && ring < 32768
  | .ringDisable _ f ring => f < 256 && ring < 32768
  | .ringStoppingDone _ ring => ring < 32768
  | .doorbellWrite _ f loc _ => f < 256 && loc < 128
  | .descriptorFetch _ ring _ => ring < 32768
  | .descriptorComplete _ ring _ _ => ring < 32768
  | .mailboxFenceRead _ r => Requester.readPlace r < 256
  | .txnTrackerFreed _ _ f => f < 256
  | .ingestLinkUp _ quad => quad < 6
  | .ingestLinkDown _ quad => quad < 6
  | .ingestFlitCheckFail _ quad => quad < 6
  | .ingestFlitUnknownType _ quad _ _ => quad < 6
  | .lineStart _ quad _ => quad < 6
  | .lineData _ quad _ _ _ => quad < 6
  | .frameEnd _ quad _ _ linesSent => quad < 6 && linesSent < 65536
  | .ingestIdle _ quad _ => quad < 6
  | .ingestCreditSend _ quad _ => quad < 6
  | .frameTimeout _ ch => ch < 256
  | .st2110Packet _ ch _ => ch < 256
  | .tileHandover _ from_ ch _ _ _ _ => from_ < 8 && ch < 256
  | .derivedPicturesMade _ ch _ => ch < 256
  | .lutDataWrite _ r ch obj _ => Requester.place r < 256 && ch < 256 && obj < 64
  | .lutDataRead _ r ch obj => Requester.place r < 256 && ch < 256 && obj < 64
  | .lutCommit _ r ch obj => Requester.place r < 256 && ch < 256 && obj < 64
  | .lutCopyDone _ ch obj => ch < 256 && obj < 64
  | .searchGrantIssue _ ms ch _ _ _ => ms < 16 && ch < 256
  | .searchGrantComplete _ ms _ _ _ => ms < 16
  | .unitWatchdogExpiry _ u => u.num < u.kind.total
  | .unitStateError _ u => u.num < u.kind.total
  | .staleWrite _ u _ => u.num < u.kind.total
  | .unitSelfTestStart _ u => u.num < u.kind.total
  | .unitSelfTestComplete _ u _ => u.num < u.kind.total
  | .pictureStart _ ch stream _ _ _ => ch < 256 && stream < 4
  | .ctuIssue _ px ee ch _ _ => px < 72 && ee < 56 && ch < 256
  | .pixelGrantComplete _ px _ => px < 72
  | .chunkCoded _ ee ch _ => ee < 56 && ch < 256
  | .chunkEmit _ ch stream => ch < 256 && stream < 4
  | .verifyDecodeComplete _ df _ _ => df < 24
  | .roiCommit _ r ch => Requester.place r < 256 && ch < 256
  | .decodeRtpPacket _ ch _ _ seq _ => ch < 256 && seq < 65536
  | .magClipReadComplete _ port ch _ => port < 2 && ch < 256
  | .decodeNalUnit _ ch _ _ dfs => ch < 256 && dfs.all (· < 24)
  | .decodedPictureOutput _ ch _ => ch < 256
  | .bufferAlloc _ ch use ee => ch < 256 && ee < 56 && use < 6
  | .bufferFree _ buf _ => buf < 2 ^ 26
  | .bufferRelease _ buf _ => buf < 2 ^ 26
  | .export_ _ r => Requester.place r < 256
  | .return_ _ r => Requester.place r < 256
  | .ptpSync _ _ _ _ _ => true
  | .ptpFollowUp _ _ _ => true
  | .ptpDelayReqSend _ => true
  | .ptpDelayResp _ _ => true
  | .ptpAnnounce _ _ _ _ _ => true
  | .ptpAnnounceTimeout _ => true
  | .holdoverTimeout _ => true
  | .todSet _ r _ => Requester.place r < 256
  | .ppsInEdge _ _ => true
  | .ppsLossTimeout _ => true
  | .ppsOutPulse _ => true
  | .ltcCodeword _ _ _ _ _ => true
  | .ltcTimeout _ => true
  | .launchFire _ ch => ch < 256
  | .pairWindowExpiry _ ch => ch < 256
  | .listWrWrite _ r ch _ => Requester.place r < 256 && ch < 256
  | .bugleLaunchSend _ ch => ch < 256
  | .launch _ from_ ch _ _ _ _ => from_ < 8 && ch < 256
  | .recStatusSend _ => true
  | .recStatus _ from_ _ _ _ _ _ => from_ < 8
  | .timeOfDaySend _ => true
  | .timeOfDay _ from_ _ _ => from_ < 8
  | .bugleUnknownKind _ port _ => port < 6
  | .syncIoDrive _ => true
  | .syncIoEdge _ => true
  | .syncLossTimeout _ => true
  | .recInputChange _ _ _ => true
  | .recTdExpiry _ => true
  | .recRearm _ => true
  | .recCommandStart _ r => Requester.place r < 256
  | .recCommandStop _ r => Requester.place r < 256
  | .recSourceWrite _ r _ => Requester.place r < 256
  | .ronoxLinkUp _ port => port < 6
  | .hello _ port _ => port < 6
  | .formTimeout _ => true
  | .ronoxFlitReject _ port => port < 6
  | .credit _ port _ _ _ => port < 6
  | .ronoxCreditSend _ port _ => port < 6
  | .idle _ port => port < 6
  | .ronoxAckTimeout _ port => port < 6
  | .ronoxRetrainDone _ port => port < 6
  | .ronoxLinkDown _ port => port < 6
  | .heartbeatSend _ => true
  | .heartbeat _ f _ => f.port < 6 && f.src < 8
  | .heardExpiry _ peer => peer < 8
  | .arrayFenced _ => true
  | .memberSilenceTimeout _ peer => peer < 8
  | .epochRepeat _ => true
  | .epoch _ f _ => f.port < 6 && f.src < 8
  | .fenceOrder _ f _ => f.port < 6 && f.src < 8
  | .faultRelay _ f _ => f.port < 6 && f.src < 8
  | .readmit _ r _ => Requester.place r < 256
  | .haloReq _ f q => f.port < 6 && f.src < 8 && q.chan < 256
  | .haloData _ f _ _ _ => f.port < 6 && f.src < 8
  | .haloReqReissue _ _ => true
  | .haloFinalSend _ ch _ owner => ch < 256 && owner < 8
  | .eqConfigWrite _ r sub _ => Requester.place r < 256 && sub < 256
  | .offloadStart _ r => Requester.place r < 256
  | .offloadStop _ r => Requester.place r < 256
  | .transmitSelection _ port => port / 16 < 6 && port % 16 < 4
  | .packetTxDone _ port => port / 16 < 6 && port % 16 < 4
  | .shaperRefill _ => true
  | .meterRefill _ => true
  | .gateCommit _ r port => Requester.place r < 256 && port % 16 < 4 && port / 16 < 6
  | .gateCycleStart _ port => port / 16 < 6 && port % 16 < 4
  | .gateEntryChange _ port => port / 16 < 6 && port % 16 < 4
  | .ethLinkUp _ port => port / 16 < 6 && port % 16 < 4
  | .ethLinkDown _ port => port / 16 < 6 && port % 16 < 4
  | .arpRequest _ port _ _ _ => port / 16 < 6 && port % 16 < 4
  | .icmpEchoRequest _ port _ _ _ => port / 16 < 6 && port % 16 < 4
  | .arpRefresh _ port _ => port / 16 < 6 && port % 16 < 4
  | .magPresenceChange _ mag _ => mag < 2
  | .magRemoved _ mag => mag < 2
  | .magCommandTimeout _ mag => mag < 2
  | .nvmeCompletion _ mag _ => mag < 2
  | .clipOpen _ r ch => Requester.place r < 256 && ch < 256
  | .clipClose _ r ch => Requester.place r < 256 && ch < 256
  | .extentAdd _ r ch mag _ => Requester.place r < 256 && ch < 256 && mag < 2
  | .clipWrite _ r ch _ => Requester.place r < 256 && ch < 256
  | .magCheckpoint _ ch => ch < 256
  | .magFlushComplete _ mag ch => mag < 2 && ch < 256
  | .clipRecordWriteComplete _ mag ch stream => mag < 2 && ch < 256 && stream < 4
  | .dramRefresh _ dc => dc < 8
  | .dramRetrain _ dc => dc < 8
  | .dramRetrainForced _ dc => dc < 8
  | .patrolScrubRead _ _ _ _ => true
  | .dramReread _ _ _ source _ _ => source < 14
  | .dramCaAlert _ dc sub _ _ _ source => dc < 8 && sub < 2 && source < 14
  | .dramErrLogClear _ r => Requester.place r < 256
  | .dmaStart _ r dm _ => Requester.place r < 256 && dm < 64
  | .dmaStop _ r dm => Requester.place r < 256 && dm < 64
  | .dmaDescriptorComplete _ dm _ _ => dm < 64
  | .dmaFinalReadComplete _ dm => dm < 64
  | .holdoffExpiry _ f g => f < 256 && g < 64
  | .msixUnmask _ f vector => f < 256 && vector < 64
  | .intSourceWrite _ r sub _ => Requester.place r < 256 && sub < 256
  | .claimRead _ f g => f < 256 && g < 64
  | .claimComplete _ f g _ => f < 256 && g < 64
  | .faultRaise _ _ _ _ chan _ _ _ _ _ => chan < 256
  | .faultConditionEnd _ _ _ => true
  | .faultAck _ r _ => Requester.place r < 256
  | .faultPath _ _ => true
  | .faultRowWrite _ r row _ => Requester.place r < 256 && row < 510
  | .faultLogClear _ r => Requester.place r < 256
  | .errOutPath _ _ => true
  | .errOutAgree _ => true
  | .errOutHoldExpiry _ => true
  | .moraineDumpComplete _ => true
  | .fatalWarmReset _ _ => true
  | .dumpNow _ r => Requester.place r < 256
  | .release _ r => Requester.place r < 256
  | .voltageEvaluation _ _ _ => true
  | .domainRaise _ pd => pd < 32
  | .pmbusPoll _ _ _ _ _ _ => true
  | .pmbusAlert _ _ _ => true
  | .vregFault _ pd => pd < 33
  | .frostEntry _ => true
  | .frostExit _ => true
  | .enterRime _ r => Requester.place r < 256
  | .enterDrift _ r => Requester.place r < 256
  | .enterNeve _ r => Requester.place r < 256
  | .enterGlacier _ r => Requester.place r < 256
  | .ladderEntryComplete _ => true
  | .ladderWake _ _ _ _ => true
  | .wakeTimer _ _ _ => true
  | .tempSensorConversion _ pd _ => pd < 32
  | .tdiodeConversion _ n _ _ => n < 4
  | .thermalCapStep _ => true
  | .calWindow _ pd cls band _ _ => pd < 32 && cls < 8 && band < 4
  | .calBackoffExpiry _ pd cls band => pd < 32 && cls < 8 && band < 4
  | .stageCaptureError _ pd cls line u => pd < 32 && cls < 8 && line < 64 && unitNum u < unitBound u
  | .trimStore _ => true
  | .flashBegin _ r => Requester.place r < 256
  | .flashEraseComplete _ region => region < 6
  | .flashDataWrite _ r _ _ => Requester.place r < 256
  | .flashFetch _ r => Requester.place r < 256
  | .flashFetchComplete _ region _ => region < 6
  | .flashCommit _ r _ => Requester.place r < 256
  | .flashAbort _ r => Requester.place r < 256
  | .flashConfirm _ r => Requester.place r < 256
  | .patchApply _ r _ => Requester.place r < 256
  | .patchClusterWrite _ cluster => cluster < 8
  | .lifeHourUpdate _ _ => true
  | .slowCopyRefresh _ => true
  | .hostLinkDown _ => true
  | .powerUp _ => true
  | .supplyRestore _ _ => true
  | .nvmWriteAbandon _ => true

end Sys2Proof
end

