-- ==== Sys2Proof/Safety.lean ====
section
/-! DEFINITION. The terms in which claims speak of a run: the state in which a command finds the device, requests that are
served as they come, and a device held in reset. -/

namespace Sys2Proof

/-- The one command that ends a reset by RESET_N (R405). -/
def Instr.releasesReset (c : Instr) : Bool :=
  match c with
  | .resetNRelease _ _ => true
  | _ => false

namespace Machine

/-- The state in which a command at an instant finds the device: TIME_NOW has advanced, and L1 is left (R373). -/
def State.now (s : State) (t : Time) : State := (s.at t).awake

/-- The device is in service at an instant. -/
abbrev State.runs (s : State) (t : Time) : Prop := (s.at t).up = true

/-- Requests are served as they come: the request queues are empty and go on, the cores that serve them run, no slot write is
under way, and neither a device-fatal fault nor a fence turns writes away. -/
structure State.Prompt (s : State) : Prop where
  empty : ∀ n < 5, (s.reqQueue n).items = []
  running : ∀ n < 5, (s.reqQueue n).blocked = false
  served : s.pathsServed = true
  channels : s.coreWorks 2 = true
  slots : s.nvm.current = none ∧ s.nvm.waiting = []
  normal : s.fatal = false
  unfenced : s.array.state ≠ 4

/-- A requester that exists, whatever it may reach. -/
def State.Present (s : State) (r : Requester) : Prop :=
  r.place < 256 ∧ match r with
    | .func f => s.funcReaches f = true
    | _ => True

/-- A requester that exists and has the right to write an entry. -/
def State.MayAct (s : State) (r : Requester) (key : Nat) : Prop :=
  s.Present r ∧ s.mayReach r (key / 256) (key % 256) true = true

/-- A request was served as it came, with an effect on the state in which it found the device: beyond the effect only the request
queues and the count of open values have moved, and slot writes that the effect left waiting are taken up, unless it restarted
the device. -/
def ServedAs (u : State) (o : Out) (f : State → State) : Prop :=
  ∃ (a : Access) (n : Nat), o = .next (f { u with access := a, free := n }) ∨
    o = .next (State.nvmGo (f { u with access := a, free := n }))

/-- The state in which a request that is served as it comes is run: it has passed through its empty queue, and the arbiter goes on from
the next one (R39, R51). -/
def State.afterQueue (u : State) (q : Nat) (r : Request) : State :=
  let v := (u.draws.setReqQueue q { items := [r] }).setReqQueue q {}
  { v with access := { v.access with arbiter := (q + 1) % 5 } }

/-- What an action leaves that is carried out or refused: a refusal changes nothing and is recorded (R64, R66). -/
def State.acted (s : State) (r : Requester) (key : Nat) (x : Except Abort State) : State :=
  match x with
  | .ok w => w
  | .error a => s.accessError r a (key / 256) (key % 256)

/-- Likewise for an action that answers a code and a state. -/
def acted2 (r : Requester) (key : Nat) (x : Option Abort × State) : State :=
  match x.1 with
  | none => x.2
  | some a => x.2.accessError r a (key / 256) (key % 256)

/-- A plain RW entry: no selector, none of the entries whose value stands elsewhere. -/
def plainEntry (idx sub : Nat) : Bool :=
  let key := keyOf idx sub
  !isSelector key && !isLutData key && !(isChanIdx idx &&
    [K.CH_STATE_OWNER, K.CH_LAUNCH_LIST_WR, K.CH_MAG_CLIP].contains (chanPart key)) &&
    !(([0x2403, 0x2404, 0x2501, 0x2502] : List Nat).contains idx) && key ≠ K.EQ_CONFIG_ENABLE

/-- Entries whose accepted value acts at once beyond being in effect. -/
def actsAtOnce (key : Nat) : Bool :=
  [K.HEARTBEAT_TIME, K.REC_INPUT_REC_SOURCE, K.POOL_CONFIG_LOW_WATER, K.POOL_CONFIG_HIGH_WATER,
    K.SNAPSHOT_SNAP_AT].contains key

/-- A device held in reset: RESET_N is low, nothing is configured, in progress or waiting, and no command that releases RESET_N
stands in the queue. -/
structure State.HeldInReset (s : State) : Prop where
  low : s.pins.resetLow = true
  state : s.boot.state = .booting
  dict : s.dict = {}
  reqs : s.reqs = []
  access : s.access = {}
  slots : s.nvm.current = none ∧ s.nvm.waiting = []
  faults : s.faults = {}
  ints : s.ints = {}
  rings : s.rings = []
  chans : s.chans = []
  units : s.units = []
  ports : s.ports = []
  pool : s.pool = {}
  fbs : s.fbs = []
  array : s.array = {}
  ronox : s.ronox = []
  queues : s.queues = []
  eth : s.eth = []
  meters : s.meters = []
  mags : s.mags.all (fun e => e.2 == { content := e.2.content }) = true
  recs : s.recs = []
  dram : s.dram = {}
  dma : s.dma = []
  power : s.power.ladder = 0 ∧ s.power.entering = none ∧ s.power.raising = []
  link : s.host.linkUp = false ∧ s.host.vfEnable = false
  waits : ∀ c ∈ s.pending, c.releasesReset = false

end Machine
end Sys2Proof
end

