-- ==== Sys2Proof/Certificates/Slice0/Obligations.lean ====
section
/-! DEFINITION. The statements about the block, family by family of its commands. -/

set_option Elab.async false

open Sys2Proof Sys2Proof.Machine

/-! ### The machine as a block -/

/-- A step takes the command at the front of the queue and runs it on the state with the queue's rest; with no command waiting it leaves
the state as it is (the model's choice, log entry 1). -/
def Obligations.StepRunsTheFrontCommand : Prop :=
  (∀ (s : State) (c : Instr) (rest : List Instr), s.pending = c :: rest → step s = exec c { s with pending := rest }) ∧
  (∀ s : State, s.pending = [] → step s = .next s)

/-- A command whose names all lie in their listed ranges has an effect in every state, and one that does not has none. -/
def Obligations.EveryWellFormedCommandCompletes : Prop :=
  ∀ (c : Instr) (s : State),
    (c.wf = true → ∃ s', exec c s = .next s') ∧
    (c.wf = false → ∃ what num, exec c s = .fault (.noUnit what num))

/-- A device in reset keeps nothing but its records, and stays so whatever is commanded until RESET_N is released. -/
def Obligations.ResetHoldsUnderEveryCommand : Prop :=
  ∀ s s' : State, s.HeldInReset → step s = .next s' → s'.HeldInReset

/-- State.reset is a device held in reset. -/
def Obligations.ResetStateIsHeld : Prop := State.reset.HeldInReset

/-- What State.reset leaves: RESET_N asserted, BOOTING, TIME_NOW 0, TIME_STATE FREERUN, record inputs LOCKED and STOPPED, every channel CLOSED with F000, no ring
enabled, no fault active, every LAST_ACCESS_ERROR clear, and every entry at its default. Values the manual gives no reset for
are the model's choice (log entry 3). -/
def Obligations.ResetValues : Prop :=
  State.reset.pins.resetLow = true ∧ State.reset.boot.state = .booting ∧ State.reset.time = 0 ∧
  State.reset.tb.state = .freerun ∧ State.reset.faults.device = .normal ∧ State.reset.faults.active = [] ∧
  State.reset.recIn.state = 4 ∧ State.reset.recIn.prior = false ∧
  State.reset.power.ladder = 0 ∧ State.reset.pending = [] ∧ State.reset.nvm.current = none ∧
  (∀ ch, (State.reset.chan ch).state = .closed ∧ (State.reset.chan ch).owner = 0) ∧
  (∀ n, (State.reset.ring n).enable = false ∧ (State.reset.ring n).owner = none) ∧
  (∀ r, (State.reset.req r).code = 0) ∧
  (∀ key, State.reset.v key = State.reset.dflt key ∧ State.reset.pv key = State.reset.dflt key)

/-! ### Resets, supplies and the host link -/

/-- RESET_N low for at least 1 µs is a full reset: a slot write in progress completes, everything outside NVM, the magazines, the pins and
the boot area is lost, RESET_CAUSE reads 2, and the device is held in reset. A pulse below 100 ns changes nothing, and neither does a
pulse while RESET_N is low. -/
def Obligations.ResetPinResets : Prop :=
  (∀ (s : State) (t : Time) (lowNs : Nat), s.pins.resetLow = false → 1000 ≤ lowNs →
    let z := ((s.at t).slotSettle true).wipe false 2
    let r : State := { z with pins := { z.pins with resetLow := true, mainEn := true } }
    exec (.resetNAssert t lowNs) s = .next r ∧ ((∀ c ∈ s.pending, c.releasesReset = false) → r.HeldInReset)) ∧
  (∀ v : State,
    let z := v.wipe false 2
    z.time = 0 ∧ z.boot.cause = 2 ∧ z.boot.state = .booting ∧ z.dict = {} ∧ z.reqs = [] ∧ z.chans = [] ∧ z.rings = [] ∧
    z.units = [] ∧ z.fbs = [] ∧ z.pool = {} ∧ z.dram = {} ∧ z.dma = [] ∧ z.faults = {} ∧ z.ints = {} ∧ z.moraine = {} ∧
    z.nvm = { v.nvm with current := none, waiting := [] } ∧ z.pending = v.pending ∧ z.boot.bootCount = v.boot.bootCount ∧
    (∀ n, (z.flash n).selected = (v.flash n).selected ∧ (z.flash n).trial = (v.flash n).trial) ∧
    (∀ m, (z.mag m).content = (v.mag m).content) ∧
    z.pins = { v.pins with xspiHighZ := true, wakeN := false, ppsHigh := 0 }) ∧
  (∀ v : State, v.nvm.current = none → v.slotSettle true = v) ∧
  (∀ (v : State) (j : NvmJob) (since : Time), v.nvm.current = some (j, since) →
    (v.slotSettle true).nvm.records = Store.put v.nvm.records j.key
      { slots := Store.put (v.nvmRecord j.key).slots ((v.nvmRecord j.key).wear % 8) (v.nvmSlotOf j)
        wear := (v.nvmRecord j.key).wear + 1 }) ∧
  (∀ (s : State) (t : Time) (lowNs : Nat), lowNs < 100 ∨ s.pins.resetLow = true →
    exec (.resetNAssert t lowNs) s = .next (s.at t))

/-- What starts a boot: RESET_N released with the rails on and no supply condition, the supply restored with RESET_N high, 100 ms of a
device-fatal fault without its dump. A release or a restored supply while the other still holds the device does not. Where no copy of
region 1 holds an image that could pass its checks, whatever keys and versions are in force, the boot ends in BOOT_FAILED with the xSPI
pins high impedance. -/
def Obligations.BootsStart : Prop :=
  ((∀ (s : State) (t : Time) (b : BootFacts), s.pins.resetLow = true → s.pins.mainEn = true →
      (s.pins.supplyBad = false → s.pins.tcxoLost = false →
        exec (.resetNRelease t b) s = .next (State.boot1 { s.at t with pins := { s.pins with resetLow := false } } b)) ∧
      (s.pins.supplyBad = true ∨ s.pins.tcxoLost = true →
        exec (.resetNRelease t b) s = .next { s.at t with pins := { s.pins with resetLow := false } })) ∧
    (∀ (s : State) (t : Time) (b : BootFacts), s.pins.supplyBad = true ∨ s.pins.tcxoLost = true →
      let v : State := { s.at t with pins := { s.pins with supplyBad := false, tcxoLost := false, mainEn := true } }
      (s.pins.resetLow = false → exec (.supplyRestore t b) s = .next (v.boot1 b)) ∧
      (s.pins.resetLow = true → exec (.supplyRestore t b) s = .next v)) ∧
    (∀ (s : State) (t : Time) (b : BootFacts), s.faults.device = .fatalDumping →
      s.faults.fatalAt + 100000000 ≤ (s.at t).time → s.power.off = false → s.power.shutdown = false →
      exec (.fatalWarmReset t b) s = .next ((s.at t).warmReset 3 b))) ∧
  (∀ (s : State) (b : BootFacts), s.boot.afterShutdown = false →
    (∀ x ∈ b.copies, x.1 = 2 ∨ x.1 = 3 → ∀ v : State, v.imageFault 1 x.2 ≠ none) →
      (s.boot1 b).boot.state = .failed ∧ (s.boot1 b).pins.xspiHighZ = true ∧ (s.boot1 b).pins.straps = b.straps)

/-- Events on the supplies, on PERST_N and on the host link: a rail that fails or a lost reference clock is a full reset with RESET_CAUSE 1
that lasts until the condition ends; PERST_N takes the link down, resets every function and ends the virtual functions. -/
def Obligations.SupplyAndLinkEvents : Prop :=
  (∀ (s : State) (t : Time), s.pins.resetLow = true →
    exec (.powerUp t) s = .next { s.at t with pins := { s.pins with mainEn := true } }) ∧
  (∀ (s : State) (t : Time) (rail : Nat), rail < 7 → s.pins.resetLow = false → s.railNeeded rail = true →
    let z := ((s.at t).slotSettle false).wipe false 1
    exec (.supplyFault t rail) s = .next { z with pins := { z.pins with supplyBad := true } }) ∧
  (∀ (s : State) (t : Time), s.pins.resetLow = false → s.power.ladder ≠ 5 →
    let z := ((s.at t).slotSettle false).wipe false 1
    exec (.tcxoLoss t) s = .next { z with pins := { z.pins with tcxoLost := true } }) ∧
  (∀ v : State,
    let z := v.wipe false 1
    z.time = 0 ∧ z.boot.cause = 1 ∧ z.dict = {} ∧ z.chans = [] ∧ z.rings = [] ∧ z.faults = {} ∧ z.moraine = {} ∧
    z.nvm = { v.nvm with current := none, waiting := [] }) ∧
  (∀ (v : State) (j : NvmJob) (since : Time), v.nvm.current = some (j, since) →
    (v.slotSettle false).nvm.records = Store.put v.nvm.records j.key
      { slots := Store.put (v.nvmRecord j.key).slots ((v.nvmRecord j.key).wear % 8) .broken
        wear := (v.nvmRecord j.key).wear + 1 }) ∧
  (∀ (s : State) (t : Time), exec (.perstRelease t) s = .next { s.at t with host := { s.host with perstLow := false } }) ∧
  (∀ (s : State) (t : Time),
    let a : State := { s.at t with host := { s.host with perstLow := true } }
    (¬ s.runs t ∨ s.hostRole = false → exec (.perstAssert t) s = .next a) ∧
    (s.runs t → s.hostRole = true →
      let v := a.awake.linkDown.flrAll.countFlr 1
      exec (.perstAssert t) s = .next (State.each { v with host := { v.host with vfEnable := false, numVfs := 0 } }
        (v.funcs.filter (· ≠ 0)) State.endVf))) ∧
  (∀ (s : State) (t : Time) (gen width : Nat), s.runs t → (s.now t).host.perstLow = false → (s.now t).hostRole = true →
    exec (.hostLinkUp t gen width) s = .next (State.endFault { s.now t with
      host := { (s.now t).host with linkUp := true, gen := gen, width := width }
      pins := { (s.now t).pins with wakeN := false } } F.HOST_LINK_DOWN 0)) ∧
  (∀ (s : State) (t : Time), s.runs t → (s.now t).host.linkUp = true →
    exec (.hostLinkDown t) s = .next (State.raise { s.now t with
      host := { (s.now t).host with linkUp := false, gen := 0, width := 0 } } F.HOST_LINK_DOWN {}))

/-! ### The dictionary and NVM -/

/-- A write of a plain RW entry: the pending value is the new one at once; an IMM value is in effect at once too, any other one
only at its apply point (R67 to R71). -/
def Obligations.PlainWritesAreAccepted : Prop :=
  ∀ (s : State) (t : Time) (r : Requester) (idx sub : Nat) (data : List Byte) (e : Entry), s.runs t →
    let u := s.now t
    let key := u.regKey r (keyOf idx sub)
    u.Prompt → u.Present r → idx < 65536 → sub < 256 → u.writeCheck r idx sub data = .ok (e, none) → e.acc = .rw →
    e.ty.size = some data.length → plainEntry idx sub = true →
    (e.ap = .imm → ¬ actsAtOnce key = true →
      ServedAs u (exec (.dictWrite t r idx sub ⟨0, data⟩) s) (fun v => v.setImm key (leNat data)) ∧
      (u.setImm key (leNat data)).pv key = leNat data ∧ (u.setImm key (leNat data)).v key = leNat data) ∧
    (e.ap = .frame ∨ e.ap = .cycle ∨ (e.ap = .refill ∧ idx ≠ 0x2A41) →
      let f := fun v : State => (v.setPv key (leNat data)).setWaiting key
      ServedAs u (exec (.dictWrite t r idx sub ⟨0, data⟩) s) f ∧
      (f u).pv key = leNat data ∧ (f u).v key = u.v key ∧ (f u).waits key = true) ∧
    (∀ n k, k ≠ key → (u.setImm key n).pv k = u.pv k ∧ (u.setImm key n).v k = u.v k ∧ (u.setPv key n).pv k = u.pv k ∧
      (u.setPv key n).v k = u.v k)

/-- A BAR0 read of a slot whose entry does not exist, or which the requester's rights or the access code refuse, returns zero; a BAR0
write to such a slot is ignored; both record the abort code in the requester's LAST_ACCESS_ERROR (R64). So does a write refused for its
value or for the entry's state; a record counts and replaces the older one (R66). -/
def Obligations.RefusedAccessesAreRecorded : Prop :=
  ∀ (s : State) (t : Time) (f idx sub : Nat) (a : Abort), s.runs t →
    let u := s.now t
    let r := Requester.func f
    f < 256 → u.funcReaches f = true → idx < 65536 → sub < 256 → u.lutBusy (keyOf idx sub) = false →
    (u.readCheck r idx sub = .error a →
      exec (.bar0LowWordRead t f idx sub) s = .next ((u.accessError r a idx sub).emit (.bar0 f 0)) ∧
      exec (.bar0HighWordRead t f idx sub) s = .next ((u.accessError r a idx sub).emit (.bar0 f 0))) ∧
    (∀ data, u.Prompt → u.writeCheck r idx sub data = .error a →
      ServedAs u (exec (.dictWrite t r idx sub ⟨0, data⟩) s) (fun v => v.accessError r a idx sub)) ∧
    (∀ data e, u.fatal = false → u.array.state ≠ 4 → u.writeCheck r idx sub data = .ok (e, some a) →
      e.ty.size = some data.length → e.acc = .rw →
      ∃ n, exec (.dictWrite t r idx sub ⟨0, data⟩) s = .next (State.accessError { u with free := n } r a idx sub)) ∧
    (u.accessError r a idx sub).req r = { u.req r with
      code := a, entry := keyOf idx sub, errTime := u.time, errCount := (u.req r).errCount + 1 } ∧
    (∀ r', r'.key ≠ r.key → (u.accessError r a idx sub).req r' = u.req r') ∧
    (u.accessError r a idx sub).dict = u.dict

/-- An RWP write starts its slot write and is answered later; the value in effect is still the old one. A write of the value that
already stands takes no slot (R56). HEARTBEAT_TIME and REC_SOURCE are RWP entries (Table 2-2). -/
def Obligations.RwpWritesGoToNvm : Prop :=
  (∀ (s : State) (t : Time) (r : Requester) (idx sub : Nat) (data : List Byte) (e : Entry), s.runs t →
      let u := s.now t
      let key := keyOf idx sub
      u.Prompt → u.Present r → idx < 65536 → sub < 256 → u.writeCheck r idx sub data = .ok (e, none) → e.acc = .rwp →
      e.ty.size = some data.length → u.power.shutdown = false →
      (leNat data ≠ u.pv key → (u.nvmRecord key).wear < 800000 →
        ∃ s', exec (.rwpWrite t r idx sub data) s = .next s' ∧
          s'.nvm.current = some
            ({ key := key, value := w64 (leNat data), restored := false
               back := .request (queueOf r) (.write r idx sub data), who := r }, u.time) ∧
          (s'.reqQueue (queueOf r)).blocked = true ∧ s'.nvm.records = u.nvm.records ∧ s'.dict = u.dict) ∧
      (leNat data = u.pv key →
        ∃ s', exec (.rwpWrite t r idx sub data) s = .next s' ∧ s'.nvm = u.nvm ∧ s'.dict = u.dict ∧
          (s'.reqQueue (queueOf r)).blocked = false)) ∧
  (∀ (s : State) (t : Time) (r : Requester), s.runs t →
      let u := s.now t
      u.Prompt → u.power.shutdown = false →
      (∀ ms, ms < 65536 → u.MayAct r K.HEARTBEAT_TIME → ms ≠ u.pv K.HEARTBEAT_TIME →
        (u.nvmRecord K.HEARTBEAT_TIME).wear < 800000 →
        ∃ s' j, exec (.heartbeatTimeWrite t r (leBytes 2 ms)) s = .next s' ∧ s'.nvm.current = some (j, u.time) ∧
          j.key = K.HEARTBEAT_TIME ∧ j.value = w64 ms) ∧
      (∀ src, src ≤ 1 → u.MayAct r K.REC_INPUT_REC_SOURCE → src ≠ u.pv K.REC_INPUT_REC_SOURCE →
        (u.nvmRecord K.REC_INPUT_REC_SOURCE).wear < 800000 →
        ∃ s' j, exec (.recSourceWrite t r [byteOf src]) s = .next s' ∧ s'.nvm.current = some (j, u.time) ∧
          j.key = K.REC_INPUT_REC_SOURCE ∧ j.value = w64 src))

/-- A slot write ends: WEAR counts it, and the slot in turn holds the record's 32 bytes under the next sequence number, or is broken where
the read-back fails. A write that reads back is in effect by its apply point, and one that does not leaves the previous value standing,
counts in FAILED_SLOTS and is answered 0x0A48_0006. The 800,000th write of an entry raises NVM_WEAR. A write that a thermal shutdown
finds under way is given up 100 µs after it (R56 to R59). -/
def Obligations.SlotWritesEnd : Prop :=
  ∀ (s : State) (t : Time) (j : NvmJob) (since : Time), s.runs t →
    let u := s.now t
    u.nvm.current = some (j, since) →
    (∀ v, v = (u.slotWrite j (u.nvmSlotOf j)).rwpStored j.key j.value.toNat →
      ((v.nvmRecord j.key).wear ≠ 800000 →
        exec (.nvmSlotWriteDone t true) s = .next ((v.nvmAnswer j none).nvmGo.stopGo)) ∧
      ((v.nvmRecord j.key).wear = 800000 → exec (.nvmSlotWriteDone t true) s =
        .next (((v.raise F.NVM_WEAR { detail := [j.key] }).nvmAnswer j none).nvmGo.stopGo))) ∧
    exec (.nvmSlotWriteDone t false) s = .next
      ((((u.slotWrite j .broken).bumpSat K.NVM_STATUS_FAILED_SLOTS 1).nvmAnswer j (some A.readBack)).nvmGo.stopGo) ∧
    (∀ c w, w = u.slotWrite j c →
      (w.nvmRecord j.key).wear = (u.nvmRecord j.key).wear + 1 ∧
      Store.find? (w.nvmRecord j.key).slots ((u.nvmRecord j.key).wear % 8) = some c ∧
      w.nvm.current = none ∧ w.nvm.slotWrites = u.nvm.slotWrites + 1 ∧ w.pv j.key = u.pv j.key ∧ w.v j.key = u.v j.key) ∧
    (u.power.shutdown = true → u.power.stopAt + 100000 ≤ u.time →
      exec (.nvmWriteAbandon t) s = .next (u.slotWrite j .broken).stopGo)

/-- Device commands that are writes of one entry: a requester with the right to the entry has the command's effect at once. -/
def Obligations.DeviceActionsTakeEffect : Prop :=
  ∀ (s : State) (t : Time) (r : Requester), s.runs t →
    let u := s.now t
    u.Prompt →
    (∀ b : Byte, u.MayAct r K.LAST_ACCESS_ERROR_CLEAR → ServedAs u (exec (.lastAccessErrorClear t r [b]) s)
      (fun v => v.modReq r (fun q => { q with code := 0, entry := 0, errTime := 0 }))) ∧
    (u.MayAct r K.RESTORE_DEFAULTS →
      ServedAs u (exec (.restoreDefaults t r (leBytes 4 0x64616F6C)) s) (fun v => v.restoreDefaults r)) ∧
    (∀ b : Byte, u.MayAct r K.SNAPSHOT_TRIGGER → ServedAs u (exec (.snapshotTrigger t r [b]) s) State.snapshot) ∧
    (u.MayAct r K.FAULT_LOG_CLEAR → ServedAs u (exec (.faultLogClear t r) s)
      (fun v => { v with faults := { v.faults with log := [], replaced := 0 } })) ∧
    (u.MayAct r K.DRAM_ERR_LOG_CLEAR → ServedAs u (exec (.dramErrLogClear t r) s)
      (fun v => { v with dram := { v.dram with errLog := [] } })) ∧
    (∀ src, src ≤ 509 → u.MayAct r K.FAULT_STATUS_ACK →
      ServedAs u (exec (.faultAck t r (leBytes 2 src)) s) (fun v => v.ackFault src)) ∧
    (u.MayAct r K.MORAINE_COMMAND → ServedAs u (exec (.release t r) s)
      (fun v => { v with moraine := { v.moraine with valid := false } })) ∧
    (u.MayAct r K.MORAINE_COMMAND → u.mayDump = true → ServedAs u (exec (.dumpNow t r) s)
      (fun v => { v with moraine := { v.moraine with dumping := true, state := 1 } })) ∧
    (∀ b, u.MayAct r K.BOOT_STATUS_WARM_RESET →
      ServedAs u (exec (.warmReset t r (leBytes 4 0x74736572) b) s) (fun v => v.warmReset 4 b))

/-- SNAP_AT in the future waits; at or before the present time the snapshot fires at once and SNAP_AT returns to 0 (R78). A snapshot
holds every counter that a rule gives as it stands, and SNAP_TIME is its instant (R76); a scheduled one fires when TIME_NOW reaches
SNAP_AT. -/
def Obligations.SnapshotsHoldCounters : Prop :=
  (∀ (s : State) (t : Time) (r : Requester) (at_ : Nat), s.runs t →
      let u := s.now t
      u.Prompt → u.MayAct r K.SNAPSHOT_SNAP_AT → 0 < at_ → at_ < 2 ^ 64 - 1 →
      (u.time < at_ → ServedAs u (exec (.snapAtWrite t r (leBytes 8 at_)) s) (fun v => v.setImm K.SNAPSHOT_SNAP_AT at_)) ∧
      (at_ ≤ u.time → ServedAs u (exec (.snapAtWrite t r (leBytes 8 at_)) s)
        (fun v => ((v.setImm K.SNAPSHOT_SNAP_AT at_).snapshot).setImm K.SNAPSHOT_SNAP_AT 0))) ∧
  ((∀ (s : State) (key : Nat), key ∉ trafficKeys →
      Store.get s.snapshot.dict.held 0 key = Store.get s.dict.live 0 key ∧
      s.snapshot.ro K.SNAPSHOT_SNAP_TIME = s.time % 2 ^ 64) ∧
    (∀ (s : State) (t : Time), s.runs t → (s.now t).snapDue = true →
      exec (.snapshotScheduled t) s = .next ((s.now t).snapshot.setImm K.SNAPSHOT_SNAP_AT 0)))

/-! ### CANopen FD, OD/UDP and BAR0 -/

/-- NMT commands change only the CANopen state of the controller addressed; the two resets announce it with a boot-up message (R47).
Heartbeats, bus-off and its recovery (R46, R49). -/
def Obligations.NmtCommands : Prop :=
  (∀ (s : State) (t : Time) (can node : Nat), can < 2 → node < 128 → s.runs t →
      let u := s.now t
      let c := u.canNode can
      u.nmtAddressed can node = true →
      exec (.nmtStart t can node) s = .next (u.setCan can { c with nmt := .operational }) ∧
      exec (.nmtStop t can node) s = .next (u.setCan can { c with nmt := .stopped, sessions := [] }) ∧
      exec (.nmtEnterPreOperational t can node) s = .next (u.setCan can { c with nmt := .preOperational }) ∧
      exec (.nmtResetNode t can node) s =
        .next ((u.setCan can { c with nmt := .preOperational, sessions := [], tpdos := [], lastHb := u.time }).emit (.canBootUp can)) ∧
      exec (.nmtResetCommunication t can node) s =
        .next ((u.setCan can { c with nmt := .preOperational, sessions := [], tpdos := [], lastHb := u.time }).emit (.canBootUp can))) ∧
  (∀ (s : State) (t : Time) (can : Nat), can < 2 → s.runs t →
      let u := s.now t
      let c := u.canNode can
      (u.heartbeatDue can = true → c.sends = true →
        exec (.canHeartbeat t can) s = .next ((u.setCan can { c with lastHb := u.time }).emit (.canHeartbeat can c.nmt.code))) ∧
      (c.on = true → c.busOff = false → exec (.canBusOff t can) s =
        .next ((u.setCan can { c with busOff := true }).bumpSat K.CAN_CONFIG_BUS_OFF_COUNT 1)) ∧
      exec (.canBusOffRecovery t can) s = .next (u.setCan can { c with busOff := false }))

/-- USDO transfers: a read opens a session, is answered with the entry's bytes and ends it; a first segment that is not the last
opens a session that holds its bytes and changes nothing else; the last one writes (R46). Process data: an operational node writes
what it receives, cut as its mapping says, and sends what it maps where the TPDO is due (R46, R48). -/
def Obligations.CanTransfers : Prop :=
  (∀ (s : State) (t : Time) (can client idx sub : Nat), can < 2 → client < 128 → idx < 65536 → sub < 256 → s.runs t →
      let u := s.now t
      let c := u.canNode can
      let session (isWrite queued : Bool) (data : List Byte) : State := u.setCan can { c with
        sessions := Store.put c.sessions client { idx := idx, sub := sub, isWrite := isWrite, data := data, queued := queued } }
      s.boot.state = .ready → c.serves = true → u.Prompt →
      (keyOf idx sub ≠ K.MAILBOX_FENCE_FENCE → u.lutBusy (keyOf idx sub) = false →
        let v := (session false true []).afterQueue can (.usdoRead can client idx sub)
        (∀ bs, (v.readFor (.can can) idx sub).1 = .ok bs → exec (.usdoUpload t can client idx sub) s =
          .next ((v.readFor (.can can) idx sub).2.usdoAnswer can client idx sub none bs)) ∧
        (∀ a, (v.readFor (.can can) idx sub).1 = .error a → exec (.usdoUpload t can client idx sub) s =
          .next ((v.readFor (.can can) idx sub).2.usdoAnswer can client idx sub (some a) []))) ∧
      (∀ data, exec (.usdoDownload t can client idx sub data true false) s = .next (session true false data)) ∧
      (∀ data e, u.writeCheck (.can can) idx sub data = .ok (e, none) → e.acc = .rw → plainEntry idx sub = true →
        e.ap = .frame → e.ty.size = some data.length →
        ∃ s', exec (.usdoDownload t can client idx sub data true true) s = .next s' ∧
          s'.pv (u.regKey (.can can) (keyOf idx sub)) = leNat data ∧
          s'.out = u.out ++ [.usdo can client idx sub 0 []])) ∧
  (∀ (v : State) (can client idx sub : Nat) (bs : List Byte) (x : Session),
      Store.find? (v.canNode can).sessions client = some x → x.queued = true → (v.reqQueue can).items = [] →
      let w := v.usdoAnswer can client idx sub none bs
      w.out = v.out ++ [.usdo can client idx sub 0 bs] ∧ Store.find? (w.canNode can).sessions client = none) ∧
  (∀ (s : State) (t : Time) (can pdo : Nat), can < 2 → pdo < 8 → s.runs t →
      let u := s.now t
      let c := u.canNode can
      c.serves = true → c.nmt = .operational →
      (u.pdoValid (0x1400 + pdo) = true → u.Prompt → (∀ key, u.lutBusy key = false) →
        ∀ data vals, cutPdo (u.pdoMap (0x1600 + pdo)) data = some vals →
        exec (.rpdoReceive t can pdo data) s =
          .next ((u.afterQueue can (.rpdo can vals)).runRequest can (.rpdo can vals) (u.freeEnv 0)) ∧
        (∀ idx sub bs e, vals = [(keyOf idx sub, bs)] → idx < 65536 → sub < 256 →
          u.writeCheck (.can can) idx sub bs = .ok (e, none) → e.acc = .rw → plainEntry idx sub = true → e.ap = .frame →
          e.ty.size = some bs.length → ServedAs u (exec (.rpdoReceive t can pdo data) s) (fun v =>
            (v.setPv (u.regKey (.can can) (keyOf idx sub)) (leNat bs)).setWaiting (u.regKey (.can can) (keyOf idx sub))))) ∧
      (u.pdoValid (0x1800 + pdo) = true → u.tpdoDue can pdo (u.tpdoBytes can pdo).1 = true →
        let x := u.tpdoBytes can pdo
        exec (.tpdoTransmit t can pdo) s = .next ((x.2.setCan can { x.2.canNode can with
          tpdos := Store.put (x.2.canNode can).tpdos pdo (x.2.time, x.1) }).emit (.tpdo can pdo x.1)) ∧
        (u.pdoMap (0x1A00 + pdo) = [] → x = ([], u))))

/-- Datagrams on the management port: one that R43 drops is counted, an echo is returned with its SEQ, a READ or WRITE packet whose queue
is idle is executed item by item as it comes, its FENCE items first and outside the queue, and a repeated SEQ is answered from the
answers kept (R43 to R45, R111). -/
def Obligations.Datagrams : Prop :=
  ∀ (s : State) (t : Time) (addr port : Nat) (bytes : List Byte), addr < 2 ^ 32 → port < 65536 → s.runs t →
    let u := s.now t
    s.boot.state = .ready → u.v K.UDP_CONFIG_UDP_PORT ≠ 0 →
    (parseDatagram bytes = .dropped →
      exec (.odUdpBadDatagram t addr port bytes) s =
        .next { u with access := { u.access with dropped := u.access.dropped + 1 } }) ∧
    (∀ seq, parseDatagram bytes = .echo seq →
      exec (.odUdpEcho t addr port bytes) s = .next (u.emit (.udp addr port (udpHeader 0x7F seq 0 0)))) ∧
    (∀ w seq items, parseDatagram bytes = .packet w seq items → u.keptAnswer addr port seq = none →
      let x := if w then (items, u) else u.readFences (.udp addr port) items
      let r := Request.udp addr port seq w x.1
      let p : OpenPacket := {
        addr := addr, port := port, seq := seq, isWrite := w, items := x.1, answers := [], left := 0 }
      u.Prompt → (∀ key, u.lutBusy key = false) → r.count ≤ 64 →
      let v := if r.count = 0 then x.2.draws else x.2.afterQueue 2 r
      (w = false → exec (.odUdpRead t addr port bytes) s = .next (v.runPacket p (x.2.freeEnv 0))) ∧
      (w = true → exec (.odUdpWrite t addr port bytes) s = .next (v.runPacket p (x.2.freeEnv 0)))) ∧
    (∀ seq items k w, parseDatagram bytes = .packet w seq items → u.keptAnswer addr port seq = some k →
      exec (.odUdpRead t addr port bytes) s = .next (u.emit (.udp addr port k.bytes)) ∧
      exec (.odUdpWrite t addr port bytes) s = .next (u.emit (.udp addr port k.bytes)))

/-- A queue holds up to 64 requests, and one that finds it full is answered 0x0800_0022 and not executed; the arbiter serves the
queues in turn, from the one after the queue it served last, and each queue in order (R39, R50, R51). -/
def Obligations.RequestQueues : Prop :=
  (∀ (u : State) (q : Nat) (r : Request) (env : Env), 64 < u.queueDepth q + r.count →
    u.submit q r env = u.queueFull q r) ∧
  (∀ (s : State) (t : Time) (q : Nat), q < 5 → s.runs t → (s.now t).nextQueue = some q →
    exec (.queuedRequestServe t q) s = .next ((s.now t).draws.serveQueue q ((s.now t).freeEnv 0))) ∧
  (∀ (u : State) (q : Nat), u.nextQueue = some q → u.servable q = true ∧ q < 5) ∧
  (∀ (u : State) (n : Nat) (r : Request) (rest : List Request) (env : Env), (u.reqQueue n).items = r :: rest →
    let w := u.setReqQueue n { u.reqQueue n with items := rest }
    let v : State := { w with access := { w.access with arbiter := (n + 1) % 5 } }
    u.serveQueue n env = v.runRequest n r env ∧ (v.reqQueue n).items = rest)

/-- A 4-byte read of the low word returns the live low word and keeps the live high word in the requester's one read shadow, tagged
with the slot (R72). -/
def Obligations.LowWordReadKeepsTheHighWord : Prop :=
  ∀ (s : State) (t : Time) (f idx sub : Nat) (e : Entry) (v : Nat), f < 256 → idx < 65536 → sub < 256 → s.runs t →
    let u := s.now t
    let r := Requester.func f
    u.funcReaches f = true → lookup idx sub = .ok e → wideSlot e = true → u.lutBusy (keyOf idx sub) = false →
    u.slotPeek r e idx sub = .ok v →
    exec (.bar0LowWordRead t f idx sub) s = .next
      ((u.modReq r (fun q => { q with shadow := some (keyOf idx sub, w32 (v / 2 ^ 32)) })).emit (.bar0 f (w64 (v % 2 ^ 32))))

/-- A 4-byte read of the high word of the tagged slot returns the shadow, and of any other slot the live high word (R73). -/
def Obligations.HighWordReadReturnsTheShadow : Prop :=
  ∀ (s : State) (t : Time) (f idx sub : Nat) (e : Entry), f < 256 → idx < 65536 → sub < 256 → s.runs t →
    let u := s.now t
    let r := Requester.func f
    u.funcReaches f = true → lookup idx sub = .ok e → wideSlot e = true → u.lutBusy (keyOf idx sub) = false →
    u.readCheck r idx sub = .ok e →
    (∀ w, (u.req r).shadow = some (keyOf idx sub, w) →
      exec (.bar0HighWordRead t f idx sub) s = .next ((u.slotRead r e idx sub).2.bar0Answer f w.toNat) ∧
      (((u.slotRead r e idx sub).2.bar0Answer f w.toNat).req r).shadow = some (keyOf idx sub, w)) ∧
    ((∀ w, (u.req r).shadow ≠ some (keyOf idx sub, w)) → ∀ bs, (u.slotRead r e idx sub).1 = .ok bs →
      exec (.bar0HighWordRead t f idx sub) s = .next ((u.slotRead r e idx sub).2.bar0Answer f (leNat bs / 2 ^ 32)))

/-- A 4-byte write of the low word of a 64-bit slot is staged and changes nothing else; the high word of the same slot then writes
both halves as one 8-byte write, exactly as that write would be served, and the stage is empty (R74). With no low word staged for the
slot the present pending low word is written; a low word of another slot discards the staged one, and 0x0800_0020 is recorded against
the slot discarded (R75). -/
def Obligations.HalfWritesCommitTogether : Prop :=
  ∀ (s : State) (t : Time) (f idx sub : Nat) (e : Entry) (word : W32), f < 256 → idx < 65536 → sub < 256 → s.runs t →
    let u := s.now t
    let r := Requester.func f
    let key := keyOf idx sub
    u.funcReaches f = true → lookup idx sub = .ok e → e.ty.size = some 8 →
    ((∀ k w, (u.req r).stage = some (k, w) → k = key) →
      exec (.bar0LowWordWrite t f idx sub word) s = .next (u.modReq r (fun q => { q with stage := some (key, word) }))) ∧
    (∀ k w, (u.req r).stage = some (k, w) → k ≠ key →
      exec (.bar0LowWordWrite t f idx sub word) s = .next ((u.accessError r 0x08000020 (k / 256) (k % 256)).modReq r
        (fun q => { q with stage := some (key, word) }))) ∧
    (∀ low, (u.req r).stage = some (key, low) →
      let v := u.modReq r (fun q => { q with stage := none })
      let data := leBytes 4 low.toNat ++ leBytes 4 word.toNat
      exec (.bar0HighWordWrite t f idx sub word) s = exec (.dictWrite t r idx sub ⟨0, data⟩) v ∧
      exec (.bar0HighWordWrite t f idx sub word) s = exec (.rwpWrite t r idx sub data) v ∧
      leNat data = low.toNat + 2 ^ 32 * word.toNat ∧ (v.req r).stage = none) ∧
    (∀ v, (∀ w, (u.req r).stage ≠ some (key, w)) → u.slotPeek r e idx sub = .ok v →
      exec (.bar0HighWordWrite t f idx sub word) s =
        exec (.dictWrite t r idx sub ⟨0, leBytes 4 (v % 2 ^ 32) ++ leBytes 4 word.toNat⟩) u) ∧
    (∀ low, (u.req r).stage = some (key, low) →
      let v := u.modReq r (fun q => { q with stage := none })
      let data := leBytes 4 low.toNat ++ leBytes 4 word.toNat
      v.Prompt → v.writeCheck r idx sub data = .ok (e, none) → e.acc = .rw → plainEntry idx sub = true → e.ap = .imm →
      ¬ actsAtOnce (v.regKey r key) = true →
      ServedAs v (exec (.bar0HighWordWrite t f idx sub word) s) (fun x => x.setImm (v.regKey r key) (leNat data)))

/-- A FENCE read counts itself: a requester's first fence after reset returns 1 (R111). It enters no queue. -/
def Obligations.FenceCountsItself : Prop :=
  ∀ (s : State) (t : Time) (r : Requester), s.runs t →
    let u := s.now t
    r.readPlace < 256 → (∀ f, r = .func f → u.funcReaches f = true) →
    u.dict.lost = [] →
    exec (.mailboxFenceRead t r) s = .next ((u.modReq r (fun q => { q with fences := q.fences + 1 })).emit
      (.fence r ((u.req r).fences + 1)))

/-! ### Functions, channels and rings -/

/-- VF Enable brings virtual functions into being while the link is up; a lower NumVFs, or 0, ends those above it one after another
(R87, R89). Function-level resets are counted in FLR_COUNT (R88, R89). -/
def Obligations.FunctionsComeAndGo : Prop :=
  (∀ (s : State) (t : Time) (n : Nat), n < 256 → s.runs t →
      let u := s.now t
      (u.funcReaches 0 = true → u.host.vfEnable = false →
        exec (.vfEnable t n) s = .next { u with host := { u.host with vfEnable := true, numVfs := n } }) ∧
      (u.funcReaches 0 = true → u.host.vfEnable = true → n < u.host.numVfs ∨ n = 0 →
        let v := u.each ((List.range 256).filter (fun f => n < f && f ≤ u.host.numVfs)) State.endVf
        let w : State := { v with host := { v.host with vfEnable := decide (n ≠ 0), numVfs := n } }
        exec (.vfDisable t n) s = .next w ∧ ∀ f, n < f → w.funcExists f = false)) ∧
  (∀ (s : State) (t : Time), s.runs t →
      let u := s.now t
      (∀ f, 0 < f → f < 256 → u.funcReaches f = true → exec (.flrVf t f) s = .next ((u.flr f).countFlr 1)) ∧
      (u.funcReaches 0 = true → exec (.flrPf t) s = .next (u.flrAll.countFlr 1)))

/-- GRANT gives a ring that has no owner to a function, at a free local number of its own; with REVOKE a disabled ring returns to no
owner (R90). OWNER of a CLOSED channel without an enabled ring is any function that exists; F000 sets it (R91). -/
def Obligations.RingsAndOwners : Prop :=
  (∀ (s : State) (t : Time) (r : Requester) (ring f loc : Nat), s.runs t →
      let u := s.now t
      u.Prompt → u.MayAct r K.RING_GRANT_GRANT → ring < 32768 → f < 256 → loc < 128 →
      ((u.ring ring).owner = none → u.funcExists f = true → u.ringsHeld f < 128 → u.ringOf f loc = none →
        ServedAs u (exec (.ringGrant t r (leBytes 4 (loc * 2 ^ 24 + f * 2 ^ 16 + ring))) s)
          (fun v => v.setRing ring { v.ring ring with owner := some f, loc := loc })) ∧
      ((u.ring ring).state = .disabled →
        ServedAs u (exec (.ringRevoke t r (leBytes 4 (2 ^ 31 + ring))) s)
          (fun v => (v.setRing ring { v.ring ring with owner := none, loc := 0, enable := false }).withdraw (v.ring ring).irqSrc))) ∧
  (∀ (s : State) (t : Time) (ch f : Nat), ch < 256 → s.runs t →
      let u := s.now t
      u.Prompt → u.funcExists f = true → f < 256 → (u.chan ch).state = .closed →
      (u.rings.any (fun e => e.2.enable && e.2.chan == ch)) = false →
      ∃ n, exec (.chOwnerWrite t (.func 0) ch [BitVec.ofNat 8 f]) s =
        .next (State.modChan { u with free := n } ch (fun c => { c with owner := f })))

/-- The channel commands: an OPEN of a CLOSED channel that admission lets in opens it and one that it does not is refused with
ADMIT_RESULT set, DRAIN drains an open channel and prevents the launches from its instant on, ABORT closes any channel that is not
CLOSED; a drained channel sends each stream's end of sequence that it owes, and then closes (R92 to R96, R172). -/
def Obligations.ChannelCommands : Prop :=
  (∀ (s : State) (t : Time) (r : Requester) (ch : Nat), ch < 256 → s.runs t →
      let u := s.now t
      let key := chKey ch K.CH_STATE_COMMAND
      u.Prompt → u.MayAct r key → u.boot.patch = none →
      ((u.chan ch).state = .closed →
        let shown (v : State) : State :=
          (v.setRo (chKey ch K.CH_STATE_ADMIT_RESULT) (u.admitResult ch)).setRo (chKey ch K.CH_STATE_BUF_NEED) (u.bufNeed ch)
        (u.admitResult ch = 0 →
          ServedAs u (exec (.channelOpen t r ch) s) (fun v => (shown v).openChan ch (u.bufNeed ch))) ∧
        (u.admitResult ch ≠ 0 →
          ServedAs u (exec (.channelOpen t r ch) s) (fun v => (shown v).accessError r A.store (key / 256) (key % 256)))) ∧
      ((u.chan ch).state ≠ .closed → ServedAs u (exec (.channelOpen t r ch) s) (fun v => v.accessError r A.state (key / 256) (key % 256))) ∧
      ((u.chan ch).state = .open_ → ServedAs u (exec (.channelDrain t r ch) s) (fun v =>
        ((v.unlaunch ch).modChan ch (fun c => { c with state := .draining, listHead := none, sched := [] })).drainGop ch)) ∧
      ((u.chan ch).state ≠ .closed → ServedAs u (exec (.channelAbort t r ch) s) (fun v => v.abortChan ch false))) ∧
  (∀ (v : State) (ch : Nat), ((v.closeChan ch).chan ch).state = .closed ∧
    ((v.closeChan ch).chan ch).owner = (v.chan ch).owner) ∧
  (∀ (v : State) (ch : Nat), (v.chan ch).lastLaunch ≠ some v.time → v.unlaunch ch = v) ∧
  (∀ (s : State) (t : Time) (ch : Nat), ch < 256 → s.runs t → (s.now t).drained ch = true → (s.now t).coreWorks 2 = true →
    ((s.now t).endOwed ch = none → exec (.channelDrainComplete t ch) s = .next (((s.now t).closeChan ch).serveEngines)) ∧
    (∀ stream, (s.now t).endOwed ch = some stream →
      exec (.channelDrainComplete t ch) s = .next ((s.now t).sendEnd ch stream)))

/-- RING_ENABLE and RING_DISABLE by a function that may write the ring, the stop of a ring, and doorbells (R100, R101). -/
def Obligations.RingsStartAndStop : Prop :=
  ∀ (s : State) (t : Time), s.runs t →
    let u := s.now t
    u.fatal = false →
    (∀ f ring : Nat, f < 256 → ring < 32768 → u.mayWriteRing f ring = true →
      let r := u.ring ring
      (r.enable = false → r.state = .disabled → u.ringCause ring { r with enable := true } = 0 →
        exec (.ringEnable t f ring) s = .next (u.setRing ring { r with
          enable := true, pi := 0, ci := 0, state := .enabled, errCause := 0, fetched := [], chunkDone := 0,
          chunkAborted := none, frame := none })) ∧
      (r.enable = false → r.state = .disabled → u.ringCause ring { r with enable := true } ≠ 0 →
        exec (.ringEnable t f ring) s = .next (u.setRing ring { r with
          enable := true, state := .error, errCause := u.ringCause ring { r with enable := true } })) ∧
      (r.enable = true → r.state = .enabled → exec (.ringDisable t f ring) s =
        .next ((u.setRing ring { r with enable := false, state := .stopping }).withdraw r.irqSrc)) ∧
      (r.enable = true → r.state = .error → exec (.ringDisable t f ring) s =
        .next ((u.setRing ring { r with enable := false, state := .disabled, errCause := 0, fetched := [] }).withdraw
          r.irqSrc))) ∧
    (∀ ring, ring < 32768 → (u.ring ring).state = .stopping → (u.ring ring).fetched = [] → (u.ring ring).enable = false →
      exec (.ringStoppingDone t ring) s = .next (u.setRing ring { u.ring ring with state := .disabled })) ∧
    (∀ f loc ring data, f < 256 → loc < 128 → u.funcReaches f = true → u.ringOf f loc = some ring → data.length = 4 →
      let r := u.ring ring
      let v := w32 (leNat data)
      r.state = .enabled →
      ((v - r.ci).toNat ≤ 2 ^ r.size → exec (.doorbellWrite t f loc data) s =
        .next ((u.tick K.HOST_COUNTERS_DOORBELLS 1).setRing ring { r with dbCount := r.dbCount + 1, pi := v })) ∧
      (2 ^ r.size < (v - r.ci).toNat → exec (.doorbellWrite t f loc data) s =
        .next ((u.tick K.HOST_COUNTERS_DOORBELLS 1).setRing ring { r with
          dbCount := r.dbCount + 1, pi := v, state := .error, errCause := 7 })))

/-- A descriptor is fetched once a doorbell covers it and a tracker is free. It completes in order: an IN descriptor brings its bytes to
the frame or to the input of its channel, an OUT descriptor takes bytes of the chunk in progress, each with its completion written in
two parts. A freed tracker goes to the request that has waited longest among those with room (R104 to R108, R112). -/
def Obligations.DescriptorsAreServed : Prop :=
  ∀ (s : State) (t : Time), s.runs t →
    let u := s.now t
    (∀ (ring : Nat) (slot : BitVec 256), ring < 32768 →
      let r := u.ring ring
      r.state = .enabled → r.unfetched ≠ 0 → u.inPaused r = false →
      u.txn.given = [] → Store.get u.txn.waiting [] 1 = [] → u.txn.room 1 (r.owner.getD 0) = true →
      exec (.descriptorFetch t ring slot) s = .next (State.setRing { u with txn := u.txn.take 1 (r.owner.getD 0) } ring
        { r with fetched := r.fetched ++ [decodeDesc slot] })) ∧
    (∀ (ring : Nat) (data : List Byte) (d : Desc) (rest : List Desc), ring < 32768 →
      let r := u.ring ring
      let none_ : Done := { loc := locCode u.dev (Loc.ofChan r.chan), time := u.time }
      r.fetched = d :: rest → r.state ≠ .disabled → r.type = 1 →
      (∀ x, r.chunkAborted = some x → exec (.descriptorComplete t ring data false) s = .next
        ((u.setRing ring { r with chunkAborted := none }).completeHead ring { x.done with status := 7, eoc := true })) ∧
      (r.chunkAborted = none → r.chan < 256 →
        (d.len = 0 → exec (.descriptorComplete t ring data false) s =
          .next (u.completeHead ring { none_ with status := 2 })) ∧
        (u.pool.bufBytes < d.len → exec (.descriptorComplete t ring data false) s =
          .next (u.completeHead ring { none_ with status := 1 })) ∧
        (∀ x others, 0 < d.len → d.len ≤ u.pool.bufBytes →
          takeFirst (fun x => x.stream == r.stream) (u.chan r.chan).outQ = some (x, others) → u.sizeOpen r.chan x = false →
          let part := (x.data.drop r.chunkDone).take d.len
          let written (to_ : Nat) : State := (u.emit (.hostWrite d.addr part)).setRing ring { r with chunkDone := to_ }
          (r.chunkDone + part.length < x.data.length → exec (.descriptorComplete t ring data false) s =
            .next ((written (r.chunkDone + part.length)).completeHead ring { x.done with
              len := part.length, eop := false, eoc := false, soc := decide (r.chunkDone = 0) })) ∧
          (x.data.length ≤ r.chunkDone + part.length → exec (.descriptorComplete t ring data false) s =
            .next ((((written 0).completeHead ring { x.done with
              len := part.length, eop := x.eop, eoc := true, soc := decide (r.chunkDone = 0) }).each x.bufs
                (fun s b => s.doneBuf b 4)).modChan r.chan (fun c => { c with outQ := others })))))) ∧
    (∀ (ring : Nat) (data : List Byte) (d : Desc) (rest : List Desc), ring < 32768 →
      let r := u.ring ring
      let x : Done := { loc := locCode u.dev (Loc.ofChan r.chan), time := u.time, len := d.len }
      r.fetched = d :: rest → r.state ≠ .disabled → r.type = 0 →
      (256 ≤ r.chan ∨ (d.len ≤ u.pool.bufBytes ∧ (u.chan r.chan).working = false) →
        exec (.descriptorComplete t ring data false) s = .next (u.completeHead ring { x with status := 4, len := 0 })) ∧
      (r.chan < 256 → u.pool.bufBytes < d.len →
        exec (.descriptorComplete t ring data false) s = .next (u.completeHead ring { x with status := 1, len := 0 })) ∧
      (∀ bufs, r.chan < 256 → 0 < d.len → d.len ≤ u.pool.bufBytes → (u.chan r.chan).working = true → data.length = d.len →
        (u.cv r.chan K.CH_DECODE_DIRECTION = 0 → (u.obtain r.chan 2 0 1).1 = some bufs →
          exec (.descriptorComplete t ring data false) s =
            .next (((u.obtain r.chan 2 0 1).2.fillBufs bufs d.len).inEncode ring d data bufs false x)) ∧
        (u.cv r.chan K.CH_DECODE_DIRECTION = 1 → u.cv r.chan K.CH_DECODE_INPUT = 0 → (u.obtain r.chan 3 0 1).1 = some bufs →
          (∀ w : State, w = (u.obtain r.chan 3 0 1).2.fillBufs bufs d.len → w.cv r.chan K.CH_DECODE_INPUT = 0 →
            exec (.descriptorComplete t ring data false) s =
              .next ((w.addInput r.chan data (bufs.map (fun b => (b, d.len))) false).completeHead ring x))))) ∧
    (∀ (ring : Nat) (x : Done) (d : Desc) (rest : List Desc), (u.ring ring).fetched = d :: rest →
      ((u.completeHead ring x).ring ring).ci = (u.ring ring).ci + 1 ∧
      ((u.completeHead ring x).ring ring).fetched = rest ∧
      (u.completeHead ring x).chans = u.chans ∧ (u.completeHead ring x).pool = u.pool) ∧
    (∀ (c : TxnClass) (f : Nat), f < 256 → u.txn.used (txnCode c) ≠ 0 →
      exec (.txnTrackerFreed t c f) s = .next (State.serveTxn { u with txn := u.txn.release (txnCode c) f })) ∧
    (∀ v : State, v.txn.heads = [] → v.serveTxn = v)

/-- BAR2: an aperture is selected, and a write goes into the table that it shows: the mailbox, the gate lists, the launch lists
(R85, R86). -/
def Obligations.TablesAreWritten : Prop :=
  ∀ (s : State) (t : Time) (f : Nat), f < 256 → s.runs t →
    let u := s.now t
    let r := Requester.func f
    u.funcReaches f = true → u.fatal = false →
    (∀ sub v, 1 ≤ sub → sub ≤ 3 → v < 2 ^ 32 → u.writeCheck r 0x2057 sub (leBytes 4 v) =
        (lookup 0x2057 sub).map (fun e => (e, none)) →
      exec (.bar2SelectWrite t f sub (leBytes 4 v)) s = .next (State.setSel u.draws r (keyOf 0x2057 sub) v)) ∧
    (∀ o data, o + data.length ≤ 0x800 → exec (.bar2TableWrite t f o data) s = .next { u with
      host := { u.host with mailbox := u.host.mailbox.writeBytes (f * 4096 + o) data } }) ∧
    (∀ ap p i data, 1 ≤ ap → ap ≤ 3 → u.sel r (K.BAR2_SELECT_APERTURE + ap - 1) = 2 * 2 ^ 24 → p < 24 → i < 1024 →
      data.length = 8 →
      let n := p / 4 * 16 + p % 4
      exec (.bar2TableWrite t f (ap * 0x4000000 + p * 0x4000 + i * 8) data) s = .next (u.setEth n { u.ethPort n with
        pendingList := Store.put (u.ethPort n).pendingList i (w64 (leNat data)) })) ∧
    (∀ ap o data, 1 ≤ ap → ap ≤ 3 → u.sel r (K.BAR2_SELECT_APERTURE + ap - 1) = 4 * 2 ^ 24 → o < 0x1000000 →
      o % 16 + data.length ≤ 16 → (f = 0 ∨ (u.chan (o / 0x10000)).owner = f) →
      exec (.bar2TableWrite t f (ap * 0x4000000 + o) data) s = .next { u with
        dram := { u.dram with lists := u.dram.lists.writeBytes o data } }) ∧
    (∀ ap o data, 1 ≤ ap → ap ≤ 3 → u.sel r (K.BAR2_SELECT_APERTURE + ap - 1) = 3 * 2 ^ 24 → o < 0x4000000 →
      o < 8 * u.pool.total →
      exec (.bar2TableWrite t f (ap * 0x4000000 + o) data) s = .next (u.accessError r A.readOnly 0x2057 ap))

/-! ### Ingest -/

/-- Events on an ingest port: link, flits, credit. A link that comes up gives 8,192 flits of credit and forgets the frames closed before;
one that goes down closes the open frame. A flit of no known TYPE is discarded and counted, and the line it falls into is lost
(R117 to R120). -/
def Obligations.IngestPorts : Prop :=
  ∀ (s : State) (t : Time) (quad : Nat), quad < 6 → s.runs t →
    let u := s.now t
    (u.role quad = 0x40 →
      let v := u.setIngest quad { up := true, creditTotal := 8192 }
      (u.ingestChan quad = none → exec (.ingestLinkUp t quad) s = .next
        ((v.endFault F.INGEST_LINK_DOWN quad).sendIngestCredit quad)) ∧
      (∀ ch, u.ingestChan quad = some ch → exec (.ingestLinkUp t quad) s = .next
        (((v.modChan ch (fun c => { c with closedCounts := [] })).endFault F.INGEST_LINK_DOWN quad).sendIngestCredit quad))) ∧
    (u.ingestUp quad = true →
      (let w := (u.setIngest quad { u.ingest quad with up := false, line := none }).raise F.INGEST_LINK_DOWN
          { inst := quad, detail := [quad] };
        (w.ingestChan quad = none → exec (.ingestLinkDown t quad) s = .next w) ∧
        (∀ ch, w.ingestChan quad = some ch → exec (.ingestLinkDown t quad) s =
          .next ((w.closeOpen ch).settle ch (decide (w.anyBegun ch < (w.closeOpen ch).anyBegun ch))))) ∧
      exec (.ingestFlitCheckFail t quad) s = .next
        ((u.ingestTick quad K.INGEST_COUNTERS_FLITS 1).ingestTick quad K.INGEST_COUNTERS_CHECK_DROPS 1) ∧
      (∀ type seq, ¬(0x40 ≤ type ∧ type ≤ 0x43) → exec (.ingestFlitUnknownType t quad type seq) s = .next
        (((u.flitSeq quad seq).spoilLine quad).ingestTick quad K.INGEST_COUNTERS_DISCARDS 1)) ∧
      (∀ v : State, ((v.spoilLine quad).ingest quad).line = (v.ingest quad).line.map (fun l => (l.1, false))) ∧
      (∀ seq, exec (.ingestIdle t quad seq) s = .next (u.flitSeq quad seq)) ∧
      (∀ seq, (u.ingest quad).lastSeq = some ((seq + 2 ^ 32 - 1) % 2 ^ 32) → seq < 2 ^ 32 →
        u.flitSeq quad seq = (u.ingestTick quad K.INGEST_COUNTERS_FLITS 1).setIngest quad
          { u.ingest quad with lastSeq := some seq }) ∧
      (∀ drained, let p := u.ingest quad
        exec (.ingestCreditSend t quad drained) s = .next ((u.setIngest quad { p with
          creditTotal := (p.creditTotal + min drained ((p.credited + 8192 + 2 ^ 32 - p.creditTotal) % 2 ^ 32)) % 2 ^ 32
          }).sendIngestCredit quad)))

/-- Lines of a frame, by ingest flits, ST 2110-20 packets or tile hand-over, and the end of frames (R118, R121 to R124, R288). The
derived unit marks the oldest accepted frame of its FRAME_COUNT as made, counts it, and hands each output that is due to the channel that
takes it as its frames (R129, R139, R230). -/
def Obligations.FramesArrive : Prop :=
  (∀ (s : State) (t : Time), s.runs t →
      let u := s.now t
      u.fatal = false →
      (∀ quad seq, quad < 6 → u.ingestUp quad = true → ((u.flitSeq quad seq).flitCredit quad).1 = true →
        let v := ((u.flitSeq quad seq).flitCredit quad).2
        (∀ h : LineHead, h.seq = seq → ∀ ch, v.ingestChan quad = some ch →
          let x := v.lineFrame ch h.frameCount h.capture
          let a := x.2.setIngest quad { x.2.ingest quad with line := none }
          let b := a.setIngest quad { a.ingest quad with line := some (h, true) }
          let settled (w : State) : State := w.settle ch (decide (v.anyBegun ch < w.anyBegun ch))
          (x.1 = false → exec (.lineStart t quad h) s = .next (settled (a.discardLine quad))) ∧
          (x.1 = true → h.last = false → exec (.lineStart t quad h) s = .next (settled b)) ∧
          (x.1 = true → h.last = true → exec (.lineStart t quad h) s = .next (settled (b.lineDone quad)))) ∧
        (∀ data h whole, (v.ingest quad).line = some (h, whole) → exec (.lineData t quad true seq data) s =
          .next (v.withIngest quad (fun w => (w.setIngest quad { w.ingest quad with
            line := some ({ h with data := h.data ++ data }, whole) }).lineDone quad))) ∧
        (∀ data h whole, (v.ingest quad).line = some (h, whole) → exec (.lineData t quad false seq data) s =
          .next (v.withIngest quad (fun w => w.setIngest quad { w.ingest quad with
            line := some ({ h with data := h.data ++ data }, whole) }))) ∧
        (∀ fc n ch, n < 65536 → (v.setIngest quad { v.ingest quad with line := none }).ingestChan quad = some ch →
          ((v.setIngest quad { v.ingest quad with line := none }).chan ch).openCount = some fc →
          exec (.frameEnd t quad seq fc n) s =
            .next ((v.setIngest quad { v.ingest quad with line := none }).withIngest quad (fun w => w.closeOpen ch)))) ∧
      (∀ ch opened, ch < 256 → (u.chan ch).working = true →
        (∃ x : Frame, (u.chan ch).openFrame = some x ∧ x.opened = opened) ∨
          ((u.chan ch).openFrame = none ∧ ∃ fc ks, (u.chan ch).absorbing = some (fc, opened, ks)) →
        opened + u.frameTimeoutNs ch ≤ u.time → exec (.frameTimeout t ch) s =
          .next ((u.closeOpen ch).settle ch (decide (u.anyBegun ch < (u.closeOpen ch).anyBegun ch)))) ∧
      (∀ ch (p : St2110) (x : Frame), ch < 256 → (u.chan ch).working = true → u.cv ch K.CH_SOURCE_KIND = 2 →
        u.cv ch K.CH_DECODE_DIRECTION = 0 →
        let a := (u.meterPacket ch p.bytes).2
        let b := (a.rtpFrame ch p.rtpTime).2
        let c := b.each p.rows (fun v r => v.takeRow ch x.seq r.1 r.2.1 r.2.2)
        let d := if p.marker then c.closeOpen ch else c
        (u.meterPacket ch p.bytes).1 = true → (a.rtpFrame ch p.rtpTime).1 = true → (b.chan ch).openFrame = some x →
        exec (.st2110Packet t ch p) s = .next (d.settle ch (decide (a.anyBegun ch < d.anyBegun ch)))) ∧
      (∀ from_ ch fc (dropped : Bool) lines capture, from_ < 8 → ch < 256 → u.inArray = true → (u.chan ch).working = true →
        (u.fmt ch).array = true →
        let v := if dropped then u.loseHanded ch fc from_ else u.takeHanded ch fc lines
        exec (.tileHandover t from_ ch fc dropped lines capture) s =
          .next ((v.modChan ch (fun c => { c with frames := c.frames.map (fun x =>
            if x.frameCount = fc ∧ x.capture = 0 then { x with capture := capture } else x) })).settle ch false))) ∧
  (∀ (v : State) (ch : Nat) (bytes : Nat), 1024 ≤ v.cv ch K.CH_SOURCE_METER →
    v.meterPacket ch bytes = (decide ((v.chan ch).flowFill + bytes ≤ v.cv ch K.CH_SOURCE_BUF_BYTES), v)) ∧
  (∀ (v : State) (ch ts : Nat), ts < 2 ^ 32 → (v.chan ch).lastRtp = some ts → (v.chan ch).openCount.isSome = true →
    v.rtpFrame ch ts = (true, v)) ∧
  (∀ (s : State) (t : Time) (ch fc : Nat) (x : Frame), ch < 256 → s.runs t →
      let u := s.now t
      (u.chan ch).frames.find? (fun x => x.frameCount == fc && x.accepted && !x.derived) = some x →
      let v := (u.modChan ch (fun c => { c with derivedSeen := c.derivedSeen + 1 })).modFrame
        ch x.seq (fun x => { x with derived := true })
      let made (a : State) (k : Nat) : Bool :=
        (a.ro (derKey ch k K.CH_DERIVEDk_STATUS) == 1 || a.ro (derKey ch k K.CH_DERIVEDk_STATUS) == 2) &&
          (u.chan ch).derivedSeen % max 1 (a.der ch k K.CH_DERIVEDk_FRAME_DIV) == 0
      let bytes (a : State) (k : Nat) : List Byte :=
        if a.exactLink (a.frameFmt ch x) ch k (a.imageOf ch x (12 + k)) then x.bytes (a.frameFmt ch x)
        else a.derivedBytes ch k (a.frameFmt ch x) x
      let output (a : State) (k : Nat) : State := match a.derivedConsumer ch k with
        | some d => if made a k then a.wholeFrame d (bytes a k) x.capture [] else a
        | none => a
      exec (.derivedPicturesMade t ch fc) s = .next ((v.each (List.range 4) output).tryRelease ch x.seq))

/-- Look-up tables and regions: entries of the pending image, the index that reads and writes advance, commits that wait for the
frame boundary, and the copy after a swap (R135, R136, R208). The tables are the channel's own (object 4) and those of its four derived
outputs (objects 0xC to 0xF). -/
def Obligations.TablesOfAChannel : Prop :=
  ∀ (s : State) (t : Time) (r : Requester) (ch : Nat), ch < 256 → s.runs t →
    let u := s.now t
    (∀ obj, obj < 64 → ((u.chan ch).lut obj).copying = true → exec (.lutCopyDone t ch obj) s =
      .next (u.modChan ch (fun c => { c with
        luts := Store.put c.luts obj { c.lut obj with pending := (c.lut obj).active, copying := false } }))) ∧
    (∀ obj, obj = 4 ∨ (0xC ≤ obj ∧ obj ≤ 0xF) → u.Prompt → ((u.chan ch).lut obj).copying = false →
      let idx := 0x4000 + 64 * ch + obj
      let dataKey := keyOf idx (lutDataSub obj)
      let commitKey := keyOf idx (lutCommitSub obj)
      (∀ data, data.length = 8 → u.MayAct r dataKey → ServedAs u (exec (.lutDataWrite t r ch obj data) s)
        (fun v => v.acted r dataKey (v.lutWrite r ch obj (leNat data)))) ∧
      (u.MayAct r commitKey → ServedAs u (exec (.lutCommit t r ch obj) s) (fun v => v.setWaiting commitKey)) ∧
      (∀ f, r = .func f → f < 256 → u.funcReaches f = true →
        exec (.lutDataRead t r ch obj) s = .next (u.wholeRead f idx (lutDataSub obj))) ∧
      ((∀ f, r ≠ .func f) → r.place < 256 →
        exec (.lutDataRead t r ch obj) s = .next
          (((u.afterQueue (queueOf r) (.read r idx (lutDataSub obj) .whole)).readFor r idx (lutDataSub obj)).2))) ∧
    (u.Prompt → u.MayAct r (chKey ch K.CH_ROI_ROI_COMMIT) → ServedAs u (exec (.roiCommit t r ch) s)
      (fun v => v.commit ch (chKey ch K.CH_ROI_ROI_COMMIT))) ∧
    (∀ (v : State) obj x, x < 2 ^ 64 → (∀ i < 4, bits x (16 * i + 15) (16 * i) ≤ v.lutMax ch obj) →
      ∃ w, v.lutWrite r ch obj x = .ok w ∧ ((w.chan ch).lut obj).active = ((v.chan ch).lut obj).active ∧
        ((w.chan ch).lut obj).pending = (List.range 4).foldl (fun m i =>
          lutPut obj m (lutPos obj ((v.req r).selOf (lutIndexKey ch obj)) + i) (bits x (16 * i + 15) (16 * i)))
            ((v.chan ch).lut obj).pending ∧
        (w.req r).selOf (lutIndexKey ch obj) = (w64 (lutNext obj ((v.req r).selOf (lutIndexKey ch obj)))).toNat) ∧
    (∀ (v : State) obj x, (∃ i < 4, v.lutMax ch obj < bits x (16 * i + 15) (16 * i)) →
      v.lutWrite r ch obj x = .error A.above)

/-! ### Search, units and coding -/

/-- A search engine that is free and whose cluster's turn it is takes the search of a row for one reference when the row, the samples and
the reference are there; its end frees the engine and writes the row's motion field (R142, R146, R160). A block keeps at most C of the
vectors tried, no vector left out comes before one kept in the order of R144, and every vector tried lies in its range in quarter samples
of P0 (R145). λ and λmv are nearest to their formulas (R152). -/
def Obligations.SearchGrants : Prop :=
  (∀ (e : SearchView) (m up : Store (List Cand)) (k x y : Nat),
    let kept := (e.block m up k x y).1
    let tried := (e.tried m up k x y).1
    kept.length ≤ keptCands e.archive ∧
    (∀ c ∈ kept, ∃ v ∈ tried, c = e.cand m k x y v) ∧
    (∀ c ∈ kept, ∀ v ∈ tried, e.cand m k x y v ∉ kept → (e.cand m k x y v).before c = false) ∧
    (let r := e.range k x y
     let unit : Int := levelUnit k
     r.loX ≤ 0 → 0 ≤ r.hiX → r.loY ≤ 0 → 0 ≤ r.hiY → (∀ c, r.west = some c ∨ r.east = some c → c.1 ≤ 0 ∧ 0 ≤ c.2) →
      ∀ v ∈ tried, r.loX ≤ v.1 * unit ∧ v.1 * unit ≤ r.hiX ∧ r.loY ≤ v.2 * unit ∧ v.2 * unit ≤ r.hiY)) ∧
  (∀ w scale qp : Nat,
    let l := lambdaFix w scale (qp + 12)
    (2 * l - 1) ^ 3 * 1000000 ≤ 8 * (w * scale) ^ 3 * 2 ^ qp ∧ 8 * (w * scale) ^ 3 * 2 ^ qp < (2 * l + 1) ^ 3 * 1000000 ∧
    (2 * lambdaMv l - 1) ^ 2 ≤ 4 * l * 65536 ∧ 4 * l * 65536 < (2 * lambdaMv l + 1) ^ 2) ∧
  ∀ (s : State) (t : Time) (ms : Nat), ms < 16 → s.runs t →
    let u := s.now t
    (∀ ch pic row ref p, ch < 256 → (u.chan ch).pic? pic = some p → u.fatal = false → u.arrayStopped ch = false →
      (u.chan ch).working = true → p.stream = 0 → row < (u.fmt ch).rows → ref < u.searchRefs ch p →
      searchKey row ref ∉ p.searched → u.searching ch pic row ref = false → u.unitFree .ms ms = true → u.msTurn ms = true →
      u.rowNotedAll ch p row = true → u.blocksPresent ch p row = true → u.refSettled ch p ref = true →
      let g : Grant := { chan := ch, pic := pic, idx := row, ref := ref }
      let v := (u.haloWaited ch).msCharge (clusterOf .ms ms)
      (u.haloArrived ch p row = true →
        (v.waitingGrant .ms g = none → exec (.searchGrantIssue t ms ch pic row ref) s = .next (v.giveGrant .ms ms g)) ∧
        (∀ old, v.waitingGrant .ms g = some old → exec (.searchGrantIssue t ms ch pic row ref) s =
          .next (((v.dropWaiting .ms g).giveGrant .ms ms old).tick K.SEARCH_COUNTERS_MS_REISSUED 1))) ∧
      (u.haloArrived ch p row = false → exec (.searchGrantIssue t ms ch pic row ref) s = .next (u.haloWaits ch))) ∧
    (∀ g hits misses refetched, (u.unit .ms ms).grant = some g →
      let ended (v : State) : State := (((v.endGrant .ms ms).modPic g.chan g.pic (fun p =>
        { p with searched := p.searched ++ [searchKey g.idx g.ref] })).tick K.SEARCH_COUNTERS_MS_GRANTS 1).cacheUse hits misses refetched
      (∀ p, (u.chan g.chan).pic? g.pic = some p →
        exec (.searchGrantComplete t ms hits misses refetched) s = .next (ended (u.writeField g.chan p g.idx g.ref))) ∧
      ((u.chan g.chan).pic? g.pic = none → exec (.searchGrantComplete t ms hits misses refetched) s = .next (ended u))) ∧
    (∀ ch p b row ref, u.fb? p.fb = some b → b.chan.isSome = true →
      ((u.writeField ch p row ref).fb? p.fb).map (·.field) = some (List.foldl
        (fun m e => Store.put m (ref * 2 ^ 32 + e.1) e.2) b.field (u.searchRow ch p row ref).1))

/-- Units leave service at a watchdog expiry, an error in their own state or a stale write, are tested once idle for 1 ms, and return
when the test passes (R181, R182, R185). -/
def Obligations.UnitsLeaveAndReturn : Prop :=
  ∀ (s : State) (t : Time) (x : UnitId), x.num < x.kind.total → s.runs t →
    let u := s.now t
    let y := u.unit x.kind x.num
    (y.inService = true → u.watchdogDue y = true →
      exec (.unitWatchdogExpiry t x) s = .next (u.leaveService x.kind x.num (retiredFault x.kind) true)) ∧
    (y.inService = true →
      exec (.unitStateError t x) s = .next (u.leaveService x.kind x.num (retiredFault x.kind) true)) ∧
    (∀ gen, y.inService = true → (∀ g, y.grant = some g → gen < g.gen) → exec (.staleWrite t x gen) s =
      .next (((u.setUnit x.kind x.num { y with lastWrite := u.time }).tick K.CODING_COUNTERS_STALE_WRITES 1).leaveService
        x.kind x.num F.UNIT_QUARANTINED false)) ∧
    (∀ gen, y.inService = false → (∀ g, y.grant = some g → gen < g.gen) →
      let v := (u.setUnit x.kind x.num { y with lastWrite := u.time }).tick K.CODING_COUNTERS_STALE_WRITES 1
      exec (.staleWrite t x gen) s = .next ((v.setUnit x.kind x.num { v.unit x.kind x.num with quarantined := true }).raise
        F.UNIT_QUARANTINED { inst := unitKey x.kind x.num, detail := [unitKey x.kind x.num] })) ∧
    (u.testDue y = true → u.coreWorks 3 = true →
      exec (.unitSelfTestStart t x) s = .next (u.setUnit x.kind x.num { y with testing := true })) ∧
    (y.testing = true → exec (.unitSelfTestComplete t x true) s = .next (State.serveEngines
      (u.setUnit x.kind x.num { y with
        inService := true, quarantined := false, retired := false, tested := true, testing := false
        lastHandshake := u.time }))) ∧
    (y.testing = true → y.retired = true → exec (.unitSelfTestComplete t x false) s =
      .next (u.setUnit x.kind x.num { y with retired := true, tested := true, testing := false })) ∧
    (y.testing = true → y.retired = false → exec (.unitSelfTestComplete t x false) s =
      .next (State.raise (u.setUnit x.kind x.num { y with retired := true, tested := true, testing := false })
        (retiredFault x.kind) { inst := unitKey x.kind x.num, detail := [unitKey x.kind x.num] }))

/-- The next picture starts once the sizes it depends on are known and a frame buffer is UNUSED; without one it waits (R192, R245). A CTU
is issued to a free core, and to a free engine where its substream starts, or waits for halo data or for room for its record; its grant
ends with its code, the check and its record; the engine ends a chunk or a wavefront row; a chunk leaves, or waits for the output path;
a picture is verified once its last substream is (R164 to R167, R172, R173, R196, R198, R201). -/
def Obligations.PicturesAreCoded : Prop :=
  (∀ (s : State) (t : Time) (ch stream : Nat) (l : Launched) (refs unref longTerm : List Nat), ch < 256 → stream < 4 → s.runs t →
      let u := s.now t
      let c := u.chan ch
      let x := Store.get c.rate {} stream
      let known := x.sizesKnown x.started (u.pval l.vals ch K.CH_RATE_LAG)
      c.nextCoded = some l → u.fatal = false → u.arrayStopped ch = false → c.working = true → l.startedPhases = stream →
      l.time < u.time → u.statReady ch l = true →
      (known = false → exec (.pictureStart t ch stream refs unref longTerm) s =
        .next (u.modChan ch (fun c => { c with qpWait := c.qpWait.orElse (fun _ => some u.time) }))) ∧
      (known = true →
        let v := match c.qpWait with
          | some w => (u.cbump ch K.CH_RATE_STATUS_QP_WAIT_NS (u.since w)).modChan ch (fun c => { c with qpWait := none })
          | none => u
        (∀ n, v.fbForFrame ch l = some n →
          let w := match c.fbWait with
            | some w => v.cbump ch K.CH_REFS_FB_WAIT_NS (v.since w)
            | none => v
          exec (.pictureStart t ch stream refs unref longTerm) s = .next (w.startPicture ch stream n l refs unref longTerm)) ∧
        (v.fbForFrame ch l = none → c.fbWait = none → exec (.pictureStart t ch stream refs unref longTerm) s =
          .next (
            let w := v.modChan ch (fun c => { c with fbWait := some v.time, starved := true })
            if (v.chan ch).starved then w else w.raise F.REF_POOL_STARVED { loc := Loc.ofPic ch (l.base.getD c.picCount) })))) ∧
  (∀ (s : State) (t : Time), s.runs t →
      let u := s.now t
      (∀ px ee ch pic ctu p, px < 72 → ee < 56 → ch < 256 → (u.chan ch).pic? pic = some p → u.fatal = false →
        let engine := u.engineOf ch pic ((u.fmt ch).subOf ctu)
        let place := u.recordPlace ch p ctu (clusterOf .ee (engine.getD ee))
        u.arrayStopped ch = false → (u.chan ch).working = true → u.unitFree .px px = true →
        (engine = none → u.unitFree .ee ee = true) → u.ctuReady ch p ctu = true → u.earlierFirst p = false →
        (u.haloArrived ch p ((u.fmt ch).ctuRow ctu) = true →
          u.firn.any (fun e => e.1 / 8 == recKey ch pic ctu 0 / 8) = false →
          (∀ spill, place = some spill → exec (.ctuIssue t px ee ch pic ctu) s =
            .next (((u.haloWaited ch).spillWaited ch p ctu).issueCtu px ee ch p ctu spill)) ∧
          (place = none → exec (.ctuIssue t px ee ch pic ctu) s = .next ((u.haloWaited ch).spillWaits ch p ctu))) ∧
        (u.haloArrived ch p ((u.fmt ch).ctuRow ctu) = true →
          u.firn.any (fun e => e.1 / 8 == recKey ch pic ctu 0 / 8) = true →
          exec (.ctuIssue t px ee ch pic ctu) s =
            .next (((u.haloWaited ch).spillWaited ch p ctu).issueCtu px ee ch p ctu false)) ∧
        (u.haloArrived ch p ((u.fmt ch).ctuRow ctu) = false → exec (.ctuIssue t px ee ch pic ctu) s =
          .next ((u.haloWaits ch).noteRepeat ch pic [ctu]))) ∧
      (∀ px slip g, px < 72 → (u.unit .px px).grant = some g → (u.chan g.chan).pic? g.pic = none →
        exec (.pixelGrantComplete t px slip) s = .next (u.endGrant .px px)) ∧
      (∀ px slip g p q, px < 72 → (u.unit .px px).grant = some g → (u.chan g.chan).pic? g.pic = some p →
        let ch := g.chan
        let x := u.codeCtu ch p g.idx slip
        let a := ((((u.endGrant .px px).tick K.CODING_COUNTERS_PX_GRANTS 1).cacheUse (Config.cacheHits u.free)
          (Config.cacheMisses u.free) (Config.cacheRefetch u.free)).draws.recordCheck ch p g.idx x.result).cbump ch
            K.CH_SEARCH_STATUS_CLIPPED x.clips
        let b := (a.raiseRo (chKey ch K.CH_SEARCH_STATUS_MAX_MV_X) (min 65535 x.code.maxMv.1)).raiseRo
          (chKey ch K.CH_SEARCH_STATUS_MAX_MV_Y) (min 65535 x.code.maxMv.2)
        let v := (b.writeRecord ch p g.idx (min (Config.recordBytes x.code) ((b.fmt ch).recordMax g.idx))).modPic ch g.pic
          (fun p => { p with done := p.done ++ [g.idx] })
        (v.chan ch).pic? g.pic = some q →
          exec (.pixelGrantComplete t px slip) s = .next (v.reconWritten ch q g.idx x.code)) ∧
      (∀ ee g p k, ee < 56 → g.chan < 256 → (u.unit .ee ee).grant = some g → (u.chan g.chan).pic? g.pic = some p →
        u.chunkOf g.chan p g.ref = some k → u.fatal = false → u.arrayStopped g.chan = false →
        let f := u.fmt g.chan
        let inner := f.wavefront && f.ctuRow g.ref ≠ k.2
        (inner = true → (f.subCtus g.ref).all p.done.contains = true →
          exec (.chunkCoded t ee g.chan g.pic) s = .next (u.endInnerSub g.chan ee p g)) ∧
        (∀ bufs, inner = false → (f.chunkCtus k.1 k.2).all p.done.contains = true → u.innerDone g.chan p k = true →
          ((u.chunkList g.chan p).getLast? = some k → u.finishable g.chan p k.1 = true) →
          let bytes := u.chunkBytes g.chan p k (Store.get p.subs {} g.idx).saved
            (decide ((u.chunkList g.chan p).head? = some k)) (decide ((u.chunkList g.chan p).getLast? = some k))
          let got := u.obtain g.chan 1 ee (max 1 (ceilDiv bytes.length (max 1 u.pool.bufBytes)))
          got.1 = some bufs → exec (.chunkCoded t ee g.chan g.pic) s = .next (got.2.putChunk g.chan ee p g k
            (got.2.binCount g.chan p ((got.2.chunkSubs g.chan k).getLastD [])) bytes bufs))) ∧
      (∀ ch stream p k soc eop, ch < 256 → stream < 4 → u.fatal = false → (u.chan ch).working = true →
        u.cv ch K.CH_DECODE_DIRECTION = 0 → (u.fmt ch).pass = false → u.nextChunk ch stream = some (p, k, soc, eop) →
        (u.destWaits ch p k.data.length = true → exec (.chunkEmit t ch stream) s =
          .next (u.modChan ch (fun c => { c with destWait := true }))) ∧
        (u.destWaits ch p k.data.length = false →
          (u.pathFree = true → exec (.chunkEmit t ch stream) s = .next (u.emitChunk ch p k soc eop)) ∧
          (u.pathFree = false → exec (.chunkEmit t ch stream) s = .next (u.pathWaits ch stream)))) ∧
      (∀ ch p rest, ch < 256 → u.fatal = false → (u.chan ch).working = true → u.cv ch K.CH_DECODE_DIRECTION = 0 →
        (u.fmt ch).pass = true → (u.chan ch).pics = p :: rest → exec (.chunkEmit t ch 0) s = .next (u.emitRun ch p)) ∧
      (∀ df g (hashesMatch decodeError : Bool), df < 24 → (u.unit .df df).grant = some g → g.verify = true →
        let v := u.verifySub df g decodeError
        let bad := v.fbs.any (fun e => e.2.of_ == g.chan && e.2.verifyLeft.contains g.pic && e.2.verifyBad.contains g.pic)
        let ends (r : Nat) : State := ((v.tick K.RATE_COUNTERS_VERIFIED_PICS 1).modChan g.chan (fun c => { c with
          rate := Store.map c.rate (fun _ x => { x with
            verified := x.verified.map (fun v => if v.2.1 = g.pic then (v.1, v.2.1, some r) else v) }) })).verifyDone g.chan g.pic
        let fails (w : State) : State :=
          (w.raise F.BOUND_VERIFY_MISMATCH { loc := Loc.ofPic g.chan g.pic }).cbump g.chan K.CH_RATE_STATUS_VERIFY_FAILS 1
        (v.verifying g.chan g.pic = true →
          exec (.verifyDecodeComplete t df hashesMatch decodeError) s = .next v.serveEngines) ∧
        (v.verifying g.chan g.pic = false →
          (decodeError = false → bad = false → hashesMatch = true →
            exec (.verifyDecodeComplete t df hashesMatch decodeError) s = .next (ends 1).serveEngines) ∧
          (decodeError = false → bad = false → hashesMatch = false →
            exec (.verifyDecodeComplete t df hashesMatch decodeError) s = .next (fails (ends 2)).serveEngines) ∧
          (decodeError = true ∨ bad = true →
            exec (.verifyDecodeComplete t df hashesMatch decodeError) s = .next (fails (ends 3)).serveEngines))))

/-- Decoding: RTP packets of the channel's flow take their place in order, access units of a clip enter the input by the frame index, NAL
units leave it with what they do or with the error that is found in them, and pictures leave it in output order (R213 to R220). -/
def Obligations.StreamsAreDecoded : Prop :=
  ∀ (s : State) (t : Time) (ch : Nat), ch < 256 → s.runs t →
    let u := s.now t
    let d := (u.chan ch).dec
    u.fatal = false → u.decodes ch = true →
    (∀ flow type seq payload, seq < 65536 → u.cv ch K.CH_DECODE_INPUT = 2 → u.flowOf ch flow type = true →
      d.rtpFill + payload.length ≤ Config.rtpBuffer →
      let next := d.rtpNext.getD (65536 + seq)
      let ahead := (seq + 65536 - next % 65536) % 65536
      ahead < 32768 → exec (.decodeRtpPacket t ch flow type seq payload) s = .next ((u.modDec ch (fun d => { d with
        rtpNext := some next, reorder := Store.put d.reorder (next + ahead) payload })).drainRtp ch 65536)) ∧
    (∀ data offset port, u.cv ch K.CH_DECODE_INPUT = 1 → (u.chan ch).fbWait = none → u.cv ch K.CH_DECODE_PORT = port → port < 2 →
      (u.mag port).state = 1 →
      u.clipUnit ch = some (offset, data) →
      let step (v : State) : State := v.modDec ch (fun d => { d with clipNext := d.clipNext + 1 })
      exec (.magClipReadComplete t port ch true) s = .next (step (u.addGap ch)) ∧
      (∀ bufs, let got := u.obtain ch 3 0 (ceilDiv data.length (max 1 u.pool.bufBytes))
        got.1 = some bufs → exec (.magClipReadComplete t port ch false) s = .next (
          let v := got.2.modDec ch (fun d => { d with seqs := Store.put d.seqs d.fin offset })
          step ((v.fillBufs bufs data.length).addInput ch data (bufShares v.pool.bufBytes data.length bufs) true)))) ∧
    (∀ bytes content err dfs, u.activeOf .df ≠ 0 →
      let v := u.skipOn ch
      let e := (v.chan ch).dec
      let n := if v.cv ch K.CH_CODEC_STREAM_FORMAT = 1 ∧ bytes ≠ 0 then 4 + beNat (e.input.take 4) else bytes
      e.skipping = none →
      (∀ g, e.gapIn bytes = some g →
        exec (.decodeNalUnit t ch bytes ⟨content, err⟩ dfs) s = .next ((v.transport ch g).flushReports ch 4096)) ∧
      (e.gapIn bytes = none → v.badLength ch = true → bytes ≠ 0 → exec (.decodeNalUnit t ch bytes ⟨content, err⟩ dfs) s =
        .next (((v.decError ch .length true).skipFrom ch (v.beyondUnit ch)).flushReports ch 4096)) ∧
      (e.gapIn bytes = none → v.badLength ch = false ∨ bytes = 0 → n ≤ e.input.length →
        exec (.decodeNalUnit t ch bytes ⟨content, err⟩ dfs) s = .next ((v.seekUnit ch n content err dfs).flushReports ch 4096))) ∧
    (∀ (v : State) n content dfs, (v.chan ch).dec.seek = false →
      v.seekUnit ch n content none dfs = v.nalUnit ch n content false dfs ∧
      (∀ e, v.seekUnit ch n content (some e) dfs = v.badUnit ch n content e dfs)) ∧
    (∀ pic p time, d.pics.find? (fun p => p.count == pic && !p.dealt) = some p → u.releaseTime ch = some time →
      exec (.decodedPictureOutput t ch pic) s = .next (u.outputPicture ch p time))

/-- Buffers of the pool and frame buffers kept for the host (R232, R234, R246). -/
def Obligations.BuffersAreKept : Prop :=
  ∀ (s : State) (t : Time), s.runs t →
    let u := s.now t
    (∀ ch use ee, ch < 256 → ee < 56 → use < 6 → u.fatal = false → (u.chan ch).working = true → use ≠ 0 →
      let unit := if use = 1 then ee else 0
      (0 < u.pool.free → exec (.bufferAlloc t ch use ee) s = .next (u.grantBuf ch use unit).poolLevel) ∧
      (u.pool.free = 0 → exec (.bufferAlloc t ch use ee) s = .next (u.waitBuf ch use unit))) ∧
    (∀ buf owner, buf < 2 ^ 26 →
      (∀ b, Store.find? u.pool.bufs buf = some b →
        (b.freed = false → b.owner = owner → exec (.bufferFree t buf owner) s = .next (u.settleBuf buf { b with freed := true })) ∧
        (b.freed = true → exec (.bufferFree t buf owner) s = .next (u.badFree F.BPM_DOUBLE_FREE buf)) ∧
        (b.freed = false → b.owner ≠ owner → exec (.bufferFree t buf owner) s = .next (u.badFree F.BPM_WRONG_OWNER buf)) ∧
        (owner ∈ b.sharers → exec (.bufferRelease t buf owner) s = .next
          ((u.tick K.POOL_COUNTERS_RELEASES 1).settleBuf buf { b with sharers := b.sharers.erase owner })) ∧
        (b.sharers ≠ [] → owner ∉ b.sharers → exec (.bufferRelease t buf owner) s =
          .next (u.badFree F.BPM_WRONG_OWNER buf))) ∧
      (Store.find? u.pool.bufs buf = none →
        exec (.bufferFree t buf owner) s = .next (u.badFree F.BPM_DOUBLE_FREE buf) ∧
        exec (.bufferRelease t buf owner) s = .next (u.badFree F.BPM_DOUBLE_FREE buf))) ∧
    (∀ r, u.Prompt → u.MayAct r K.REF_EXPORT_COMMAND →
      ServedAs u (exec (.export_ t r) s) (fun v => v.acted r K.REF_EXPORT_COMMAND
        (v.exportFb r (v.sel r K.REF_EXPORT_CHAN) (v.sel r K.REF_EXPORT_PIC_COUNT))) ∧
      ServedAs u (exec (.return_ t r) s) (fun v => v.acted r K.REF_EXPORT_COMMAND
        (v.returnFb (v.sel r K.REF_EXPORT_CHAN) (v.sel r K.REF_EXPORT_PIC_COUNT)))) ∧
    (∀ (v : State) r ch pic n b, (v.fbsOf ch).find? (fun e => e.2.holds pic) = some (n, b) → b.exportHold = false →
      ((v.fbsOf ch).filter (fun e => e.2.exportHold)).length + 1 < v.cv ch K.CH_REFS_FB_EXTRA →
      v.exportFb r ch pic = .ok ((State.modFb { v with fbs := Store.map v.fbs (fun _ b =>
        if b.exportedTo = some r.key then { b with exportedTo := none } else b) } n
          (fun b => { b with exportHold := true, exportedTo := some r.key })).setRo K.REF_EXPORT_FB n)) ∧
    (∀ (v : State) ch pic n b,
      List.find? (fun e => e.2.of_ == ch && e.2.holds pic && e.2.exportHold) v.fbs = some (n, b) →
      v.returnFb ch pic = .ok ((v.modFb n (fun b => { b with exportHold := false, exportedTo := none })).setRo
        K.REF_EXPORT_FB n))

/-! ### Time, launches and record inputs -/

/-- PTP: what each message leaves, the mean path delay of half the two differences, the grandmaster that an announce names, and the loss
of a reference (R251, R252). -/
def Obligations.PtpMessages : Prop :=
  ∀ (s : State) (t : Time), s.runs t →
    let u := s.now t
    u.source = 1 →
    (∀ seq origin rx, exec (.ptpSync t seq origin rx true) s = .next { u with tb := { u.tb with sync := some (seq, rx) } }) ∧
    (∀ seq origin rx, exec (.ptpSync t seq origin rx false) s = .next (u.syncMeasured ((rx : Int) - origin))) ∧
    (∀ seq origin rx, u.tb.sync = some (seq, rx) → exec (.ptpFollowUp t seq origin) s =
      .next (u.syncMeasured ((rx : Int) - origin))) ∧
    (∀ (v : State) (d : Int), v.tb.path = none → v.syncMeasured d = { v with tb := { v.tb with ms := some d, sync := none } }) ∧
    (∀ (v : State) (d p : Int), v.tb.path = some p → v.syncMeasured d =
      (State.setRo { v with tb := { v.tb with ms := some d, sync := none } } K.PTP_CONFIG_PORT_STATE 9).measure (d - p)) ∧
    exec (.ptpDelayReqSend t) s = .next (State.emit { u with
      tb := { u.tb with delayReq := some u.time, lastDelayReq := u.time } }
        (.ptpDelayReq (u.v K.PTP_CONFIG_UNICAST_DELAY = 1))) ∧
    (∀ (q rx : Time) (d : Int), u.tb.delayReq = some q → u.tb.ms = some d →
      let p := (d + ((rx : Int) - q)) / 2
      exec (.ptpDelayResp t rx) s = .next (((State.setRo { u with tb := { u.tb with delayReq := none, path := some p } }
        K.PTP_CONFIG_MEAN_PATH_NS (p.toNat % 2 ^ 32)).setRo K.PTP_CONFIG_PORT_STATE 9).measure (d - p))) ∧
    (∀ (q rx : Time), u.tb.delayReq = some q → u.tb.ms = none →
      exec (.ptpDelayResp t rx) s = .next { u with tb := { u.tb with delayReq := none } }) ∧
    (∀ gm steps off,
      let v := ((State.setRo { u with tb := { u.tb with lastAnnounce := u.time } } K.PTP_CONFIG_GM_IDENTITY gm).setRo
        K.PTP_CONFIG_STEPS_REMOVED (steps % 65536)).setImm K.TIME_BASE_UTC_OFFSET (ofSigned 16 off)
      (u.ro K.PTP_CONFIG_PORT_STATE ≠ 9 →
        exec (.ptpAnnounce t gm steps off true) s = .next (v.setRo K.PTP_CONFIG_PORT_STATE 8)) ∧
      (u.ro K.PTP_CONFIG_PORT_STATE = 9 → exec (.ptpAnnounce t gm steps off true) s = .next v) ∧
      exec (.ptpAnnounce t gm steps off false) s = .next u) ∧
    (u.tb.lastAnnounce + u.v K.PTP_CONFIG_ANNOUNCE_TIMEOUT * Config.announceInterval ≤ u.time →
      exec (.ptpAnnounceTimeout t) s = .next ((State.setRo { u with
      tb := { u.tb with sync := none, ms := none, path := none, delayReq := none } }
        K.PTP_CONFIG_PORT_STATE 4).referenceLost))

/-- States of the time base, TOD_SET, 1PPS and LTC (R251, R254 to R256). -/
def Obligations.TimeReferences : Prop :=
  ∀ (s : State) (t : Time), s.runs t →
    let u := s.now t
    (u.tb.state = .holdover → u.v K.TIME_BASE_HOLDOVER_MAX_S ≠ 0 →
      u.tb.holdStart + u.v K.TIME_BASE_HOLDOVER_MAX_S * 1000000000 ≤ u.time →
      exec (.holdoverTimeout t) s = .next (State.raise { u with tb := { u.tb with state := .freerun } } F.TIME_FREERUN {})) ∧
    (u.source = 2 → u.tb.lastPps + 3000000000 ≤ u.time → exec (.ppsLossTimeout t) s = .next u.referenceLost) ∧
    (u.tb.state = .freerun → u.referenceLost = u) ∧
    (u.tb.state = .locked ∨ u.tb.state = .acquiring → u.referenceLost = State.raise { u with tb := {
      u.tb.correct u.time (u.tb.meanFreq u.time) with state := .holdover, holdStart := u.time } } F.TIME_REF_LOST {}) ∧
    (∀ r v, u.Prompt → u.MayAct r K.TIME_BASE_TOD_SET → v < 2 ^ 64 →
      ServedAs u (exec (.todSet t r (leBytes 8 v)) s) (fun w => w.acted r K.TIME_BASE_TOD_SET (w.todSet v))) ∧
    (∀ v, u.v K.TIME_BASE_SOURCE = 0 → u.stepAllowed = true → u.todSet v = .ok (u.stepTo v)) ∧
    (∀ v, u.v K.TIME_BASE_SOURCE = 1 → u.todSet v = .error A.value) ∧
    (∀ falling : Bool, u.source = 2 → falling = decide (u.v K.PPS_LTC_PPS_IN_EDGE = 1) →
      (u.tb.state ≠ .locked ∨ (distTo 1000000000 u.time).natAbs ≤ 100000 →
        (u.tb.tod = none → exec (.ppsInEdge t falling) s = .next ((State.bump { u with tb := { u.tb with lastPps := u.time } }
          K.PPS_LTC_PPS_IN_EDGES 1).measure (distTo 1000000000 u.time))) ∧
        (∀ e, u.tb.tod = some e → exec (.ppsInEdge t falling) s = .next ((State.bump { u with tb := { u.tb with
          lastPps := u.time, tod := none, ppsKnown := true } } K.PPS_LTC_PPS_IN_EDGES 1).measure ((u.time : Int) - e)))) ∧
      (u.tb.state = .locked → 100000 < (distTo 1000000000 u.time).natAbs →
        exec (.ppsInEdge t falling) s = .next u)) ∧
    (u.v K.PPS_LTC_PPS_OUT_EN = 1 → ((u.time : Int) - u.vi K.PPS_LTC_PPS_OUT_OFFSET_NS) % 1000000000 = 0 →
      exec (.ppsOutPulse t) s = .next (State.emit { u with
        tb := { u.tb with lastPpsOut := u.time }, 
          pins := { u.pins with ppsHigh := u.time + u.v K.PPS_LTC_PPS_OUT_WIDTH_MS * 1000000 } }
          (.ppsOut u.time (u.v K.PPS_LTC_PPS_OUT_WIDTH_MS)))) ∧
    (∀ rate code start, exec (.ltcCodeword t true rate code start) s = .next (((State.setRo { u with tb := { u.tb with
        ltc := (start, ltcPack rate code, ltcCode rate) :: u.tb.ltc } } K.PPS_LTC_LTC_RATE (ltcCode rate)).setRo
          K.PPS_LTC_LTC_LAST (ltcPack rate code).toNat).setRo K.PPS_LTC_LTC_LAST_TIME start)) ∧
    (∀ rate code start, exec (.ltcCodeword t false rate code start) s = .next u) ∧
    (∀ start c r rest, u.tb.ltc = (start, c, r) :: rest →
      4 * (ltcFrac r).2 * 1000000000 ≤ (u.time - start) * (ltcFrac r).1 →
      exec (.ltcTimeout t) s = .next (u.setRo K.PPS_LTC_LTC_RATE 0))

/-- A launch that is due leaves where it waited and fires; its pairing window ends; LIST_WR reads the list's head row; an array's
time master sends launches ahead and its followers keep them in order of time (R259, R261, R263, R267). -/
def Obligations.Launches : Prop :=
  ∀ (s : State) (t : Time) (ch : Nat), ch < 256 → s.runs t →
    let u := s.now t
    (∀ time force base, u.fatal = false → u.dueLaunch ch = some (time, force, base) →
      ((u.dequeueLaunch ch).cv ch K.CH_DECODE_DIRECTION = 0 →
        exec (.launchFire t ch) s = .next ((u.dequeueLaunch ch).fire ch time force base)) ∧
      ((u.dequeueLaunch ch).cv ch K.CH_DECODE_DIRECTION = 1 →
        exec (.launchFire t ch) s = .next ((u.dequeueLaunch ch).fireDecode ch time))) ∧
    (∀ w rest, ((u.pairUp ch).chan ch).pairs = w :: rest → w.idle.isSome = true → w.limit ≤ (u.pairUp ch).time →
      exec (.pairWindowExpiry t ch) s = .next (((u.pairUp ch).expirePair ch w).pairUp ch)) ∧
    (∀ r v, u.Prompt → v < 2 ^ 32 → u.MayAct r (chKey ch K.CH_LAUNCH_LIST_WR) →
      ServedAs u (exec (.listWrWrite t r ch (leBytes 4 v)) s)
        (fun w => w.acted r (chKey ch K.CH_LAUNCH_LIST_WR) (w.listWr ch v))) ∧
    (∀ v, u.listLive ch v ≤ 4096 →
      u.listWr ch v = .ok ((u.setImm (chKey ch K.CH_LAUNCH_LIST_WR) v).listHeadRead ch 4097)) ∧
    (∀ next, u.timeMaster = true → (u.chan ch).state = .open_ → (u.fmt ch).array = true → u.arrayNext ch = some next →
      (u.membersMatch ch = false → exec (.bugleLaunchSend t ch) s = .next (u.holdLaunch ch next)) ∧
      (u.membersMatch ch = true → (u.sendLaunch ch next.1 next.2).cv ch K.CH_LAUNCH_MODE = 0 →
        exec (.bugleLaunchSend t ch) s = .next ((u.sendLaunch ch next.1 next.2).modChan ch
          (fun c => { c with listHead := none }))) ∧
      (u.membersMatch ch = true → (u.sendLaunch ch next.1 next.2).cv ch K.CH_LAUNCH_MODE = 1 →
        exec (.bugleLaunchSend t ch) s = .next ((u.sendLaunch ch next.1 next.2).listTake ch))) ∧
    (∀ from_ force seq time pic v, from_ < 8 → u.follower = true → from_ = u.array.coordinator →
      u.bugleFresh from_ seq = some v → (v.chan ch).state = .open_ → (v.fmt ch).array = true →
      (∀ l, (v.chan ch).lastLaunch = some l → l < time) →
      (v.time ≤ time → exec (.launch t from_ ch force seq time pic) s = .next (State.releaseRec
        (v.setChan ch { v.chan ch with sched := insertLaunch (time, force, pic) (v.chan ch).sched }) from_ 1024)) ∧
      (time < v.time → exec (.launch t from_ ch force seq time pic) s = .next (State.releaseRec
        (((v.bump K.ARRAY_TIME_BUGLE_LATE 1).raise F.BUGLE_LATE { loc := Loc.ofChan ch }).fire ch time force (some pic))
          from_ 1024))) ∧
    (∀ (v : State) from_, v.tb.recWaiting = [] → v.releaseRec from_ 1024 = v)

/-- An array's time: the time master drives SYNC_IO at whole milliseconds and sends its time of day and the record inputs, a
follower takes them and disciplines its time base to the edge, and loses it after 3 ms (R251, R268, R269, R276). -/
def Obligations.ArrayTime : Prop :=
  ∀ (s : State) (t : Time), s.runs t →
    let u := s.now t
    (u.timeMaster = true →
      (u.time % 1000000 = 0 → exec (.syncIoDrive t) s = .next (u.emit .syncIo)) ∧
      exec (.timeOfDaySend t) s = .next (State.bugleSend { u with tb := { u.tb with lastTodSend := u.time } } 3 0 0
        ((u.time / 1000000000 + 1) * 1000000000) 0 0 0) ∧
      (u.recIn.changes = [] → exec (.recStatusSend t) s = .next (State.bugleSend
        { u with tb := { u.tb with lastRecSend := u.time } } 2 0 (if u.recIn.recording then 1 else 0)
          (State.finalTime { u with tb := { u.tb with lastRecSend := u.time } }) 0 0 0))) ∧
    (u.follower = true →
      (∀ from_ seq edge v, from_ < 8 → from_ = u.array.coordinator → u.bugleFresh from_ seq = some v →
        exec (.timeOfDay t from_ seq edge) s = .next (State.releaseRec { v with tb := { v.tb with todEdge := some edge } }
          from_ 1024)) ∧
      (∀ from_ seq recording final agree edge v, from_ < 8 → from_ = u.array.coordinator → u.bugleFresh from_ seq = some v →
        exec (.recStatus t from_ recording seq final agree edge) s = .next (State.releaseRec { v with tb := { v.tb with
          recWaiting := v.tb.recWaiting ++ [⟨from_, seq, recording, final, agree, edge⟩] } } from_ 1024)) ∧
      (∀ (v : State) from_ m k, v.tb.recWaiting = [m] → m.from_ = from_ →
        seqBefore m.seq (Store.get v.tb.bugleNext 0 from_) = true →
        let w := State.recStatusIn { v with tb := { v.tb with recWaiting := [] } } m
        v.releaseRec from_ (k + 1) = (w.each (List.map Prod.fst w.chans) State.pairUp).releaseRec from_ k) ∧
      (u.tb.state = .locked → 1000 < (distTo 1000000 (u.time - u.v K.ARRAY_TIME_SYNC_DELAY_NS)).natAbs →
        exec (.syncIoEdge t) s = .next (u.bump K.ARRAY_TIME_SYNC_REJECTED 1)) ∧
      (u.tb.state ≠ .locked → u.tb.todEdge = none →
        let d := distTo 1000000 (u.time - u.v K.ARRAY_TIME_SYNC_DELAY_NS)
        exec (.syncIoEdge t) s = .next (((State.bump { u with tb := { u.tb with lastSync := u.time } }
          K.ARRAY_TIME_SYNC_EDGES 1).setRo K.ARRAY_TIME_SYNC_LAST_ERR_NS (ofSigned 32 d)).measure d)) ∧
      (u.tb.lastSync + 3000000 ≤ u.time → exec (.syncLossTimeout t) s = .next u.referenceLost)) ∧
    (∀ port kind, port < 6 → ¬(1 ≤ kind ∧ kind ≤ 3) →
      exec (.bugleUnknownKind t port kind) s = .next (u.tick K.ARRAY_COUNTERS_FLIT_ERRORS 1))

/-- The record inputs: both pins in RUN together are an accepted start, a disagreement that lasts Td locks, and COMMAND starts and
stops while REC_SOURCE is 1 (R271, R273). -/
def Obligations.RecordInputs : Prop :=
  ∀ (s : State) (t : Time), s.runs t →
    let u := s.now t
    (u.pinsCount = true →
      (∀ a b, let v := (u.recExpire (sampleAt u.time - 1)).recRearm (sampleAt u.time - 1)
        v.pinsCount = true → exec (.recInputChange t a b) s =
          .next (State.recSample { v with recIn := { v.recIn with pinA := a, pinB := b } } (sampleAt u.time))) ∧
      (u.recIn.state = 1 ∨ u.recIn.state = 3 → u.recIn.t1 + u.recIn.td ≤ u.time → exec (.recTdExpiry t) s = .next u.recDiscrepancy) ∧
      (∀ since td, u.recIn.state = 4 → u.recIn.rearm = some (since, td) → since + td ≤ u.time →
        exec (.recRearm t) s = .next (State.endFault { u with
          recIn := { u.recIn with state := if u.recIn.prior then 2 else 0, rearm := none } } F.REC_DISCREPANCY 0))) ∧
    (u.pinsCount = false → ∀ a b, exec (.recInputChange t a b) s =
      .next { u with recIn := { u.recIn with pinA := a, pinB := b } }) ∧
    (∀ v ts, v.recIn.state = 0 → v.recIn.both true = true → State.recSample v ts = v.recAccept true ts ts) ∧
    (∀ v ts, v.recIn.state = 2 → v.recIn.both false = true → State.recSample v ts = v.recAccept false ts ts) ∧
    (∀ v ts, v.recIn.state = 0 → v.recIn.both true = false → v.recIn.both false = false → State.recSample v ts =
      { v with recIn := { v.recIn with state := 1, t1 := ts, td := v.td } }) ∧
    (∀ v ts, v.recIn.state = 1 → v.recIn.both false = true → State.recSample v ts =
      ({ v with recIn := { v.recIn with state := 0 } }).bump K.REC_INPUT_GLITCHES 1) ∧
    (∀ v run agree edge, (State.recAccept v run agree edge).recIn.changes = (agree, edge, run) :: v.recIn.changes ∧
      (State.recAccept v run agree edge).recIn.state = if run then 2 else 0) ∧
    (∀ r, u.Prompt → u.MayAct r K.REC_INPUT_COMMAND →
      ServedAs u (exec (.recCommandStart t r) s) (fun v => v.acted r K.REC_INPUT_COMMAND (v.recCommand 1)) ∧
      ServedAs u (exec (.recCommandStop t r) s) (fun v => v.acted r K.REC_INPUT_COMMAND (v.recCommand 2))) ∧
    (∀ v run, State.v v K.REC_INPUT_REC_SOURCE = 1 → v.follower = false → v.recIn.recording ≠ run →
      v.recCommand (if run then 1 else 2) = .ok (v.recAccept run v.time v.time))

/-! ### The array -/

/-- A device link comes up with the credit of its buffers and says HELLO, acknowledges, gives credit, replays after a NAK, retrains after
eight without progress or 100 µs without an acknowledgement, and goes down (R279, R281, R284). -/
def Obligations.RonoxPorts : Prop :=
  ∀ (s : State) (t : Time) (port : Nat), port < 6 → s.runs t →
    let u := s.now t
    let p := u.port port
    exec (.idle t port) s = .next u ∧
    (u.isRonox port = true →
      (u.v K.ARRAY_CONFIG_ARRAY_EN ≠ 0 →
        let v := u.setPort port { up := true, rxCredit := (256, 512, 7424), ackAt := u.time }
        let w : State := { v with array := { v.array with firstUp := v.array.firstUp.orElse (fun _ => some v.time) } }
        exec (.ronoxLinkUp t port) s = .next (((w.endFault F.RONOX_LINK_DOWN port).sendHello port).sendCredit port false)) ∧
      (p.up = true →
        exec (.ronoxFlitReject t port) s = .next (u.nak port) ∧
        exec (.ronoxLinkDown t port) s =
          .next (State.raise (u.setPort port {}) F.RONOX_LINK_DOWN { inst := port, detail := [port] }) ∧
        (p.retraining = false → p.replay ≠ [] → p.ackAt + 100000 ≤ u.time →
          exec (.ronoxAckTimeout t port) s = .next (u.retrain port)) ∧
        (p.retraining = true → u.time ≤ p.retrainAt + 10000000 → exec (.ronoxRetrainDone t port) s =
          .next (((u.setPort port { p with retraining := false, ackAt := u.time }).resend port).drainPort port
            (p.waiting.length + 1))) ∧
        (∀ ack totals (nak : Bool),
          let left := p.replay.filter (fun e => 0 < (e.1 + 2 ^ 32 - ack) % 2 ^ 32 && (e.1 + 2 ^ 32 - ack) % 2 ^ 32 < 2 ^ 31)
          let moved := decide (left.length < p.replay.length)
          let naks := (if moved then 0 else p.naks) + (if nak then 1 else 0)
          let v := u.setPort port { p with
            replay := left, acked := ack, txCredit := totals, naks := naks, ackAt := if moved then u.time else p.ackAt }
          (p.retraining = true → exec (.credit t port ack totals nak) s = .next v) ∧
          (p.retraining = false → 8 ≤ naks → exec (.credit t port ack totals nak) s = .next (v.retrain port)) ∧
          (p.retraining = false → naks < 8 → nak = false →
            exec (.credit t port ack totals nak) s = .next (v.drainPort port (p.waiting.length + 1))) ∧
          (p.retraining = false → naks < 8 → nak = true →
            exec (.credit t port ack totals nak) s = .next ((v.resend port).drainPort port (p.waiting.length + 1)))) ∧
        (∀ drained,
          let size (c : Nat) : Nat := if c = 0 then 256 else if c = 1 then 512 else 7424
          let rise (c : Nat) : Nat := min (cls3 drained c) ((cls3 p.rxCount c + size c + 2 ^ 32 - cls3 p.rxCredit c) % 2 ^ 32)
          exec (.ronoxCreditSend t port drained) s = .next ((u.setPort port { p with
            rxCredit := addCls3 (addCls3 (addCls3 p.rxCredit 0 (rise 0)) 1 (rise 1)) 2 (rise 2) }).sendCredit port false)))) ∧
    (∀ h : Hello, u.isRonox port = true → p.up = true → u.v K.ARRAY_CONFIG_ARRAY_EN ≠ 0 → h.dev < 8 → h.dev ≠ u.dev →
      bit (u.v K.ARRAY_CONFIG_MEMBERS) h.dev = true → h.members = u.v K.ARRAY_CONFIG_MEMBERS →
      h.standby = u.v K.ARRAY_CONFIG_STANDBY → h.topology = u.v K.ARRAY_CONFIG_TOPOLOGY →
      let w := (u.setPort port { p with neighbour := some h.dev }).endFault F.ARRAY_CONFIG_MISMATCH port
      let v := w.setPeer h.dev { w.peer h.dev with state := h.state, fenced := decide (h.state = 4) }
      let older := v.inArray && epochOlder h.epoch v.array.epoch
      ((v.coordinates && older) = false → exec (.hello t port h) s = .next v.tryForm) ∧
      ((v.coordinates && older) = true → exec (.hello t port h) s = .next (v.sendFence h.dev).tryForm)) ∧
    (∀ h : Hello, u.isRonox port = true → p.up = true → u.v K.ARRAY_CONFIG_ARRAY_EN ≠ 0 →
      h.members ≠ u.v K.ARRAY_CONFIG_MEMBERS →
      let w := State.raise (u.setPort port { p with neighbour := none }) F.ARRAY_CONFIG_MISMATCH { inst := port, detail := [port] }
      h.dev ≠ w.dev → exec (.hello t port h) s = .next w)

/-- A sequenced flit is accepted in order on a port with a neighbour and within its credit: it is this device's where DST names it or all
members, and travels on where DST is another device or all members; one out of order is refused and counted (R279 to R282). Halo
transfers between members: answers, the samples received, requests sent again after 200 µs, and FINAL sent in four copies (R157, R290). -/
def Obligations.FlitsAndHalos : Prop :=
  (∀ (u : State) (f : FlitHead) (type cls flags : Nat) (body : List Byte),
      let p := u.port f.port
      u.isRonox f.port = true → p.up = true → p.neighbour.isSome = true →
      creditLeft (cls3 p.rxCredit f.cls) (cls3 p.rxCount f.cls) = true →
      (f.seq ≠ p.rxSeq → u.acceptFlit f type cls flags body = (false, u.nak f.port)) ∧
      (f.seq = p.rxSeq →
        let v := u.setPort f.port { p with
          rxSeq := (p.rxSeq + 1) % 2 ^ 32, rxCount := addCls3 p.rxCount f.cls 1 }
        f.cls = cls → f.hops < 8 → v.dstOk f.dst = true →
        type = 0x11 ∨ type = 0x12 ∨ epochAfter f.epoch v.array.epoch = 0 →
        u.acceptFlit f type cls flags body = (decide (f.dst = v.dev ∨ 0xFE ≤ f.dst),
          if f.dst = v.dev ∨ f.dst = 0xFE then v else v.route {
            type := type, flags := flags, epoch := f.epoch, src := f.src, dst := f.dst, hops := f.hops + 1, cls := cls
            body := body }))) ∧
  (∀ (s : State) (t : Time), s.runs t →
      let u := s.now t
      (∀ f q v, f.port < 6 → f.src < 8 → q.chan < 256 →
        u.acceptFlit f 0x20 1 (if q.final then 1 else 0) (haloBody q) = (true, v) →
        exec (.haloReq t f q) s = .next (if q.final then v.haloFinal f.src q else v.answerHalo f.src q)) ∧
      (∀ f req off data v, f.port < 6 → f.src < 8 →
        u.acceptFlit f 0x21 2 0 (leBytes 4 req ++ leBytes 4 off ++ data) = (true, v) →
        exec (.haloData t f req off data) s = .next (v.takeHaloData req off data)) ∧
      (∀ (v : State) req off data w, Store.find? v.array.halos req = some w → off ≤ w.got →
        let x := v.tick K.SEARCH_COUNTERS_HALO_BYTES_IN data.length
        let got := min w.want (max w.got (off + data.length))
        let held := (putRun w.data off data).take w.want
        (got < w.want → v.takeHaloData req off data = { x with array := { x.array with
          halos := Store.put v.array.halos req { w with got := got, lastData := v.time, data := held } } }) ∧
        (got = w.want → v.takeHaloData req off data = State.storeHalo { x with array := { x.array with
          halos := Store.erase v.array.halos req
          halosDone := v.array.halosDone ++ [(w.req.chan, w.req.pic, w.req.plane, w.owner)] } } w.owner w.req held)) ∧
      (∀ req w, Store.find? u.array.halos req = some w → w.lastData + 200000 ≤ u.time → exec (.haloReqReissue t req) s =
        .next ((State.tick { u with array := { u.array with
          halos := Store.put u.array.halos req { w with lastData := u.time } } } K.ARRAY_COUNTERS_HALO_REISSUES 1).sendHaloReq
            w.owner w.req)) ∧
      (∀ ch pic owner n last, ch < 256 → owner < 8 →
        u.array.halos.any (fun e => e.2.owner == owner && e.2.req.chan == ch && e.2.req.pic == pic % 2 ^ 32) = false →
        u.array.halosDone.any (fun e => e.1 == ch && e.2.1 == pic % 2 ^ 32 && e.2.2.2 == owner) = true →
        u.array.finals.find? (fun e => e.1 == ch && e.2.1 == pic && e.2.2.1 == owner) =
            (if n = 0 then none else some (ch, pic, owner, n, last)) →
        n < 4 → n = 0 ∨ last + 10000 ≤ u.time →
        exec (.haloFinalSend t ch pic owner) s = .next (State.sendHaloReq { u with array := { u.array with
          finals := u.array.finals.filter (fun e => !(e.1 == ch && e.2.1 == pic && e.2.2.1 == owner)) ++
            [(ch, pic, owner, n + 1, u.time)] } } owner
              { chan := ch, plane := 0, pic := pic % 2 ^ 32, x := 0, y := 0, w := 0, h := 0, reqId := 0, final := true })))

/-- Members hear each other, fence, declare a silent member dead, and follow epochs and orders (R285, R292 to R295, R298, R360). -/
def Obligations.ArrayMembership : Prop :=
  ∀ (s : State) (t : Time), s.runs t →
    let u := s.now t
    (u.array.state ≠ 0 → u.array.lastHbSend + 10000 ≤ u.time →
      let h := u.ownHeartbeat
      exec (.heartbeatSend t) s = .next (State.ronoxSend { u with array := { u.array with lastHbSend := u.time } } 0x10
        (heartbeatFlags h) 0 0xFF (heartbeatBody h))) ∧
    (∀ f h v, f.port < 6 → f.src < 8 → u.acceptFlit f 0x10 0 (heartbeatFlags h) (heartbeatBody h) = (true, v) →
      f.src ≠ v.dev → v.time ≤ h.sendTime + 50000 →
      let w := (v.heard f.src f.epoch h).tryForm
      let dead := h.fenced && bit w.array.members f.src && w.declares f.src
      (dead = false → exec (.heartbeat t f h) s = .next w) ∧
      (dead = true → exec (.heartbeat t f h) s = .next (w.declareDead f.src))) ∧
    (∀ f h v, f.port < 6 → f.src < 8 → u.acceptFlit f 0x10 0 (heartbeatFlags h) (heartbeatBody h) = (true, v) →
      f.src ≠ v.dev → h.sendTime + 50000 < v.time →
      exec (.heartbeat t f h) s = .next (v.tick K.ARRAY_COUNTERS_HB_LATE 1)) ∧
    (∀ peer l, peer < 8 → (u.peer peer).lastHb = some l → l + 100000 < u.time → exec (.heardExpiry t peer) s =
      .next { u with array := { u.array with heard := setBit u.array.heard peer false } }) ∧
    (u.inArray = true → u.hearers < popCount 8 u.array.members / 2 → exec (.arrayFenced t) s = .next u.fence) ∧
    (u.array.state = 4 → u.fence = u) ∧
    (u.array.state ≠ 4 →
      u.fence = State.raise { u with array := { u.array with state := 4 } } F.ARRAY_FENCED {}) ∧
    (∀ peer, peer < 8 → bit u.array.members peer = true → u.declares peer = true → u.silent peer = true →
      (∀ d < 8, d < peer → u.declares d = false) → exec (.memberSilenceTimeout t peer) s = .next (u.declareDead peer)) ∧
    (∀ e fin, u.array.declared = some (e, fin) → u.coordinates = true → u.array.lastRepeat + 100000 ≤ u.time →
      (fin < u.time → exec (.epochRepeat t) s = .next { u with array := { u.array with declared := none } }) ∧
      (u.time ≤ fin → exec (.epochRepeat t) s = .next (State.ronoxSend
        { u with array := { u.array with lastRepeat := u.time } } 0x11 0 0 0xFF (epochBody e)))) ∧
    (∀ f e v, f.port < 6 → f.src < 8 → u.acceptFlit f 0x11 0 0 (epochBody e) = (true, v) → v.array.state ≠ 0 →
      1 ≤ epochAfter e.epoch v.array.epoch → epochAfter e.epoch v.array.epoch ≤ 0x7FFF →
      exec (.epoch t f e) s = .next (v.adopt e)) ∧
    (∀ f n v, f.port < 6 → f.src < 8 → u.acceptFlit f 0x12 0 0 (leBytes 2 n) = (true, v) → v.array.state ≠ 0 →
      exec (.fenceOrder t f n) s = .next v.fence) ∧
    (∀ f rec v, f.port < 6 → f.src < 8 →
      let r : FaultRecord := {
        fault := rec.fault, event := rec.event, reaction := rec.reaction, depth := rec.depth, dev := rec.dev, loc := rec.loc
        time := rec.time, seq := rec.seq, detail := rec.detail }
      u.acceptFlit f 0x13 0 0 r.bytes = (true, v) → v.coordinates = true → (faultInfo? r.fault).isSome = true →
      exec (.faultRelay t f rec) s = .next (v.relayRecord r)) ∧
    (∀ up, u.array.firstUp = some up → u.array.state = 1 → up + u.v K.ARRAY_CONFIG_FORM_TIMEOUT_MS * 1000000 ≤ u.time →
      let all := u.v K.ARRAY_CONFIG_MEMBERS
      let there := (List.range 8).foldl (fun m d => if bit all d && bit u.reachable d then setBit m d true else m) 0
      let gone := (List.range 8).filter (fun d => bit all d && !bit there d)
      (2 * popCount 8 there ≤ popCount 8 all → exec (.formTimeout t) s = .next u.formFailed) ∧
      (popCount 8 all < 2 * popCount 8 there → exec (.formTimeout t) s = .next (State.formAs
        (u.each gone (fun v d => v.raise F.ARRAY_MEMBER_MISSING { inst := d, detail := [d] })) there))) ∧
    (∀ r d, u.Prompt → d < 8 → u.MayAct r K.ARRAY_CMD_READMIT →
      ServedAs u (exec (.readmit t r (leBytes 1 d)) s) (fun w => w.acted r K.ARRAY_CMD_READMIT (w.readmit d))) ∧
    (∀ d, u.coordinates = true → d < 8 → bit u.array.members d = false → bit u.reachable d = true →
      (u.peer d).fenced = true →
      let w := u.endFault F.ARRAY_MEMBER_MISSING d
      u.readmit d = .ok (w.declare {
        epoch := epochNext w.array.epoch, members := setBit w.array.members d true, standby := setBit w.array.standby d true
        dead := 0xFF, taker := 0xFF, coordinator := w.dev, declareTime := w.time }))

/-! ### Egress and magazines -/

/-- Egress queues: enabled and disabled by EQ_CONFIG, a port picks the packet of the selected queue and ends it, shapers and meters
refill at whole microseconds, and offloads start and stop (R302, R304, R305, R307, R314, R315). -/
def Obligations.EgressQueues : Prop :=
  ∀ (s : State) (t : Time), s.runs t →
    let u := s.now t
    (∀ r (on : Bool), u.Prompt → u.MayAct r K.EQ_CONFIG_ENABLE →
      ServedAs u (exec (.eqConfigWrite t r (K.EQ_CONFIG_ENABLE % 256) (leBytes 1 (if on then 1 else 0))) s) (fun v =>
        (v.setImm (winKey (v.sel r K.EQ_SELECT_TARGET) K.EQ_CONFIG_ENABLE) (if on then 1 else 0)).eqEnable
          (v.sel r K.EQ_SELECT_TARGET) on)) ∧
    (∀ (v : State) q, (v.queue q).state = 0 →
      v.eqEnable q true = v.setQueue q { v.queue q with state := 1, seq := 0 } ∧ v.eqEnable q false = v) ∧
    (∀ r, u.Prompt → u.MayAct r K.EQ_CONFIG_OFFLOAD_CMD →
      ServedAs u (exec (.offloadStart t r) s)
        (fun v => v.acted r K.EQ_CONFIG_OFFLOAD_CMD (v.offloadCmd (v.sel r K.EQ_SELECT_TARGET) 1)) ∧
      ServedAs u (exec (.offloadStop t r) s)
        (fun v => v.acted r K.EQ_CONFIG_OFFLOAD_CMD (v.offloadCmd (v.sel r K.EQ_SELECT_TARGET) 2))) ∧
    (∀ (v : State) q, (v.queue q).state = 2 →
      v.offloadCmd q 2 = .ok (v.setQueue q { v.queue q with
        state := 3, offload := [], held := (v.queue q).held.filter (·.chan ≠ 0x1FF) })) ∧
    (∀ port q, port / 16 < 6 → port % 16 < 4 → u.fatal = false → (u.ethPort port).link = true →
      (u.ethPort port).busy = none → u.portRate port ≠ 0 → u.selected port = some q →
      exec (.transmitSelection t port) s = .next (u.startPacket port q)) ∧
    (∀ port q, port / 16 < 6 → port % 16 < 4 → (u.ethPort port).busy = some q →
      exec (.packetTxDone t port) s = .next ((((u.modEth port (fun h => { h with busy := none })).modQueue q
        (fun e => { e with sent := e.sent + 1 })).releaseHeld q).offloadNext q)) ∧
    (∀ r sub data e, u.Prompt → u.Present r → sub < 256 → keyOf 0x2A41 sub ≠ K.EQ_CONFIG_ENABLE →
      u.writeCheck r 0x2A41 sub data = .ok (e, none) → e.acc = .rw → e.ty.size = some data.length →
      ServedAs u (exec (.eqConfigWrite t r sub data) s)
        (fun v => v.acceptPlain e (v.regKey r (keyOf 0x2A41 sub)) (leNat data))) ∧
    (∀ (v : State) q b, (v.queue q).enabled = true → v.queueNamed q = false →
      let m := v.eq q K.EQ_CONFIG_OFFLOAD / 4096 % 2
      v.readRecord m (v.eq q K.EQ_CONFIG_OFFLOAD % 4096) = some b → v.magReady m = true →
      bit (leNat ((b.drop 7).take 1)) 3 = false →
      v.offloadCmd q 1 = .ok (((v.setQueue q { v.queue q with
        state := 2, codec := leNat ((b.drop 64).take 1), offload := clipUnits (v.mag m).content b }).nvmeIssue m 2 0 []).offloadNext
          q)) ∧
    (refillsDue u.shaperAt u.time ≠ 0 →
      let v : State := { u with shaperAt := u.time }
      let w := v.each (List.map Prod.fst v.queues) (fun v q =>
        if v.eq q K.EQ_CONFIG_SHAPE_RATE = 0 then v else v.shaperAdd q (refillsDue u.shaperAt u.time))
      exec (.shaperRefill t) s = .next (w.each w.shapersWaiting State.shaperApply)) ∧
    (∀ (v : State) q n, v.shaperAdd q n = v.modQueue q (fun e => { e with
      tokens := min (v.eq q K.EQ_CONFIG_SHAPE_BURST * 65536)
        (e.tokens + n * (v.eq q K.EQ_CONFIG_SHAPE_RATE * 65536 / 8000000)) })) ∧
    (refillsDue u.meterAt u.time ≠ 0 →
      let v : State := { u with
        meters := Store.map u.meters (fun _ m => m.refill (refillsDue u.meterAt u.time)), meterAt := u.time }
      exec (.meterRefill t) s = .next (v.each v.metersWaiting State.meterApply))

/-- Ethernet ports: links, gates, ARP and echo requests (R301, R303, R308 to R310). -/
def Obligations.EthernetPorts : Prop :=
  ∀ (s : State) (t : Time) (port : Nat), port / 16 < 6 → port % 16 < 4 → s.runs t →
    let u := s.now t
    let e := u.ethPort port
    let ip := u.v (ethKey port K.ETH_PORT_IP_ADDR)
    (u.portRate port ≠ 0 → exec (.ethLinkUp t port) s = .next
      (((u.modEth port (fun h => { h with link := true })).setRo (ethKey port K.ETH_PORT_LINK) 1).reportJoins port)) ∧
    (e.link = true →
      let v := (u.modEth port (fun h => { h with link := false, busy := none })).setRo (ethKey port K.ETH_PORT_LINK) 0
      let live (w : State) : List Nat := (List.map Prod.fst w.queues).filter (fun q =>
        w.eq q K.EQ_CONFIG_PORT == port && w.eq q K.EQ_CONFIG_KIND == 0)
      (e.busy = none → exec (.ethLinkDown t port) s = .next (v.each (live v) State.dropHeld)) ∧
      (∀ q, e.busy = some q → exec (.ethLinkDown t port) s =
        .next ((v.releaseHeld q).each (live (v.releaseHeld q)) State.dropHeld))) ∧
    (∀ senderIp senderMac, e.link = true → ip ≠ 0 → exec (.arpRequest t port senderIp senderMac ip) s =
      .next ((u.setEth port { e with arp := e.arp.map (fun a =>
        if a.1 = senderIp then (a.1, senderMac, a.2.2) else a) }).emit (.arp port (u.portMac port) senderIp true))) ∧
    (∀ src payload, e.link = true → ip ≠ 0 →
      exec (.icmpEchoRequest t port src ip payload) s = .next (u.emit (.icmp port src payload))) ∧
    (∀ a, e.link = true → e.arp.any (fun x => x.1 == a && x.2.2 + 60000000000 ≤ u.time) = true →
      exec (.arpRefresh t port a) s = .next ((u.setEth port { e with arp := e.arp.map (fun x =>
        if x.1 = a then (x.1, x.2.1, u.time) else x) }).emit (.arp port (u.portMac port) a false))) ∧
    (∀ r, u.Prompt → u.MayAct r (keyOf (0x2A00 + port / 16 * 4 + port % 16) 0x0B) →
      ServedAs u (exec (.gateCommit t r port) s)
        (fun v => v.acted r (keyOf (0x2A00 + port / 16 * 4 + port % 16) 0x0B) (v.gateCommit port))) ∧
    (u.pv (ethKey port K.ETH_PORT_GATE_COUNT) = 0 → e.commitAt = none → e.active.entries = [] →
      u.gateCommit port = .ok (u.setEth port { e with commitAt := some u.time })) ∧
    (∀ from_, e.commitAt = some from_ → u.switchAt port from_ ≤ u.time →
      exec (.gateCycleStart t port) s = .next (u.gateSwitch port (u.switchAt port from_))) ∧
    (e.commitAt = none → e.active.entries ≠ [] → e.cycleStart + e.active.cycle ≤ u.time →
      exec (.gateCycleStart t port) s = .next (u.setEth port { e with
        cycleStart := e.cycleStart + (u.time - e.cycleStart) / e.active.cycle * e.active.cycle, entry := 0 })) ∧
    (∀ i, (gateSpans e.active.cycle 0 e.active.entries).findIdx?
        (fun x => e.cycleStart + x.1 ≤ u.time && u.time < e.cycleStart + x.2.1) = some i →
      exec (.gateEntryChange t port) s = .next (u.setEth port { e with entry := i }))

/-- Magazines: they come and go, fail, and complete commands; clips open and close at frame boundaries, take extents, and become
durable checkpoint by checkpoint (R316, R318, R320, R323). -/
def Obligations.Magazines : Prop :=
  ∀ (s : State) (t : Time), s.runs t →
    let u := s.now t
    (∀ m (id : MagIdentify), m < 2 → (((List.range 6).filter (fun q => u.role q == 0x10))[m]?).isSome = true →
      let v := if (u.mag m).state = 1 then u else (u.endFault F.MAG_REMOVED m).endFault F.MAG_FAILED m
      let content := id.content.foldl (fun (m : Memory) e => Memory.writeBytes m e.1 e.2) []
      (id.lba4k = true → id.mdtsOk = true →
        let w := (v.setMag m { state := 1, capacity := min id.blocks (2 ^ 33), content := content }).endFault F.MAG_UNSUPPORTED m
        (id.blocks ≤ 2 ^ 33 → exec (.magPresenceChange t m id) s = .next (w.endFault F.MAG_CAPACITY_CLIPPED m)) ∧
        (2 ^ 33 < id.blocks → exec (.magPresenceChange t m id) s =
          .next (w.raise F.MAG_CAPACITY_CLIPPED { inst := m, detail := [m] }))) ∧
      (id.lba4k = false ∨ id.mdtsOk = false → exec (.magPresenceChange t m id) s =
        .next (((v.setMag m { state := 2, capacity := 0, content := content }).raise F.MAG_UNSUPPORTED
          { inst := m, detail := [m] }).endFault F.MAG_CAPACITY_CLIPPED m))) ∧
    (∀ m, m < 2 → (u.mag m).state = 1 ∨ (u.mag m).state = 2 →
      exec (.magRemoved t m) s = .next (u.magLost m 3 F.MAG_REMOVED)) ∧
    (∀ m e rest, m < 2 → (u.mag m).inFlight = e :: rest → u.magReady m = true → e.2 + 2000000000 ≤ u.time →
      exec (.magCommandTimeout t m) s = .next (u.magLost m 4 F.MAG_FAILED)) ∧
    (∀ m status, m < 2 → u.magReady m = true → (u.mag m).inFlight ≠ [] →
      (status % 2048 = 0 →
        exec (.nvmeCompletion t m status) s = .next ((u.setMag m (u.mag m).finishData).flushReady m)) ∧
      (status % 2048 ≠ 0 → exec (.nvmeCompletion t m status) s =
        .next ((u.setRo (magKey m K.MAG_NVME_STATUS) (status % 2048)).magLost m 4 F.MAG_FAILED))) ∧
    (∀ r ch, ch < 256 → u.Prompt → u.MayAct r (chKey ch K.CH_MAG_CLIP_CMD) →
      ServedAs u (exec (.clipOpen t r ch) s) (fun v => v.acted r (chKey ch K.CH_MAG_CLIP_CMD) (v.clipCmd ch 1)) ∧
      ServedAs u (exec (.clipClose t r ch) s) (fun v => v.acted r (chKey ch K.CH_MAG_CLIP_CMD) (v.clipCmd ch 2))) ∧
    (∀ (v : State) ch, v.clipCmd ch 2 = .ok ((v.setRec ch { v.recOf ch with cmd := some 2 }).setWaiting
      (chKey ch K.CH_MAG_CLIP_CMD))) ∧
    (∀ (v : State) ch,
      let pictures := (fmtOf (fun k => v.pv (chKey ch k))).pictures
      (∀ m < 2, bit (v.pv (chKey ch K.CH_OUTPUT_MAGAZINES)) m = true → v.magReady m = true ∧
        v.v (magKey m K.MAG_CLIP_TABLE_LBA) ≠ 2 ^ 64 - 1 ∧
        ∀ k < pictures, ((v.recOf ch).clip m k).exts false ≠ [] ∧ ((v.recOf ch).clip m k).exts true ≠ []) →
      v.pv (chKey ch K.CH_MAG_CLIP) + pictures ≤ 4096 → v.clipCmd ch 1 = .ok ((v.setRec ch { v.recOf ch with
        cmd := some 1 }).setWaiting (chKey ch K.CH_MAG_CLIP_CMD))) ∧
    (∀ r ch m x, ch < 256 → m < 2 → x < 2 ^ 64 → u.Prompt → u.MayAct r (chKey ch (K.CH_MAG_EXTENT_ADD + m)) →
      ServedAs u (exec (.extentAdd t r ch m (leBytes 8 x)) s)
        (fun v => v.acted r (chKey ch (K.CH_MAG_EXTENT_ADD + m)) (v.extentAdd ch m x))) ∧
    (∀ (v : State) ch m x, bits x 63 31 + bits x 27 0 ≤ (v.mag m).capacity → bits x 27 0 ≠ 0 →
      v.v (magKey m K.MAG_CLIP_TABLE_LBA) = 2 ^ 64 - 1 → ((v.recOf ch).clip m (bits x 30 29)).extents.length < 495 →
      v.extentAdd ch m x = .ok (v.setClip ch m (bits x 30 29) { (v.recOf ch).clip m (bits x 30 29) with
        extents := ((v.recOf ch).clip m (bits x 30 29)).extents ++
          [{ start := bits x 63 31, blocks := bits x 27 0, isIndex := bit x 28 }] })) ∧
    (∀ r ch n, ch < 256 → n < 4096 → u.Prompt → u.MayAct r (chKey ch K.CH_MAG_CLIP) →
      u.writeCheck r (chKey ch K.CH_MAG_CLIP / 256) (chKey ch K.CH_MAG_CLIP % 256) (leBytes 2 n) =
        (lookup (chKey ch K.CH_MAG_CLIP / 256) (chKey ch K.CH_MAG_CLIP % 256)).map (fun e => (e, none)) →
      ServedAs u (exec (.clipWrite t r ch (leBytes 2 n)) s)
        (fun v => v.acted r (chKey ch K.CH_MAG_CLIP) (v.clipWrite ch n))) ∧
    (∀ (v : State) ch n, (v.recOf ch).state ≠ 1 → v.clipWrite ch n = .ok ((v.setImm (chKey ch K.CH_MAG_CLIP) n).setRec ch
      { v.recOf ch with state := 0, clips := [] })) ∧
    (∀ ch m, ch < 256 → u.closeReached ch = false → u.recordingOn ch = [m] → (u.recOf ch).busy m = false →
      let next := Store.get (u.recOf ch).next 0 m
      let period := max 1 (u.v (magKey m K.MAG_CHECKPOINT_MS) * 1000000)
      let later := if next ≤ u.time then next + ((u.time - next) / period + 1) * period else next
      next ≤ u.time ∨ (Store.find? (u.recOf ch).ending m).isSome = true →
      exec (.magCheckpoint t ch) s =
        .next ((u.setRec ch { u.recOf ch with next := Store.put (u.recOf ch).next m later }).checkpoint ch m)) ∧
    (∀ m ch, m < 2 → ch < 256 → m ∈ (u.recOf ch).flushing →
      let v := u.setRec ch { u.recOf ch with flushing := (u.recOf ch).flushing.filter (· ≠ m) }
      let record (w : State) (k : Nat) : State :=
        let r := w.recOf ch
        let c := r.clip m k
        let x := w.setRec ch { (r.setClip m k { c with seq := c.seq + 1 }) with records := r.records ++ [(m, k)] }
        x.nvmeIssue m 3 (x.recordAt m c / 4096) (w.clipRecord ch m k (r.nextState m))
      exec (.magFlushComplete t m ch) s = .next (((v.setMag m ((v.mag m).finish 0)).freeDurable ch m).each
        (List.range (u.recOf ch).streams) record)) ∧
    (∀ m ch k, m < 2 → ch < 256 → k < 4 → (m, k) ∈ (u.recOf ch).records →
      let r := u.recOf ch
      let c := r.clip m k
      let state := r.nextState m
      let n := r.coveredOn m
      let last := c.index[n - 1]?
      let g := (u.mag m).finish 3
      let v := u.setMag m { g with
        content := Memory.writeBytes g.content (u.recordAt m c) (u.clipRecord ch m k state) }
      let w := v.setRec ch { (r.setClip m k { c with
        durable := (n, (last.map (fun e => e.offset + e.length)).getD 0)
        durablePic := if n = 0 then c.durablePic else (last.map (·.pic)).getD 0xFFFFFFFF
        durableLaunch := if n = 0 then c.durableLaunch else (last.map (·.launch)).getD 0
        state := state }) with records := r.records.filter (· ≠ (m, k)) }
      ((w.recOf ch).records.any (·.1 == m) = true →
        exec (.clipRecordWriteComplete t m ch k) s = .next (w.clipStateDone ch state)) ∧
      ((w.recOf ch).records.any (·.1 == m) = false →
        exec (.clipRecordWriteComplete t m ch k) s = .next ((w.durableFields ch m).clipStateDone ch state)))

/-! ### DRAM and DMA -/

/-- DRAM: refresh, retrain, and errors corrected, uncorrectable and on the command bus (R326, R331 to R336). -/
def Obligations.DramCommands : Prop :=
  ∀ (s : State) (t : Time), s.runs t →
    let u := s.now t
    (∀ dc, dc < 8 → bit u.dramUse dc = true →
      exec (.dramRefresh t dc) s = .next (u.emit (.dramRefresh dc)) ∧
      (∀ due, Store.find? u.dram.due dc = some due →
        (due ≤ u.time → u.plannedWithin (u.v K.DRAM_CONFIG_GAP_US * 1000) = false →
          exec (.dramRetrain t dc) s = .next (u.retrainNow dc due)) ∧
        (due + u.v K.DRAM_CONFIG_RETRAIN_MS * 1000000 ≤ u.time → exec (.dramRetrainForced t dc) s = .next (State.raise
          ((u.retrainNow dc due).tick K.MEMORY_COUNTERS_RETRAINS_FORCED 1) F.DRAM_RETRAIN_FORCED
            { inst := dc, detail := [dc] }))) ∧
      (∀ sub rank addr cmd source, sub < 2 → source < 14 →
        let recent := (Store.get u.dram.replays [] (dc * 2 + sub)).filter (fun r => u.time ≤ r.2 + 1000000)
        let log := recent ++ [(cmd, u.time)]
        let v := (u.tick K.MEMORY_COUNTERS_CA_REPLAYS 1).bump K.DRAM_ERR_LOG_TOTAL 1
        let w : State := { v with dram := { v.dram with
          replays := Store.put v.dram.replays (dc * 2 + sub) log
          errLog := (errRecord v.time 3 source dc sub rank 0xFF addr :: v.dram.errLog).take 16 } }
        ((log.filter (·.1 == cmd)).length < 3 →
          exec (.dramCaAlert t dc sub rank addr cmd source) s = .next w) ∧
        (3 ≤ (log.filter (·.1 == cmd)).length → exec (.dramCaAlert t dc sub rank addr cmd source) s =
          .next (w.raise F.DRAM_CA_FAIL { detail := [dc, sub, cmd] })))) ∧
    (∀ addr rank d, u.v K.DRAM_CONFIG_SCRUB_HOURS ≠ 0 → addr < u.dramBytes → lineOf addr ∉ u.dram.badLines →
      exec (.patrolScrubRead t addr rank (.corrected d)) s = .next (u.corrected 0 rank d addr) ∧
      exec (.patrolScrubRead t addr rank .clean) s = .next u) ∧
    (∀ addr rank source chan, source < 14 → addr < u.dramBytes → lineOf addr ∉ u.dram.badLines →
      exec (.dramReread t addr rank source chan .clean) s = .next (u.corrected source rank none addr) ∧
      exec (.dramReread t addr rank source chan .uncorrectable) s = .next (u.uncorrectable source rank chan addr)) ∧
    (∀ addr rank source chan res, source < 14 → addr < u.dramBytes → lineOf addr ∈ u.dram.badLines →
      exec (.dramReread t addr rank source chan res) s = .next (u.uncorrectable source rank chan addr))

/-- DMA: START checks and begins a transfer, STOP asks a busy channel to stop, a register-mode transfer from the host lands in
DRAM and ends the run, and a run that wrote to the host ends after its final read (R340 to R343). -/
def Obligations.DmaCommands : Prop :=
  ∀ (s : State) (t : Time) (dm : Nat), dm < 64 → s.runs t →
    let u := s.now t
    (∀ r first, u.Prompt → u.MayAct r (keyOf (0x2700 + dm) 0x06) →
      ServedAs u (exec (.dmaStart t r dm first) s) (fun v => v.acted r (keyOf (0x2700 + dm) 0x06) (v.dmaStart dm first)) ∧
      ServedAs u (exec (.dmaStop t r dm) s) (fun v => v.dmaStop dm)) ∧
    (∀ (v : State) first, (v.dmaCh dm).busy = false → v.fatal = false → bit (v.dmaMode dm) 31 = false →
      let w := v.setDma dm { v.dmaCh dm with status := 1, bytesDone := 0, descDone := 0, cur := none, hostDst := false, ending := none }
      v.dmaStart dm first = .ok (if (w.dmaRegs dm).count = 0 then w.dmaFinish dm 2 else w.dmaBegin dm (w.dmaRegs dm))) ∧
    (∀ v : State, (v.dmaCh dm).status = 1 → v.dmaStop dm = v.setDma dm { v.dmaCh dm with status := 4 }) ∧
    (∀ v : State, (v.dmaCh dm).busy = true → ∀ first, v.dmaStart dm first = .error A.state) ∧
    (∀ x m next_, (u.dmaCh dm).cur = some x →
      let bs := (u.dmaSource x m.data).take x.count
      let v := u.dmaWrite dm x bs
      let w := (v.setDma dm { v.dmaCh dm with bytesDone := (v.dmaCh dm).bytesDone + w64 bs.length }).tick
        K.MEMORY_COUNTERS_DMA_BYTES bs.length
      (m.hostError = false → m.dramError = false → bs.length = x.count →
        exec (.dmaDescriptorComplete t dm m next_) s = .next (w.dmaNext dm x next_)) ∧
      (m.dramError = true → x.srcHost = false → exec (.dmaDescriptorComplete t dm m next_) s =
        .next (w.dmaFail dm 11 ((x.src + bs.length) / 2 ^ x.srcWidth * 2 ^ x.srcWidth))) ∧
      (m.hostError = true → x.srcHost = true →
        exec (.dmaDescriptorComplete t dm m next_) s =
          .next (w.dmaFail dm 10 ((x.src + bs.length) / 2 ^ x.srcWidth * 2 ^ x.srcWidth))) ∧
      (m.hostError = true → m.dramError = false → x.srcHost = false → x.dstHost = true →
        exec (.dmaDescriptorComplete t dm m next_) s =
          .next (w.dmaFail dm 10 ((x.dst + bs.length) / 2 ^ x.dstWidth * 2 ^ x.dstWidth)))) ∧
    (∀ (v : State) x data, x.srcHost = true → x.dstHost = false → v.dmaSource x data = data ∧
      (v.dmaWrite dm x data).dram.mem = v.dram.mem.writeBytes x.dst data ∧ (v.dmaWrite dm x data).chans = v.chans) ∧
    (∀ (v : State) x next_, bit (v.dmaMode dm) 31 = false → (v.dmaCh dm).hostDst = false → (v.dmaCh dm).status = 1 →
      let w := v.dmaNext dm x next_
      (w.dmaCh dm).status = 2 ∧ (w.dmaCh dm).cur = none ∧ (w.dmaCh dm).bytesDone = (v.dmaCh dm).bytesDone) ∧
    (∀ st, (u.dmaCh dm).ending = some st → exec (.dmaFinalReadComplete t dm) s =
      .next ((u.setDma dm { u.dmaCh dm with status := st, ending := none }).dmaSignal dm))

/-! ### Interrupts -/

/-- Interrupts: hold-off, unmask, CLAIM and completion, and the fields of a source (R346, R348 to R350). -/
def Obligations.InterruptCommands : Prop :=
  ∀ (s : State) (t : Time), s.runs t →
    let u := s.now t
    (∀ f g e, f < 256 → g < 64 → (u.intGroup f g).timer = some e → e ≤ u.time →
      let v := u.setIntGroup f g { u.intGroup f g with timer := none }
      exec (.holdoffExpiry t f g) s = .next (if v.groupAny f g IntSource.eligible then v.sendVector f g else v)) ∧
    (∀ f g, f < 256 → g < 64 →
      let r := u.intGroup f g
      (r.msixPending = true → exec (.msixUnmask t f g) s = .next ((u.setIntGroup f g { r with
        masked := false, msixPending := false, messages := r.messages + 1 }).emit (.msix f g))) ∧
      (r.msixPending = false → exec (.msixUnmask t f g) s = .next (u.setIntGroup f g { r with masked := false }))) ∧
    (∀ f g, f < 256 → g < 64 → u.funcReaches f = true →
      (∀ n, u.claimable f g = some n → exec (.claimRead t f g) s = .next ((u.setIntSource n { u.intSource n with
        pending := false, active := true }).emit (.claim f g n))) ∧
      (u.claimable f g = none → exec (.claimRead t f g) s = .next ((u.setIntGroup f g { u.intGroup f g with
        spurious := (u.intGroup f g).spurious + 1 }).emit (.claim f g 4095))) ∧
      (∀ n, n < 4095 → (u.intSource n).active = true → (u.intSource n).func = f → (u.intSource n).group = g →
        exec (.claimComplete t f g n) s = .next (u.updateSource n { u.intSource n with active := false })) ∧
      (∀ n, 4095 ≤ n ∨ (u.intSource n).active = false → exec (.claimComplete t f g n) s =
        .next (u.setIntGroup f g { u.intGroup f g with badCompletes := (u.intGroup f g).badCompletes + 1 }))) ∧
    (∀ r p, p < 8 → u.Prompt → u.MayAct r 0x250103 →
      u.writeCheck r 0x2501 3 [byteOf p] = (lookup 0x2501 3).map (fun e => (e, none)) →
      ServedAs u (exec (.intSourceWrite t r 3 [byteOf p]) s) (fun v =>
        v.updateSource (v.sel r K.INT_SELECT_SOURCE) { v.intSource (v.sel r K.INT_SELECT_SOURCE) with prio := p }))

/-! ### Faults and the dump -/

/-- Fault sources: a condition source that is not active becomes active and makes one record, an active one makes none, an event makes
one each time, a path fault is ignored from then on, a condition ends, and the reaction rows and ERR_OUT_N (R351, R352, R354, R359). -/
def Obligations.FaultSources : Prop :=
  ∀ (s : State) (t : Time), s.runs t →
    let u := s.now t
    (∀ src inst depth ch pic tile ctu (blk : UnitPlace) detail, ch < 256 →
      exec (.faultRaise t src inst depth ch pic tile ctu blk detail) s = .next (u.raise src {
        inst := inst, detail := detail
        loc := { depth := min depth 6, chan := ch, pic := pic, tile := tile, ctu := ctu, blk := blk.index, sample := blk.sample } })) ∧
    (∀ (v : State) src x i, faultInfo? src = some i → src ∉ v.faults.ignored →
      (i.event = true → v.raise src x = (v.errEvent src).record src 3 (v.faultRow src).reaction x) ∧
      (i.event = false → ∀ a, Store.find? v.faults.active src = some a → v.raise src x = { v with faults := { v.faults with
        active := Store.put v.faults.active src
          { holders := if a.holders.contains x.inst then a.holders else a.holders ++ [x.inst] } } }) ∧
      (i.event = false → Store.find? v.faults.active src = none → v.raise src x = State.record { v with
        faults := { v.faults with active := Store.put v.faults.active src { holders := [x.inst] } } } src 1
          (v.faultRow src).reaction x)) ∧
    (∀ src inst a, Store.find? u.faults.active src = some a → inst ∈ a.holders →
      let left := a.holders.filter (· ≠ inst)
      (left = [] → (u.faultRow src).latch = false →
        exec (.faultConditionEnd t src inst) s = .next (u.clearFault src)) ∧
      (left ≠ [] ∨ (u.faultRow src).latch = true → exec (.faultConditionEnd t src inst) s = .next { u with
        faults := { u.faults with active := Store.put u.faults.active src { holders := left } } })) ∧
    (∀ src, (faultInfo? src).isSome = true → src ∉ u.faults.ignored →
      let v := (u.raise src {}).raise F.FAULT_PATH { inst := src, detail := [src] }
      exec (.faultPath t src) s = .next { v with faults := { v.faults with ignored := v.faults.ignored ++ [src] } }) ∧
    (∀ r row x, row < 510 → x < 2 ^ 64 → x &&& faultRowReserved = 0 → u.Prompt →
      u.MayAct r (if row < 255 then keyOf 0x2403 (row + 1) else keyOf 0x2404 (row - 254)) →
      ServedAs u (exec (.faultRowWrite t r row (leBytes 8 x)) s) (fun v =>
        acted2 r (if row < 255 then keyOf 0x2403 (row + 1) else keyOf 0x2404 (row - 254))
          ((v.writeFaultRow row x).2, (v.writeFaultRow row x).1))) ∧
    (∀ low, low ≠ u.faults.errOut → exec (.errOutPath t low) s = .next (State.raise
      { u with faults := { u.faults with errPin := low } } F.ERR_OUT_PATH {})) ∧
    exec (.errOutAgree t) s = .next (State.endFault
      { u with faults := { u.faults with errPin := u.faults.errOut } } F.ERR_OUT_PATH 0) ∧
    (u.errWanted = false → u.faults.errOut = true → u.faults.errHold ≤ u.time →
      exec (.errOutHoldExpiry t) s = .next { u with faults := { u.faults with errOut := false } })

/-- The management cores stall, restart and resume, and a dump completes, in a fatal sequence as in DUMP_NOW (R52, R361, R362). -/
def Obligations.CoresAndDumps : Prop :=
  ∀ (s : State) (t : Time), s.runs t →
    let u := s.now t
    (∀ k, k < 4 → (u.core k).stalled = false → (u.core k).returned = none → (∀ j < 4, (u.core j).stalled = false) →
      exec (.mgmtStall t k) s = .next (State.raise (u.setCore k { u.core k with stalled := true }) F.MGMT_STALL
        { inst := k, detail := [k] })) ∧
    (∀ k, k < 4 → (u.core k).stalled = true → u.coreWorks (restarter k) = true →
      exec (.shawmCoreRestart t k) s = .next (u.setCore k { u.core k with restarting := true })) ∧
    (∀ k, k < 4 → (u.core k).stalled = true → exec (.shawmLoopResume t k) s = .next (State.flushNotices (State.endFault
      (u.setCore k { stalled := false, restarting := false, returned := some u.time }) F.MGMT_STALL k))) ∧
    (u.coreWorks 3 = true → u.faults.device = .fatalDumping → u.power.shutdown = false → u.mayDump = false →
      exec (.moraineDumpComplete t) s = .next { u with faults := { u.faults with device := .fatal } }) ∧
    (u.coreWorks 3 = true → u.faults.device = .normal → u.moraine.dumping = true → u.power.shutdown = false →
      exec (.moraineDumpComplete t) s = .next (u.dumpDone u.dumpAll 3 2))

/-! ### Power, temperature and calibration -/

/-- Voltage: an evaluation each 100 µs, a raise once VCORE_IN is confirmed, PMBus transactions and regulator faults
(R366 to R369). -/
def Obligations.VoltageAndPmbus : Prop :=
  ∀ (s : State) (t : Time),
    let a := s.at t
    (∀ mw rates, s.runs t → a.power.ladder = 0 → a.time % 100000 = 0 →
      exec (.voltageEvaluation t mw rates) s = .next (a.evaluate mw rates)) ∧
    (∀ pd mv, pd < 32 → Store.find? a.power.raising pd = some mv → a.supplied = true → a.power.off = false →
      a.vinConfirmed = true → exec (.domainRaise t pd) s = .next { a with power := { a.power with
        mv := Store.put a.power.mv pd (max (a.domainMv pd) (min mv a.raiseLimit))
        raising := Store.erase a.power.raising pd
        boosted := a.power.boosted || decide (750 < max (a.domainMv pd) (min mv a.raiseLimit)) } }) ∧
    (a.pmbusOn = true →
      (∀ vin iin temp w, exec (.pmbusPoll t true vin iin temp w) s = .next (State.endFault { a with power := { a.power with
        pmbus := (vin % 65536, iin % 2 ^ 32, temp, w % 65536), pmbusFails := 0 } } F.PMBUS_FAULT 0)) ∧
      (∀ w, exec (.pmbusAlert t true w) s = .next ((State.endFault { a with power := { a.power with
        pmbus := (a.power.pmbus.1, a.power.pmbus.2.1, a.power.pmbus.2.2.1, w % 65536), pmbusFails := 0 } }
          F.PMBUS_FAULT 0).emit (.pmbus 0x03 0))) ∧
      (∀ vin iin temp w, exec (.pmbusPoll t false vin iin temp w) s = .next a.pmbusFailed) ∧
      (∀ w, exec (.pmbusAlert t false w) s = .next a.pmbusFailed) ∧
      (a.power.pmbusFails = 2 → a.pmbusFailed =
        State.raise (let v := a.bump K.PMBUS_CONFIG_ERRORS 1; { v with power := { v.power with pmbusFails := 3 } })
          F.PMBUS_FAULT {})) ∧
    (∀ pd, pd < 33 → s.runs t →
      exec (.vregFault t pd) s = .next ((s.now t).raise F.VREG_FAULT { inst := pd, detail := [pd] }))

/-- The power ladder: L1 is entered when nothing is planned and left again, a TARGET write begins an entry, the entry completes,
and a wake source ends the state (R372 to R376). -/
def Obligations.PowerLadder : Prop :=
  ∀ (s : State) (t : Time),
    let a := s.at t
    (a.frostReady = true → exec (.frostEntry t) s =
      .next { a with power := { a.power with ladder := 1, frostSince := a.time } }) ∧
    (a.power.ladder ≠ 1 → exec (.frostExit t) s = .next a) ∧
    (a.power.ladder = 1 →
      let key := K.POWER_CONFIG_FROST_TIME_NS
      let slept := (Store.find? a.dict.ro key).getD 0 + w64 (a.time - a.power.frostSince)
      exec (.frostExit t) s = .next { a with
        power := { a.power with ladder := 0 }
        dict := { a.dict with ro := Store.put a.dict.ro key slept } }) ∧
    (∀ r, s.runs t → (s.now t).Prompt → (s.now t).MayAct r K.POWER_CONFIG_TARGET →
      ServedAs (s.now t) (exec (.enterRime t r) s) (fun v => v.acted r K.POWER_CONFIG_TARGET (v.ladderTarget 2)) ∧
      ServedAs (s.now t) (exec (.enterDrift t r) s) (fun v => v.acted r K.POWER_CONFIG_TARGET (v.ladderTarget 3)) ∧
      ServedAs (s.now t) (exec (.enterNeve t r) s) (fun v => v.acted r K.POWER_CONFIG_TARGET (v.ladderTarget 4)) ∧
      ServedAs (s.now t) (exec (.enterGlacier t r) s) (fun v => v.acted r K.POWER_CONFIG_TARGET (v.ladderTarget 5))) ∧
    (∀ (v : State) n, 2 ≤ n → n ≤ 5 → v.ladderRefused = false → v.ladderTarget n = .ok
      (let w := if 4 ≤ n then v.storeTrims else v
       { w with power := { w.power with entering := some n } })) ∧
    (∀ n, a.power.entering = some n → s.runs t → a.nvm.current = none →
      (n = 2 → exec (.ladderEntryComplete t) s = .next { a with power := { a.power with ladder := 2, entering := none } }) ∧
      (n = 3 → exec (.ladderEntryComplete t) s =
        .next (State.drift { a with power := { a.power with ladder := 3, entering := none } })) ∧
      (4 ≤ n →
        let v := (State.drift { a with power := { a.power with ladder := n, entering := none } }).loseCore
        let w : State := { v with pins := { v.pins with mainEn := decide (v.v K.PMBUS_CONFIG_EXT_MODE = 0) } }
        (v.v K.PMBUS_CONFIG_EXT_MODE = 1 → exec (.ladderEntryComplete t) s = .next (w.emit (.pmbus 0x01 0))) ∧
        (v.v K.PMBUS_CONFIG_EXT_MODE ≠ 1 → exec (.ladderEntryComplete t) s = .next w))) ∧
    (∀ v : State, let w := v.loseCore
      w.chans = [] ∧ w.rings = [] ∧ w.units = [] ∧ w.power.ladder = v.power.ladder ∧ w.nvm = v.nvm ∧ w.faults.log = [] ∧
      w.moraine = {}) ∧
    (∀ w ao b, a.sensing = true → a.mayWake w = true → w ≠ .timer →
      exec (.ladderWake t w ao b) s = .next (a.wake w ao b)) ∧
    (∀ ao b, a.sensing = true → a.mayWake .timer = true → a.timerDue = true →
      exec (.wakeTimer t ao b) s = .next (a.wake .timer ao b)) ∧
    (∀ (v : State) w ao b, v.power.ladder = 2 ∨ v.power.ladder = 3 →
      (v.wake w ao b).power.ladder = 0 ∧ (v.wake w ao b).power.entering = none ∧ (v.wake w ao b).chans = v.chans ∧
      (v.wake w ao b).pins.wakeN = (w == .host))

/-- Temperature: every sensor reading and diode conversion is judged against the thresholds, and the thermal cap steps by 25 mV
each 10 ms within 550 to 850 mV (R378, R379, R382). -/
def Obligations.Temperature : Prop :=
  ∀ (s : State) (t : Time),
    let a := s.at t
    a.sensing = true →
    (∀ pd reading, pd < 32 → a.boot.held = none →
      exec (.tempSensorConversion t pd reading) s = .next (State.thermal { a with
        power := { a.power with temps := Store.put a.power.temps pd reading } })) ∧
    (∀ n reading, n < 4 → a.v (K.TDIODE_ROLE + n) ≠ 0 →
      exec (.tdiodeConversion t n reading true) s = .next (a.diodePass n reading).thermal ∧
      exec (.tdiodeConversion t n reading false) s = .next (a.diodeOpen n).thermal) ∧
    (∀ n reading ok, n < 4 → a.v (K.TDIODE_ROLE + n) = 0 → exec (.tdiodeConversion t n reading ok) s = .next a) ∧
    (a.throttling = true → exec (.thermalCapStep t) s = .next { a with
      power := { a.power with thermalCap := max 550 (a.power.thermalCap - 25) } }) ∧
    (a.throttling = false → exec (.thermalCapStep t) s = .next { a with
      power := { a.power with thermalCap := min 850 (a.power.thermalCap + 25) } }) ∧
    (∀ v : State, v.power.shutdown = true → v.thermal = v) ∧
    (∀ tj, exec (.lifeHourUpdate t tj) s = .next { a with power := { a.power with
      lifeHours := a.power.lifeHours + 1, lifeTj := a.power.lifeTj + tj
      lifeHot := a.power.lifeHot + (if 840 < tj then 1 else 0)
      lifeBoost := a.power.lifeBoost + (if a.power.boosted then 1 else 0)
      lifeUsed := a.power.lifeUsed + Config.lifeWeight tj * (if a.power.boosted then 2 else 1)
      boosted := (List.range 30).any (fun pd => 750 < a.domainMv pd) } })

/-- The margin calibrator: windows make a run, a group that disagrees backs off, a capture error raises the line's trim at once, and
trims are stored; and the slow-domain copies (R79, R80, R383 to R387). -/
def Obligations.CalibrationAndCopies : Prop :=
  ∀ (s : State) (t : Time),
    (s.runs t →
      let u := s.now t
      (∀ pd cls band late trans, pd < 32 → cls < 8 → band < 4 →
        let x : CalGroup := Store.get u.power.groups {} (trimKey pd cls band)
        u.v K.CAL_CONFIG_CAL_EN ≠ 0 → selfTimed pd = true → Store.get u.power.calClass 0 pd = cls →
        bandOf (u.domainMv pd) = band → x.backoff = none → late.length = 64 → trans.length = 64 →
        trans.all (fun n => u.v K.CAL_CONFIG_CAL_MIN_TRANS ≤ n) = true →
        (x.probe ≠ 8 → exec (.calWindow t pd cls band late trans) s = .next (u.setGroup (trimKey pd cls band) { x with
          probe := x.probe + 1, windows := x.windows ++ [(late, trans)] })) ∧
        (x.probe = 8 → exec (.calWindow t pd cls band late trans) s =
          .next (u.runDone pd cls band x (x.windows ++ [(late, trans)])))) ∧
      (∀ pd cls band e, pd < 32 → cls < 8 → band < 4 →
        (Store.get u.power.groups {} (trimKey pd cls band)).backoff = some e → e ≤ u.time →
        exec (.calBackoffExpiry t pd cls band) s = .next (u.setGroup (trimKey pd cls band) {})) ∧
      (∀ pd cls line, pd < 32 → cls < 8 → line < 64 → selfTimed pd = true →
        (pd < 8 → exec (.stageCaptureError t pd cls line none) s = .next (u.emergencyTrim pd cls line)) ∧
        (8 ≤ pd → exec (.stageCaptureError t pd cls line none) s = .next (State.emergencyTrim
          { u with blockReset := u.blockReset ++ [{ pd := pd }] } pd cls line)) ∧
        (∀ x : UnitId, x.num < x.kind.total → pd < 8 → (u.unit x.kind x.num).inService = true →
          clusterOf x.kind x.num = pd → exec (.stageCaptureError t pd cls line (some x)) s =
            .next ((u.leaveService x.kind x.num (retiredFault x.kind) true).emergencyTrim pd cls line))) ∧
      (u.trimsDiffer = true → u.storeDue = true →
        exec (.trimStore t) s = .next u.storeTrims)) ∧
    (let a := s.at t
     a.sensing = true →
      (exec (.slowCopyRefresh t) s = .next (((State.bump { a with slow := a.slowReadings, slowFrozen := false }
        K.SLOW_COPY_REFRESH_COUNT 1).setRo K.SLOW_COPY_LAST_REFRESH a.time).endFault F.AO_CLOCK_STOP 0)) ∧
      (a.ro K.SLOW_COPY_LAST_REFRESH + 122000 ≤ a.time → a.slowFrozen = false →
        exec (.aoClockStop t) s = .next (State.raise { a with slowFrozen := true } F.AO_CLOCK_STOP {})))

/-! ### Flash, patches and configuration parity -/

/-- Flash updates: BEGIN erases, DATA (over CANopen FD and OD/UDP, from its byte offset) and FETCH write the inactive copy, COMMIT makes it
the trial, CONFIRM selects the trial that runs, ABORT gives it up (R395, R396, R424). -/
def Obligations.FlashUpdates : Prop :=
  (∀ (s : State) (t : Time), s.runs t →
      let u := s.now t
      (∀ r, u.Prompt → u.MayAct r K.FLASH_UPDATE_COMMAND →
        let key := K.FLASH_UPDATE_COMMAND
        ServedAs u (exec (.flashBegin t r) s) (fun v => v.acted r key (v.flashBegin (v.sel r K.FLASH_UPDATE_REGION))) ∧
        ServedAs u (exec (.flashFetch t r) s) (fun v => v.acted r key (v.flashFetch r (v.sel r K.FLASH_UPDATE_REGION))) ∧
        (∀ same, ServedAs u (exec (.flashCommit t r same) s)
          (fun v => acted2 r key (v.flashCommit (v.sel r K.FLASH_UPDATE_REGION) same))) ∧
        ServedAs u (exec (.flashAbort t r) s) (fun v => v.flashAbort (v.sel r K.FLASH_UPDATE_REGION)) ∧
        ServedAs u (exec (.flashConfirm t r) s) (fun v => v.acted r key (v.flashConfirm (v.sel r K.FLASH_UPDATE_REGION)))) ∧
      (∀ (v : State) n who bs off,
        let x := v.flash n
        (x.state = 0 → v.boot.patchState ≠ 1 →
          v.flashBegin n = .ok (v.setFlash n { selected := x.selected, state := 1 })) ∧
        (x.state = 2 → x.fetching = none → off + bs.length ≤ copySize n → v.flashData n off bs = .ok (v.setFlash n { x with
          data := x.data.writeBytes off bs, written := max x.written (off + bs.length) })) ∧
        (x.state = 2 → x.fetching = none → who = .func 0 → x.written + v.v K.FLASH_UPDATE_FETCH_LEN ≤ copySize n →
          v.flashFetch who n = .ok (v.setFlash n { x with fetching := some (x.written, v.v K.FLASH_UPDATE_FETCH_LEN) })) ∧
        (x.state = 2 → x.fetching = none → v.flashCommit n true = (none, v.setFlash n { x with state := 3, trial := true })) ∧
        (x.state = 2 → x.fetching = none → v.flashCommit n false = (some A.store, v.setFlash n { x with state := 4 })) ∧
        (bit v.boot.trialRun (n - 1) = true →
          let w := v.setFlash n { x with selected := 1 - x.selected }
          v.flashConfirm n = .ok { w with boot := { w.boot with trialRun := setBit w.boot.trialRun (n - 1) false } })) ∧
      (∀ region, region < 6 →
        let x := u.flash region
        (x.state = 1 → exec (.flashEraseComplete t region) s = .next (u.setFlash region { x with state := 2 })) ∧
        (∀ off n bs, x.fetching = some (off, n) → bs.length = n → exec (.flashFetchComplete t region (some bs)) s =
          .next (u.setFlash region { x with
            fetching := none, data := x.data.writeBytes off bs, written := max x.written (off + bs.length) })) ∧
        (x.fetching.isSome = true → exec (.flashFetchComplete t region none) s =
          .next (u.setFlash region { x with fetching := none, state := 4 })))) ∧
  (∀ (s : State) (t : Time) (r : Requester) (off : Nat) (data : List Byte), s.runs t →
      let u := s.now t
      u.Prompt → u.MayAct r K.FLASH_UPDATE_DATA → (∀ f, r ≠ .func f) →
      ServedAs u (exec (.flashDataWrite t r off data) s)
        (fun v => v.acted r K.FLASH_UPDATE_DATA (v.flashData (v.sel r K.FLASH_UPDATE_REGION) off data)))

/-- Patches: APPLY takes a patch that fits and rejects another; a SAME_OUTPUT patch goes cluster by cluster, any other to all clusters once
no channel is open (R399). Configuration parity: each sweep counts, a mismatch is counted and raised with its word, which is restored
from the shadow copy with a block reset where the fault's reaction makes one and without one otherwise (log entry 221), and a restore that
fails loses the word (R81 to R83). -/
def Obligations.PatchesAndParity : Prop :=
  (∀ (s : State) (t : Time), s.runs t →
      let u := s.now t
      (∀ r img, u.Prompt → u.MayAct r K.PATCH_COMMAND →
        ServedAs u (exec (.patchApply t r img) s) (fun v => v.acted r K.PATCH_COMMAND (v.patchApply img))) ∧
      (∀ (v : State) img, v.boot.patchState ≠ 1 → (v.flash 5).state = 0 → v.imageFault 5 img = none → patchOk img = true →
        v.patchApply img = .ok (State.patchAll { v with boot := { v.boot with
          patchState := 1, clustersDone := 0, patch := some (img.sameOutput, img.name, img.records) } })) ∧
      (∀ (v : State) img k, v.boot.patchState ≠ 1 → (v.flash 5).state = 0 → v.imageFault 5 img = some k →
        v.patchApply img = .ok ((v.raise F.IMAGE_AUTH_FAIL { detail := [k] }).patchReject k)) ∧
      (∀ cl name recs, cl < 7 → u.boot.patch = some (true, name, recs) → u.withheld = some cl → u.clusterIdle cl = true →
        exec (.patchClusterWrite t cl) s = .next (State.serveEngines { u with boot := { u.boot with
          patched := u.boot.withPatch [cl] recs, clustersDone := setBit u.boot.clustersDone cl true } })) ∧
      (∀ cl name recs, cl < 8 → u.boot.patch = some (false, name, recs) →
        exec (.patchClusterWrite t cl) s = .next u.patchAll) ∧
      (∀ (v : State) name recs, v.boot.patch = some (false, name, recs) → v.chans = [] → v.boot.heldOpens = [] →
        v.patchAll.boot.patch = none ∧ v.patchAll.boot.patchState = 2 ∧ v.patchAll.boot.patchName = name ∧
        v.patchAll.boot.clustersDone = 0xFF)) ∧
  (∀ (s : State) (t : Time), s.runs t →
      let u := s.now t
      exec (.cfgParitySweep t ⟨true, none⟩) s = .next (u.bump K.CFG_PARITY_STATUS_SWEEP_COUNT 1) ∧
      (∀ x : CfgBad,
        let w := ((((u.bump K.CFG_PARITY_STATUS_SWEEP_COUNT 1).bumpSat K.CFG_PARITY_STATUS_PARITY_EVENTS 1).setRo
          K.CFG_PARITY_STATUS_LAST_WORD x.word).setRo K.CFG_PARITY_STATUS_LAST_PD x.pd).raise F.CFG_PARITY
            { inst := x.word, detail := [x.word, x.pd], pd := some x.pd, keys := x.keys, cells := x.cells }
        (w.blockReset ≠ u.blockReset → exec (.cfgParitySweep t ⟨true, some x⟩) s = .next w) ∧
        (w.blockReset = u.blockReset → exec (.cfgParitySweep t ⟨true, some x⟩) s = .next { w with
          blockReset := u.blockReset ++ [{ pd := x.pd, restart := false, keys := x.keys, cells := x.cells }] })) ∧
      (∀ pd x, pd < 32 → u.blockReset.find? (·.pd == pd) = some x →
        (8 ≤ pd ∨ x.restart = false →
          exec (.blockResetComplete t pd true) s = .next { u with blockReset := u.blockReset.erase x }) ∧
        (pd < 8 → x.restart = true → exec (.blockResetComplete t pd true) s =
          .next (State.repeatCluster { u with blockReset := u.blockReset.erase x } pd)) ∧
        exec (.blockResetComplete t pd false) s = .next (State.raise
          (State.loseWords { u with blockReset := u.blockReset.erase x } x) F.CFG_SHADOW_LOST { detail := x.keys })))

/-! ### Buffers and packets -/

/-- The byte buffers of the model (DRAM tables, the mailbox, images, magazine content) keep one canonical form, read back every byte
written, leave every other address as it was, and are equal when they read alike at every address. -/
def Obligations.BuffersReadBack : Prop :=
  (∀ (m : Memory) (a : Nat) (bs : List Byte), Memory.wf m →
    Memory.wf (Memory.writeBytes m a bs) ∧
    (∀ (i : Nat) (b : Byte), bs[i]? = some b → Memory.read (Memory.writeBytes m a bs) (a + i) = b) ∧
    (∀ x, x < a ∨ a + bs.length ≤ x → Memory.read (Memory.writeBytes m a bs) x = Memory.read m x)) ∧
  (∀ m n : Memory, Memory.wf m → Memory.wf n → (∀ x, Memory.read m x = Memory.read n x) → m = n)

/-- A READ or WRITE packet laid out as Tables 2-7 and 2-8 give it, of 1 to 64 items within 1,472 bytes, is read as the very items it
was made of, every field at every value that it can hold (R43). -/
def Obligations.PacketsAreReadAsWritten : Prop :=
  ∀ (isWrite : Bool) (seq : Nat) (items : List Item), seq < 2 ^ 32 → 1 ≤ items.length → items.length ≤ 64 →
    (∀ i ∈ items, i.index < 2 ^ 16 ∧ i.sub < 2 ^ 8 ∧ i.type < 2 ^ 8 ∧ i.offset < 2 ^ 32 ∧ i.length < 2 ^ 16 ∧
      i.data.length = if isWrite then i.length else 0) →
    let bytes := udpHeader (if isWrite then 2 else 1) seq items.length 0 ++ items.flatMap (fun i =>
      itemHeader i.index i.sub i.type i.offset i.length 0 ++ pad4 i.data)
    bytes.length ≤ 1472 → parseDatagram bytes = .packet isWrite seq items
end

