-- ==== Sys2Proof/Laws/Store.lean ====
section
/-! SUPPORT. The tables and memories: what a read gives after a write, and that every operation keeps the canonical form. -/

set_option Elab.async false

namespace Sys2Proof.Machine

section Tables

variable {α : Type}

@[simp] theorem Store.find?_put_same (m : Store α) (k : Nat) (v : α) : Store.find? (Store.put m k v) k = some v := by
  induction m with
  | nil => simp [Store.put, Store.find?]
  | cons e r ih =>
    obtain ⟨j, w⟩ := e
    unfold Store.put
    split
    · simp [Store.find?]
    · split
      · simp [Store.find?]
      · next h => simp [Store.find?, h, ih]

theorem Store.find?_put_other (m : Store α) (k i : Nat) (v : α) (h : i ≠ k) :
    Store.find? (Store.put m k v) i = Store.find? m i := by
  induction m with
  | nil => simp [Store.put, Store.find?, Ne.symm h]
  | cons e r ih =>
    obtain ⟨j, w⟩ := e
    unfold Store.put
    split
    · simp [Store.find?, Ne.symm h]
    · split
      · next hk => subst hk; simp [Store.find?, Ne.symm h]
      · simp [Store.find?, ih]

@[simp] theorem Store.find?_erase_same (m : Store α) (k : Nat) : Store.find? (Store.erase m k) k = none := by
  induction m with
  | nil => rfl
  | cons e r ih =>
    obtain ⟨j, w⟩ := e
    unfold Store.erase
    split
    · exact ih
    · next h => simp [Store.find?, h, ih]

theorem Store.find?_erase_other (m : Store α) (k i : Nat) (h : i ≠ k) :
    Store.find? (Store.erase m k) i = Store.find? m i := by
  induction m with
  | nil => rfl
  | cons e r ih =>
    obtain ⟨j, w⟩ := e
    unfold Store.erase
    split
    · next hk => subst hk; simp [Store.find?, Ne.symm h, ih]
    · simp [Store.find?, ih]

@[simp] theorem Store.get_put_same (m : Store α) (d : α) (k : Nat) (v : α) : Store.get (Store.put m k v) d k = v := by
  simp [Store.get]

theorem Store.get_put_other (m : Store α) (d : α) (k i : Nat) (v : α) (h : i ≠ k) :
    Store.get (Store.put m k v) d i = Store.get m d i := by
  simp [Store.get, Store.find?_put_other m k i v h]

@[simp] theorem Store.get_nil (d : α) (k : Nat) : Store.get ([] : Store α) d k = d := rfl

theorem Store.mem_put (m : Store α) (k : Nat) (v : α) (e : Nat × α) (h : e ∈ Store.put m k v) : e = (k, v) ∨ e ∈ m := by
  induction m with
  | nil => simpa [Store.put] using h
  | cons x r ih =>
    obtain ⟨j, w⟩ := x
    unfold Store.put at h
    split at h
    · simpa using h
    · split at h
      · rcases List.mem_cons.mp h with h | h
        · exact .inl h
        · exact .inr (List.mem_cons_of_mem _ h)
      · rcases List.mem_cons.mp h with h | h
        · exact .inr (h ▸ List.mem_cons_self)
        · rcases ih h with h | h
          · exact .inl h
          · exact .inr (List.mem_cons_of_mem _ h)

theorem Store.mem_erase (m : Store α) (k : Nat) (e : Nat × α) (h : e ∈ Store.erase m k) : e ∈ m := by
  induction m with
  | nil => exact h
  | cons x r ih =>
    obtain ⟨j, w⟩ := x
    unfold Store.erase at h
    split at h
    · exact List.mem_cons_of_mem _ (ih h)
    · rcases List.mem_cons.mp h with h | h
      · exact h ▸ List.mem_cons_self
      · exact List.mem_cons_of_mem _ (ih h)

theorem Store.wf_cons {j : Nat} {w : α} {r : Store α} :
    Store.wf ((j, w) :: r) ↔ (∀ e ∈ r, j < e.1) ∧ Store.wf r := by
  simp [Store.wf, List.pairwise_cons]

/-- Setting an entry keeps the canonical form. -/
theorem Store.wf_put (m : Store α) (k : Nat) (v : α) (h : Store.wf m) : Store.wf (Store.put m k v) := by
  induction m with
  | nil => simp [Store.put, Store.wf]
  | cons x r ih =>
    obtain ⟨j, w⟩ := x
    have ⟨hj, hr⟩ := Store.wf_cons.mp h
    unfold Store.put
    split
    · next hk =>
      refine Store.wf_cons.mpr ⟨fun e he => ?_, h⟩
      rcases List.mem_cons.mp he with he | he
      · exact he ▸ hk
      · exact lt_trans hk (hj e he)
    · split
      · next hk => subst hk; exact Store.wf_cons.mpr ⟨hj, hr⟩
      · next h1 h2 =>
        refine Store.wf_cons.mpr ⟨fun e he => ?_, ih hr⟩
        rcases Store.mem_put r k v e he with he | he
        · subst he; show j < k; omega
        · exact hj e he

/-- Removing an entry keeps the canonical form. -/
theorem Store.wf_erase (m : Store α) (k : Nat) (h : Store.wf m) : Store.wf (Store.erase m k) := by
  induction m with
  | nil => exact h
  | cons x r ih =>
    obtain ⟨j, w⟩ := x
    have ⟨hj, hr⟩ := Store.wf_cons.mp h
    unfold Store.erase
    split
    · exact ih hr
    · exact Store.wf_cons.mpr ⟨fun e he => hj e (Store.mem_erase r k e he), ih hr⟩

/-- Passing the values through a function keeps the canonical form. -/
theorem Store.wf_map (m : Store α) (f : Nat → α → α) (h : Store.wf m) : Store.wf (Store.map m f) := by
  simpa [Store.wf, Store.map, List.map_map, Function.comp_def] using h

end Tables

/-! ### Memories -/

/-- A byte written keeps the canonical form. -/
theorem Memory.wf_write (m : Memory) (a : Nat) (b : Byte) (h : Memory.wf m) : Memory.wf (Memory.write m a b) := by
  unfold Memory.write
  split
  · exact ⟨Store.wf_erase m a h.1, fun e he => h.2 e (Store.mem_erase m a e he)⟩
  · next hb =>
    refine ⟨Store.wf_put m a b h.1, fun e he => ?_⟩
    rcases Store.mem_put m a b e he with he | he
    · subst he; exact hb
    · exact h.2 e he

/-- Bytes written keep the canonical form. -/
theorem Memory.wf_writeBytes (m : Memory) (a : Nat) (bs : List Byte) (h : Memory.wf m) :
    Memory.wf (Memory.writeBytes m a bs) := by
  induction bs generalizing m a with
  | nil => exact h
  | cons b r ih => exact ih _ _ (Memory.wf_write m a b h)

@[simp] theorem Memory.read_write_same (m : Memory) (a : Nat) (b : Byte) : Memory.read (Memory.write m a b) a = b := by
  unfold Memory.write Memory.read Store.get
  split
  · next h => simp [h]
  · simp

theorem Memory.read_write_other (m : Memory) (a i : Nat) (b : Byte) (h : i ≠ a) :
    Memory.read (Memory.write m a b) i = Memory.read m i := by
  unfold Memory.write Memory.read Store.get
  split
  · rw [Store.find?_erase_other m a i h]
  · rw [Store.find?_put_other m a i b h]

end Sys2Proof.Machine
end

