-- ==== Sys2Proof/Laws/State.lean ====
section
/-! SUPPORT. The state's fields after each of its updates: what an update leaves alone, and what a read of the field it sets
gives. -/

set_option Elab.async false

namespace Sys2Proof.Machine

variable (s : State)

@[simp] theorem State.at_pending (t : Time) : (s.at t).pending = s.pending := rfl
@[simp] theorem State.at_dict (t : Time) : (s.at t).dict = s.dict := rfl
@[simp] theorem State.at_reqs (t : Time) : (s.at t).reqs = s.reqs := rfl
@[simp] theorem State.at_access (t : Time) : (s.at t).access = s.access := rfl
@[simp] theorem State.at_nvm (t : Time) : (s.at t).nvm = s.nvm := rfl
@[simp] theorem State.at_faults (t : Time) : (s.at t).faults = s.faults := rfl
@[simp] theorem State.at_moraine (t : Time) : (s.at t).moraine = s.moraine := rfl
@[simp] theorem State.at_ints (t : Time) : (s.at t).ints = s.ints := rfl
@[simp] theorem State.at_host (t : Time) : (s.at t).host = s.host := rfl
@[simp] theorem State.at_rings (t : Time) : (s.at t).rings = s.rings := rfl
@[simp] theorem State.at_txn (t : Time) : (s.at t).txn = s.txn := rfl
@[simp] theorem State.at_chans (t : Time) : (s.at t).chans = s.chans := rfl
@[simp] theorem State.at_units (t : Time) : (s.at t).units = s.units := rfl
@[simp] theorem State.at_reissue (t : Time) : (s.at t).reissue = s.reissue := rfl
@[simp] theorem State.at_firn (t : Time) : (s.at t).firn = s.firn := rfl
@[simp] theorem State.at_msCredit (t : Time) : (s.at t).msCredit = s.msCredit := rfl
@[simp] theorem State.at_outBusy (t : Time) : (s.at t).outBusy = s.outBusy := rfl
@[simp] theorem State.at_ports (t : Time) : (s.at t).ports = s.ports := rfl
@[simp] theorem State.at_pool (t : Time) : (s.at t).pool = s.pool := rfl
@[simp] theorem State.at_fbs (t : Time) : (s.at t).fbs = s.fbs := rfl
@[simp] theorem State.at_tb (t : Time) : (s.at t).tb = s.tb := rfl
@[simp] theorem State.at_recIn (t : Time) : (s.at t).recIn = s.recIn := rfl
@[simp] theorem State.at_array (t : Time) : (s.at t).array = s.array := rfl
@[simp] theorem State.at_ronox (t : Time) : (s.at t).ronox = s.ronox := rfl
@[simp] theorem State.at_queues (t : Time) : (s.at t).queues = s.queues := rfl
@[simp] theorem State.at_eth (t : Time) : (s.at t).eth = s.eth := rfl
@[simp] theorem State.at_meters (t : Time) : (s.at t).meters = s.meters := rfl
@[simp] theorem State.at_meterAt (t : Time) : (s.at t).meterAt = s.meterAt := rfl
@[simp] theorem State.at_shaperAt (t : Time) : (s.at t).shaperAt = s.shaperAt := rfl
@[simp] theorem State.at_mags (t : Time) : (s.at t).mags = s.mags := rfl
@[simp] theorem State.at_recs (t : Time) : (s.at t).recs = s.recs := rfl
@[simp] theorem State.at_magChunks (t : Time) : (s.at t).magChunks = s.magChunks := rfl
@[simp] theorem State.at_dram (t : Time) : (s.at t).dram = s.dram := rfl
@[simp] theorem State.at_dma (t : Time) : (s.at t).dma = s.dma := rfl
@[simp] theorem State.at_power (t : Time) : (s.at t).power = s.power := rfl
@[simp] theorem State.at_boot (t : Time) : (s.at t).boot = s.boot := rfl
@[simp] theorem State.at_pins (t : Time) : (s.at t).pins = s.pins := rfl
@[simp] theorem State.at_cores (t : Time) : (s.at t).cores = s.cores := rfl
@[simp] theorem State.at_slowFrozen (t : Time) : (s.at t).slowFrozen = s.slowFrozen := rfl
@[simp] theorem State.at_slow (t : Time) : (s.at t).slow = s.slow := rfl
@[simp] theorem State.at_blockReset (t : Time) : (s.at t).blockReset = s.blockReset := rfl
@[simp] theorem State.at_free (t : Time) : (s.at t).free = s.free := rfl
@[simp] theorem State.at_out (t : Time) : (s.at t).out = s.out := rfl

@[simp] theorem State.setV_time (k v : Nat) : (s.setV k v).time = s.time := rfl
@[simp] theorem State.setV_pending (k v : Nat) : (s.setV k v).pending = s.pending := rfl
@[simp] theorem State.setV_reqs (k v : Nat) : (s.setV k v).reqs = s.reqs := rfl
@[simp] theorem State.setV_access (k v : Nat) : (s.setV k v).access = s.access := rfl
@[simp] theorem State.setV_nvm (k v : Nat) : (s.setV k v).nvm = s.nvm := rfl
@[simp] theorem State.setV_faults (k v : Nat) : (s.setV k v).faults = s.faults := rfl
@[simp] theorem State.setV_moraine (k v : Nat) : (s.setV k v).moraine = s.moraine := rfl
@[simp] theorem State.setV_ints (k v : Nat) : (s.setV k v).ints = s.ints := rfl
@[simp] theorem State.setV_host (k v : Nat) : (s.setV k v).host = s.host := rfl
@[simp] theorem State.setV_rings (k v : Nat) : (s.setV k v).rings = s.rings := rfl
@[simp] theorem State.setV_txn (k v : Nat) : (s.setV k v).txn = s.txn := rfl
@[simp] theorem State.setV_chans (k v : Nat) : (s.setV k v).chans = s.chans := rfl
@[simp] theorem State.setV_units (k v : Nat) : (s.setV k v).units = s.units := rfl
@[simp] theorem State.setV_reissue (k v : Nat) : (s.setV k v).reissue = s.reissue := rfl
@[simp] theorem State.setV_firn (k v : Nat) : (s.setV k v).firn = s.firn := rfl
@[simp] theorem State.setV_msCredit (k v : Nat) : (s.setV k v).msCredit = s.msCredit := rfl
@[simp] theorem State.setV_outBusy (k v : Nat) : (s.setV k v).outBusy = s.outBusy := rfl
@[simp] theorem State.setV_ports (k v : Nat) : (s.setV k v).ports = s.ports := rfl
@[simp] theorem State.setV_pool (k v : Nat) : (s.setV k v).pool = s.pool := rfl
@[simp] theorem State.setV_fbs (k v : Nat) : (s.setV k v).fbs = s.fbs := rfl
@[simp] theorem State.setV_tb (k v : Nat) : (s.setV k v).tb = s.tb := rfl
@[simp] theorem State.setV_recIn (k v : Nat) : (s.setV k v).recIn = s.recIn := rfl
@[simp] theorem State.setV_array (k v : Nat) : (s.setV k v).array = s.array := rfl
@[simp] theorem State.setV_ronox (k v : Nat) : (s.setV k v).ronox = s.ronox := rfl
@[simp] theorem State.setV_queues (k v : Nat) : (s.setV k v).queues = s.queues := rfl
@[simp] theorem State.setV_eth (k v : Nat) : (s.setV k v).eth = s.eth := rfl
@[simp] theorem State.setV_meters (k v : Nat) : (s.setV k v).meters = s.meters := rfl
@[simp] theorem State.setV_meterAt (k v : Nat) : (s.setV k v).meterAt = s.meterAt := rfl
@[simp] theorem State.setV_shaperAt (k v : Nat) : (s.setV k v).shaperAt = s.shaperAt := rfl
@[simp] theorem State.setV_mags (k v : Nat) : (s.setV k v).mags = s.mags := rfl
@[simp] theorem State.setV_recs (k v : Nat) : (s.setV k v).recs = s.recs := rfl
@[simp] theorem State.setV_magChunks (k v : Nat) : (s.setV k v).magChunks = s.magChunks := rfl
@[simp] theorem State.setV_dram (k v : Nat) : (s.setV k v).dram = s.dram := rfl
@[simp] theorem State.setV_dma (k v : Nat) : (s.setV k v).dma = s.dma := rfl
@[simp] theorem State.setV_power (k v : Nat) : (s.setV k v).power = s.power := rfl
@[simp] theorem State.setV_boot (k v : Nat) : (s.setV k v).boot = s.boot := rfl
@[simp] theorem State.setV_pins (k v : Nat) : (s.setV k v).pins = s.pins := rfl
@[simp] theorem State.setV_cores (k v : Nat) : (s.setV k v).cores = s.cores := rfl
@[simp] theorem State.setV_slowFrozen (k v : Nat) : (s.setV k v).slowFrozen = s.slowFrozen := rfl
@[simp] theorem State.setV_slow (k v : Nat) : (s.setV k v).slow = s.slow := rfl
@[simp] theorem State.setV_blockReset (k v : Nat) : (s.setV k v).blockReset = s.blockReset := rfl
@[simp] theorem State.setV_free (k v : Nat) : (s.setV k v).free = s.free := rfl
@[simp] theorem State.setV_out (k v : Nat) : (s.setV k v).out = s.out := rfl

@[simp] theorem State.setPv_time (k v : Nat) : (s.setPv k v).time = s.time := rfl
@[simp] theorem State.setPv_pending (k v : Nat) : (s.setPv k v).pending = s.pending := rfl
@[simp] theorem State.setPv_reqs (k v : Nat) : (s.setPv k v).reqs = s.reqs := rfl
@[simp] theorem State.setPv_access (k v : Nat) : (s.setPv k v).access = s.access := rfl
@[simp] theorem State.setPv_nvm (k v : Nat) : (s.setPv k v).nvm = s.nvm := rfl
@[simp] theorem State.setPv_faults (k v : Nat) : (s.setPv k v).faults = s.faults := rfl
@[simp] theorem State.setPv_moraine (k v : Nat) : (s.setPv k v).moraine = s.moraine := rfl
@[simp] theorem State.setPv_ints (k v : Nat) : (s.setPv k v).ints = s.ints := rfl
@[simp] theorem State.setPv_host (k v : Nat) : (s.setPv k v).host = s.host := rfl
@[simp] theorem State.setPv_rings (k v : Nat) : (s.setPv k v).rings = s.rings := rfl
@[simp] theorem State.setPv_txn (k v : Nat) : (s.setPv k v).txn = s.txn := rfl
@[simp] theorem State.setPv_chans (k v : Nat) : (s.setPv k v).chans = s.chans := rfl
@[simp] theorem State.setPv_units (k v : Nat) : (s.setPv k v).units = s.units := rfl
@[simp] theorem State.setPv_reissue (k v : Nat) : (s.setPv k v).reissue = s.reissue := rfl
@[simp] theorem State.setPv_firn (k v : Nat) : (s.setPv k v).firn = s.firn := rfl
@[simp] theorem State.setPv_msCredit (k v : Nat) : (s.setPv k v).msCredit = s.msCredit := rfl
@[simp] theorem State.setPv_outBusy (k v : Nat) : (s.setPv k v).outBusy = s.outBusy := rfl
@[simp] theorem State.setPv_ports (k v : Nat) : (s.setPv k v).ports = s.ports := rfl
@[simp] theorem State.setPv_pool (k v : Nat) : (s.setPv k v).pool = s.pool := rfl
@[simp] theorem State.setPv_fbs (k v : Nat) : (s.setPv k v).fbs = s.fbs := rfl
@[simp] theorem State.setPv_tb (k v : Nat) : (s.setPv k v).tb = s.tb := rfl
@[simp] theorem State.setPv_recIn (k v : Nat) : (s.setPv k v).recIn = s.recIn := rfl
@[simp] theorem State.setPv_array (k v : Nat) : (s.setPv k v).array = s.array := rfl
@[simp] theorem State.setPv_ronox (k v : Nat) : (s.setPv k v).ronox = s.ronox := rfl
@[simp] theorem State.setPv_queues (k v : Nat) : (s.setPv k v).queues = s.queues := rfl
@[simp] theorem State.setPv_eth (k v : Nat) : (s.setPv k v).eth = s.eth := rfl
@[simp] theorem State.setPv_meters (k v : Nat) : (s.setPv k v).meters = s.meters := rfl
@[simp] theorem State.setPv_meterAt (k v : Nat) : (s.setPv k v).meterAt = s.meterAt := rfl
@[simp] theorem State.setPv_shaperAt (k v : Nat) : (s.setPv k v).shaperAt = s.shaperAt := rfl
@[simp] theorem State.setPv_mags (k v : Nat) : (s.setPv k v).mags = s.mags := rfl
@[simp] theorem State.setPv_recs (k v : Nat) : (s.setPv k v).recs = s.recs := rfl
@[simp] theorem State.setPv_magChunks (k v : Nat) : (s.setPv k v).magChunks = s.magChunks := rfl
@[simp] theorem State.setPv_dram (k v : Nat) : (s.setPv k v).dram = s.dram := rfl
@[simp] theorem State.setPv_dma (k v : Nat) : (s.setPv k v).dma = s.dma := rfl
@[simp] theorem State.setPv_power (k v : Nat) : (s.setPv k v).power = s.power := rfl
@[simp] theorem State.setPv_boot (k v : Nat) : (s.setPv k v).boot = s.boot := rfl
@[simp] theorem State.setPv_pins (k v : Nat) : (s.setPv k v).pins = s.pins := rfl
@[simp] theorem State.setPv_cores (k v : Nat) : (s.setPv k v).cores = s.cores := rfl
@[simp] theorem State.setPv_slowFrozen (k v : Nat) : (s.setPv k v).slowFrozen = s.slowFrozen := rfl
@[simp] theorem State.setPv_slow (k v : Nat) : (s.setPv k v).slow = s.slow := rfl
@[simp] theorem State.setPv_blockReset (k v : Nat) : (s.setPv k v).blockReset = s.blockReset := rfl
@[simp] theorem State.setPv_free (k v : Nat) : (s.setPv k v).free = s.free := rfl
@[simp] theorem State.setPv_out (k v : Nat) : (s.setPv k v).out = s.out := rfl

@[simp] theorem State.setImm_time (k v : Nat) : (s.setImm k v).time = s.time := rfl
@[simp] theorem State.setImm_pending (k v : Nat) : (s.setImm k v).pending = s.pending := rfl
@[simp] theorem State.setImm_reqs (k v : Nat) : (s.setImm k v).reqs = s.reqs := rfl
@[simp] theorem State.setImm_access (k v : Nat) : (s.setImm k v).access = s.access := rfl
@[simp] theorem State.setImm_nvm (k v : Nat) : (s.setImm k v).nvm = s.nvm := rfl
@[simp] theorem State.setImm_faults (k v : Nat) : (s.setImm k v).faults = s.faults := rfl
@[simp] theorem State.setImm_moraine (k v : Nat) : (s.setImm k v).moraine = s.moraine := rfl
@[simp] theorem State.setImm_ints (k v : Nat) : (s.setImm k v).ints = s.ints := rfl
@[simp] theorem State.setImm_host (k v : Nat) : (s.setImm k v).host = s.host := rfl
@[simp] theorem State.setImm_rings (k v : Nat) : (s.setImm k v).rings = s.rings := rfl
@[simp] theorem State.setImm_txn (k v : Nat) : (s.setImm k v).txn = s.txn := rfl
@[simp] theorem State.setImm_chans (k v : Nat) : (s.setImm k v).chans = s.chans := rfl
@[simp] theorem State.setImm_units (k v : Nat) : (s.setImm k v).units = s.units := rfl
@[simp] theorem State.setImm_reissue (k v : Nat) : (s.setImm k v).reissue = s.reissue := rfl
@[simp] theorem State.setImm_firn (k v : Nat) : (s.setImm k v).firn = s.firn := rfl
@[simp] theorem State.setImm_msCredit (k v : Nat) : (s.setImm k v).msCredit = s.msCredit := rfl
@[simp] theorem State.setImm_outBusy (k v : Nat) : (s.setImm k v).outBusy = s.outBusy := rfl
@[simp] theorem State.setImm_ports (k v : Nat) : (s.setImm k v).ports = s.ports := rfl
@[simp] theorem State.setImm_pool (k v : Nat) : (s.setImm k v).pool = s.pool := rfl
@[simp] theorem State.setImm_fbs (k v : Nat) : (s.setImm k v).fbs = s.fbs := rfl
@[simp] theorem State.setImm_tb (k v : Nat) : (s.setImm k v).tb = s.tb := rfl
@[simp] theorem State.setImm_recIn (k v : Nat) : (s.setImm k v).recIn = s.recIn := rfl
@[simp] theorem State.setImm_array (k v : Nat) : (s.setImm k v).array = s.array := rfl
@[simp] theorem State.setImm_ronox (k v : Nat) : (s.setImm k v).ronox = s.ronox := rfl
@[simp] theorem State.setImm_queues (k v : Nat) : (s.setImm k v).queues = s.queues := rfl
@[simp] theorem State.setImm_eth (k v : Nat) : (s.setImm k v).eth = s.eth := rfl
@[simp] theorem State.setImm_meters (k v : Nat) : (s.setImm k v).meters = s.meters := rfl
@[simp] theorem State.setImm_meterAt (k v : Nat) : (s.setImm k v).meterAt = s.meterAt := rfl
@[simp] theorem State.setImm_shaperAt (k v : Nat) : (s.setImm k v).shaperAt = s.shaperAt := rfl
@[simp] theorem State.setImm_mags (k v : Nat) : (s.setImm k v).mags = s.mags := rfl
@[simp] theorem State.setImm_recs (k v : Nat) : (s.setImm k v).recs = s.recs := rfl
@[simp] theorem State.setImm_magChunks (k v : Nat) : (s.setImm k v).magChunks = s.magChunks := rfl
@[simp] theorem State.setImm_dram (k v : Nat) : (s.setImm k v).dram = s.dram := rfl
@[simp] theorem State.setImm_dma (k v : Nat) : (s.setImm k v).dma = s.dma := rfl
@[simp] theorem State.setImm_power (k v : Nat) : (s.setImm k v).power = s.power := rfl
@[simp] theorem State.setImm_boot (k v : Nat) : (s.setImm k v).boot = s.boot := rfl
@[simp] theorem State.setImm_pins (k v : Nat) : (s.setImm k v).pins = s.pins := rfl
@[simp] theorem State.setImm_cores (k v : Nat) : (s.setImm k v).cores = s.cores := rfl
@[simp] theorem State.setImm_slowFrozen (k v : Nat) : (s.setImm k v).slowFrozen = s.slowFrozen := rfl
@[simp] theorem State.setImm_slow (k v : Nat) : (s.setImm k v).slow = s.slow := rfl
@[simp] theorem State.setImm_blockReset (k v : Nat) : (s.setImm k v).blockReset = s.blockReset := rfl
@[simp] theorem State.setImm_free (k v : Nat) : (s.setImm k v).free = s.free := rfl
@[simp] theorem State.setImm_out (k v : Nat) : (s.setImm k v).out = s.out := rfl

@[simp] theorem State.setRo_time (k v : Nat) : (s.setRo k v).time = s.time := rfl
@[simp] theorem State.setRo_pending (k v : Nat) : (s.setRo k v).pending = s.pending := rfl
@[simp] theorem State.setRo_reqs (k v : Nat) : (s.setRo k v).reqs = s.reqs := rfl
@[simp] theorem State.setRo_access (k v : Nat) : (s.setRo k v).access = s.access := rfl
@[simp] theorem State.setRo_nvm (k v : Nat) : (s.setRo k v).nvm = s.nvm := rfl
@[simp] theorem State.setRo_faults (k v : Nat) : (s.setRo k v).faults = s.faults := rfl
@[simp] theorem State.setRo_moraine (k v : Nat) : (s.setRo k v).moraine = s.moraine := rfl
@[simp] theorem State.setRo_ints (k v : Nat) : (s.setRo k v).ints = s.ints := rfl
@[simp] theorem State.setRo_host (k v : Nat) : (s.setRo k v).host = s.host := rfl
@[simp] theorem State.setRo_rings (k v : Nat) : (s.setRo k v).rings = s.rings := rfl
@[simp] theorem State.setRo_txn (k v : Nat) : (s.setRo k v).txn = s.txn := rfl
@[simp] theorem State.setRo_chans (k v : Nat) : (s.setRo k v).chans = s.chans := rfl
@[simp] theorem State.setRo_units (k v : Nat) : (s.setRo k v).units = s.units := rfl
@[simp] theorem State.setRo_reissue (k v : Nat) : (s.setRo k v).reissue = s.reissue := rfl
@[simp] theorem State.setRo_firn (k v : Nat) : (s.setRo k v).firn = s.firn := rfl
@[simp] theorem State.setRo_msCredit (k v : Nat) : (s.setRo k v).msCredit = s.msCredit := rfl
@[simp] theorem State.setRo_outBusy (k v : Nat) : (s.setRo k v).outBusy = s.outBusy := rfl
@[simp] theorem State.setRo_ports (k v : Nat) : (s.setRo k v).ports = s.ports := rfl
@[simp] theorem State.setRo_pool (k v : Nat) : (s.setRo k v).pool = s.pool := rfl
@[simp] theorem State.setRo_fbs (k v : Nat) : (s.setRo k v).fbs = s.fbs := rfl
@[simp] theorem State.setRo_tb (k v : Nat) : (s.setRo k v).tb = s.tb := rfl
@[simp] theorem State.setRo_recIn (k v : Nat) : (s.setRo k v).recIn = s.recIn := rfl
@[simp] theorem State.setRo_array (k v : Nat) : (s.setRo k v).array = s.array := rfl
@[simp] theorem State.setRo_ronox (k v : Nat) : (s.setRo k v).ronox = s.ronox := rfl
@[simp] theorem State.setRo_queues (k v : Nat) : (s.setRo k v).queues = s.queues := rfl
@[simp] theorem State.setRo_eth (k v : Nat) : (s.setRo k v).eth = s.eth := rfl
@[simp] theorem State.setRo_meters (k v : Nat) : (s.setRo k v).meters = s.meters := rfl
@[simp] theorem State.setRo_meterAt (k v : Nat) : (s.setRo k v).meterAt = s.meterAt := rfl
@[simp] theorem State.setRo_shaperAt (k v : Nat) : (s.setRo k v).shaperAt = s.shaperAt := rfl
@[simp] theorem State.setRo_mags (k v : Nat) : (s.setRo k v).mags = s.mags := rfl
@[simp] theorem State.setRo_recs (k v : Nat) : (s.setRo k v).recs = s.recs := rfl
@[simp] theorem State.setRo_magChunks (k v : Nat) : (s.setRo k v).magChunks = s.magChunks := rfl
@[simp] theorem State.setRo_dram (k v : Nat) : (s.setRo k v).dram = s.dram := rfl
@[simp] theorem State.setRo_dma (k v : Nat) : (s.setRo k v).dma = s.dma := rfl
@[simp] theorem State.setRo_power (k v : Nat) : (s.setRo k v).power = s.power := rfl
@[simp] theorem State.setRo_boot (k v : Nat) : (s.setRo k v).boot = s.boot := rfl
@[simp] theorem State.setRo_pins (k v : Nat) : (s.setRo k v).pins = s.pins := rfl
@[simp] theorem State.setRo_cores (k v : Nat) : (s.setRo k v).cores = s.cores := rfl
@[simp] theorem State.setRo_slowFrozen (k v : Nat) : (s.setRo k v).slowFrozen = s.slowFrozen := rfl
@[simp] theorem State.setRo_slow (k v : Nat) : (s.setRo k v).slow = s.slow := rfl
@[simp] theorem State.setRo_blockReset (k v : Nat) : (s.setRo k v).blockReset = s.blockReset := rfl
@[simp] theorem State.setRo_free (k v : Nat) : (s.setRo k v).free = s.free := rfl
@[simp] theorem State.setRo_out (k v : Nat) : (s.setRo k v).out = s.out := rfl

@[simp] theorem State.bump_time (k v : Nat) : (s.bump k v).time = s.time := rfl
@[simp] theorem State.bump_pending (k v : Nat) : (s.bump k v).pending = s.pending := rfl
@[simp] theorem State.bump_reqs (k v : Nat) : (s.bump k v).reqs = s.reqs := rfl
@[simp] theorem State.bump_access (k v : Nat) : (s.bump k v).access = s.access := rfl
@[simp] theorem State.bump_nvm (k v : Nat) : (s.bump k v).nvm = s.nvm := rfl
@[simp] theorem State.bump_faults (k v : Nat) : (s.bump k v).faults = s.faults := rfl
@[simp] theorem State.bump_moraine (k v : Nat) : (s.bump k v).moraine = s.moraine := rfl
@[simp] theorem State.bump_ints (k v : Nat) : (s.bump k v).ints = s.ints := rfl
@[simp] theorem State.bump_host (k v : Nat) : (s.bump k v).host = s.host := rfl
@[simp] theorem State.bump_rings (k v : Nat) : (s.bump k v).rings = s.rings := rfl
@[simp] theorem State.bump_txn (k v : Nat) : (s.bump k v).txn = s.txn := rfl
@[simp] theorem State.bump_chans (k v : Nat) : (s.bump k v).chans = s.chans := rfl
@[simp] theorem State.bump_units (k v : Nat) : (s.bump k v).units = s.units := rfl
@[simp] theorem State.bump_reissue (k v : Nat) : (s.bump k v).reissue = s.reissue := rfl
@[simp] theorem State.bump_firn (k v : Nat) : (s.bump k v).firn = s.firn := rfl
@[simp] theorem State.bump_msCredit (k v : Nat) : (s.bump k v).msCredit = s.msCredit := rfl
@[simp] theorem State.bump_outBusy (k v : Nat) : (s.bump k v).outBusy = s.outBusy := rfl
@[simp] theorem State.bump_ports (k v : Nat) : (s.bump k v).ports = s.ports := rfl
@[simp] theorem State.bump_pool (k v : Nat) : (s.bump k v).pool = s.pool := rfl
@[simp] theorem State.bump_fbs (k v : Nat) : (s.bump k v).fbs = s.fbs := rfl
@[simp] theorem State.bump_tb (k v : Nat) : (s.bump k v).tb = s.tb := rfl
@[simp] theorem State.bump_recIn (k v : Nat) : (s.bump k v).recIn = s.recIn := rfl
@[simp] theorem State.bump_array (k v : Nat) : (s.bump k v).array = s.array := rfl
@[simp] theorem State.bump_ronox (k v : Nat) : (s.bump k v).ronox = s.ronox := rfl
@[simp] theorem State.bump_queues (k v : Nat) : (s.bump k v).queues = s.queues := rfl
@[simp] theorem State.bump_eth (k v : Nat) : (s.bump k v).eth = s.eth := rfl
@[simp] theorem State.bump_meters (k v : Nat) : (s.bump k v).meters = s.meters := rfl
@[simp] theorem State.bump_meterAt (k v : Nat) : (s.bump k v).meterAt = s.meterAt := rfl
@[simp] theorem State.bump_shaperAt (k v : Nat) : (s.bump k v).shaperAt = s.shaperAt := rfl
@[simp] theorem State.bump_mags (k v : Nat) : (s.bump k v).mags = s.mags := rfl
@[simp] theorem State.bump_recs (k v : Nat) : (s.bump k v).recs = s.recs := rfl
@[simp] theorem State.bump_magChunks (k v : Nat) : (s.bump k v).magChunks = s.magChunks := rfl
@[simp] theorem State.bump_dram (k v : Nat) : (s.bump k v).dram = s.dram := rfl
@[simp] theorem State.bump_dma (k v : Nat) : (s.bump k v).dma = s.dma := rfl
@[simp] theorem State.bump_power (k v : Nat) : (s.bump k v).power = s.power := rfl
@[simp] theorem State.bump_boot (k v : Nat) : (s.bump k v).boot = s.boot := rfl
@[simp] theorem State.bump_pins (k v : Nat) : (s.bump k v).pins = s.pins := rfl
@[simp] theorem State.bump_cores (k v : Nat) : (s.bump k v).cores = s.cores := rfl
@[simp] theorem State.bump_slowFrozen (k v : Nat) : (s.bump k v).slowFrozen = s.slowFrozen := rfl
@[simp] theorem State.bump_slow (k v : Nat) : (s.bump k v).slow = s.slow := rfl
@[simp] theorem State.bump_blockReset (k v : Nat) : (s.bump k v).blockReset = s.blockReset := rfl
@[simp] theorem State.bump_free (k v : Nat) : (s.bump k v).free = s.free := rfl
@[simp] theorem State.bump_out (k v : Nat) : (s.bump k v).out = s.out := rfl

@[simp] theorem State.tick_time (k v : Nat) : (s.tick k v).time = s.time := rfl
@[simp] theorem State.tick_pending (k v : Nat) : (s.tick k v).pending = s.pending := rfl
@[simp] theorem State.tick_reqs (k v : Nat) : (s.tick k v).reqs = s.reqs := rfl
@[simp] theorem State.tick_access (k v : Nat) : (s.tick k v).access = s.access := rfl
@[simp] theorem State.tick_nvm (k v : Nat) : (s.tick k v).nvm = s.nvm := rfl
@[simp] theorem State.tick_faults (k v : Nat) : (s.tick k v).faults = s.faults := rfl
@[simp] theorem State.tick_moraine (k v : Nat) : (s.tick k v).moraine = s.moraine := rfl
@[simp] theorem State.tick_ints (k v : Nat) : (s.tick k v).ints = s.ints := rfl
@[simp] theorem State.tick_host (k v : Nat) : (s.tick k v).host = s.host := rfl
@[simp] theorem State.tick_rings (k v : Nat) : (s.tick k v).rings = s.rings := rfl
@[simp] theorem State.tick_txn (k v : Nat) : (s.tick k v).txn = s.txn := rfl
@[simp] theorem State.tick_chans (k v : Nat) : (s.tick k v).chans = s.chans := rfl
@[simp] theorem State.tick_units (k v : Nat) : (s.tick k v).units = s.units := rfl
@[simp] theorem State.tick_reissue (k v : Nat) : (s.tick k v).reissue = s.reissue := rfl
@[simp] theorem State.tick_firn (k v : Nat) : (s.tick k v).firn = s.firn := rfl
@[simp] theorem State.tick_msCredit (k v : Nat) : (s.tick k v).msCredit = s.msCredit := rfl
@[simp] theorem State.tick_outBusy (k v : Nat) : (s.tick k v).outBusy = s.outBusy := rfl
@[simp] theorem State.tick_ports (k v : Nat) : (s.tick k v).ports = s.ports := rfl
@[simp] theorem State.tick_pool (k v : Nat) : (s.tick k v).pool = s.pool := rfl
@[simp] theorem State.tick_fbs (k v : Nat) : (s.tick k v).fbs = s.fbs := rfl
@[simp] theorem State.tick_tb (k v : Nat) : (s.tick k v).tb = s.tb := rfl
@[simp] theorem State.tick_recIn (k v : Nat) : (s.tick k v).recIn = s.recIn := rfl
@[simp] theorem State.tick_array (k v : Nat) : (s.tick k v).array = s.array := rfl
@[simp] theorem State.tick_ronox (k v : Nat) : (s.tick k v).ronox = s.ronox := rfl
@[simp] theorem State.tick_queues (k v : Nat) : (s.tick k v).queues = s.queues := rfl
@[simp] theorem State.tick_eth (k v : Nat) : (s.tick k v).eth = s.eth := rfl
@[simp] theorem State.tick_meters (k v : Nat) : (s.tick k v).meters = s.meters := rfl
@[simp] theorem State.tick_meterAt (k v : Nat) : (s.tick k v).meterAt = s.meterAt := rfl
@[simp] theorem State.tick_shaperAt (k v : Nat) : (s.tick k v).shaperAt = s.shaperAt := rfl
@[simp] theorem State.tick_mags (k v : Nat) : (s.tick k v).mags = s.mags := rfl
@[simp] theorem State.tick_recs (k v : Nat) : (s.tick k v).recs = s.recs := rfl
@[simp] theorem State.tick_magChunks (k v : Nat) : (s.tick k v).magChunks = s.magChunks := rfl
@[simp] theorem State.tick_dram (k v : Nat) : (s.tick k v).dram = s.dram := rfl
@[simp] theorem State.tick_dma (k v : Nat) : (s.tick k v).dma = s.dma := rfl
@[simp] theorem State.tick_power (k v : Nat) : (s.tick k v).power = s.power := rfl
@[simp] theorem State.tick_boot (k v : Nat) : (s.tick k v).boot = s.boot := rfl
@[simp] theorem State.tick_pins (k v : Nat) : (s.tick k v).pins = s.pins := rfl
@[simp] theorem State.tick_cores (k v : Nat) : (s.tick k v).cores = s.cores := rfl
@[simp] theorem State.tick_slowFrozen (k v : Nat) : (s.tick k v).slowFrozen = s.slowFrozen := rfl
@[simp] theorem State.tick_slow (k v : Nat) : (s.tick k v).slow = s.slow := rfl
@[simp] theorem State.tick_blockReset (k v : Nat) : (s.tick k v).blockReset = s.blockReset := rfl
@[simp] theorem State.tick_free (k v : Nat) : (s.tick k v).free = s.free := rfl
@[simp] theorem State.tick_out (k v : Nat) : (s.tick k v).out = s.out := rfl

@[simp] theorem State.emit_time (o : Output) : (s.emit o).time = s.time := rfl
@[simp] theorem State.emit_pending (o : Output) : (s.emit o).pending = s.pending := rfl
@[simp] theorem State.emit_dict (o : Output) : (s.emit o).dict = s.dict := rfl
@[simp] theorem State.emit_reqs (o : Output) : (s.emit o).reqs = s.reqs := rfl
@[simp] theorem State.emit_access (o : Output) : (s.emit o).access = s.access := rfl
@[simp] theorem State.emit_nvm (o : Output) : (s.emit o).nvm = s.nvm := rfl
@[simp] theorem State.emit_faults (o : Output) : (s.emit o).faults = s.faults := rfl
@[simp] theorem State.emit_moraine (o : Output) : (s.emit o).moraine = s.moraine := rfl
@[simp] theorem State.emit_ints (o : Output) : (s.emit o).ints = s.ints := rfl
@[simp] theorem State.emit_host (o : Output) : (s.emit o).host = s.host := rfl
@[simp] theorem State.emit_rings (o : Output) : (s.emit o).rings = s.rings := rfl
@[simp] theorem State.emit_txn (o : Output) : (s.emit o).txn = s.txn := rfl
@[simp] theorem State.emit_chans (o : Output) : (s.emit o).chans = s.chans := rfl
@[simp] theorem State.emit_units (o : Output) : (s.emit o).units = s.units := rfl
@[simp] theorem State.emit_reissue (o : Output) : (s.emit o).reissue = s.reissue := rfl
@[simp] theorem State.emit_firn (o : Output) : (s.emit o).firn = s.firn := rfl
@[simp] theorem State.emit_msCredit (o : Output) : (s.emit o).msCredit = s.msCredit := rfl
@[simp] theorem State.emit_outBusy (o : Output) : (s.emit o).outBusy = s.outBusy := rfl
@[simp] theorem State.emit_ports (o : Output) : (s.emit o).ports = s.ports := rfl
@[simp] theorem State.emit_pool (o : Output) : (s.emit o).pool = s.pool := rfl
@[simp] theorem State.emit_fbs (o : Output) : (s.emit o).fbs = s.fbs := rfl
@[simp] theorem State.emit_tb (o : Output) : (s.emit o).tb = s.tb := rfl
@[simp] theorem State.emit_recIn (o : Output) : (s.emit o).recIn = s.recIn := rfl
@[simp] theorem State.emit_array (o : Output) : (s.emit o).array = s.array := rfl
@[simp] theorem State.emit_ronox (o : Output) : (s.emit o).ronox = s.ronox := rfl
@[simp] theorem State.emit_queues (o : Output) : (s.emit o).queues = s.queues := rfl
@[simp] theorem State.emit_eth (o : Output) : (s.emit o).eth = s.eth := rfl
@[simp] theorem State.emit_meters (o : Output) : (s.emit o).meters = s.meters := rfl
@[simp] theorem State.emit_meterAt (o : Output) : (s.emit o).meterAt = s.meterAt := rfl
@[simp] theorem State.emit_shaperAt (o : Output) : (s.emit o).shaperAt = s.shaperAt := rfl
@[simp] theorem State.emit_mags (o : Output) : (s.emit o).mags = s.mags := rfl
@[simp] theorem State.emit_recs (o : Output) : (s.emit o).recs = s.recs := rfl
@[simp] theorem State.emit_magChunks (o : Output) : (s.emit o).magChunks = s.magChunks := rfl
@[simp] theorem State.emit_dram (o : Output) : (s.emit o).dram = s.dram := rfl
@[simp] theorem State.emit_dma (o : Output) : (s.emit o).dma = s.dma := rfl
@[simp] theorem State.emit_power (o : Output) : (s.emit o).power = s.power := rfl
@[simp] theorem State.emit_boot (o : Output) : (s.emit o).boot = s.boot := rfl
@[simp] theorem State.emit_pins (o : Output) : (s.emit o).pins = s.pins := rfl
@[simp] theorem State.emit_cores (o : Output) : (s.emit o).cores = s.cores := rfl
@[simp] theorem State.emit_slowFrozen (o : Output) : (s.emit o).slowFrozen = s.slowFrozen := rfl
@[simp] theorem State.emit_slow (o : Output) : (s.emit o).slow = s.slow := rfl
@[simp] theorem State.emit_blockReset (o : Output) : (s.emit o).blockReset = s.blockReset := rfl
@[simp] theorem State.emit_free (o : Output) : (s.emit o).free = s.free := rfl

@[simp] theorem State.draws_time : (s.draws).time = s.time := rfl
@[simp] theorem State.draws_pending : (s.draws).pending = s.pending := rfl
@[simp] theorem State.draws_dict : (s.draws).dict = s.dict := rfl
@[simp] theorem State.draws_reqs : (s.draws).reqs = s.reqs := rfl
@[simp] theorem State.draws_access : (s.draws).access = s.access := rfl
@[simp] theorem State.draws_nvm : (s.draws).nvm = s.nvm := rfl
@[simp] theorem State.draws_faults : (s.draws).faults = s.faults := rfl
@[simp] theorem State.draws_moraine : (s.draws).moraine = s.moraine := rfl
@[simp] theorem State.draws_ints : (s.draws).ints = s.ints := rfl
@[simp] theorem State.draws_host : (s.draws).host = s.host := rfl
@[simp] theorem State.draws_rings : (s.draws).rings = s.rings := rfl
@[simp] theorem State.draws_txn : (s.draws).txn = s.txn := rfl
@[simp] theorem State.draws_chans : (s.draws).chans = s.chans := rfl
@[simp] theorem State.draws_units : (s.draws).units = s.units := rfl
@[simp] theorem State.draws_reissue : (s.draws).reissue = s.reissue := rfl
@[simp] theorem State.draws_firn : (s.draws).firn = s.firn := rfl
@[simp] theorem State.draws_msCredit : (s.draws).msCredit = s.msCredit := rfl
@[simp] theorem State.draws_outBusy : (s.draws).outBusy = s.outBusy := rfl
@[simp] theorem State.draws_ports : (s.draws).ports = s.ports := rfl
@[simp] theorem State.draws_pool : (s.draws).pool = s.pool := rfl
@[simp] theorem State.draws_fbs : (s.draws).fbs = s.fbs := rfl
@[simp] theorem State.draws_tb : (s.draws).tb = s.tb := rfl
@[simp] theorem State.draws_recIn : (s.draws).recIn = s.recIn := rfl
@[simp] theorem State.draws_array : (s.draws).array = s.array := rfl
@[simp] theorem State.draws_ronox : (s.draws).ronox = s.ronox := rfl
@[simp] theorem State.draws_queues : (s.draws).queues = s.queues := rfl
@[simp] theorem State.draws_eth : (s.draws).eth = s.eth := rfl
@[simp] theorem State.draws_meters : (s.draws).meters = s.meters := rfl
@[simp] theorem State.draws_meterAt : (s.draws).meterAt = s.meterAt := rfl
@[simp] theorem State.draws_shaperAt : (s.draws).shaperAt = s.shaperAt := rfl
@[simp] theorem State.draws_mags : (s.draws).mags = s.mags := rfl
@[simp] theorem State.draws_recs : (s.draws).recs = s.recs := rfl
@[simp] theorem State.draws_magChunks : (s.draws).magChunks = s.magChunks := rfl
@[simp] theorem State.draws_dram : (s.draws).dram = s.dram := rfl
@[simp] theorem State.draws_dma : (s.draws).dma = s.dma := rfl
@[simp] theorem State.draws_power : (s.draws).power = s.power := rfl
@[simp] theorem State.draws_boot : (s.draws).boot = s.boot := rfl
@[simp] theorem State.draws_pins : (s.draws).pins = s.pins := rfl
@[simp] theorem State.draws_cores : (s.draws).cores = s.cores := rfl
@[simp] theorem State.draws_slowFrozen : (s.draws).slowFrozen = s.slowFrozen := rfl
@[simp] theorem State.draws_slow : (s.draws).slow = s.slow := rfl
@[simp] theorem State.draws_blockReset : (s.draws).blockReset = s.blockReset := rfl
@[simp] theorem State.draws_out : (s.draws).out = s.out := rfl

@[simp] theorem State.setUnit_time (k : UnitKind) (n : Nat) (u : UnitSt) : (s.setUnit k n u).time = s.time := rfl
@[simp] theorem State.setUnit_pending (k : UnitKind) (n : Nat) (u : UnitSt) : (s.setUnit k n u).pending = s.pending := rfl
@[simp] theorem State.setUnit_dict (k : UnitKind) (n : Nat) (u : UnitSt) : (s.setUnit k n u).dict = s.dict := rfl
@[simp] theorem State.setUnit_reqs (k : UnitKind) (n : Nat) (u : UnitSt) : (s.setUnit k n u).reqs = s.reqs := rfl
@[simp] theorem State.setUnit_access (k : UnitKind) (n : Nat) (u : UnitSt) : (s.setUnit k n u).access = s.access := rfl
@[simp] theorem State.setUnit_nvm (k : UnitKind) (n : Nat) (u : UnitSt) : (s.setUnit k n u).nvm = s.nvm := rfl
@[simp] theorem State.setUnit_faults (k : UnitKind) (n : Nat) (u : UnitSt) : (s.setUnit k n u).faults = s.faults := rfl
@[simp] theorem State.setUnit_moraine (k : UnitKind) (n : Nat) (u : UnitSt) : (s.setUnit k n u).moraine = s.moraine := rfl
@[simp] theorem State.setUnit_ints (k : UnitKind) (n : Nat) (u : UnitSt) : (s.setUnit k n u).ints = s.ints := rfl
@[simp] theorem State.setUnit_host (k : UnitKind) (n : Nat) (u : UnitSt) : (s.setUnit k n u).host = s.host := rfl
@[simp] theorem State.setUnit_rings (k : UnitKind) (n : Nat) (u : UnitSt) : (s.setUnit k n u).rings = s.rings := rfl
@[simp] theorem State.setUnit_txn (k : UnitKind) (n : Nat) (u : UnitSt) : (s.setUnit k n u).txn = s.txn := rfl
@[simp] theorem State.setUnit_chans (k : UnitKind) (n : Nat) (u : UnitSt) : (s.setUnit k n u).chans = s.chans := rfl
@[simp] theorem State.setUnit_reissue (k : UnitKind) (n : Nat) (u : UnitSt) : (s.setUnit k n u).reissue = s.reissue := rfl
@[simp] theorem State.setUnit_firn (k : UnitKind) (n : Nat) (u : UnitSt) : (s.setUnit k n u).firn = s.firn := rfl
@[simp] theorem State.setUnit_msCredit (k : UnitKind) (n : Nat) (u : UnitSt) : (s.setUnit k n u).msCredit = s.msCredit := rfl
@[simp] theorem State.setUnit_outBusy (k : UnitKind) (n : Nat) (u : UnitSt) : (s.setUnit k n u).outBusy = s.outBusy := rfl
@[simp] theorem State.setUnit_ports (k : UnitKind) (n : Nat) (u : UnitSt) : (s.setUnit k n u).ports = s.ports := rfl
@[simp] theorem State.setUnit_pool (k : UnitKind) (n : Nat) (u : UnitSt) : (s.setUnit k n u).pool = s.pool := rfl
@[simp] theorem State.setUnit_fbs (k : UnitKind) (n : Nat) (u : UnitSt) : (s.setUnit k n u).fbs = s.fbs := rfl
@[simp] theorem State.setUnit_tb (k : UnitKind) (n : Nat) (u : UnitSt) : (s.setUnit k n u).tb = s.tb := rfl
@[simp] theorem State.setUnit_recIn (k : UnitKind) (n : Nat) (u : UnitSt) : (s.setUnit k n u).recIn = s.recIn := rfl
@[simp] theorem State.setUnit_array (k : UnitKind) (n : Nat) (u : UnitSt) : (s.setUnit k n u).array = s.array := rfl
@[simp] theorem State.setUnit_ronox (k : UnitKind) (n : Nat) (u : UnitSt) : (s.setUnit k n u).ronox = s.ronox := rfl
@[simp] theorem State.setUnit_queues (k : UnitKind) (n : Nat) (u : UnitSt) : (s.setUnit k n u).queues = s.queues := rfl
@[simp] theorem State.setUnit_eth (k : UnitKind) (n : Nat) (u : UnitSt) : (s.setUnit k n u).eth = s.eth := rfl
@[simp] theorem State.setUnit_meters (k : UnitKind) (n : Nat) (u : UnitSt) : (s.setUnit k n u).meters = s.meters := rfl
@[simp] theorem State.setUnit_meterAt (k : UnitKind) (n : Nat) (u : UnitSt) : (s.setUnit k n u).meterAt = s.meterAt := rfl
@[simp] theorem State.setUnit_shaperAt (k : UnitKind) (n : Nat) (u : UnitSt) : (s.setUnit k n u).shaperAt = s.shaperAt := rfl
@[simp] theorem State.setUnit_mags (k : UnitKind) (n : Nat) (u : UnitSt) : (s.setUnit k n u).mags = s.mags := rfl
@[simp] theorem State.setUnit_recs (k : UnitKind) (n : Nat) (u : UnitSt) : (s.setUnit k n u).recs = s.recs := rfl
@[simp] theorem State.setUnit_magChunks (k : UnitKind) (n : Nat) (u : UnitSt) : (s.setUnit k n u).magChunks = s.magChunks := rfl
@[simp] theorem State.setUnit_dram (k : UnitKind) (n : Nat) (u : UnitSt) : (s.setUnit k n u).dram = s.dram := rfl
@[simp] theorem State.setUnit_dma (k : UnitKind) (n : Nat) (u : UnitSt) : (s.setUnit k n u).dma = s.dma := rfl
@[simp] theorem State.setUnit_power (k : UnitKind) (n : Nat) (u : UnitSt) : (s.setUnit k n u).power = s.power := rfl
@[simp] theorem State.setUnit_boot (k : UnitKind) (n : Nat) (u : UnitSt) : (s.setUnit k n u).boot = s.boot := rfl
@[simp] theorem State.setUnit_pins (k : UnitKind) (n : Nat) (u : UnitSt) : (s.setUnit k n u).pins = s.pins := rfl
@[simp] theorem State.setUnit_cores (k : UnitKind) (n : Nat) (u : UnitSt) : (s.setUnit k n u).cores = s.cores := rfl
@[simp] theorem State.setUnit_slowFrozen (k : UnitKind) (n : Nat) (u : UnitSt) : (s.setUnit k n u).slowFrozen = s.slowFrozen := rfl
@[simp] theorem State.setUnit_slow (k : UnitKind) (n : Nat) (u : UnitSt) : (s.setUnit k n u).slow = s.slow := rfl
@[simp] theorem State.setUnit_blockReset (k : UnitKind) (n : Nat) (u : UnitSt) : (s.setUnit k n u).blockReset = s.blockReset := rfl
@[simp] theorem State.setUnit_free (k : UnitKind) (n : Nat) (u : UnitSt) : (s.setUnit k n u).free = s.free := rfl
@[simp] theorem State.setUnit_out (k : UnitKind) (n : Nat) (u : UnitSt) : (s.setUnit k n u).out = s.out := rfl

@[simp] theorem State.setChan_time (n : Nat) (c : Chan) : (s.setChan n c).time = s.time := rfl
@[simp] theorem State.setChan_pending (n : Nat) (c : Chan) : (s.setChan n c).pending = s.pending := rfl
@[simp] theorem State.setChan_dict (n : Nat) (c : Chan) : (s.setChan n c).dict = s.dict := rfl
@[simp] theorem State.setChan_reqs (n : Nat) (c : Chan) : (s.setChan n c).reqs = s.reqs := rfl
@[simp] theorem State.setChan_access (n : Nat) (c : Chan) : (s.setChan n c).access = s.access := rfl
@[simp] theorem State.setChan_nvm (n : Nat) (c : Chan) : (s.setChan n c).nvm = s.nvm := rfl
@[simp] theorem State.setChan_faults (n : Nat) (c : Chan) : (s.setChan n c).faults = s.faults := rfl
@[simp] theorem State.setChan_moraine (n : Nat) (c : Chan) : (s.setChan n c).moraine = s.moraine := rfl
@[simp] theorem State.setChan_ints (n : Nat) (c : Chan) : (s.setChan n c).ints = s.ints := rfl
@[simp] theorem State.setChan_host (n : Nat) (c : Chan) : (s.setChan n c).host = s.host := rfl
@[simp] theorem State.setChan_rings (n : Nat) (c : Chan) : (s.setChan n c).rings = s.rings := rfl
@[simp] theorem State.setChan_txn (n : Nat) (c : Chan) : (s.setChan n c).txn = s.txn := rfl
@[simp] theorem State.setChan_units (n : Nat) (c : Chan) : (s.setChan n c).units = s.units := rfl
@[simp] theorem State.setChan_reissue (n : Nat) (c : Chan) : (s.setChan n c).reissue = s.reissue := rfl
@[simp] theorem State.setChan_firn (n : Nat) (c : Chan) : (s.setChan n c).firn = s.firn := rfl
@[simp] theorem State.setChan_msCredit (n : Nat) (c : Chan) : (s.setChan n c).msCredit = s.msCredit := rfl
@[simp] theorem State.setChan_outBusy (n : Nat) (c : Chan) : (s.setChan n c).outBusy = s.outBusy := rfl
@[simp] theorem State.setChan_ports (n : Nat) (c : Chan) : (s.setChan n c).ports = s.ports := rfl
@[simp] theorem State.setChan_pool (n : Nat) (c : Chan) : (s.setChan n c).pool = s.pool := rfl
@[simp] theorem State.setChan_fbs (n : Nat) (c : Chan) : (s.setChan n c).fbs = s.fbs := rfl
@[simp] theorem State.setChan_tb (n : Nat) (c : Chan) : (s.setChan n c).tb = s.tb := rfl
@[simp] theorem State.setChan_recIn (n : Nat) (c : Chan) : (s.setChan n c).recIn = s.recIn := rfl
@[simp] theorem State.setChan_array (n : Nat) (c : Chan) : (s.setChan n c).array = s.array := rfl
@[simp] theorem State.setChan_ronox (n : Nat) (c : Chan) : (s.setChan n c).ronox = s.ronox := rfl
@[simp] theorem State.setChan_queues (n : Nat) (c : Chan) : (s.setChan n c).queues = s.queues := rfl
@[simp] theorem State.setChan_eth (n : Nat) (c : Chan) : (s.setChan n c).eth = s.eth := rfl
@[simp] theorem State.setChan_meters (n : Nat) (c : Chan) : (s.setChan n c).meters = s.meters := rfl
@[simp] theorem State.setChan_meterAt (n : Nat) (c : Chan) : (s.setChan n c).meterAt = s.meterAt := rfl
@[simp] theorem State.setChan_shaperAt (n : Nat) (c : Chan) : (s.setChan n c).shaperAt = s.shaperAt := rfl
@[simp] theorem State.setChan_mags (n : Nat) (c : Chan) : (s.setChan n c).mags = s.mags := rfl
@[simp] theorem State.setChan_recs (n : Nat) (c : Chan) : (s.setChan n c).recs = s.recs := rfl
@[simp] theorem State.setChan_magChunks (n : Nat) (c : Chan) : (s.setChan n c).magChunks = s.magChunks := rfl
@[simp] theorem State.setChan_dram (n : Nat) (c : Chan) : (s.setChan n c).dram = s.dram := rfl
@[simp] theorem State.setChan_dma (n : Nat) (c : Chan) : (s.setChan n c).dma = s.dma := rfl
@[simp] theorem State.setChan_power (n : Nat) (c : Chan) : (s.setChan n c).power = s.power := rfl
@[simp] theorem State.setChan_boot (n : Nat) (c : Chan) : (s.setChan n c).boot = s.boot := rfl
@[simp] theorem State.setChan_pins (n : Nat) (c : Chan) : (s.setChan n c).pins = s.pins := rfl
@[simp] theorem State.setChan_cores (n : Nat) (c : Chan) : (s.setChan n c).cores = s.cores := rfl
@[simp] theorem State.setChan_slowFrozen (n : Nat) (c : Chan) : (s.setChan n c).slowFrozen = s.slowFrozen := rfl
@[simp] theorem State.setChan_slow (n : Nat) (c : Chan) : (s.setChan n c).slow = s.slow := rfl
@[simp] theorem State.setChan_blockReset (n : Nat) (c : Chan) : (s.setChan n c).blockReset = s.blockReset := rfl
@[simp] theorem State.setChan_free (n : Nat) (c : Chan) : (s.setChan n c).free = s.free := rfl
@[simp] theorem State.setChan_out (n : Nat) (c : Chan) : (s.setChan n c).out = s.out := rfl

@[simp] theorem State.modChan_time (n : Nat) (f : Chan → Chan) : (s.modChan n f).time = s.time := rfl
@[simp] theorem State.modChan_pending (n : Nat) (f : Chan → Chan) : (s.modChan n f).pending = s.pending := rfl
@[simp] theorem State.modChan_dict (n : Nat) (f : Chan → Chan) : (s.modChan n f).dict = s.dict := rfl
@[simp] theorem State.modChan_reqs (n : Nat) (f : Chan → Chan) : (s.modChan n f).reqs = s.reqs := rfl
@[simp] theorem State.modChan_access (n : Nat) (f : Chan → Chan) : (s.modChan n f).access = s.access := rfl
@[simp] theorem State.modChan_nvm (n : Nat) (f : Chan → Chan) : (s.modChan n f).nvm = s.nvm := rfl
@[simp] theorem State.modChan_faults (n : Nat) (f : Chan → Chan) : (s.modChan n f).faults = s.faults := rfl
@[simp] theorem State.modChan_moraine (n : Nat) (f : Chan → Chan) : (s.modChan n f).moraine = s.moraine := rfl
@[simp] theorem State.modChan_ints (n : Nat) (f : Chan → Chan) : (s.modChan n f).ints = s.ints := rfl
@[simp] theorem State.modChan_host (n : Nat) (f : Chan → Chan) : (s.modChan n f).host = s.host := rfl
@[simp] theorem State.modChan_rings (n : Nat) (f : Chan → Chan) : (s.modChan n f).rings = s.rings := rfl
@[simp] theorem State.modChan_txn (n : Nat) (f : Chan → Chan) : (s.modChan n f).txn = s.txn := rfl
@[simp] theorem State.modChan_units (n : Nat) (f : Chan → Chan) : (s.modChan n f).units = s.units := rfl
@[simp] theorem State.modChan_reissue (n : Nat) (f : Chan → Chan) : (s.modChan n f).reissue = s.reissue := rfl
@[simp] theorem State.modChan_firn (n : Nat) (f : Chan → Chan) : (s.modChan n f).firn = s.firn := rfl
@[simp] theorem State.modChan_msCredit (n : Nat) (f : Chan → Chan) : (s.modChan n f).msCredit = s.msCredit := rfl
@[simp] theorem State.modChan_outBusy (n : Nat) (f : Chan → Chan) : (s.modChan n f).outBusy = s.outBusy := rfl
@[simp] theorem State.modChan_ports (n : Nat) (f : Chan → Chan) : (s.modChan n f).ports = s.ports := rfl
@[simp] theorem State.modChan_pool (n : Nat) (f : Chan → Chan) : (s.modChan n f).pool = s.pool := rfl
@[simp] theorem State.modChan_fbs (n : Nat) (f : Chan → Chan) : (s.modChan n f).fbs = s.fbs := rfl
@[simp] theorem State.modChan_tb (n : Nat) (f : Chan → Chan) : (s.modChan n f).tb = s.tb := rfl
@[simp] theorem State.modChan_recIn (n : Nat) (f : Chan → Chan) : (s.modChan n f).recIn = s.recIn := rfl
@[simp] theorem State.modChan_array (n : Nat) (f : Chan → Chan) : (s.modChan n f).array = s.array := rfl
@[simp] theorem State.modChan_ronox (n : Nat) (f : Chan → Chan) : (s.modChan n f).ronox = s.ronox := rfl
@[simp] theorem State.modChan_queues (n : Nat) (f : Chan → Chan) : (s.modChan n f).queues = s.queues := rfl
@[simp] theorem State.modChan_eth (n : Nat) (f : Chan → Chan) : (s.modChan n f).eth = s.eth := rfl
@[simp] theorem State.modChan_meters (n : Nat) (f : Chan → Chan) : (s.modChan n f).meters = s.meters := rfl
@[simp] theorem State.modChan_meterAt (n : Nat) (f : Chan → Chan) : (s.modChan n f).meterAt = s.meterAt := rfl
@[simp] theorem State.modChan_shaperAt (n : Nat) (f : Chan → Chan) : (s.modChan n f).shaperAt = s.shaperAt := rfl
@[simp] theorem State.modChan_mags (n : Nat) (f : Chan → Chan) : (s.modChan n f).mags = s.mags := rfl
@[simp] theorem State.modChan_recs (n : Nat) (f : Chan → Chan) : (s.modChan n f).recs = s.recs := rfl
@[simp] theorem State.modChan_magChunks (n : Nat) (f : Chan → Chan) : (s.modChan n f).magChunks = s.magChunks := rfl
@[simp] theorem State.modChan_dram (n : Nat) (f : Chan → Chan) : (s.modChan n f).dram = s.dram := rfl
@[simp] theorem State.modChan_dma (n : Nat) (f : Chan → Chan) : (s.modChan n f).dma = s.dma := rfl
@[simp] theorem State.modChan_power (n : Nat) (f : Chan → Chan) : (s.modChan n f).power = s.power := rfl
@[simp] theorem State.modChan_boot (n : Nat) (f : Chan → Chan) : (s.modChan n f).boot = s.boot := rfl
@[simp] theorem State.modChan_pins (n : Nat) (f : Chan → Chan) : (s.modChan n f).pins = s.pins := rfl
@[simp] theorem State.modChan_cores (n : Nat) (f : Chan → Chan) : (s.modChan n f).cores = s.cores := rfl
@[simp] theorem State.modChan_slowFrozen (n : Nat) (f : Chan → Chan) : (s.modChan n f).slowFrozen = s.slowFrozen := rfl
@[simp] theorem State.modChan_slow (n : Nat) (f : Chan → Chan) : (s.modChan n f).slow = s.slow := rfl
@[simp] theorem State.modChan_blockReset (n : Nat) (f : Chan → Chan) : (s.modChan n f).blockReset = s.blockReset := rfl
@[simp] theorem State.modChan_free (n : Nat) (f : Chan → Chan) : (s.modChan n f).free = s.free := rfl
@[simp] theorem State.modChan_out (n : Nat) (f : Chan → Chan) : (s.modChan n f).out = s.out := rfl

@[simp] theorem State.setRing_time (n : Nat) (r : Ring) : (s.setRing n r).time = s.time := rfl
@[simp] theorem State.setRing_pending (n : Nat) (r : Ring) : (s.setRing n r).pending = s.pending := rfl
@[simp] theorem State.setRing_dict (n : Nat) (r : Ring) : (s.setRing n r).dict = s.dict := rfl
@[simp] theorem State.setRing_reqs (n : Nat) (r : Ring) : (s.setRing n r).reqs = s.reqs := rfl
@[simp] theorem State.setRing_access (n : Nat) (r : Ring) : (s.setRing n r).access = s.access := rfl
@[simp] theorem State.setRing_nvm (n : Nat) (r : Ring) : (s.setRing n r).nvm = s.nvm := rfl
@[simp] theorem State.setRing_faults (n : Nat) (r : Ring) : (s.setRing n r).faults = s.faults := rfl
@[simp] theorem State.setRing_moraine (n : Nat) (r : Ring) : (s.setRing n r).moraine = s.moraine := rfl
@[simp] theorem State.setRing_ints (n : Nat) (r : Ring) : (s.setRing n r).ints = s.ints := rfl
@[simp] theorem State.setRing_host (n : Nat) (r : Ring) : (s.setRing n r).host = s.host := rfl
@[simp] theorem State.setRing_txn (n : Nat) (r : Ring) : (s.setRing n r).txn = s.txn := rfl
@[simp] theorem State.setRing_chans (n : Nat) (r : Ring) : (s.setRing n r).chans = s.chans := rfl
@[simp] theorem State.setRing_units (n : Nat) (r : Ring) : (s.setRing n r).units = s.units := rfl
@[simp] theorem State.setRing_reissue (n : Nat) (r : Ring) : (s.setRing n r).reissue = s.reissue := rfl
@[simp] theorem State.setRing_firn (n : Nat) (r : Ring) : (s.setRing n r).firn = s.firn := rfl
@[simp] theorem State.setRing_msCredit (n : Nat) (r : Ring) : (s.setRing n r).msCredit = s.msCredit := rfl
@[simp] theorem State.setRing_outBusy (n : Nat) (r : Ring) : (s.setRing n r).outBusy = s.outBusy := rfl
@[simp] theorem State.setRing_ports (n : Nat) (r : Ring) : (s.setRing n r).ports = s.ports := rfl
@[simp] theorem State.setRing_pool (n : Nat) (r : Ring) : (s.setRing n r).pool = s.pool := rfl
@[simp] theorem State.setRing_fbs (n : Nat) (r : Ring) : (s.setRing n r).fbs = s.fbs := rfl
@[simp] theorem State.setRing_tb (n : Nat) (r : Ring) : (s.setRing n r).tb = s.tb := rfl
@[simp] theorem State.setRing_recIn (n : Nat) (r : Ring) : (s.setRing n r).recIn = s.recIn := rfl
@[simp] theorem State.setRing_array (n : Nat) (r : Ring) : (s.setRing n r).array = s.array := rfl
@[simp] theorem State.setRing_ronox (n : Nat) (r : Ring) : (s.setRing n r).ronox = s.ronox := rfl
@[simp] theorem State.setRing_queues (n : Nat) (r : Ring) : (s.setRing n r).queues = s.queues := rfl
@[simp] theorem State.setRing_eth (n : Nat) (r : Ring) : (s.setRing n r).eth = s.eth := rfl
@[simp] theorem State.setRing_meters (n : Nat) (r : Ring) : (s.setRing n r).meters = s.meters := rfl
@[simp] theorem State.setRing_meterAt (n : Nat) (r : Ring) : (s.setRing n r).meterAt = s.meterAt := rfl
@[simp] theorem State.setRing_shaperAt (n : Nat) (r : Ring) : (s.setRing n r).shaperAt = s.shaperAt := rfl
@[simp] theorem State.setRing_mags (n : Nat) (r : Ring) : (s.setRing n r).mags = s.mags := rfl
@[simp] theorem State.setRing_recs (n : Nat) (r : Ring) : (s.setRing n r).recs = s.recs := rfl
@[simp] theorem State.setRing_magChunks (n : Nat) (r : Ring) : (s.setRing n r).magChunks = s.magChunks := rfl
@[simp] theorem State.setRing_dram (n : Nat) (r : Ring) : (s.setRing n r).dram = s.dram := rfl
@[simp] theorem State.setRing_dma (n : Nat) (r : Ring) : (s.setRing n r).dma = s.dma := rfl
@[simp] theorem State.setRing_power (n : Nat) (r : Ring) : (s.setRing n r).power = s.power := rfl
@[simp] theorem State.setRing_boot (n : Nat) (r : Ring) : (s.setRing n r).boot = s.boot := rfl
@[simp] theorem State.setRing_pins (n : Nat) (r : Ring) : (s.setRing n r).pins = s.pins := rfl
@[simp] theorem State.setRing_cores (n : Nat) (r : Ring) : (s.setRing n r).cores = s.cores := rfl
@[simp] theorem State.setRing_slowFrozen (n : Nat) (r : Ring) : (s.setRing n r).slowFrozen = s.slowFrozen := rfl
@[simp] theorem State.setRing_slow (n : Nat) (r : Ring) : (s.setRing n r).slow = s.slow := rfl
@[simp] theorem State.setRing_blockReset (n : Nat) (r : Ring) : (s.setRing n r).blockReset = s.blockReset := rfl
@[simp] theorem State.setRing_free (n : Nat) (r : Ring) : (s.setRing n r).free = s.free := rfl
@[simp] theorem State.setRing_out (n : Nat) (r : Ring) : (s.setRing n r).out = s.out := rfl

@[simp] theorem State.modReq_time (r : Requester) (f : ReqState → ReqState) : (s.modReq r f).time = s.time := rfl
@[simp] theorem State.modReq_pending (r : Requester) (f : ReqState → ReqState) : (s.modReq r f).pending = s.pending := rfl
@[simp] theorem State.modReq_dict (r : Requester) (f : ReqState → ReqState) : (s.modReq r f).dict = s.dict := rfl
@[simp] theorem State.modReq_access (r : Requester) (f : ReqState → ReqState) : (s.modReq r f).access = s.access := rfl
@[simp] theorem State.modReq_nvm (r : Requester) (f : ReqState → ReqState) : (s.modReq r f).nvm = s.nvm := rfl
@[simp] theorem State.modReq_faults (r : Requester) (f : ReqState → ReqState) : (s.modReq r f).faults = s.faults := rfl
@[simp] theorem State.modReq_moraine (r : Requester) (f : ReqState → ReqState) : (s.modReq r f).moraine = s.moraine := rfl
@[simp] theorem State.modReq_ints (r : Requester) (f : ReqState → ReqState) : (s.modReq r f).ints = s.ints := rfl
@[simp] theorem State.modReq_host (r : Requester) (f : ReqState → ReqState) : (s.modReq r f).host = s.host := rfl
@[simp] theorem State.modReq_rings (r : Requester) (f : ReqState → ReqState) : (s.modReq r f).rings = s.rings := rfl
@[simp] theorem State.modReq_txn (r : Requester) (f : ReqState → ReqState) : (s.modReq r f).txn = s.txn := rfl
@[simp] theorem State.modReq_chans (r : Requester) (f : ReqState → ReqState) : (s.modReq r f).chans = s.chans := rfl
@[simp] theorem State.modReq_units (r : Requester) (f : ReqState → ReqState) : (s.modReq r f).units = s.units := rfl
@[simp] theorem State.modReq_reissue (r : Requester) (f : ReqState → ReqState) : (s.modReq r f).reissue = s.reissue := rfl
@[simp] theorem State.modReq_firn (r : Requester) (f : ReqState → ReqState) : (s.modReq r f).firn = s.firn := rfl
@[simp] theorem State.modReq_msCredit (r : Requester) (f : ReqState → ReqState) : (s.modReq r f).msCredit = s.msCredit := rfl
@[simp] theorem State.modReq_outBusy (r : Requester) (f : ReqState → ReqState) : (s.modReq r f).outBusy = s.outBusy := rfl
@[simp] theorem State.modReq_ports (r : Requester) (f : ReqState → ReqState) : (s.modReq r f).ports = s.ports := rfl
@[simp] theorem State.modReq_pool (r : Requester) (f : ReqState → ReqState) : (s.modReq r f).pool = s.pool := rfl
@[simp] theorem State.modReq_fbs (r : Requester) (f : ReqState → ReqState) : (s.modReq r f).fbs = s.fbs := rfl
@[simp] theorem State.modReq_tb (r : Requester) (f : ReqState → ReqState) : (s.modReq r f).tb = s.tb := rfl
@[simp] theorem State.modReq_recIn (r : Requester) (f : ReqState → ReqState) : (s.modReq r f).recIn = s.recIn := rfl
@[simp] theorem State.modReq_array (r : Requester) (f : ReqState → ReqState) : (s.modReq r f).array = s.array := rfl
@[simp] theorem State.modReq_ronox (r : Requester) (f : ReqState → ReqState) : (s.modReq r f).ronox = s.ronox := rfl
@[simp] theorem State.modReq_queues (r : Requester) (f : ReqState → ReqState) : (s.modReq r f).queues = s.queues := rfl
@[simp] theorem State.modReq_eth (r : Requester) (f : ReqState → ReqState) : (s.modReq r f).eth = s.eth := rfl
@[simp] theorem State.modReq_meters (r : Requester) (f : ReqState → ReqState) : (s.modReq r f).meters = s.meters := rfl
@[simp] theorem State.modReq_meterAt (r : Requester) (f : ReqState → ReqState) : (s.modReq r f).meterAt = s.meterAt := rfl
@[simp] theorem State.modReq_shaperAt (r : Requester) (f : ReqState → ReqState) : (s.modReq r f).shaperAt = s.shaperAt := rfl
@[simp] theorem State.modReq_mags (r : Requester) (f : ReqState → ReqState) : (s.modReq r f).mags = s.mags := rfl
@[simp] theorem State.modReq_recs (r : Requester) (f : ReqState → ReqState) : (s.modReq r f).recs = s.recs := rfl
@[simp] theorem State.modReq_magChunks (r : Requester) (f : ReqState → ReqState) : (s.modReq r f).magChunks = s.magChunks := rfl
@[simp] theorem State.modReq_dram (r : Requester) (f : ReqState → ReqState) : (s.modReq r f).dram = s.dram := rfl
@[simp] theorem State.modReq_dma (r : Requester) (f : ReqState → ReqState) : (s.modReq r f).dma = s.dma := rfl
@[simp] theorem State.modReq_power (r : Requester) (f : ReqState → ReqState) : (s.modReq r f).power = s.power := rfl
@[simp] theorem State.modReq_boot (r : Requester) (f : ReqState → ReqState) : (s.modReq r f).boot = s.boot := rfl
@[simp] theorem State.modReq_pins (r : Requester) (f : ReqState → ReqState) : (s.modReq r f).pins = s.pins := rfl
@[simp] theorem State.modReq_cores (r : Requester) (f : ReqState → ReqState) : (s.modReq r f).cores = s.cores := rfl
@[simp] theorem State.modReq_slowFrozen (r : Requester) (f : ReqState → ReqState) : (s.modReq r f).slowFrozen = s.slowFrozen := rfl
@[simp] theorem State.modReq_slow (r : Requester) (f : ReqState → ReqState) : (s.modReq r f).slow = s.slow := rfl
@[simp] theorem State.modReq_blockReset (r : Requester) (f : ReqState → ReqState) : (s.modReq r f).blockReset = s.blockReset := rfl
@[simp] theorem State.modReq_free (r : Requester) (f : ReqState → ReqState) : (s.modReq r f).free = s.free := rfl
@[simp] theorem State.modReq_out (r : Requester) (f : ReqState → ReqState) : (s.modReq r f).out = s.out := rfl

@[simp] theorem State.accessError_time (r : Requester) (a : Abort) (i j : Nat) : (s.accessError r a i j).time = s.time := rfl
@[simp] theorem State.accessError_pending (r : Requester) (a : Abort) (i j : Nat) : (s.accessError r a i j).pending = s.pending := rfl
@[simp] theorem State.accessError_dict (r : Requester) (a : Abort) (i j : Nat) : (s.accessError r a i j).dict = s.dict := rfl
@[simp] theorem State.accessError_access (r : Requester) (a : Abort) (i j : Nat) : (s.accessError r a i j).access = s.access := rfl
@[simp] theorem State.accessError_nvm (r : Requester) (a : Abort) (i j : Nat) : (s.accessError r a i j).nvm = s.nvm := rfl
@[simp] theorem State.accessError_faults (r : Requester) (a : Abort) (i j : Nat) : (s.accessError r a i j).faults = s.faults := rfl
@[simp] theorem State.accessError_moraine (r : Requester) (a : Abort) (i j : Nat) : (s.accessError r a i j).moraine = s.moraine := rfl
@[simp] theorem State.accessError_ints (r : Requester) (a : Abort) (i j : Nat) : (s.accessError r a i j).ints = s.ints := rfl
@[simp] theorem State.accessError_host (r : Requester) (a : Abort) (i j : Nat) : (s.accessError r a i j).host = s.host := rfl
@[simp] theorem State.accessError_rings (r : Requester) (a : Abort) (i j : Nat) : (s.accessError r a i j).rings = s.rings := rfl
@[simp] theorem State.accessError_txn (r : Requester) (a : Abort) (i j : Nat) : (s.accessError r a i j).txn = s.txn := rfl
@[simp] theorem State.accessError_chans (r : Requester) (a : Abort) (i j : Nat) : (s.accessError r a i j).chans = s.chans := rfl
@[simp] theorem State.accessError_units (r : Requester) (a : Abort) (i j : Nat) : (s.accessError r a i j).units = s.units := rfl
@[simp] theorem State.accessError_reissue (r : Requester) (a : Abort) (i j : Nat) : (s.accessError r a i j).reissue = s.reissue := rfl
@[simp] theorem State.accessError_firn (r : Requester) (a : Abort) (i j : Nat) : (s.accessError r a i j).firn = s.firn := rfl
@[simp] theorem State.accessError_msCredit (r : Requester) (a : Abort) (i j : Nat) : (s.accessError r a i j).msCredit = s.msCredit := rfl
@[simp] theorem State.accessError_outBusy (r : Requester) (a : Abort) (i j : Nat) : (s.accessError r a i j).outBusy = s.outBusy := rfl
@[simp] theorem State.accessError_ports (r : Requester) (a : Abort) (i j : Nat) : (s.accessError r a i j).ports = s.ports := rfl
@[simp] theorem State.accessError_pool (r : Requester) (a : Abort) (i j : Nat) : (s.accessError r a i j).pool = s.pool := rfl
@[simp] theorem State.accessError_fbs (r : Requester) (a : Abort) (i j : Nat) : (s.accessError r a i j).fbs = s.fbs := rfl
@[simp] theorem State.accessError_tb (r : Requester) (a : Abort) (i j : Nat) : (s.accessError r a i j).tb = s.tb := rfl
@[simp] theorem State.accessError_recIn (r : Requester) (a : Abort) (i j : Nat) : (s.accessError r a i j).recIn = s.recIn := rfl
@[simp] theorem State.accessError_array (r : Requester) (a : Abort) (i j : Nat) : (s.accessError r a i j).array = s.array := rfl
@[simp] theorem State.accessError_ronox (r : Requester) (a : Abort) (i j : Nat) : (s.accessError r a i j).ronox = s.ronox := rfl
@[simp] theorem State.accessError_queues (r : Requester) (a : Abort) (i j : Nat) : (s.accessError r a i j).queues = s.queues := rfl
@[simp] theorem State.accessError_eth (r : Requester) (a : Abort) (i j : Nat) : (s.accessError r a i j).eth = s.eth := rfl
@[simp] theorem State.accessError_meters (r : Requester) (a : Abort) (i j : Nat) : (s.accessError r a i j).meters = s.meters := rfl
@[simp] theorem State.accessError_meterAt (r : Requester) (a : Abort) (i j : Nat) : (s.accessError r a i j).meterAt = s.meterAt := rfl
@[simp] theorem State.accessError_shaperAt (r : Requester) (a : Abort) (i j : Nat) : (s.accessError r a i j).shaperAt = s.shaperAt := rfl
@[simp] theorem State.accessError_mags (r : Requester) (a : Abort) (i j : Nat) : (s.accessError r a i j).mags = s.mags := rfl
@[simp] theorem State.accessError_recs (r : Requester) (a : Abort) (i j : Nat) : (s.accessError r a i j).recs = s.recs := rfl
@[simp] theorem State.accessError_magChunks (r : Requester) (a : Abort) (i j : Nat) : (s.accessError r a i j).magChunks = s.magChunks := rfl
@[simp] theorem State.accessError_dram (r : Requester) (a : Abort) (i j : Nat) : (s.accessError r a i j).dram = s.dram := rfl
@[simp] theorem State.accessError_dma (r : Requester) (a : Abort) (i j : Nat) : (s.accessError r a i j).dma = s.dma := rfl
@[simp] theorem State.accessError_power (r : Requester) (a : Abort) (i j : Nat) : (s.accessError r a i j).power = s.power := rfl
@[simp] theorem State.accessError_boot (r : Requester) (a : Abort) (i j : Nat) : (s.accessError r a i j).boot = s.boot := rfl
@[simp] theorem State.accessError_pins (r : Requester) (a : Abort) (i j : Nat) : (s.accessError r a i j).pins = s.pins := rfl
@[simp] theorem State.accessError_cores (r : Requester) (a : Abort) (i j : Nat) : (s.accessError r a i j).cores = s.cores := rfl
@[simp] theorem State.accessError_slowFrozen (r : Requester) (a : Abort) (i j : Nat) : (s.accessError r a i j).slowFrozen = s.slowFrozen := rfl
@[simp] theorem State.accessError_slow (r : Requester) (a : Abort) (i j : Nat) : (s.accessError r a i j).slow = s.slow := rfl
@[simp] theorem State.accessError_blockReset (r : Requester) (a : Abort) (i j : Nat) : (s.accessError r a i j).blockReset = s.blockReset := rfl
@[simp] theorem State.accessError_free (r : Requester) (a : Abort) (i j : Nat) : (s.accessError r a i j).free = s.free := rfl
@[simp] theorem State.accessError_out (r : Requester) (a : Abort) (i j : Nat) : (s.accessError r a i j).out = s.out := rfl

@[simp] theorem State.setCan_time (k : Nat) (c : CanNode) : (s.setCan k c).time = s.time := rfl
@[simp] theorem State.setCan_pending (k : Nat) (c : CanNode) : (s.setCan k c).pending = s.pending := rfl
@[simp] theorem State.setCan_dict (k : Nat) (c : CanNode) : (s.setCan k c).dict = s.dict := rfl
@[simp] theorem State.setCan_reqs (k : Nat) (c : CanNode) : (s.setCan k c).reqs = s.reqs := rfl
@[simp] theorem State.setCan_nvm (k : Nat) (c : CanNode) : (s.setCan k c).nvm = s.nvm := rfl
@[simp] theorem State.setCan_faults (k : Nat) (c : CanNode) : (s.setCan k c).faults = s.faults := rfl
@[simp] theorem State.setCan_moraine (k : Nat) (c : CanNode) : (s.setCan k c).moraine = s.moraine := rfl
@[simp] theorem State.setCan_ints (k : Nat) (c : CanNode) : (s.setCan k c).ints = s.ints := rfl
@[simp] theorem State.setCan_host (k : Nat) (c : CanNode) : (s.setCan k c).host = s.host := rfl
@[simp] theorem State.setCan_rings (k : Nat) (c : CanNode) : (s.setCan k c).rings = s.rings := rfl
@[simp] theorem State.setCan_txn (k : Nat) (c : CanNode) : (s.setCan k c).txn = s.txn := rfl
@[simp] theorem State.setCan_chans (k : Nat) (c : CanNode) : (s.setCan k c).chans = s.chans := rfl
@[simp] theorem State.setCan_units (k : Nat) (c : CanNode) : (s.setCan k c).units = s.units := rfl
@[simp] theorem State.setCan_reissue (k : Nat) (c : CanNode) : (s.setCan k c).reissue = s.reissue := rfl
@[simp] theorem State.setCan_firn (k : Nat) (c : CanNode) : (s.setCan k c).firn = s.firn := rfl
@[simp] theorem State.setCan_msCredit (k : Nat) (c : CanNode) : (s.setCan k c).msCredit = s.msCredit := rfl
@[simp] theorem State.setCan_outBusy (k : Nat) (c : CanNode) : (s.setCan k c).outBusy = s.outBusy := rfl
@[simp] theorem State.setCan_ports (k : Nat) (c : CanNode) : (s.setCan k c).ports = s.ports := rfl
@[simp] theorem State.setCan_pool (k : Nat) (c : CanNode) : (s.setCan k c).pool = s.pool := rfl
@[simp] theorem State.setCan_fbs (k : Nat) (c : CanNode) : (s.setCan k c).fbs = s.fbs := rfl
@[simp] theorem State.setCan_tb (k : Nat) (c : CanNode) : (s.setCan k c).tb = s.tb := rfl
@[simp] theorem State.setCan_recIn (k : Nat) (c : CanNode) : (s.setCan k c).recIn = s.recIn := rfl
@[simp] theorem State.setCan_array (k : Nat) (c : CanNode) : (s.setCan k c).array = s.array := rfl
@[simp] theorem State.setCan_ronox (k : Nat) (c : CanNode) : (s.setCan k c).ronox = s.ronox := rfl
@[simp] theorem State.setCan_queues (k : Nat) (c : CanNode) : (s.setCan k c).queues = s.queues := rfl
@[simp] theorem State.setCan_eth (k : Nat) (c : CanNode) : (s.setCan k c).eth = s.eth := rfl
@[simp] theorem State.setCan_meters (k : Nat) (c : CanNode) : (s.setCan k c).meters = s.meters := rfl
@[simp] theorem State.setCan_meterAt (k : Nat) (c : CanNode) : (s.setCan k c).meterAt = s.meterAt := rfl
@[simp] theorem State.setCan_shaperAt (k : Nat) (c : CanNode) : (s.setCan k c).shaperAt = s.shaperAt := rfl
@[simp] theorem State.setCan_mags (k : Nat) (c : CanNode) : (s.setCan k c).mags = s.mags := rfl
@[simp] theorem State.setCan_recs (k : Nat) (c : CanNode) : (s.setCan k c).recs = s.recs := rfl
@[simp] theorem State.setCan_magChunks (k : Nat) (c : CanNode) : (s.setCan k c).magChunks = s.magChunks := rfl
@[simp] theorem State.setCan_dram (k : Nat) (c : CanNode) : (s.setCan k c).dram = s.dram := rfl
@[simp] theorem State.setCan_dma (k : Nat) (c : CanNode) : (s.setCan k c).dma = s.dma := rfl
@[simp] theorem State.setCan_power (k : Nat) (c : CanNode) : (s.setCan k c).power = s.power := rfl
@[simp] theorem State.setCan_boot (k : Nat) (c : CanNode) : (s.setCan k c).boot = s.boot := rfl
@[simp] theorem State.setCan_pins (k : Nat) (c : CanNode) : (s.setCan k c).pins = s.pins := rfl
@[simp] theorem State.setCan_cores (k : Nat) (c : CanNode) : (s.setCan k c).cores = s.cores := rfl
@[simp] theorem State.setCan_slowFrozen (k : Nat) (c : CanNode) : (s.setCan k c).slowFrozen = s.slowFrozen := rfl
@[simp] theorem State.setCan_slow (k : Nat) (c : CanNode) : (s.setCan k c).slow = s.slow := rfl
@[simp] theorem State.setCan_blockReset (k : Nat) (c : CanNode) : (s.setCan k c).blockReset = s.blockReset := rfl
@[simp] theorem State.setCan_free (k : Nat) (c : CanNode) : (s.setCan k c).free = s.free := rfl
@[simp] theorem State.setCan_out (k : Nat) (c : CanNode) : (s.setCan k c).out = s.out := rfl

@[simp] theorem State.setReqQueue_time (n : Nat) (q : Queue) : (s.setReqQueue n q).time = s.time := rfl
@[simp] theorem State.setReqQueue_pending (n : Nat) (q : Queue) : (s.setReqQueue n q).pending = s.pending := rfl
@[simp] theorem State.setReqQueue_dict (n : Nat) (q : Queue) : (s.setReqQueue n q).dict = s.dict := rfl
@[simp] theorem State.setReqQueue_reqs (n : Nat) (q : Queue) : (s.setReqQueue n q).reqs = s.reqs := rfl
@[simp] theorem State.setReqQueue_nvm (n : Nat) (q : Queue) : (s.setReqQueue n q).nvm = s.nvm := rfl
@[simp] theorem State.setReqQueue_faults (n : Nat) (q : Queue) : (s.setReqQueue n q).faults = s.faults := rfl
@[simp] theorem State.setReqQueue_moraine (n : Nat) (q : Queue) : (s.setReqQueue n q).moraine = s.moraine := rfl
@[simp] theorem State.setReqQueue_ints (n : Nat) (q : Queue) : (s.setReqQueue n q).ints = s.ints := rfl
@[simp] theorem State.setReqQueue_host (n : Nat) (q : Queue) : (s.setReqQueue n q).host = s.host := rfl
@[simp] theorem State.setReqQueue_rings (n : Nat) (q : Queue) : (s.setReqQueue n q).rings = s.rings := rfl
@[simp] theorem State.setReqQueue_txn (n : Nat) (q : Queue) : (s.setReqQueue n q).txn = s.txn := rfl
@[simp] theorem State.setReqQueue_chans (n : Nat) (q : Queue) : (s.setReqQueue n q).chans = s.chans := rfl
@[simp] theorem State.setReqQueue_units (n : Nat) (q : Queue) : (s.setReqQueue n q).units = s.units := rfl
@[simp] theorem State.setReqQueue_reissue (n : Nat) (q : Queue) : (s.setReqQueue n q).reissue = s.reissue := rfl
@[simp] theorem State.setReqQueue_firn (n : Nat) (q : Queue) : (s.setReqQueue n q).firn = s.firn := rfl
@[simp] theorem State.setReqQueue_msCredit (n : Nat) (q : Queue) : (s.setReqQueue n q).msCredit = s.msCredit := rfl
@[simp] theorem State.setReqQueue_outBusy (n : Nat) (q : Queue) : (s.setReqQueue n q).outBusy = s.outBusy := rfl
@[simp] theorem State.setReqQueue_ports (n : Nat) (q : Queue) : (s.setReqQueue n q).ports = s.ports := rfl
@[simp] theorem State.setReqQueue_pool (n : Nat) (q : Queue) : (s.setReqQueue n q).pool = s.pool := rfl
@[simp] theorem State.setReqQueue_fbs (n : Nat) (q : Queue) : (s.setReqQueue n q).fbs = s.fbs := rfl
@[simp] theorem State.setReqQueue_tb (n : Nat) (q : Queue) : (s.setReqQueue n q).tb = s.tb := rfl
@[simp] theorem State.setReqQueue_recIn (n : Nat) (q : Queue) : (s.setReqQueue n q).recIn = s.recIn := rfl
@[simp] theorem State.setReqQueue_array (n : Nat) (q : Queue) : (s.setReqQueue n q).array = s.array := rfl
@[simp] theorem State.setReqQueue_ronox (n : Nat) (q : Queue) : (s.setReqQueue n q).ronox = s.ronox := rfl
@[simp] theorem State.setReqQueue_queues (n : Nat) (q : Queue) : (s.setReqQueue n q).queues = s.queues := rfl
@[simp] theorem State.setReqQueue_eth (n : Nat) (q : Queue) : (s.setReqQueue n q).eth = s.eth := rfl
@[simp] theorem State.setReqQueue_meters (n : Nat) (q : Queue) : (s.setReqQueue n q).meters = s.meters := rfl
@[simp] theorem State.setReqQueue_meterAt (n : Nat) (q : Queue) : (s.setReqQueue n q).meterAt = s.meterAt := rfl
@[simp] theorem State.setReqQueue_shaperAt (n : Nat) (q : Queue) : (s.setReqQueue n q).shaperAt = s.shaperAt := rfl
@[simp] theorem State.setReqQueue_mags (n : Nat) (q : Queue) : (s.setReqQueue n q).mags = s.mags := rfl
@[simp] theorem State.setReqQueue_recs (n : Nat) (q : Queue) : (s.setReqQueue n q).recs = s.recs := rfl
@[simp] theorem State.setReqQueue_magChunks (n : Nat) (q : Queue) : (s.setReqQueue n q).magChunks = s.magChunks := rfl
@[simp] theorem State.setReqQueue_dram (n : Nat) (q : Queue) : (s.setReqQueue n q).dram = s.dram := rfl
@[simp] theorem State.setReqQueue_dma (n : Nat) (q : Queue) : (s.setReqQueue n q).dma = s.dma := rfl
@[simp] theorem State.setReqQueue_power (n : Nat) (q : Queue) : (s.setReqQueue n q).power = s.power := rfl
@[simp] theorem State.setReqQueue_boot (n : Nat) (q : Queue) : (s.setReqQueue n q).boot = s.boot := rfl
@[simp] theorem State.setReqQueue_pins (n : Nat) (q : Queue) : (s.setReqQueue n q).pins = s.pins := rfl
@[simp] theorem State.setReqQueue_cores (n : Nat) (q : Queue) : (s.setReqQueue n q).cores = s.cores := rfl
@[simp] theorem State.setReqQueue_slowFrozen (n : Nat) (q : Queue) : (s.setReqQueue n q).slowFrozen = s.slowFrozen := rfl
@[simp] theorem State.setReqQueue_slow (n : Nat) (q : Queue) : (s.setReqQueue n q).slow = s.slow := rfl
@[simp] theorem State.setReqQueue_blockReset (n : Nat) (q : Queue) : (s.setReqQueue n q).blockReset = s.blockReset := rfl
@[simp] theorem State.setReqQueue_free (n : Nat) (q : Queue) : (s.setReqQueue n q).free = s.free := rfl
@[simp] theorem State.setReqQueue_out (n : Nat) (q : Queue) : (s.setReqQueue n q).out = s.out := rfl

@[simp] theorem State.setIngest_time (n : Nat) (p : IngestPort) : (s.setIngest n p).time = s.time := rfl
@[simp] theorem State.setIngest_pending (n : Nat) (p : IngestPort) : (s.setIngest n p).pending = s.pending := rfl
@[simp] theorem State.setIngest_dict (n : Nat) (p : IngestPort) : (s.setIngest n p).dict = s.dict := rfl
@[simp] theorem State.setIngest_reqs (n : Nat) (p : IngestPort) : (s.setIngest n p).reqs = s.reqs := rfl
@[simp] theorem State.setIngest_access (n : Nat) (p : IngestPort) : (s.setIngest n p).access = s.access := rfl
@[simp] theorem State.setIngest_nvm (n : Nat) (p : IngestPort) : (s.setIngest n p).nvm = s.nvm := rfl
@[simp] theorem State.setIngest_faults (n : Nat) (p : IngestPort) : (s.setIngest n p).faults = s.faults := rfl
@[simp] theorem State.setIngest_moraine (n : Nat) (p : IngestPort) : (s.setIngest n p).moraine = s.moraine := rfl
@[simp] theorem State.setIngest_ints (n : Nat) (p : IngestPort) : (s.setIngest n p).ints = s.ints := rfl
@[simp] theorem State.setIngest_host (n : Nat) (p : IngestPort) : (s.setIngest n p).host = s.host := rfl
@[simp] theorem State.setIngest_rings (n : Nat) (p : IngestPort) : (s.setIngest n p).rings = s.rings := rfl
@[simp] theorem State.setIngest_txn (n : Nat) (p : IngestPort) : (s.setIngest n p).txn = s.txn := rfl
@[simp] theorem State.setIngest_chans (n : Nat) (p : IngestPort) : (s.setIngest n p).chans = s.chans := rfl
@[simp] theorem State.setIngest_units (n : Nat) (p : IngestPort) : (s.setIngest n p).units = s.units := rfl
@[simp] theorem State.setIngest_reissue (n : Nat) (p : IngestPort) : (s.setIngest n p).reissue = s.reissue := rfl
@[simp] theorem State.setIngest_firn (n : Nat) (p : IngestPort) : (s.setIngest n p).firn = s.firn := rfl
@[simp] theorem State.setIngest_msCredit (n : Nat) (p : IngestPort) : (s.setIngest n p).msCredit = s.msCredit := rfl
@[simp] theorem State.setIngest_outBusy (n : Nat) (p : IngestPort) : (s.setIngest n p).outBusy = s.outBusy := rfl
@[simp] theorem State.setIngest_pool (n : Nat) (p : IngestPort) : (s.setIngest n p).pool = s.pool := rfl
@[simp] theorem State.setIngest_fbs (n : Nat) (p : IngestPort) : (s.setIngest n p).fbs = s.fbs := rfl
@[simp] theorem State.setIngest_tb (n : Nat) (p : IngestPort) : (s.setIngest n p).tb = s.tb := rfl
@[simp] theorem State.setIngest_recIn (n : Nat) (p : IngestPort) : (s.setIngest n p).recIn = s.recIn := rfl
@[simp] theorem State.setIngest_array (n : Nat) (p : IngestPort) : (s.setIngest n p).array = s.array := rfl
@[simp] theorem State.setIngest_ronox (n : Nat) (p : IngestPort) : (s.setIngest n p).ronox = s.ronox := rfl
@[simp] theorem State.setIngest_queues (n : Nat) (p : IngestPort) : (s.setIngest n p).queues = s.queues := rfl
@[simp] theorem State.setIngest_eth (n : Nat) (p : IngestPort) : (s.setIngest n p).eth = s.eth := rfl
@[simp] theorem State.setIngest_meters (n : Nat) (p : IngestPort) : (s.setIngest n p).meters = s.meters := rfl
@[simp] theorem State.setIngest_meterAt (n : Nat) (p : IngestPort) : (s.setIngest n p).meterAt = s.meterAt := rfl
@[simp] theorem State.setIngest_shaperAt (n : Nat) (p : IngestPort) : (s.setIngest n p).shaperAt = s.shaperAt := rfl
@[simp] theorem State.setIngest_mags (n : Nat) (p : IngestPort) : (s.setIngest n p).mags = s.mags := rfl
@[simp] theorem State.setIngest_recs (n : Nat) (p : IngestPort) : (s.setIngest n p).recs = s.recs := rfl
@[simp] theorem State.setIngest_magChunks (n : Nat) (p : IngestPort) : (s.setIngest n p).magChunks = s.magChunks := rfl
@[simp] theorem State.setIngest_dram (n : Nat) (p : IngestPort) : (s.setIngest n p).dram = s.dram := rfl
@[simp] theorem State.setIngest_dma (n : Nat) (p : IngestPort) : (s.setIngest n p).dma = s.dma := rfl
@[simp] theorem State.setIngest_power (n : Nat) (p : IngestPort) : (s.setIngest n p).power = s.power := rfl
@[simp] theorem State.setIngest_boot (n : Nat) (p : IngestPort) : (s.setIngest n p).boot = s.boot := rfl
@[simp] theorem State.setIngest_pins (n : Nat) (p : IngestPort) : (s.setIngest n p).pins = s.pins := rfl
@[simp] theorem State.setIngest_cores (n : Nat) (p : IngestPort) : (s.setIngest n p).cores = s.cores := rfl
@[simp] theorem State.setIngest_slowFrozen (n : Nat) (p : IngestPort) : (s.setIngest n p).slowFrozen = s.slowFrozen := rfl
@[simp] theorem State.setIngest_slow (n : Nat) (p : IngestPort) : (s.setIngest n p).slow = s.slow := rfl
@[simp] theorem State.setIngest_blockReset (n : Nat) (p : IngestPort) : (s.setIngest n p).blockReset = s.blockReset := rfl
@[simp] theorem State.setIngest_free (n : Nat) (p : IngestPort) : (s.setIngest n p).free = s.free := rfl
@[simp] theorem State.setIngest_out (n : Nat) (p : IngestPort) : (s.setIngest n p).out = s.out := rfl

@[simp] theorem State.setEth_time (n : Nat) (p : EthPort) : (s.setEth n p).time = s.time := rfl
@[simp] theorem State.setEth_pending (n : Nat) (p : EthPort) : (s.setEth n p).pending = s.pending := rfl
@[simp] theorem State.setEth_dict (n : Nat) (p : EthPort) : (s.setEth n p).dict = s.dict := rfl
@[simp] theorem State.setEth_reqs (n : Nat) (p : EthPort) : (s.setEth n p).reqs = s.reqs := rfl
@[simp] theorem State.setEth_access (n : Nat) (p : EthPort) : (s.setEth n p).access = s.access := rfl
@[simp] theorem State.setEth_nvm (n : Nat) (p : EthPort) : (s.setEth n p).nvm = s.nvm := rfl
@[simp] theorem State.setEth_faults (n : Nat) (p : EthPort) : (s.setEth n p).faults = s.faults := rfl
@[simp] theorem State.setEth_moraine (n : Nat) (p : EthPort) : (s.setEth n p).moraine = s.moraine := rfl
@[simp] theorem State.setEth_ints (n : Nat) (p : EthPort) : (s.setEth n p).ints = s.ints := rfl
@[simp] theorem State.setEth_host (n : Nat) (p : EthPort) : (s.setEth n p).host = s.host := rfl
@[simp] theorem State.setEth_rings (n : Nat) (p : EthPort) : (s.setEth n p).rings = s.rings := rfl
@[simp] theorem State.setEth_txn (n : Nat) (p : EthPort) : (s.setEth n p).txn = s.txn := rfl
@[simp] theorem State.setEth_chans (n : Nat) (p : EthPort) : (s.setEth n p).chans = s.chans := rfl
@[simp] theorem State.setEth_units (n : Nat) (p : EthPort) : (s.setEth n p).units = s.units := rfl
@[simp] theorem State.setEth_reissue (n : Nat) (p : EthPort) : (s.setEth n p).reissue = s.reissue := rfl
@[simp] theorem State.setEth_firn (n : Nat) (p : EthPort) : (s.setEth n p).firn = s.firn := rfl
@[simp] theorem State.setEth_msCredit (n : Nat) (p : EthPort) : (s.setEth n p).msCredit = s.msCredit := rfl
@[simp] theorem State.setEth_outBusy (n : Nat) (p : EthPort) : (s.setEth n p).outBusy = s.outBusy := rfl
@[simp] theorem State.setEth_ports (n : Nat) (p : EthPort) : (s.setEth n p).ports = s.ports := rfl
@[simp] theorem State.setEth_pool (n : Nat) (p : EthPort) : (s.setEth n p).pool = s.pool := rfl
@[simp] theorem State.setEth_fbs (n : Nat) (p : EthPort) : (s.setEth n p).fbs = s.fbs := rfl
@[simp] theorem State.setEth_tb (n : Nat) (p : EthPort) : (s.setEth n p).tb = s.tb := rfl
@[simp] theorem State.setEth_recIn (n : Nat) (p : EthPort) : (s.setEth n p).recIn = s.recIn := rfl
@[simp] theorem State.setEth_array (n : Nat) (p : EthPort) : (s.setEth n p).array = s.array := rfl
@[simp] theorem State.setEth_ronox (n : Nat) (p : EthPort) : (s.setEth n p).ronox = s.ronox := rfl
@[simp] theorem State.setEth_queues (n : Nat) (p : EthPort) : (s.setEth n p).queues = s.queues := rfl
@[simp] theorem State.setEth_meters (n : Nat) (p : EthPort) : (s.setEth n p).meters = s.meters := rfl
@[simp] theorem State.setEth_meterAt (n : Nat) (p : EthPort) : (s.setEth n p).meterAt = s.meterAt := rfl
@[simp] theorem State.setEth_shaperAt (n : Nat) (p : EthPort) : (s.setEth n p).shaperAt = s.shaperAt := rfl
@[simp] theorem State.setEth_mags (n : Nat) (p : EthPort) : (s.setEth n p).mags = s.mags := rfl
@[simp] theorem State.setEth_recs (n : Nat) (p : EthPort) : (s.setEth n p).recs = s.recs := rfl
@[simp] theorem State.setEth_magChunks (n : Nat) (p : EthPort) : (s.setEth n p).magChunks = s.magChunks := rfl
@[simp] theorem State.setEth_dram (n : Nat) (p : EthPort) : (s.setEth n p).dram = s.dram := rfl
@[simp] theorem State.setEth_dma (n : Nat) (p : EthPort) : (s.setEth n p).dma = s.dma := rfl
@[simp] theorem State.setEth_power (n : Nat) (p : EthPort) : (s.setEth n p).power = s.power := rfl
@[simp] theorem State.setEth_boot (n : Nat) (p : EthPort) : (s.setEth n p).boot = s.boot := rfl
@[simp] theorem State.setEth_pins (n : Nat) (p : EthPort) : (s.setEth n p).pins = s.pins := rfl
@[simp] theorem State.setEth_cores (n : Nat) (p : EthPort) : (s.setEth n p).cores = s.cores := rfl
@[simp] theorem State.setEth_slowFrozen (n : Nat) (p : EthPort) : (s.setEth n p).slowFrozen = s.slowFrozen := rfl
@[simp] theorem State.setEth_slow (n : Nat) (p : EthPort) : (s.setEth n p).slow = s.slow := rfl
@[simp] theorem State.setEth_blockReset (n : Nat) (p : EthPort) : (s.setEth n p).blockReset = s.blockReset := rfl
@[simp] theorem State.setEth_free (n : Nat) (p : EthPort) : (s.setEth n p).free = s.free := rfl
@[simp] theorem State.setEth_out (n : Nat) (p : EthPort) : (s.setEth n p).out = s.out := rfl

@[simp] theorem State.setQueue_time (n : Nat) (e : EgressQ) : (s.setQueue n e).time = s.time := rfl
@[simp] theorem State.setQueue_pending (n : Nat) (e : EgressQ) : (s.setQueue n e).pending = s.pending := rfl
@[simp] theorem State.setQueue_dict (n : Nat) (e : EgressQ) : (s.setQueue n e).dict = s.dict := rfl
@[simp] theorem State.setQueue_reqs (n : Nat) (e : EgressQ) : (s.setQueue n e).reqs = s.reqs := rfl
@[simp] theorem State.setQueue_access (n : Nat) (e : EgressQ) : (s.setQueue n e).access = s.access := rfl
@[simp] theorem State.setQueue_nvm (n : Nat) (e : EgressQ) : (s.setQueue n e).nvm = s.nvm := rfl
@[simp] theorem State.setQueue_faults (n : Nat) (e : EgressQ) : (s.setQueue n e).faults = s.faults := rfl
@[simp] theorem State.setQueue_moraine (n : Nat) (e : EgressQ) : (s.setQueue n e).moraine = s.moraine := rfl
@[simp] theorem State.setQueue_ints (n : Nat) (e : EgressQ) : (s.setQueue n e).ints = s.ints := rfl
@[simp] theorem State.setQueue_host (n : Nat) (e : EgressQ) : (s.setQueue n e).host = s.host := rfl
@[simp] theorem State.setQueue_rings (n : Nat) (e : EgressQ) : (s.setQueue n e).rings = s.rings := rfl
@[simp] theorem State.setQueue_txn (n : Nat) (e : EgressQ) : (s.setQueue n e).txn = s.txn := rfl
@[simp] theorem State.setQueue_chans (n : Nat) (e : EgressQ) : (s.setQueue n e).chans = s.chans := rfl
@[simp] theorem State.setQueue_units (n : Nat) (e : EgressQ) : (s.setQueue n e).units = s.units := rfl
@[simp] theorem State.setQueue_reissue (n : Nat) (e : EgressQ) : (s.setQueue n e).reissue = s.reissue := rfl
@[simp] theorem State.setQueue_firn (n : Nat) (e : EgressQ) : (s.setQueue n e).firn = s.firn := rfl
@[simp] theorem State.setQueue_msCredit (n : Nat) (e : EgressQ) : (s.setQueue n e).msCredit = s.msCredit := rfl
@[simp] theorem State.setQueue_outBusy (n : Nat) (e : EgressQ) : (s.setQueue n e).outBusy = s.outBusy := rfl
@[simp] theorem State.setQueue_ports (n : Nat) (e : EgressQ) : (s.setQueue n e).ports = s.ports := rfl
@[simp] theorem State.setQueue_pool (n : Nat) (e : EgressQ) : (s.setQueue n e).pool = s.pool := rfl
@[simp] theorem State.setQueue_fbs (n : Nat) (e : EgressQ) : (s.setQueue n e).fbs = s.fbs := rfl
@[simp] theorem State.setQueue_tb (n : Nat) (e : EgressQ) : (s.setQueue n e).tb = s.tb := rfl
@[simp] theorem State.setQueue_recIn (n : Nat) (e : EgressQ) : (s.setQueue n e).recIn = s.recIn := rfl
@[simp] theorem State.setQueue_array (n : Nat) (e : EgressQ) : (s.setQueue n e).array = s.array := rfl
@[simp] theorem State.setQueue_ronox (n : Nat) (e : EgressQ) : (s.setQueue n e).ronox = s.ronox := rfl
@[simp] theorem State.setQueue_eth (n : Nat) (e : EgressQ) : (s.setQueue n e).eth = s.eth := rfl
@[simp] theorem State.setQueue_meters (n : Nat) (e : EgressQ) : (s.setQueue n e).meters = s.meters := rfl
@[simp] theorem State.setQueue_meterAt (n : Nat) (e : EgressQ) : (s.setQueue n e).meterAt = s.meterAt := rfl
@[simp] theorem State.setQueue_shaperAt (n : Nat) (e : EgressQ) : (s.setQueue n e).shaperAt = s.shaperAt := rfl
@[simp] theorem State.setQueue_mags (n : Nat) (e : EgressQ) : (s.setQueue n e).mags = s.mags := rfl
@[simp] theorem State.setQueue_recs (n : Nat) (e : EgressQ) : (s.setQueue n e).recs = s.recs := rfl
@[simp] theorem State.setQueue_magChunks (n : Nat) (e : EgressQ) : (s.setQueue n e).magChunks = s.magChunks := rfl
@[simp] theorem State.setQueue_dram (n : Nat) (e : EgressQ) : (s.setQueue n e).dram = s.dram := rfl
@[simp] theorem State.setQueue_dma (n : Nat) (e : EgressQ) : (s.setQueue n e).dma = s.dma := rfl
@[simp] theorem State.setQueue_power (n : Nat) (e : EgressQ) : (s.setQueue n e).power = s.power := rfl
@[simp] theorem State.setQueue_boot (n : Nat) (e : EgressQ) : (s.setQueue n e).boot = s.boot := rfl
@[simp] theorem State.setQueue_pins (n : Nat) (e : EgressQ) : (s.setQueue n e).pins = s.pins := rfl
@[simp] theorem State.setQueue_cores (n : Nat) (e : EgressQ) : (s.setQueue n e).cores = s.cores := rfl
@[simp] theorem State.setQueue_slowFrozen (n : Nat) (e : EgressQ) : (s.setQueue n e).slowFrozen = s.slowFrozen := rfl
@[simp] theorem State.setQueue_slow (n : Nat) (e : EgressQ) : (s.setQueue n e).slow = s.slow := rfl
@[simp] theorem State.setQueue_blockReset (n : Nat) (e : EgressQ) : (s.setQueue n e).blockReset = s.blockReset := rfl
@[simp] theorem State.setQueue_free (n : Nat) (e : EgressQ) : (s.setQueue n e).free = s.free := rfl
@[simp] theorem State.setQueue_out (n : Nat) (e : EgressQ) : (s.setQueue n e).out = s.out := rfl

@[simp] theorem State.setMag_time (n : Nat) (m : Mag) : (s.setMag n m).time = s.time := rfl
@[simp] theorem State.setMag_pending (n : Nat) (m : Mag) : (s.setMag n m).pending = s.pending := rfl
@[simp] theorem State.setMag_dict (n : Nat) (m : Mag) : (s.setMag n m).dict = s.dict := rfl
@[simp] theorem State.setMag_reqs (n : Nat) (m : Mag) : (s.setMag n m).reqs = s.reqs := rfl
@[simp] theorem State.setMag_access (n : Nat) (m : Mag) : (s.setMag n m).access = s.access := rfl
@[simp] theorem State.setMag_nvm (n : Nat) (m : Mag) : (s.setMag n m).nvm = s.nvm := rfl
@[simp] theorem State.setMag_faults (n : Nat) (m : Mag) : (s.setMag n m).faults = s.faults := rfl
@[simp] theorem State.setMag_moraine (n : Nat) (m : Mag) : (s.setMag n m).moraine = s.moraine := rfl
@[simp] theorem State.setMag_ints (n : Nat) (m : Mag) : (s.setMag n m).ints = s.ints := rfl
@[simp] theorem State.setMag_host (n : Nat) (m : Mag) : (s.setMag n m).host = s.host := rfl
@[simp] theorem State.setMag_rings (n : Nat) (m : Mag) : (s.setMag n m).rings = s.rings := rfl
@[simp] theorem State.setMag_txn (n : Nat) (m : Mag) : (s.setMag n m).txn = s.txn := rfl
@[simp] theorem State.setMag_chans (n : Nat) (m : Mag) : (s.setMag n m).chans = s.chans := rfl
@[simp] theorem State.setMag_units (n : Nat) (m : Mag) : (s.setMag n m).units = s.units := rfl
@[simp] theorem State.setMag_reissue (n : Nat) (m : Mag) : (s.setMag n m).reissue = s.reissue := rfl
@[simp] theorem State.setMag_firn (n : Nat) (m : Mag) : (s.setMag n m).firn = s.firn := rfl
@[simp] theorem State.setMag_msCredit (n : Nat) (m : Mag) : (s.setMag n m).msCredit = s.msCredit := rfl
@[simp] theorem State.setMag_outBusy (n : Nat) (m : Mag) : (s.setMag n m).outBusy = s.outBusy := rfl
@[simp] theorem State.setMag_ports (n : Nat) (m : Mag) : (s.setMag n m).ports = s.ports := rfl
@[simp] theorem State.setMag_pool (n : Nat) (m : Mag) : (s.setMag n m).pool = s.pool := rfl
@[simp] theorem State.setMag_fbs (n : Nat) (m : Mag) : (s.setMag n m).fbs = s.fbs := rfl
@[simp] theorem State.setMag_tb (n : Nat) (m : Mag) : (s.setMag n m).tb = s.tb := rfl
@[simp] theorem State.setMag_recIn (n : Nat) (m : Mag) : (s.setMag n m).recIn = s.recIn := rfl
@[simp] theorem State.setMag_array (n : Nat) (m : Mag) : (s.setMag n m).array = s.array := rfl
@[simp] theorem State.setMag_ronox (n : Nat) (m : Mag) : (s.setMag n m).ronox = s.ronox := rfl
@[simp] theorem State.setMag_queues (n : Nat) (m : Mag) : (s.setMag n m).queues = s.queues := rfl
@[simp] theorem State.setMag_eth (n : Nat) (m : Mag) : (s.setMag n m).eth = s.eth := rfl
@[simp] theorem State.setMag_meters (n : Nat) (m : Mag) : (s.setMag n m).meters = s.meters := rfl
@[simp] theorem State.setMag_meterAt (n : Nat) (m : Mag) : (s.setMag n m).meterAt = s.meterAt := rfl
@[simp] theorem State.setMag_shaperAt (n : Nat) (m : Mag) : (s.setMag n m).shaperAt = s.shaperAt := rfl
@[simp] theorem State.setMag_recs (n : Nat) (m : Mag) : (s.setMag n m).recs = s.recs := rfl
@[simp] theorem State.setMag_magChunks (n : Nat) (m : Mag) : (s.setMag n m).magChunks = s.magChunks := rfl
@[simp] theorem State.setMag_dram (n : Nat) (m : Mag) : (s.setMag n m).dram = s.dram := rfl
@[simp] theorem State.setMag_dma (n : Nat) (m : Mag) : (s.setMag n m).dma = s.dma := rfl
@[simp] theorem State.setMag_power (n : Nat) (m : Mag) : (s.setMag n m).power = s.power := rfl
@[simp] theorem State.setMag_boot (n : Nat) (m : Mag) : (s.setMag n m).boot = s.boot := rfl
@[simp] theorem State.setMag_pins (n : Nat) (m : Mag) : (s.setMag n m).pins = s.pins := rfl
@[simp] theorem State.setMag_cores (n : Nat) (m : Mag) : (s.setMag n m).cores = s.cores := rfl
@[simp] theorem State.setMag_slowFrozen (n : Nat) (m : Mag) : (s.setMag n m).slowFrozen = s.slowFrozen := rfl
@[simp] theorem State.setMag_slow (n : Nat) (m : Mag) : (s.setMag n m).slow = s.slow := rfl
@[simp] theorem State.setMag_blockReset (n : Nat) (m : Mag) : (s.setMag n m).blockReset = s.blockReset := rfl
@[simp] theorem State.setMag_free (n : Nat) (m : Mag) : (s.setMag n m).free = s.free := rfl
@[simp] theorem State.setMag_out (n : Nat) (m : Mag) : (s.setMag n m).out = s.out := rfl

@[simp] theorem State.setRec_time (n : Nat) (r : Recording) : (s.setRec n r).time = s.time := rfl
@[simp] theorem State.setRec_pending (n : Nat) (r : Recording) : (s.setRec n r).pending = s.pending := rfl
@[simp] theorem State.setRec_dict (n : Nat) (r : Recording) : (s.setRec n r).dict = s.dict := rfl
@[simp] theorem State.setRec_reqs (n : Nat) (r : Recording) : (s.setRec n r).reqs = s.reqs := rfl
@[simp] theorem State.setRec_access (n : Nat) (r : Recording) : (s.setRec n r).access = s.access := rfl
@[simp] theorem State.setRec_nvm (n : Nat) (r : Recording) : (s.setRec n r).nvm = s.nvm := rfl
@[simp] theorem State.setRec_faults (n : Nat) (r : Recording) : (s.setRec n r).faults = s.faults := rfl
@[simp] theorem State.setRec_moraine (n : Nat) (r : Recording) : (s.setRec n r).moraine = s.moraine := rfl
@[simp] theorem State.setRec_ints (n : Nat) (r : Recording) : (s.setRec n r).ints = s.ints := rfl
@[simp] theorem State.setRec_host (n : Nat) (r : Recording) : (s.setRec n r).host = s.host := rfl
@[simp] theorem State.setRec_rings (n : Nat) (r : Recording) : (s.setRec n r).rings = s.rings := rfl
@[simp] theorem State.setRec_txn (n : Nat) (r : Recording) : (s.setRec n r).txn = s.txn := rfl
@[simp] theorem State.setRec_chans (n : Nat) (r : Recording) : (s.setRec n r).chans = s.chans := rfl
@[simp] theorem State.setRec_units (n : Nat) (r : Recording) : (s.setRec n r).units = s.units := rfl
@[simp] theorem State.setRec_reissue (n : Nat) (r : Recording) : (s.setRec n r).reissue = s.reissue := rfl
@[simp] theorem State.setRec_firn (n : Nat) (r : Recording) : (s.setRec n r).firn = s.firn := rfl
@[simp] theorem State.setRec_msCredit (n : Nat) (r : Recording) : (s.setRec n r).msCredit = s.msCredit := rfl
@[simp] theorem State.setRec_outBusy (n : Nat) (r : Recording) : (s.setRec n r).outBusy = s.outBusy := rfl
@[simp] theorem State.setRec_ports (n : Nat) (r : Recording) : (s.setRec n r).ports = s.ports := rfl
@[simp] theorem State.setRec_pool (n : Nat) (r : Recording) : (s.setRec n r).pool = s.pool := rfl
@[simp] theorem State.setRec_fbs (n : Nat) (r : Recording) : (s.setRec n r).fbs = s.fbs := rfl
@[simp] theorem State.setRec_tb (n : Nat) (r : Recording) : (s.setRec n r).tb = s.tb := rfl
@[simp] theorem State.setRec_recIn (n : Nat) (r : Recording) : (s.setRec n r).recIn = s.recIn := rfl
@[simp] theorem State.setRec_array (n : Nat) (r : Recording) : (s.setRec n r).array = s.array := rfl
@[simp] theorem State.setRec_ronox (n : Nat) (r : Recording) : (s.setRec n r).ronox = s.ronox := rfl
@[simp] theorem State.setRec_queues (n : Nat) (r : Recording) : (s.setRec n r).queues = s.queues := rfl
@[simp] theorem State.setRec_eth (n : Nat) (r : Recording) : (s.setRec n r).eth = s.eth := rfl
@[simp] theorem State.setRec_meters (n : Nat) (r : Recording) : (s.setRec n r).meters = s.meters := rfl
@[simp] theorem State.setRec_meterAt (n : Nat) (r : Recording) : (s.setRec n r).meterAt = s.meterAt := rfl
@[simp] theorem State.setRec_shaperAt (n : Nat) (r : Recording) : (s.setRec n r).shaperAt = s.shaperAt := rfl
@[simp] theorem State.setRec_mags (n : Nat) (r : Recording) : (s.setRec n r).mags = s.mags := rfl
@[simp] theorem State.setRec_magChunks (n : Nat) (r : Recording) : (s.setRec n r).magChunks = s.magChunks := rfl
@[simp] theorem State.setRec_dram (n : Nat) (r : Recording) : (s.setRec n r).dram = s.dram := rfl
@[simp] theorem State.setRec_dma (n : Nat) (r : Recording) : (s.setRec n r).dma = s.dma := rfl
@[simp] theorem State.setRec_power (n : Nat) (r : Recording) : (s.setRec n r).power = s.power := rfl
@[simp] theorem State.setRec_boot (n : Nat) (r : Recording) : (s.setRec n r).boot = s.boot := rfl
@[simp] theorem State.setRec_pins (n : Nat) (r : Recording) : (s.setRec n r).pins = s.pins := rfl
@[simp] theorem State.setRec_cores (n : Nat) (r : Recording) : (s.setRec n r).cores = s.cores := rfl
@[simp] theorem State.setRec_slowFrozen (n : Nat) (r : Recording) : (s.setRec n r).slowFrozen = s.slowFrozen := rfl
@[simp] theorem State.setRec_slow (n : Nat) (r : Recording) : (s.setRec n r).slow = s.slow := rfl
@[simp] theorem State.setRec_blockReset (n : Nat) (r : Recording) : (s.setRec n r).blockReset = s.blockReset := rfl
@[simp] theorem State.setRec_free (n : Nat) (r : Recording) : (s.setRec n r).free = s.free := rfl
@[simp] theorem State.setRec_out (n : Nat) (r : Recording) : (s.setRec n r).out = s.out := rfl

@[simp] theorem State.setDma_time (n : Nat) (d : Dma) : (s.setDma n d).time = s.time := rfl
@[simp] theorem State.setDma_pending (n : Nat) (d : Dma) : (s.setDma n d).pending = s.pending := rfl
@[simp] theorem State.setDma_dict (n : Nat) (d : Dma) : (s.setDma n d).dict = s.dict := rfl
@[simp] theorem State.setDma_reqs (n : Nat) (d : Dma) : (s.setDma n d).reqs = s.reqs := rfl
@[simp] theorem State.setDma_access (n : Nat) (d : Dma) : (s.setDma n d).access = s.access := rfl
@[simp] theorem State.setDma_nvm (n : Nat) (d : Dma) : (s.setDma n d).nvm = s.nvm := rfl
@[simp] theorem State.setDma_faults (n : Nat) (d : Dma) : (s.setDma n d).faults = s.faults := rfl
@[simp] theorem State.setDma_moraine (n : Nat) (d : Dma) : (s.setDma n d).moraine = s.moraine := rfl
@[simp] theorem State.setDma_ints (n : Nat) (d : Dma) : (s.setDma n d).ints = s.ints := rfl
@[simp] theorem State.setDma_host (n : Nat) (d : Dma) : (s.setDma n d).host = s.host := rfl
@[simp] theorem State.setDma_rings (n : Nat) (d : Dma) : (s.setDma n d).rings = s.rings := rfl
@[simp] theorem State.setDma_txn (n : Nat) (d : Dma) : (s.setDma n d).txn = s.txn := rfl
@[simp] theorem State.setDma_chans (n : Nat) (d : Dma) : (s.setDma n d).chans = s.chans := rfl
@[simp] theorem State.setDma_units (n : Nat) (d : Dma) : (s.setDma n d).units = s.units := rfl
@[simp] theorem State.setDma_reissue (n : Nat) (d : Dma) : (s.setDma n d).reissue = s.reissue := rfl
@[simp] theorem State.setDma_firn (n : Nat) (d : Dma) : (s.setDma n d).firn = s.firn := rfl
@[simp] theorem State.setDma_msCredit (n : Nat) (d : Dma) : (s.setDma n d).msCredit = s.msCredit := rfl
@[simp] theorem State.setDma_outBusy (n : Nat) (d : Dma) : (s.setDma n d).outBusy = s.outBusy := rfl
@[simp] theorem State.setDma_ports (n : Nat) (d : Dma) : (s.setDma n d).ports = s.ports := rfl
@[simp] theorem State.setDma_pool (n : Nat) (d : Dma) : (s.setDma n d).pool = s.pool := rfl
@[simp] theorem State.setDma_fbs (n : Nat) (d : Dma) : (s.setDma n d).fbs = s.fbs := rfl
@[simp] theorem State.setDma_tb (n : Nat) (d : Dma) : (s.setDma n d).tb = s.tb := rfl
@[simp] theorem State.setDma_recIn (n : Nat) (d : Dma) : (s.setDma n d).recIn = s.recIn := rfl
@[simp] theorem State.setDma_array (n : Nat) (d : Dma) : (s.setDma n d).array = s.array := rfl
@[simp] theorem State.setDma_ronox (n : Nat) (d : Dma) : (s.setDma n d).ronox = s.ronox := rfl
@[simp] theorem State.setDma_queues (n : Nat) (d : Dma) : (s.setDma n d).queues = s.queues := rfl
@[simp] theorem State.setDma_eth (n : Nat) (d : Dma) : (s.setDma n d).eth = s.eth := rfl
@[simp] theorem State.setDma_meters (n : Nat) (d : Dma) : (s.setDma n d).meters = s.meters := rfl
@[simp] theorem State.setDma_meterAt (n : Nat) (d : Dma) : (s.setDma n d).meterAt = s.meterAt := rfl
@[simp] theorem State.setDma_shaperAt (n : Nat) (d : Dma) : (s.setDma n d).shaperAt = s.shaperAt := rfl
@[simp] theorem State.setDma_mags (n : Nat) (d : Dma) : (s.setDma n d).mags = s.mags := rfl
@[simp] theorem State.setDma_recs (n : Nat) (d : Dma) : (s.setDma n d).recs = s.recs := rfl
@[simp] theorem State.setDma_magChunks (n : Nat) (d : Dma) : (s.setDma n d).magChunks = s.magChunks := rfl
@[simp] theorem State.setDma_dram (n : Nat) (d : Dma) : (s.setDma n d).dram = s.dram := rfl
@[simp] theorem State.setDma_power (n : Nat) (d : Dma) : (s.setDma n d).power = s.power := rfl
@[simp] theorem State.setDma_boot (n : Nat) (d : Dma) : (s.setDma n d).boot = s.boot := rfl
@[simp] theorem State.setDma_pins (n : Nat) (d : Dma) : (s.setDma n d).pins = s.pins := rfl
@[simp] theorem State.setDma_cores (n : Nat) (d : Dma) : (s.setDma n d).cores = s.cores := rfl
@[simp] theorem State.setDma_slowFrozen (n : Nat) (d : Dma) : (s.setDma n d).slowFrozen = s.slowFrozen := rfl
@[simp] theorem State.setDma_slow (n : Nat) (d : Dma) : (s.setDma n d).slow = s.slow := rfl
@[simp] theorem State.setDma_blockReset (n : Nat) (d : Dma) : (s.setDma n d).blockReset = s.blockReset := rfl
@[simp] theorem State.setDma_free (n : Nat) (d : Dma) : (s.setDma n d).free = s.free := rfl
@[simp] theorem State.setDma_out (n : Nat) (d : Dma) : (s.setDma n d).out = s.out := rfl

@[simp] theorem State.setFlash_time (n : Nat) (x : FlashRegion) : (s.setFlash n x).time = s.time := rfl
@[simp] theorem State.setFlash_pending (n : Nat) (x : FlashRegion) : (s.setFlash n x).pending = s.pending := rfl
@[simp] theorem State.setFlash_dict (n : Nat) (x : FlashRegion) : (s.setFlash n x).dict = s.dict := rfl
@[simp] theorem State.setFlash_reqs (n : Nat) (x : FlashRegion) : (s.setFlash n x).reqs = s.reqs := rfl
@[simp] theorem State.setFlash_access (n : Nat) (x : FlashRegion) : (s.setFlash n x).access = s.access := rfl
@[simp] theorem State.setFlash_nvm (n : Nat) (x : FlashRegion) : (s.setFlash n x).nvm = s.nvm := rfl
@[simp] theorem State.setFlash_faults (n : Nat) (x : FlashRegion) : (s.setFlash n x).faults = s.faults := rfl
@[simp] theorem State.setFlash_moraine (n : Nat) (x : FlashRegion) : (s.setFlash n x).moraine = s.moraine := rfl
@[simp] theorem State.setFlash_ints (n : Nat) (x : FlashRegion) : (s.setFlash n x).ints = s.ints := rfl
@[simp] theorem State.setFlash_host (n : Nat) (x : FlashRegion) : (s.setFlash n x).host = s.host := rfl
@[simp] theorem State.setFlash_rings (n : Nat) (x : FlashRegion) : (s.setFlash n x).rings = s.rings := rfl
@[simp] theorem State.setFlash_txn (n : Nat) (x : FlashRegion) : (s.setFlash n x).txn = s.txn := rfl
@[simp] theorem State.setFlash_chans (n : Nat) (x : FlashRegion) : (s.setFlash n x).chans = s.chans := rfl
@[simp] theorem State.setFlash_units (n : Nat) (x : FlashRegion) : (s.setFlash n x).units = s.units := rfl
@[simp] theorem State.setFlash_reissue (n : Nat) (x : FlashRegion) : (s.setFlash n x).reissue = s.reissue := rfl
@[simp] theorem State.setFlash_firn (n : Nat) (x : FlashRegion) : (s.setFlash n x).firn = s.firn := rfl
@[simp] theorem State.setFlash_msCredit (n : Nat) (x : FlashRegion) : (s.setFlash n x).msCredit = s.msCredit := rfl
@[simp] theorem State.setFlash_outBusy (n : Nat) (x : FlashRegion) : (s.setFlash n x).outBusy = s.outBusy := rfl
@[simp] theorem State.setFlash_ports (n : Nat) (x : FlashRegion) : (s.setFlash n x).ports = s.ports := rfl
@[simp] theorem State.setFlash_pool (n : Nat) (x : FlashRegion) : (s.setFlash n x).pool = s.pool := rfl
@[simp] theorem State.setFlash_fbs (n : Nat) (x : FlashRegion) : (s.setFlash n x).fbs = s.fbs := rfl
@[simp] theorem State.setFlash_tb (n : Nat) (x : FlashRegion) : (s.setFlash n x).tb = s.tb := rfl
@[simp] theorem State.setFlash_recIn (n : Nat) (x : FlashRegion) : (s.setFlash n x).recIn = s.recIn := rfl
@[simp] theorem State.setFlash_array (n : Nat) (x : FlashRegion) : (s.setFlash n x).array = s.array := rfl
@[simp] theorem State.setFlash_ronox (n : Nat) (x : FlashRegion) : (s.setFlash n x).ronox = s.ronox := rfl
@[simp] theorem State.setFlash_queues (n : Nat) (x : FlashRegion) : (s.setFlash n x).queues = s.queues := rfl
@[simp] theorem State.setFlash_eth (n : Nat) (x : FlashRegion) : (s.setFlash n x).eth = s.eth := rfl
@[simp] theorem State.setFlash_meters (n : Nat) (x : FlashRegion) : (s.setFlash n x).meters = s.meters := rfl
@[simp] theorem State.setFlash_meterAt (n : Nat) (x : FlashRegion) : (s.setFlash n x).meterAt = s.meterAt := rfl
@[simp] theorem State.setFlash_shaperAt (n : Nat) (x : FlashRegion) : (s.setFlash n x).shaperAt = s.shaperAt := rfl
@[simp] theorem State.setFlash_mags (n : Nat) (x : FlashRegion) : (s.setFlash n x).mags = s.mags := rfl
@[simp] theorem State.setFlash_recs (n : Nat) (x : FlashRegion) : (s.setFlash n x).recs = s.recs := rfl
@[simp] theorem State.setFlash_magChunks (n : Nat) (x : FlashRegion) : (s.setFlash n x).magChunks = s.magChunks := rfl
@[simp] theorem State.setFlash_dram (n : Nat) (x : FlashRegion) : (s.setFlash n x).dram = s.dram := rfl
@[simp] theorem State.setFlash_dma (n : Nat) (x : FlashRegion) : (s.setFlash n x).dma = s.dma := rfl
@[simp] theorem State.setFlash_power (n : Nat) (x : FlashRegion) : (s.setFlash n x).power = s.power := rfl
@[simp] theorem State.setFlash_pins (n : Nat) (x : FlashRegion) : (s.setFlash n x).pins = s.pins := rfl
@[simp] theorem State.setFlash_cores (n : Nat) (x : FlashRegion) : (s.setFlash n x).cores = s.cores := rfl
@[simp] theorem State.setFlash_slowFrozen (n : Nat) (x : FlashRegion) : (s.setFlash n x).slowFrozen = s.slowFrozen := rfl
@[simp] theorem State.setFlash_slow (n : Nat) (x : FlashRegion) : (s.setFlash n x).slow = s.slow := rfl
@[simp] theorem State.setFlash_blockReset (n : Nat) (x : FlashRegion) : (s.setFlash n x).blockReset = s.blockReset := rfl
@[simp] theorem State.setFlash_free (n : Nat) (x : FlashRegion) : (s.setFlash n x).free = s.free := rfl
@[simp] theorem State.setFlash_out (n : Nat) (x : FlashRegion) : (s.setFlash n x).out = s.out := rfl

@[simp] theorem State.setCore_time (n : Nat) (c : Core') : (s.setCore n c).time = s.time := rfl
@[simp] theorem State.setCore_pending (n : Nat) (c : Core') : (s.setCore n c).pending = s.pending := rfl
@[simp] theorem State.setCore_dict (n : Nat) (c : Core') : (s.setCore n c).dict = s.dict := rfl
@[simp] theorem State.setCore_reqs (n : Nat) (c : Core') : (s.setCore n c).reqs = s.reqs := rfl
@[simp] theorem State.setCore_access (n : Nat) (c : Core') : (s.setCore n c).access = s.access := rfl
@[simp] theorem State.setCore_nvm (n : Nat) (c : Core') : (s.setCore n c).nvm = s.nvm := rfl
@[simp] theorem State.setCore_faults (n : Nat) (c : Core') : (s.setCore n c).faults = s.faults := rfl
@[simp] theorem State.setCore_moraine (n : Nat) (c : Core') : (s.setCore n c).moraine = s.moraine := rfl
@[simp] theorem State.setCore_ints (n : Nat) (c : Core') : (s.setCore n c).ints = s.ints := rfl
@[simp] theorem State.setCore_host (n : Nat) (c : Core') : (s.setCore n c).host = s.host := rfl
@[simp] theorem State.setCore_rings (n : Nat) (c : Core') : (s.setCore n c).rings = s.rings := rfl
@[simp] theorem State.setCore_txn (n : Nat) (c : Core') : (s.setCore n c).txn = s.txn := rfl
@[simp] theorem State.setCore_chans (n : Nat) (c : Core') : (s.setCore n c).chans = s.chans := rfl
@[simp] theorem State.setCore_units (n : Nat) (c : Core') : (s.setCore n c).units = s.units := rfl
@[simp] theorem State.setCore_reissue (n : Nat) (c : Core') : (s.setCore n c).reissue = s.reissue := rfl
@[simp] theorem State.setCore_firn (n : Nat) (c : Core') : (s.setCore n c).firn = s.firn := rfl
@[simp] theorem State.setCore_msCredit (n : Nat) (c : Core') : (s.setCore n c).msCredit = s.msCredit := rfl
@[simp] theorem State.setCore_outBusy (n : Nat) (c : Core') : (s.setCore n c).outBusy = s.outBusy := rfl
@[simp] theorem State.setCore_ports (n : Nat) (c : Core') : (s.setCore n c).ports = s.ports := rfl
@[simp] theorem State.setCore_pool (n : Nat) (c : Core') : (s.setCore n c).pool = s.pool := rfl
@[simp] theorem State.setCore_fbs (n : Nat) (c : Core') : (s.setCore n c).fbs = s.fbs := rfl
@[simp] theorem State.setCore_tb (n : Nat) (c : Core') : (s.setCore n c).tb = s.tb := rfl
@[simp] theorem State.setCore_recIn (n : Nat) (c : Core') : (s.setCore n c).recIn = s.recIn := rfl
@[simp] theorem State.setCore_array (n : Nat) (c : Core') : (s.setCore n c).array = s.array := rfl
@[simp] theorem State.setCore_ronox (n : Nat) (c : Core') : (s.setCore n c).ronox = s.ronox := rfl
@[simp] theorem State.setCore_queues (n : Nat) (c : Core') : (s.setCore n c).queues = s.queues := rfl
@[simp] theorem State.setCore_eth (n : Nat) (c : Core') : (s.setCore n c).eth = s.eth := rfl
@[simp] theorem State.setCore_meters (n : Nat) (c : Core') : (s.setCore n c).meters = s.meters := rfl
@[simp] theorem State.setCore_meterAt (n : Nat) (c : Core') : (s.setCore n c).meterAt = s.meterAt := rfl
@[simp] theorem State.setCore_shaperAt (n : Nat) (c : Core') : (s.setCore n c).shaperAt = s.shaperAt := rfl
@[simp] theorem State.setCore_mags (n : Nat) (c : Core') : (s.setCore n c).mags = s.mags := rfl
@[simp] theorem State.setCore_recs (n : Nat) (c : Core') : (s.setCore n c).recs = s.recs := rfl
@[simp] theorem State.setCore_magChunks (n : Nat) (c : Core') : (s.setCore n c).magChunks = s.magChunks := rfl
@[simp] theorem State.setCore_dram (n : Nat) (c : Core') : (s.setCore n c).dram = s.dram := rfl
@[simp] theorem State.setCore_dma (n : Nat) (c : Core') : (s.setCore n c).dma = s.dma := rfl
@[simp] theorem State.setCore_power (n : Nat) (c : Core') : (s.setCore n c).power = s.power := rfl
@[simp] theorem State.setCore_boot (n : Nat) (c : Core') : (s.setCore n c).boot = s.boot := rfl
@[simp] theorem State.setCore_pins (n : Nat) (c : Core') : (s.setCore n c).pins = s.pins := rfl
@[simp] theorem State.setCore_slowFrozen (n : Nat) (c : Core') : (s.setCore n c).slowFrozen = s.slowFrozen := rfl
@[simp] theorem State.setCore_slow (n : Nat) (c : Core') : (s.setCore n c).slow = s.slow := rfl
@[simp] theorem State.setCore_blockReset (n : Nat) (c : Core') : (s.setCore n c).blockReset = s.blockReset := rfl
@[simp] theorem State.setCore_free (n : Nat) (c : Core') : (s.setCore n c).free = s.free := rfl
@[simp] theorem State.setCore_out (n : Nat) (c : Core') : (s.setCore n c).out = s.out := rfl

@[simp] theorem State.setPeer_time (n : Nat) (p : Member) : (s.setPeer n p).time = s.time := rfl
@[simp] theorem State.setPeer_pending (n : Nat) (p : Member) : (s.setPeer n p).pending = s.pending := rfl
@[simp] theorem State.setPeer_dict (n : Nat) (p : Member) : (s.setPeer n p).dict = s.dict := rfl
@[simp] theorem State.setPeer_reqs (n : Nat) (p : Member) : (s.setPeer n p).reqs = s.reqs := rfl
@[simp] theorem State.setPeer_access (n : Nat) (p : Member) : (s.setPeer n p).access = s.access := rfl
@[simp] theorem State.setPeer_nvm (n : Nat) (p : Member) : (s.setPeer n p).nvm = s.nvm := rfl
@[simp] theorem State.setPeer_faults (n : Nat) (p : Member) : (s.setPeer n p).faults = s.faults := rfl
@[simp] theorem State.setPeer_moraine (n : Nat) (p : Member) : (s.setPeer n p).moraine = s.moraine := rfl
@[simp] theorem State.setPeer_ints (n : Nat) (p : Member) : (s.setPeer n p).ints = s.ints := rfl
@[simp] theorem State.setPeer_host (n : Nat) (p : Member) : (s.setPeer n p).host = s.host := rfl
@[simp] theorem State.setPeer_rings (n : Nat) (p : Member) : (s.setPeer n p).rings = s.rings := rfl
@[simp] theorem State.setPeer_txn (n : Nat) (p : Member) : (s.setPeer n p).txn = s.txn := rfl
@[simp] theorem State.setPeer_chans (n : Nat) (p : Member) : (s.setPeer n p).chans = s.chans := rfl
@[simp] theorem State.setPeer_units (n : Nat) (p : Member) : (s.setPeer n p).units = s.units := rfl
@[simp] theorem State.setPeer_reissue (n : Nat) (p : Member) : (s.setPeer n p).reissue = s.reissue := rfl
@[simp] theorem State.setPeer_firn (n : Nat) (p : Member) : (s.setPeer n p).firn = s.firn := rfl
@[simp] theorem State.setPeer_msCredit (n : Nat) (p : Member) : (s.setPeer n p).msCredit = s.msCredit := rfl
@[simp] theorem State.setPeer_outBusy (n : Nat) (p : Member) : (s.setPeer n p).outBusy = s.outBusy := rfl
@[simp] theorem State.setPeer_ports (n : Nat) (p : Member) : (s.setPeer n p).ports = s.ports := rfl
@[simp] theorem State.setPeer_pool (n : Nat) (p : Member) : (s.setPeer n p).pool = s.pool := rfl
@[simp] theorem State.setPeer_fbs (n : Nat) (p : Member) : (s.setPeer n p).fbs = s.fbs := rfl
@[simp] theorem State.setPeer_tb (n : Nat) (p : Member) : (s.setPeer n p).tb = s.tb := rfl
@[simp] theorem State.setPeer_recIn (n : Nat) (p : Member) : (s.setPeer n p).recIn = s.recIn := rfl
@[simp] theorem State.setPeer_ronox (n : Nat) (p : Member) : (s.setPeer n p).ronox = s.ronox := rfl
@[simp] theorem State.setPeer_queues (n : Nat) (p : Member) : (s.setPeer n p).queues = s.queues := rfl
@[simp] theorem State.setPeer_eth (n : Nat) (p : Member) : (s.setPeer n p).eth = s.eth := rfl
@[simp] theorem State.setPeer_meters (n : Nat) (p : Member) : (s.setPeer n p).meters = s.meters := rfl
@[simp] theorem State.setPeer_meterAt (n : Nat) (p : Member) : (s.setPeer n p).meterAt = s.meterAt := rfl
@[simp] theorem State.setPeer_shaperAt (n : Nat) (p : Member) : (s.setPeer n p).shaperAt = s.shaperAt := rfl
@[simp] theorem State.setPeer_mags (n : Nat) (p : Member) : (s.setPeer n p).mags = s.mags := rfl
@[simp] theorem State.setPeer_recs (n : Nat) (p : Member) : (s.setPeer n p).recs = s.recs := rfl
@[simp] theorem State.setPeer_magChunks (n : Nat) (p : Member) : (s.setPeer n p).magChunks = s.magChunks := rfl
@[simp] theorem State.setPeer_dram (n : Nat) (p : Member) : (s.setPeer n p).dram = s.dram := rfl
@[simp] theorem State.setPeer_dma (n : Nat) (p : Member) : (s.setPeer n p).dma = s.dma := rfl
@[simp] theorem State.setPeer_power (n : Nat) (p : Member) : (s.setPeer n p).power = s.power := rfl
@[simp] theorem State.setPeer_boot (n : Nat) (p : Member) : (s.setPeer n p).boot = s.boot := rfl
@[simp] theorem State.setPeer_pins (n : Nat) (p : Member) : (s.setPeer n p).pins = s.pins := rfl
@[simp] theorem State.setPeer_cores (n : Nat) (p : Member) : (s.setPeer n p).cores = s.cores := rfl
@[simp] theorem State.setPeer_slowFrozen (n : Nat) (p : Member) : (s.setPeer n p).slowFrozen = s.slowFrozen := rfl
@[simp] theorem State.setPeer_slow (n : Nat) (p : Member) : (s.setPeer n p).slow = s.slow := rfl
@[simp] theorem State.setPeer_blockReset (n : Nat) (p : Member) : (s.setPeer n p).blockReset = s.blockReset := rfl
@[simp] theorem State.setPeer_free (n : Nat) (p : Member) : (s.setPeer n p).free = s.free := rfl
@[simp] theorem State.setPeer_out (n : Nat) (p : Member) : (s.setPeer n p).out = s.out := rfl

@[simp] theorem State.setPort_time (n : Nat) (p : RonoxPort) : (s.setPort n p).time = s.time := rfl
@[simp] theorem State.setPort_pending (n : Nat) (p : RonoxPort) : (s.setPort n p).pending = s.pending := rfl
@[simp] theorem State.setPort_dict (n : Nat) (p : RonoxPort) : (s.setPort n p).dict = s.dict := rfl
@[simp] theorem State.setPort_reqs (n : Nat) (p : RonoxPort) : (s.setPort n p).reqs = s.reqs := rfl
@[simp] theorem State.setPort_access (n : Nat) (p : RonoxPort) : (s.setPort n p).access = s.access := rfl
@[simp] theorem State.setPort_nvm (n : Nat) (p : RonoxPort) : (s.setPort n p).nvm = s.nvm := rfl
@[simp] theorem State.setPort_faults (n : Nat) (p : RonoxPort) : (s.setPort n p).faults = s.faults := rfl
@[simp] theorem State.setPort_moraine (n : Nat) (p : RonoxPort) : (s.setPort n p).moraine = s.moraine := rfl
@[simp] theorem State.setPort_ints (n : Nat) (p : RonoxPort) : (s.setPort n p).ints = s.ints := rfl
@[simp] theorem State.setPort_host (n : Nat) (p : RonoxPort) : (s.setPort n p).host = s.host := rfl
@[simp] theorem State.setPort_rings (n : Nat) (p : RonoxPort) : (s.setPort n p).rings = s.rings := rfl
@[simp] theorem State.setPort_txn (n : Nat) (p : RonoxPort) : (s.setPort n p).txn = s.txn := rfl
@[simp] theorem State.setPort_chans (n : Nat) (p : RonoxPort) : (s.setPort n p).chans = s.chans := rfl
@[simp] theorem State.setPort_units (n : Nat) (p : RonoxPort) : (s.setPort n p).units = s.units := rfl
@[simp] theorem State.setPort_reissue (n : Nat) (p : RonoxPort) : (s.setPort n p).reissue = s.reissue := rfl
@[simp] theorem State.setPort_firn (n : Nat) (p : RonoxPort) : (s.setPort n p).firn = s.firn := rfl
@[simp] theorem State.setPort_msCredit (n : Nat) (p : RonoxPort) : (s.setPort n p).msCredit = s.msCredit := rfl
@[simp] theorem State.setPort_outBusy (n : Nat) (p : RonoxPort) : (s.setPort n p).outBusy = s.outBusy := rfl
@[simp] theorem State.setPort_ports (n : Nat) (p : RonoxPort) : (s.setPort n p).ports = s.ports := rfl
@[simp] theorem State.setPort_pool (n : Nat) (p : RonoxPort) : (s.setPort n p).pool = s.pool := rfl
@[simp] theorem State.setPort_fbs (n : Nat) (p : RonoxPort) : (s.setPort n p).fbs = s.fbs := rfl
@[simp] theorem State.setPort_tb (n : Nat) (p : RonoxPort) : (s.setPort n p).tb = s.tb := rfl
@[simp] theorem State.setPort_recIn (n : Nat) (p : RonoxPort) : (s.setPort n p).recIn = s.recIn := rfl
@[simp] theorem State.setPort_array (n : Nat) (p : RonoxPort) : (s.setPort n p).array = s.array := rfl
@[simp] theorem State.setPort_queues (n : Nat) (p : RonoxPort) : (s.setPort n p).queues = s.queues := rfl
@[simp] theorem State.setPort_eth (n : Nat) (p : RonoxPort) : (s.setPort n p).eth = s.eth := rfl
@[simp] theorem State.setPort_meters (n : Nat) (p : RonoxPort) : (s.setPort n p).meters = s.meters := rfl
@[simp] theorem State.setPort_meterAt (n : Nat) (p : RonoxPort) : (s.setPort n p).meterAt = s.meterAt := rfl
@[simp] theorem State.setPort_shaperAt (n : Nat) (p : RonoxPort) : (s.setPort n p).shaperAt = s.shaperAt := rfl
@[simp] theorem State.setPort_mags (n : Nat) (p : RonoxPort) : (s.setPort n p).mags = s.mags := rfl
@[simp] theorem State.setPort_recs (n : Nat) (p : RonoxPort) : (s.setPort n p).recs = s.recs := rfl
@[simp] theorem State.setPort_magChunks (n : Nat) (p : RonoxPort) : (s.setPort n p).magChunks = s.magChunks := rfl
@[simp] theorem State.setPort_dram (n : Nat) (p : RonoxPort) : (s.setPort n p).dram = s.dram := rfl
@[simp] theorem State.setPort_dma (n : Nat) (p : RonoxPort) : (s.setPort n p).dma = s.dma := rfl
@[simp] theorem State.setPort_power (n : Nat) (p : RonoxPort) : (s.setPort n p).power = s.power := rfl
@[simp] theorem State.setPort_boot (n : Nat) (p : RonoxPort) : (s.setPort n p).boot = s.boot := rfl
@[simp] theorem State.setPort_pins (n : Nat) (p : RonoxPort) : (s.setPort n p).pins = s.pins := rfl
@[simp] theorem State.setPort_cores (n : Nat) (p : RonoxPort) : (s.setPort n p).cores = s.cores := rfl
@[simp] theorem State.setPort_slowFrozen (n : Nat) (p : RonoxPort) : (s.setPort n p).slowFrozen = s.slowFrozen := rfl
@[simp] theorem State.setPort_slow (n : Nat) (p : RonoxPort) : (s.setPort n p).slow = s.slow := rfl
@[simp] theorem State.setPort_blockReset (n : Nat) (p : RonoxPort) : (s.setPort n p).blockReset = s.blockReset := rfl
@[simp] theorem State.setPort_free (n : Nat) (p : RonoxPort) : (s.setPort n p).free = s.free := rfl
@[simp] theorem State.setPort_out (n : Nat) (p : RonoxPort) : (s.setPort n p).out = s.out := rfl

/-! ### Reads of what an update sets -/

@[simp] theorem State.chan_setChan (n : Nat) (c : Chan) : (s.setChan n c).chan n = c := by
  simp [State.chan, State.setChan]

theorem State.chan_setChan_other (n i : Nat) (c : Chan) (h : i ≠ n) : (s.setChan n c).chan i = s.chan i := by
  simp [State.chan, State.setChan, Store.get_put_other _ _ _ _ _ h]

@[simp] theorem State.ring_setRing (n : Nat) (r : Ring) : (s.setRing n r).ring n = r := by
  simp [State.ring, State.setRing]

theorem State.ring_setRing_other (n i : Nat) (r : Ring) (h : i ≠ n) : (s.setRing n r).ring i = s.ring i := by
  simp [State.ring, State.setRing, Store.get_put_other _ _ _ _ _ h]

@[simp] theorem State.unit_setUnit (k : UnitKind) (n : Nat) (u : UnitSt) : (s.setUnit k n u).unit k n = u := by
  simp [State.unit, State.setUnit]

@[simp] theorem State.req_modReq (r : Requester) (f : ReqState → ReqState) : (s.modReq r f).req r = f (s.req r) := by
  simp [State.req, State.modReq, State.setReq]

@[simp] theorem State.canNode_setCan (k : Nat) (c : CanNode) : (s.setCan k c).canNode k = c := by
  simp [State.canNode, State.setCan]

@[simp] theorem State.reqQueue_setReqQueue (n : Nat) (q : Queue) : (s.setReqQueue n q).reqQueue n = q := by
  simp [State.reqQueue, State.setReqQueue]

theorem State.reqQueue_setReqQueue_other (n i : Nat) (q : Queue) (h : i ≠ n) :
    (s.setReqQueue n q).reqQueue i = s.reqQueue i := by
  simp [State.reqQueue, State.setReqQueue, Store.get_put_other _ _ _ _ _ h]

/-- The value in effect that a write of it leaves; a default is not stored. -/
theorem State.v_setV (k v : Nat) (h : v < 2 ^ 64) : (s.setV k v).v k = v := by
  have hd : (s.setV k v).dflt k = s.dflt k := rfl
  unfold State.v
  rw [hd]
  by_cases hv : v = s.dflt k
  · simp [State.setV, putDflt, hv]
  · simp [State.setV, putDflt, hv, w64]; omega

/-- The pending value that a write of it leaves. -/
theorem State.pv_setPv (k v : Nat) (h : v < 2 ^ 64) : (s.setPv k v).pv k = v := by
  have hd : (s.setPv k v).dflt k = s.dflt k := rfl
  unfold State.pv
  rw [hd]
  by_cases hv : v = s.dflt k
  · simp [State.setPv, putDflt, hv]
  · simp [State.setPv, putDflt, hv, w64]; omega

/-- The RO value that a write of it leaves. -/
theorem State.ro_setRo (k v : Nat) (h : v < 2 ^ 64) : (s.setRo k v).ro k = v := by
  have hd : (s.setRo k v).dflt k = s.dflt k := rfl
  unfold State.ro
  rw [hd]
  by_cases hv : v = s.dflt k
  · simp [State.setRo, putDflt, hv]
  · simp [State.setRo, putDflt, hv, w64]; omega

end Sys2Proof.Machine
end

