-- ==== Sys2Proof/Laws/Requests.lean ====
section
/-! SUPPORT. The forms of a meaning and the request path: what each answers, said once. -/

set_option Elab.async false

namespace Sys2Proof.Machine

/-- A meaning that needs the device in service, while it is. -/
theorem live_runs {t : Time} {s : State} {f : State → State} (h : s.runs t) : live t s f = .next (f (s.now t)) := by
  unfold State.runs at h
  unfold live State.now; rw [if_pos h]

/-- While it is not, only the time advances. -/
theorem live_down {t : Time} {s : State} {f : State → State} (h : ¬ s.runs t) : live t s f = .next (s.at t) := by
  unfold State.runs at h
  unfold live; rw [if_neg h]

/-- The state in which a command finds the device is found again at the same instant. -/
theorem State.now_now (s : State) (t : Time) : (s.now t).now t = s.now t := by
  have h1 : ∀ v : State, v.time = max s.time (instant t) → v.at t = v := by
    intro v h; unfold State.at; rw [h, max_eq_left (le_max_right _ _), ← h]
  have h2 : (s.now t).time = max s.time (instant t) := by
    unfold State.now State.awake; split <;> rfl
  have h3 : (s.now t).power.ladder ≠ 1 := by
    unfold State.now State.awake; split
    · simp
    · assumption
  have h4 : (s.now t).awake = s.now t := by unfold State.awake; rw [if_neg h3]
  calc (s.now t).now t = ((s.now t).at t).awake := rfl
    _ = s.now t := by rw [h1 _ h2, h4]

theorem always_next (t : Time) (s : State) (f : State → State) : always t s f = .next (f (s.at t)) := rfl

theorem inRange_of {what : String} {n b : Nat} {k : Out} (h : n < b) : inRange what n b k = k := if_pos h

theorem inRange_not {what : String} {n b : Nat} {k : Out} (h : ¬ n < b) : inRange what n b k = .fault (.noUnit what n) :=
  if_neg h

/-- With no slot write waiting, taking them up changes nothing. -/
theorem State.nvmGo_idle (s : State) (h : s.nvm.waiting = []) : s.nvmGo = s := by
  simp [State.nvmGo, State.nvmNext, h]

/-- A write request that finds its path idle is run as it comes, the request queues apart. -/
theorem State.submit_write (u : State) (q : Nat) (r : Requester) (idx sub : Nat) (data : List Byte) (env : Env) (hq : q < 5)
    (he : ∀ n < 5, (u.reqQueue n).items = []) (hb : ∀ n < 5, (u.reqQueue n).blocked = false)
    (hs : u.pathsServed = true) (hw : u.mustWait (.write r idx sub data) = false) :
    ∃ a, u.submit q (.write r idx sub data) env =
        State.runRequest { u with access := a } q (.write r idx sub data) env ∧
      (({ u with access := a } : State).reqQueue q) = {} := by
  have hd : u.queueDepth q = 0 := by
    have := he q hq
    unfold State.queueDepth; unfold State.reqQueue at this; simp [this]
  have hf : ((List.range 5).all (fun n => !u.servable n)) = true := by
    rw [List.all_eq_true]; intro n hn
    have := he n (List.mem_range.mp hn)
    simp [State.servable, this]
  unfold State.submit
  rw [if_neg (by rw [hd]; simp [Request.count])]
  have hold : u.reqQueue q = {} := by
    have h1 := he q hq
    have h2 := hb q hq
    generalize u.reqQueue q = x at h1 h2
    cases x; simp_all
  simp only [hf, hold, List.isEmpty_nil, Bool.true_and, List.nil_append]
  have hserv : (u.setReqQueue q { items := [.write r idx sub data] }).servable q = true := by
    unfold State.servable
    rw [State.reqQueue_setReqQueue]
    have h1 : (u.setReqQueue q { items := [.write r idx sub data] }).pathsServed = u.pathsServed := rfl
    have h2 : (u.setReqQueue q { items := [.write r idx sub data] }).mustWait (.write r idx sub data) =
      u.mustWait (.write r idx sub data) := rfl
    simp [h1, h2, hs, hw]
  rw [if_pos hserv]
  unfold State.serveQueue
  rw [State.reqQueue_setReqQueue]
  refine ⟨_, rfl, ?_⟩
  simp [State.setReqQueue, State.reqQueue]

/-- What a write request does once it is run, as the state in which it is found. -/
theorem State.runRequest_write (v : State) (q : Nat) (r : Requester) (idx sub : Nat) (data : List Byte) (env : Env)
    (a : Option Abort) (w : State) (hw : v.writeFor r idx sub data env = .done a w) :
    v.runRequest q (.write r idx sub data) env = w ∨ v.runRequest q (.write r idx sub data) env = w.nvmGo := by
  unfold State.runRequest State.runWrite
  simp only [hw]
  split
  · exact .inl rfl
  · exact .inr rfl

/-- A write through its queue is served as it comes, whatever it does, so long as no slot write answers it. -/
theorem State.submit_served (u : State) (r : Requester) (idx sub : Nat) (data : List Byte) (env : Env) (g : State → State)
    (hP : u.Prompt) (hr : r.place < 256) (hlut : u.lutBusy (keyOf idx sub) = false)
    (hw : ∀ (acc : Access) (n : Nat), ∃ a, State.writeFor { u with access := acc, free := n } r idx sub data env =
      .done a (g { u with access := acc, free := n })) :
    ServedAs u (.next (u.draws.submit (queueOf r) (.write r idx sub data) env)) g := by
  have hq5 : queueOf r < 5 := by
    cases r with
    | func f => simp only [queueOf]; split <;> omega
    | can k => simp only [Requester.place] at hr; simp only [queueOf]; split at hr <;> omega
    | udp a p => simp [queueOf]
    | shawm => simp [queueOf]
  have hmw : u.draws.mustWait (.write r idx sub data) = false := by
    have h2 : u.draws.coreWorks 2 = true := hP.channels
    have h3 : u.draws.lutBusy (keyOf idx sub) = false := hlut
    simp [State.mustWait, Request.keys, h2, h3]
  obtain ⟨acc, ha, -⟩ := State.submit_write u.draws (queueOf r) r idx sub data env hq5 hP.empty hP.running hP.served hmw
  obtain ⟨a, h⟩ := hw acc (u.free + 1)
  refine ⟨acc, u.free + 1, ?_⟩
  rw [ha]
  rcases State.runRequest_write _ (queueOf r) r idx sub data env _ _ h with h | h
  · exact .inl (congrArg _ h)
  · exact .inr (congrArg _ h)

/-- A write as its requester makes it is served as it comes: through its queue, or directly. -/
theorem State.request_served (u : State) (r : Requester) (idx sub : Nat) (data : List Byte) (env : Env) (e : Entry)
    (g : State → State) (hP : u.Prompt) (hr : u.Present r) (hlut : u.lutBusy (keyOf idx sub) = false)
    (hl : lookup idx sub = .ok e) (hs : e.ty.size = some data.length)
    (hw : ∀ (acc : Access) (n : Nat), ∃ a, State.writeFor { u with access := acc, free := n } r idx sub data env =
      .done a (g { u with access := acc, free := n })) :
    ServedAs u (.next (u.draws.requestWrite r idx sub data env)) g := by
  have hsub := State.submit_served u r idx sub data env g hP hr.1 hlut hw
  unfold State.requestWrite
  cases r with
  | func f =>
    have hf : u.draws.funcReaches f = true := hr.2
    have hb : bar0Data data.length data = data := by
      unfold bar0Data; split <;> simp
    simp only [hf, Bool.not_true, Bool.false_eq_true, if_false, hl, hs, hb]
    split
    · exact hsub
    · obtain ⟨a, h⟩ := hw u.access (u.free + 1)
      refine ⟨u.access, u.free + 1, .inl ?_⟩
      have h' : u.draws.writeFor (.func f) idx sub data env = .done a (g { u with access := u.access, free := u.free + 1 }) := h
      rw [h']
  | can k => exact hsub
  | udp a p => exact hsub
  | shawm => exact hsub

/-- A write other than of an RWP entry is served as it comes: its effect is the entry's, on the state in which the request is
found, and a refusal that the effect itself makes is recorded. -/
theorem State.write_served (u : State) (r : Requester) (idx sub : Nat) (data : List Byte) (env : Env) (e : Entry)
    (g : State → Option Abort × State) (hP : u.Prompt) (hr : u.Present r) (hl : lookup idx sub = .ok e) (hacc : e.acc ≠ .rwp)
    (hs : e.ty.size = some data.length) (hc : u.writeCheck r idx sub data = .ok (e, none))
    (hlut : u.lutBusy (keyOf idx sub) = false) (hg : ∀ v : State, v.writeEffect r e idx sub data env = g v) :
    ServedAs u (.next (u.draws.requestWrite r idx sub data env)) (fun v =>
      match (g v).1 with
      | none => (g v).2
      | some a => (g v).2.accessError r a idx sub) := by
  refine State.request_served u r idx sub data env e _ hP hr hlut hl hs fun acc n => ⟨(g { u with access := acc, free := n }).1, ?_⟩
  generalize hv : ({ u with access := acc, free := n } : State) = v
  have h1 : v.writeCheck r idx sub data = .ok (e, none) := by subst hv; exact hc
  have h2 : v.fatal = false := by subst hv; exact hP.normal
  have h3 : v.array.state ≠ 4 := by subst hv; exact hP.unfenced
  have hvb : v.writeBlocked (keyOf idx sub) (leNat data) = none := by simp [State.writeBlocked, h2, h3]
  unfold State.writeFor State.writeEntry
  simp only [h1, hvb, firstAbort, if_neg hacc]
  rw [hg v]
  cases (g v).1 <;> rfl

/-- A write that its right or the access code refuses is served as it comes, and is only recorded. -/
theorem State.refused_served (u : State) (f idx sub : Nat) (data : List Byte) (env : Env) (a : Abort) (hP : u.Prompt)
    (hr : u.Present (.func f)) (hlut : u.lutBusy (keyOf idx sub) = false)
    (hc : ∀ d, u.writeCheck (.func f) idx sub d = .error a) :
    ServedAs u (.next (u.draws.requestWrite (.func f) idx sub data env)) (fun v => v.accessError (.func f) a idx sub) := by
  have hw : ∀ d, ∀ (acc : Access) (n : Nat), ∃ x, State.writeFor { u with access := acc, free := n } (.func f) idx sub d env =
      .done x (State.accessError { u with access := acc, free := n } (.func f) a idx sub) := by
    intro d acc n
    refine ⟨some a, ?_⟩
    have h1 : State.writeCheck { u with access := acc, free := n } (.func f) idx sub d = .error a := hc d
    unfold State.writeFor State.writeEntry
    simp only [h1]
  have hf : u.draws.funcReaches f = true := hr.2
  unfold State.requestWrite
  simp only [hf, Bool.not_true, Bool.false_eq_true, if_false]
  cases hl : lookup idx sub with
  | error b =>
    have hb : b = a := by
      have := hc []
      simp only [State.writeCheck, hl] at this
      exact Except.error.inj this
    refine ⟨u.access, u.free + 1, .inl ?_⟩
    rw [hb]; rfl
  | ok e =>
    simp only
    cases hs : e.ty.size with
    | none =>
      refine ⟨u.access, u.free + 1, .inl ?_⟩
      have h1 : u.draws.writeCheck (.func f) idx sub [] = .error a := hc []
      simp only [State.slotCode, h1]; rfl
    | some n =>
      simp only
      split
      · exact State.submit_served u (.func f) idx sub _ env _ hP hr.1 hlut (hw _)
      · obtain ⟨x, h⟩ := hw (bar0Data n data) u.access (u.free + 1)
        refine ⟨u.access, u.free + 1, .inl ?_⟩
        have h' : u.draws.writeFor (.func f) idx sub (bar0Data n data) env =
            .done x (State.accessError { u with access := u.access, free := u.free + 1 } (.func f) a idx sub) := h
        rw [h']

end Sys2Proof.Machine
end

