-- ==== Sys2Proof/Tests/Slice0.lean ====
section
/-! SUPPORT. Small tests of single steps against the manual's words, ill-formed commands for each check of WellFormed, and for
every statement with hypotheses a state and operands that meet them. -/

set_option Elab.async false

open Sys2Proof Sys2Proof.Machine

namespace Sys2Proof.Tests

/-! ### States to test on -/

/-- A device in service in L0 with its host link up. -/
def ready : State :=
  { State.reset with
    pins := { resetLow := false, mainEn := true }
    boot := { state := .ready }
    host := { linkUp := true } }

/-- What State.Prompt asks, as one check. -/
def promptB (s : State) : Bool :=
  (List.range 5).all (fun n => (s.reqQueue n).items.isEmpty && !(s.reqQueue n).blocked) && s.pathsServed && s.coreWorks 2 &&
    s.nvm.current.isNone && s.nvm.waiting.isEmpty && !s.fatal && s.array.state ≠ 4

theorem prompt_of {s : State} (h : promptB s = true) : s.Prompt := by
  simp only [promptB, Bool.and_eq_true, List.all_eq_true, List.mem_range, List.isEmpty_iff, Bool.not_eq_true', decide_eq_true_eq, Option.isNone_iff_eq_none] at h
  exact ⟨fun n hn => (h.1.1.1.1.1.1 n hn).1, fun n hn => (h.1.1.1.1.1.1 n hn).2, h.1.1.1.1.1.2, h.1.1.1.1.2,
    ⟨h.1.1.1.2, h.1.1.2⟩, h.1.2, h.2⟩

/-- F000 may write every entry where it reaches the device. -/
theorem f000_may (s : State) (key : Nat) (h : s.funcReaches 0 = true) : s.MayAct (.func 0) key := ⟨⟨by decide, h⟩, rfl⟩

theorem test_ready_runs : ready.runs 0 ∧ (ready.now 0).Prompt := ⟨rfl, prompt_of (by decide +kernel)⟩

/-! ### Ill-formed commands: each check of WellFormed refuses one (R4) -/

theorem test_ill_formed_requesters :
    Instr.wf (.warmReset 0 (.func 256) [] default) = false ∧ Instr.wf (.dictWrite 0 (.can 2) 0 0 ⟨0, []⟩) = false ∧
    Instr.wf (.rwpWrite 0 (.udp (2 ^ 32) 0) 0 0 []) = false ∧ Instr.wf (.snapAtWrite 0 (.udp 0 65536) []) = false ∧
    Instr.wf (.mailboxFenceRead 0 (.func 256)) = false ∧ Instr.wf (.dictWrite 0 .shawm 0 0 ⟨0, []⟩) = false := by decide

theorem test_ill_formed_names :
    Instr.wf (.supplyFault 0 7) = false ∧ Instr.wf (.dictWrite 0 (.func 0) 65536 0 ⟨0, []⟩) = false ∧
    Instr.wf (.dictWrite 0 (.func 0) 0 256 ⟨0, []⟩) = false ∧ Instr.wf (.nmtStart 0 2 0) = false ∧
    Instr.wf (.nmtStart 0 0 128) = false ∧ Instr.wf (.usdoUpload 0 0 128 0 0) = false ∧ Instr.wf (.rpdoReceive 0 0 8 []) = false ∧
    Instr.wf (.tpdoTransmit 0 0 8) = false ∧ Instr.wf (.odUdpRead 0 (2 ^ 32) 0 []) = false ∧
    Instr.wf (.odUdpRead 0 0 65536 []) = false ∧ Instr.wf (.queuedRequestServe 0 5) = false ∧ Instr.wf (.mgmtStall 0 4) = false ∧
    Instr.wf (.bar0LowWordRead 0 256 0 0) = false ∧ Instr.wf (.blockResetComplete 0 32 true) = false ∧
    Instr.wf (.bar2TableWrite 0 0 0x10000000 []) = false ∧ Instr.wf (.vfEnable 0 256) = false ∧
    Instr.wf (.channelOpen 0 (.func 0) 256) = false ∧ Instr.wf (.ringEnable 0 0 32768) = false ∧
    Instr.wf (.doorbellWrite 0 0 128 []) = false ∧ Instr.wf (.ingestLinkUp 0 6) = false ∧
    Instr.wf (.frameEnd 0 0 0 0 65536) = false ∧ Instr.wf (.tileHandover 0 8 0 0 false [] 0) = false ∧
    Instr.wf (.lutCommit 0 (.func 0) 0 64) = false := by decide

theorem test_ill_formed_units :
    Instr.wf (.searchGrantIssue 0 16 0 0 0 0) = false ∧ Instr.wf (.unitStateError 0 ⟨.px, 72⟩) = false ∧
    Instr.wf (.pictureStart 0 0 4 [] [] []) = false ∧ Instr.wf (.ctuIssue 0 72 0 0 0 0) = false ∧
    Instr.wf (.ctuIssue 0 0 56 0 0 0) = false ∧ Instr.wf (.chunkEmit 0 0 4) = false ∧
    Instr.wf (.verifyDecodeComplete 0 24 true false) = false ∧ Instr.wf (.decodeRtpPacket 0 0 ⟨0, 0, 0⟩ 0 65536 []) = false ∧
    Instr.wf (.bufferAlloc 0 0 6 0) = false ∧ Instr.wf (.bufferFree 0 (2 ^ 26) 0) = false ∧
    Instr.wf (.ronoxLinkUp 0 6) = false ∧ Instr.wf (.heardExpiry 0 8) = false ∧
    Instr.wf (.haloData 0 ⟨6, 0, 0, 0, 0, 0, 2⟩ 0 0 []) = false ∧ Instr.wf (.haloData 0 ⟨0, 0, 0, 8, 0, 0, 2⟩ 0 0 []) = false ∧
    Instr.wf (.haloReq 0 ⟨0, 0, 0, 0, 0, 0, 1⟩ ⟨256, 0, 0, 0, 0, 0, 0, 0, false⟩) = false ∧
    Instr.wf (.haloFinalSend 0 0 0 8) = false ∧ Instr.wf (.transmitSelection 0 0x60) = false ∧
    Instr.wf (.transmitSelection 0 0x04) = false ∧ Instr.wf (.magRemoved 0 2) = false ∧
    Instr.wf (.clipRecordWriteComplete 0 0 0 4) = false := by decide

theorem test_ill_formed_late_rows :
    Instr.wf (.dramRefresh 0 8) = false ∧ Instr.wf (.dramReread 0 0 0 14 0 .clean) = false ∧
    Instr.wf (.dramCaAlert 0 0 2 0 0 0 0) = false ∧ Instr.wf (.dmaStop 0 (.func 0) 64) = false ∧
    Instr.wf (.claimRead 0 0 64) = false ∧ Instr.wf (.msixUnmask 0 0 64) = false ∧
    Instr.wf (.faultRowWrite 0 (.func 0) 510 []) = false ∧ Instr.wf (.faultRaise 0 0 0 0 256 0 0 0 ⟨0, 0⟩ []) = false ∧
    Instr.wf (.vregFault 0 33) = false ∧ Instr.wf (.domainRaise 0 32) = false ∧ Instr.wf (.tdiodeConversion 0 4 0 true) = false ∧
    Instr.wf (.calWindow 0 0 8 0 [] []) = false ∧ Instr.wf (.calWindow 0 0 0 4 [] []) = false ∧
    Instr.wf (.stageCaptureError 0 0 0 64 none) = false ∧ Instr.wf (.stageCaptureError 0 0 0 0 (some ⟨.df, 24⟩)) = false ∧
    Instr.wf (.flashEraseComplete 0 6) = false ∧ Instr.wf (.patchClusterWrite 0 8) = false := by decide

/-! ### The machine as a block -/

theorem test_StepRunsTheFrontCommand_met :
    (({ ready with pending := [.frostExit 5, .powerUp 6] } : State).pending = .frostExit 5 :: [.powerUp 6]) ∧
    ready.pending = [] := ⟨rfl, rfl⟩

theorem test_EveryWellFormedCommandCompletes_met :
    Instr.wf (.nmtStart 0 1 127) = true ∧ Instr.wf (.nmtStart 0 2 127) = false := by decide

/-- A command other than a release of RESET_N leaves a held device held: both hypotheses of the invariant are met. -/
theorem test_ResetHoldsUnderEveryCommand_met : ∃ s s' : State, s.HeldInReset ∧ step s = .next s' ∧ s.pending ≠ [] := by
  refine ⟨{ State.reset with pending := [.powerUp 7] }, _, ?_, rfl, by decide⟩
  exact ⟨rfl, rfl, rfl, rfl, rfl, ⟨rfl, rfl⟩, rfl, rfl, rfl, rfl, rfl, rfl, rfl, rfl, rfl, rfl, rfl, rfl, rfl, rfl, rfl, rfl, rfl,
    ⟨rfl, rfl, rfl⟩, ⟨rfl, rfl⟩, by decide⟩

/-! ### Resets, supplies and the host link -/

theorem test_ResetPinResets_met :
    ready.pins.resetLow = false ∧ 1000 ≤ 1000 ∧ ready.nvm.current = none ∧ (∀ c ∈ ready.pending, c.releasesReset = false) ∧
    99 < 100 := by decide

/-- A device whose rails have come up, still held in reset. -/
def held : State := { State.reset with pins := { State.reset.pins with mainEn := true } }

theorem test_BootsStart_met :
    (held.pins.resetLow = true ∧ held.pins.mainEn = true ∧ held.pins.supplyBad = false ∧ held.pins.tcxoLost = false) ∧
    (let s : State := { ready with pins := { ready.pins with supplyBad := true } }
     (s.pins.supplyBad = true ∨ s.pins.tcxoLost = true) ∧ s.pins.resetLow = false) ∧
    (let s : State := { ready with faults := { device := .fatalDumping } }
     s.faults.device = .fatalDumping ∧ s.faults.fatalAt + 100000000 ≤ max s.time 100000000 ∧ s.power.off = false ∧
      s.power.shutdown = false) ∧
    (held.boot.afterShutdown = false ∧ (default : BootFacts).copies = []) := by decide +kernel

theorem test_SupplyAndLinkEvents_met :
    State.reset.pins.resetLow = true ∧
    (6 < 7 ∧ ready.pins.resetLow = false ∧ ready.railNeeded 6 = true) ∧ ready.power.ladder ≠ 5 ∧
    (held.at 0).up = false ∧ (ready.at 0).up = true ∧ ready.hostRole = true ∧
    (ready.now 0).host.perstLow = false ∧ (ready.now 0).hostRole = true ∧ (ready.now 0).host.linkUp = true := by decide +kernel

theorem test_not_runs_in_reset : ¬ held.runs 0 := by unfold State.runs; decide +kernel

/-! ### The dictionary and NVM -/

/-- The entry of a write that passes its checks, with the properties a statement asks of it. -/
def accepts (s : State) (r : Requester) (idx sub : Nat) (data : List Byte) (p : Entry → Bool) : Bool :=
  match s.writeCheck r idx sub data with
  | .ok (e, none) => e.ty.size == some data.length && p e
  | _ => false

theorem accepts_entry {s : State} {r : Requester} {idx sub : Nat} {data : List Byte} {p : Entry → Bool}
    (h : accepts s r idx sub data p = true) :
    ∃ e, s.writeCheck r idx sub data = .ok (e, none) ∧ e.ty.size = some data.length ∧ p e = true := by
  unfold accepts at h
  split at h
  · rename_i e he
    simp only [Bool.and_eq_true, beq_iff_eq] at h
    exact ⟨e, he, h.1, h.2⟩
  · exact absurd h (by decide)

/-- NOTIFY_PORT (IMM), REPAIR of channel 5 (FRAME), TYPE of a meter (REFILL), GATE_COUNT of a port (CYCLE). -/
theorem test_PlainWritesAreAccepted_met :
    (ready.now 0).Present (.func 0) ∧
    accepts (ready.now 0) (.func 0) 0x2051 6 [1, 30] (fun e => e.acc == .rw && e.ap == .imm && plainEntry 0x2051 6 &&
      !actsAtOnce ((ready.now 0).regKey (.func 0) (keyOf 0x2051 6))) = true ∧
    accepts (ready.now 0) (.func 0) 0x4143 6 [2] (fun e => e.acc == .rw && e.ap == .frame && plainEntry 0x4143 6) = true ∧
    accepts (ready.now 0) (.func 0) 0x2A81 1 [2] (fun e => e.acc == .rw && e.ap == .refill && plainEntry 0x2A81 1) = true ∧
    accepts (ready.now 0) (.func 0) 0x2A05 10 [7, 0] (fun e => e.acc == .rw && e.ap == .cycle && plainEntry 0x2A05 10) = true :=
  ⟨⟨by decide, by decide +kernel⟩, by decide +kernel⟩

/-- A read of no entry, a write of an RO entry, and a value above its range. -/
theorem test_RefusedAccessesAreRecorded_met :
    (ready.now 0).funcReaches 0 = true ∧ (ready.now 0).lutBusy (keyOf 0x2FFF 1) = false ∧
    (match (ready.now 0).readCheck (.func 0) 0x2FFF 1 with | .error a => a == 0x06020000 | .ok _ => false) = true ∧
    (match (ready.now 0).writeCheck (.func 0) 0x2100 1 [0, 0, 0, 0, 0, 0, 0, 0] with
      | .error a => a == A.readOnly | .ok _ => false) = true ∧
    (match (ready.now 0).writeCheck (.func 0) 0x2A05 10 [255, 255] with
      | .ok (e, some a) => a == A.above && e.ty.size == some 2 && e.acc == .rw | _ => false) = true ∧
    (ready.now 0).fatal = false ∧ (ready.now 0).array.state ≠ 4 := by decide +kernel

theorem test_RwpWritesGoToNvm_met :
    accepts (ready.now 0) (.func 0) 0x2051 1 [1, 2, 3, 4] (fun e => e.acc == .rwp) = true ∧
    (ready.now 0).power.shutdown = false ∧ leNat [1, 2, 3, 4] ≠ (ready.now 0).pv (keyOf 0x2051 1) ∧
    ((ready.now 0).nvmRecord (keyOf 0x2051 1)).wear < 800000 ∧
    accepts (ready.now 0) (.func 0) 0x2051 1 (leBytes 4 ((ready.now 0).pv (keyOf 0x2051 1))) (fun e => e.acc == .rwp) = true ∧
    7 ≠ (ready.now 0).pv K.HEARTBEAT_TIME ∧ ((ready.now 0).nvmRecord K.HEARTBEAT_TIME).wear < 800000 ∧
    1 ≠ (ready.now 0).pv K.REC_INPUT_REC_SOURCE ∧ ((ready.now 0).nvmRecord K.REC_INPUT_REC_SOURCE).wear < 800000 := by
  decide +kernel

/-- A slot write in progress, of HEARTBEAT_TIME. -/
def writing : State :=
  { ready with
    nvm := { ready.nvm with
      current := some ({ key := K.HEARTBEAT_TIME, value := 7, restored := false, back := .silent, who := .func 0 }, 0) } }

theorem test_SlotWritesEnd_met :
    writing.runs 0 ∧ ((writing.now 0).nvm.current.isSome = true) ∧
    (let s : State := { writing with power := { shutdown := true } }
     s.runs 100000 ∧ (s.now 100000).nvm.current.isSome = true ∧ (s.now 100000).power.shutdown = true ∧
     (s.now 100000).power.stopAt + 100000 ≤ (s.now 100000).time) := by decide

theorem test_DeviceActionsTakeEffect_met :
    (ready.now 0).Prompt ∧ (ready.now 0).MayAct (.func 0) K.MORAINE_COMMAND ∧ (ready.now 0).mayDump = true ∧
    (ready.now 0).MayAct (.udp 1 2) K.FAULT_STATUS_ACK :=
  ⟨prompt_of (by decide +kernel), f000_may _ _ (by decide +kernel), by decide +kernel, ⟨⟨by decide, trivial⟩, by decide +kernel⟩⟩

theorem test_SnapshotsHoldCounters_met :
    (ready.now 0).time < 100 ∧ 5 ≤ (ready.now 9).time ∧ K.HOST_COUNTERS_DOORBELLS ∉ trafficKeys ∧
    (let s : State := (ready.now 0).setImm K.SNAPSHOT_SNAP_AT 9
     s.runs 10 ∧ (s.now 10).snapDue = true) := by decide +kernel

/-! ### CANopen FD, OD/UDP and BAR0 -/

/-- CAN0 on and operational, CAN1 on and pre-operational. -/
def onBus : State :=
  { ready with access := { ready.access with can := [(0, { on := true, nmt := .operational }), (1, { on := true })] } }

theorem test_NmtCommands_met :
    onBus.runs 0 ∧ (onBus.now 0).nmtAddressed 0 0 = true ∧ (onBus.now 0).nmtAddressed 1 0x11 = true ∧
    (let s := onBus.setV K.HEARTBEAT_TIME 1
     s.runs 1000000 ∧ (s.now 1000000).heartbeatDue 0 = true ∧ ((s.now 1000000).canNode 0).sends = true) ∧
    ((onBus.now 0).canNode 0).on = true ∧ ((onBus.now 0).canNode 0).busOff = false := by decide +kernel

/-- What a read answers, where it answers without any effect. -/
def readsAs (s : State) (r : Requester) (idx sub : Nat) (bs : List Byte) : Bool :=
  match s.readEntry r idx sub with
  | (.ok x, v) => x == bs && v == s
  | _ => false

theorem reads_as {s : State} {r : Requester} {idx sub : Nat} {bs : List Byte} (h : readsAs s r idx sub bs = true) :
    s.readEntry r idx sub = (.ok bs, s) := by
  unfold readsAs at h
  split at h
  · rename_i x v he
    simp only [Bool.and_eq_true, beq_iff_eq] at h
    rw [he, h.1, h.2]
  · exact absurd h (by decide)

theorem test_CanTransfers_met :
    (onBus.now 0).Prompt ∧ onBus.boot.state = .ready ∧ ((onBus.now 0).canNode 0).serves = true ∧
    (onBus.now 0).readEntry (.can 0) 0x2051 6 = (.ok [11, 30], onBus.now 0) ∧
    (onBus.now 0).lutBusy (keyOf 0x2051 6) = false ∧
    accepts (onBus.now 0) (.can 0) 0x4143 6 [2] (fun e => e.acc == .rw && e.ap == .frame && plainEntry 0x4143 6) = true ∧
    ((onBus.now 0).canNode 0).nmt = .operational ∧
    (let s := onBus.setV (keyOf 0x1801 1) 0x190
     s.runs 0 ∧ (s.now 0).pdoValid 0x1801 = true ∧ (s.now 0).pdoMap 0x1A01 = []) ∧
    (let s := (onBus.setV (keyOf 0x1402 1) 0x410).setV (keyOf 0x1602 0) 1 |>.setV (keyOf 0x1602 1) 0x20510610
     s.runs 0 ∧ (s.now 0).pdoValid 0x1402 = true ∧
      cutPdo ((s.now 0).pdoMap 0x1602) [7, 8] = some [(keyOf 0x2051 6, [7, 8])]) :=
  ⟨prompt_of (by decide +kernel), rfl, by decide +kernel, reads_as (by decide +kernel), by decide +kernel⟩

/-- One WRITE item of NOTIFY_PORT, under SEQ 5. -/
def oneWrite : List Byte := udpHeader 2 5 1 0 ++ itemHeader 0x2051 6 3 0 2 0 ++ pad4 [11, 30]
def oneItem : Item := { index := 0x2051, sub := 6, type := 3, offset := 0, length := 2, data := [11, 30] }

theorem test_Datagrams_met :
    (ready.now 0).v K.UDP_CONFIG_UDP_PORT ≠ 0 ∧ parseDatagram [1, 2, 3] = .dropped ∧
    parseDatagram (udpHeader 0x7F 9 0 0) = .echo 9 ∧
    parseDatagram (udpHeader 1 5 1 0 ++ itemHeader 0x2051 6 0 0 2 0) =
      .packet false 5 [{ oneItem with type := 0, data := [] }] ∧
    parseDatagram oneWrite = .packet true 5 [oneItem] ∧
    (Store.get (ready.now 0).access.kept [] (Requester.udp 1 2).key).find? (·.seq == 5) = none ∧
    (let s : State := { ready with access := { ready.access with kept := [((Requester.udp 1 2).key, [{ seq := 5, bytes := [1] }])] } }
     s.runs 0 ∧ (Store.get (s.now 0).access.kept [] (Requester.udp 1 2).key).find? (·.seq == 5) = some { seq := 5, bytes := [1] }) :=
  ⟨by decide +kernel, rfl, rfl, rfl, rfl, by decide +kernel, by decide +kernel⟩

/-- A request of CAN1 waits in queue 1. -/
def waitingRequest : State := ready.setReqQueue 1 { items := [.usdoRead 1 0 0x2051 6] }

theorem test_RequestQueues_met :
    64 < (ready.setReqQueue 1 { items := List.replicate 64 (.usdoRead 1 0 0x2051 6) }).queueDepth 1 + (Request.usdoRead 1 0 0 0).count ∧
    waitingRequest.runs 0 ∧ (waitingRequest.now 0).nextQueue = some 1 ∧
    ((waitingRequest.now 0).reqQueue 1).items = .usdoRead 1 0 0x2051 6 :: [] := by decide +kernel

/-- TIME_NOW is a 64-bit entry: its halves are read one after the other. -/
theorem test_LowWordReadKeepsTheHighWord_met :
    (match lookup 0x2100 1 with
      | .ok e => wideSlot e && (match (ready.now 5).slotPeek (.func 0) e 0x2100 1 with | .ok v => v == 5 | _ => false)
      | _ => false) = true ∧ (ready.now 5).lutBusy (keyOf 0x2100 1) = false ∧ ready.runs 5 := by decide +kernel

theorem test_HighWordReadReturnsTheShadow_met :
    (let s := ready.modReq (.func 0) (fun q => { q with shadow := some (keyOf 0x2100 1, 77) })
     s.runs 5 ∧ ((s.now 5).req (.func 0)).shadow = some (keyOf 0x2100 1, 77) ∧
      (match lookup 0x2100 1, (s.now 5).readCheck (.func 0) 0x2100 1 with
        | .ok e, .ok x => wideSlot e && e == x | _, _ => false) = true) ∧
    ((ready.now 5).req (.func 0)).shadow = none ∧
    (match lookup 0x2100 1 with
      | .ok e => (match (ready.now 5).slotRead (.func 0) e 0x2100 1 with | (.ok bs, _) => bs == leBytes 8 5 | _ => false)
      | _ => false) = true := by decide +kernel

/-- SNAP_AT is a 64-bit RW entry; a word of it, of another slot, or none is staged. -/
theorem test_HalfWritesCommitTogether_met :
    (match lookup 0x3000 4 with
      | .ok e => e.ty.size == some 8 && (match (ready.now 0).slotPeek (.func 0) e 0x3000 4 with | .ok v => v == 0 | _ => false)
      | _ => false) = true ∧
    ((ready.now 0).req (.func 0)).stage = none ∧
    (let s := ready.modReq (.func 0) (fun q => { q with stage := some (keyOf 0x3000 4, 9) })
     s.runs 0 ∧ ((s.now 0).req (.func 0)).stage = some (keyOf 0x3000 4, 9)) ∧
    (let s := ready.modReq (.func 0) (fun q => { q with stage := some (keyOf 0x2100 2, 9) })
     s.runs 0 ∧ ((s.now 0).req (.func 0)).stage = some (keyOf 0x2100 2, 9) ∧ keyOf 0x2100 2 ≠ keyOf 0x3000 4) := by decide +kernel

theorem test_FenceCountsItself_met :
    ready.runs 0 ∧ Requester.readPlace .shawm < 256 ∧ (ready.now 0).dict.lost = [] := by decide

theorem lut_free (s : State) (h : s.chans = []) (key : Nat) : s.lutBusy key = false := by
  unfold State.lutBusy State.chan Chan.lut
  rw [h]
  cases isLutData key <;> rfl

theorem test_HalfWrites_whole_met :
    (let s := ready.modReq (.func 0) (fun q => { q with stage := some (keyOf 0x2700 1, 9) })
     let u := s.now 0
     let v := u.modReq (.func 0) (fun q => { q with stage := none })
     s.runs 0 ∧ u.funcReaches 0 = true ∧ (u.req (.func 0)).stage = some (keyOf 0x2700 1, 9) ∧ promptB v = true ∧
      accepts v (.func 0) 0x2700 1 (leBytes 4 9 ++ leBytes 4 1) (fun e => e.acc == .rw && e.ap == .imm) = true ∧
      plainEntry 0x2700 1 = true ∧ actsAtOnce (v.regKey (.func 0) (keyOf 0x2700 1)) = false) := by decide +kernel

def beatJob : NvmJob := { key := K.HEARTBEAT_TIME, value := 7, restored := false, back := .silent, who := .func 0 }

theorem test_SlotWritesEnd_wears_met :
    (let s : State := { writing with nvm := { writing.nvm with records := [(K.HEARTBEAT_TIME, { wear := 799999 })] } }
     let u := s.now 0
     s.runs 0 ∧ u.nvm.current = some (beatJob, 0) ∧
      (((u.slotWrite beatJob (u.nvmSlotOf beatJob)).rwpStored beatJob.key beatJob.value.toNat).nvmRecord beatJob.key).wear = 800000) ∧
    (let u := writing.now 0
     u.nvm.current = some (beatJob, 0) ∧
      (((u.slotWrite beatJob (u.nvmSlotOf beatJob)).rwpStored beatJob.key beatJob.value.toNat).nvmRecord beatJob.key).wear ≠
        800000) := by decide +kernel

theorem test_CanTransfers_answers_met :
    (let u := onBus.now 0
     let w := u.setCan 0 { u.canNode 0 with
       sessions := Store.put (u.canNode 0).sessions 9 { idx := 0x2051, sub := 6, isWrite := false, data := [], queued := true } }
     keyOf 0x2051 6 ≠ K.MAILBOX_FENCE_FENCE ∧
     (match ((w.afterQueue 0 (.usdoRead 0 9 0x2051 6)).readFor (.can 0) 0x2051 6).1 with
      | .ok bs => bs == [11, 30] | .error _ => false) = true ∧
     (match ((w.afterQueue 0 (.usdoRead 0 9 0x2FFF 1)).readFor (.can 0) 0x2FFF 1).1 with
      | .ok _ => false | .error a => a == 0x06020000) = true) ∧
    (let s := onBus.setCan 0 { onBus.canNode 0 with
       sessions := [(9, { idx := 0x2051, sub := 6, isWrite := false, data := [], queued := true })] }
     ((Store.find? (s.canNode 0).sessions 9).map (·.queued)) = some true ∧ (s.reqQueue 0).items = []) ∧
    (let s := (onBus.setV (keyOf 0x1402 1) 0x410).setV (keyOf 0x1602 0) 1 |>.setV (keyOf 0x1602 1) 0x41430608
     s.runs 0 ∧ (s.now 0).pdoValid 0x1402 = true ∧ promptB (s.now 0) = true ∧ (s.now 0).chans = [] ∧
      cutPdo ((s.now 0).pdoMap 0x1602) [2] = some [(keyOf 0x4143 6, [2])] ∧
      accepts (s.now 0) (.can 0) 0x4143 6 [2] (fun e => e.acc == .rw && e.ap == .frame && plainEntry 0x4143 6) = true) ∧
    (let s := onBus.setV (keyOf 0x1801 1) 0x190
     (s.now 0).tpdoDue 0 1 ((s.now 0).tpdoBytes 0 1).1 = true) := by decide +kernel

theorem test_Datagrams_packets_met :
    (let u := ready.now 0
     promptB u = true ∧ u.chans = [] ∧ u.keptAnswer 1 2 5 = none ∧ (Request.udp 1 2 5 true [oneItem]).count ≤ 64 ∧
      ((u.readFences (.udp 1 2) [{ oneItem with type := 0, data := [] }]).1.length = 1)) ∧
    (let s : State := { ready with access := { ready.access with kept := [((Requester.udp 1 2).key, [{ seq := 5, bytes := [1] }])] } }
     (s.now 0).keptAnswer 1 2 5 = some { seq := 5, bytes := [1] }) := by decide +kernel

/-! ### Functions, channels and rings -/

/-- Three virtual functions; F002 owns ring 9 as its local 4. -/
def virtual : State :=
  { ready with
    host := { linkUp := true, vfEnable := true, numVfs := 3 }
    rings := [(9, { owner := some 2, loc := 4, size := 6 })] }

theorem test_FunctionsComeAndGo_met :
    (ready.now 0).host.linkUp = true ∧ (ready.now 0).host.vfEnable = false ∧ virtual.runs 0 ∧
    (virtual.now 0).host.vfEnable = true ∧ 1 < (virtual.now 0).host.numVfs ∧ (virtual.now 0).funcReaches 3 = true := by decide

theorem test_RingsAndOwners_met :
    (virtual.now 0).Prompt ∧ (virtual.now 0).MayAct (.func 0) K.RING_GRANT_GRANT ∧
    ((virtual.now 0).ring 7).owner = none ∧ (virtual.now 0).funcReaches 3 = true ∧ (virtual.now 0).ringsHeld 3 < 128 ∧
    (virtual.now 0).ringOf 3 0 = none ∧ ((virtual.now 0).ring 9).state = .disabled ∧
    ((virtual.now 0).chan 16).state = .closed ∧ (virtual.now 0).rings.any (fun e => e.2.enable && e.2.chan == 16) = false :=
  ⟨prompt_of (by decide +kernel), f000_may _ _ (by decide +kernel), by decide +kernel⟩

/-- A pass-through channel is admitted where the working region has room. -/
def admitted : State :=
  State.setImm { ready with dram := { regions := List.replicate 7 (0, 2 ^ 40) } } (chKey 0 K.CH_OUTPUT_ESSENCE) 1

theorem test_ChannelCommands_met :
    (admitted.chan 0).state = .closed ∧ admitted.admitResult 0 = 0 ∧
    (ready.now 0).boot.patch = none ∧ (ready.now 0).admitResult 0 ≠ 0 ∧
    (let s : State := { ready with chans := [(3, { state := .open_ })] }
     (s.chan 3).state = .open_ ∧ (s.chan 3).state ≠ .closed) ∧
    (let s : State := { ready with chans := [(3, { state := .draining })] }
     s.runs 0 ∧ (s.now 0).drained 3 = true ∧ (s.now 0).coreWorks 2 = true) := by decide +kernel

/-- The ring of F002 in each state. -/
def ringIn (st : RingState) (on : Bool) : State :=
  { virtual with rings := [(9, { owner := some 2, loc := 4, size := 6, type := 1, state := st, enable := on })] }

theorem test_RingsStartAndStop_met :
    (virtual.now 0).fatal = false ∧ (virtual.now 0).mayWriteRing 2 9 = true ∧
    (let u := (ringIn .disabled false).now 0
     let r := u.ring 9
     r.enable = false ∧ r.state = .disabled ∧ u.ringCause 9 { r with enable := true } = 0) ∧
    (let u := ready.now 0
     let r := u.ring 8
     u.mayWriteRing 0 8 = true ∧ r.enable = false ∧ r.state = .disabled ∧ u.ringCause 8 { r with enable := true } ≠ 0) ∧
    (((ringIn .enabled true).now 0).ring 9).enable = true ∧ (((ringIn .enabled true).now 0).ring 9).state = .enabled ∧
    (((ringIn .error true).now 0).ring 9).enable = true ∧ (((ringIn .error true).now 0).ring 9).state = .error ∧
    (((ringIn .stopping false).now 0).ring 9).state = .stopping ∧ (((ringIn .stopping false).now 0).ring 9).fetched = [] ∧
      (((ringIn .stopping false).now 0).ring 9).enable = false ∧
    ((ringIn .enabled true).now 0).ringOf 2 4 = some 9 ∧
    (w32 (leNat [64, 0, 0, 0]) - (((ringIn .enabled true).now 0).ring 9).ci).toNat ≤ 2 ^ 6 ∧
    2 ^ 6 < (w32 (leNat [65, 0, 0, 0]) - (((ringIn .enabled true).now 0).ring 9).ci).toNat := by decide +kernel

/-- A descriptor of no bytes stands fetched in an enabled ring of a type. -/
def fetched (ty : Nat) : State :=
  { virtual with
    rings := [(9, {
      owner := some 2, loc := 4, size := 6, type := ty, state := .enabled, enable := true, pi := 2
      fetched := [{ addr := 0x1000, len := 0, irq := false, eof := true, sof := true, tag := 0, time := 0 }] })] }

theorem test_DescriptorsAreServed_met :
    (let u := (fetched 1).now 0
     let r := u.ring 9
     r.state = .enabled ∧ r.unfetched ≠ 0 ∧ u.inPaused r = false ∧ u.txn.given = [] ∧ Store.get u.txn.waiting [] 1 = [] ∧
      u.txn.room 1 (r.owner.getD 0) = true ∧ r.fetched.length = 1 ∧ r.state ≠ .disabled ∧ r.type = 1 ∧ r.chunkAborted = none ∧
      (r.fetched.head?.map (·.len)) = some 0) ∧
    (let u := (fetched 0).now 0
     let r := u.ring 9
     r.type = 0 ∧ 0 ≤ u.pool.bufBytes ∧ 256 ≤ r.chan ∧ r.fetched.length = 1) ∧
    (let s : State := { ready with txn := { inUse := [(2, 5)] } }
     s.runs 0 ∧ txnCode .mag ≠ 1 ∧ (s.now 0).txn.used (txnCode .mag) ≠ 0 ∧
      Store.get (s.now 0).txn.waiting [] (txnCode .mag) = []) := by decide +kernel

theorem test_TablesAreWritten_met :
    (ready.now 0).funcReaches 0 = true ∧ (ready.now 0).fatal = false ∧
    (let x := (ready.now 0).writeCheck (.func 0) 0x2057 1 (leBytes 4 0x04000000)
     match x, lookup 0x2057 1 with | .ok (e, none), .ok f => e == f | _, _ => false) = true ∧
    (let s := ready.setSel (.func 0) K.BAR2_SELECT_APERTURE (4 * 2 ^ 24)
     s.runs 0 ∧ (s.now 0).sel (.func 0) (K.BAR2_SELECT_APERTURE + 1 - 1) = 4 * 2 ^ 24) ∧
    (let s := ready.setSel (.func 0) K.BAR2_SELECT_APERTURE (3 * 2 ^ 24)
     s.runs 0 ∧ (s.now 0).sel (.func 0) (K.BAR2_SELECT_APERTURE + 1 - 1) = 3 * 2 ^ 24 ∧ 16 < 8 * (s.now 0).pool.total) := by
  decide +kernel

/-- Channel 3 drains; it has sent parameter sets in stream 0, and one port takes its stream. -/
def draining (c : Chan) : State :=
  State.setV { ready with chans := [(3, { c with state := .draining })] } (chKey 3 K.CH_OUTPUT_HOST) 1
def someParams : ParamFacts := ready.paramFacts 3 (ready.endPic 3 0)

theorem test_ChannelCommands_drains_met :
    (let u := (draining {}).now 0
     u.drained 3 = true ∧ u.coreWorks 2 = true ∧ u.endOwed 3 = none) ∧
    (let u := (draining { sentParams := [(0, someParams)] }).now 0
     u.drained 3 = true ∧ u.endOwed 3 = some 0) ∧
    ((ready.chan 3).lastLaunch ≠ some ready.time) := by decide +kernel

/-- A chunk of three bytes, and an OUT ring of channel 5 in whose descriptors it goes out. -/
def outChunk : OutChunk := { stream := 0, data := [1, 2, 3], bufs := [7], picCount := 30, loc := 0, depth := 5, time := 9 }
def outRing (len : Nat) (aborted : Option OutChunk) (q : List OutChunk) : State :=
  { virtual with
    chans := [(5, { state := .open_, outQ := q })]
    rings := [(9, {
      owner := some 2, loc := 4, size := 6, type := 1, state := .enabled, enable := true, pi := 2, chan := 5, chunkAborted := aborted
      fetched := [{ addr := 0x1000, len := len, irq := false, eof := true, sof := true, tag := 0, time := 0 }] })] }
def inRing (len : Nat) : State :=
  { virtual with
    chans := [(5, { state := .open_ })]
    rings := [(9, {
      owner := some 2, loc := 4, size := 6, type := 0, state := .enabled, enable := true, pi := 2, chan := 5
      fetched := [{ addr := 0x1000, len := len, irq := false, eof := true, sof := true, tag := 0, time := 0 }] })] }

theorem test_DescriptorsAreServed_out_met :
    (((outRing 2 (some outChunk) []).now 0).ring 9).chunkAborted = some outChunk ∧
    (let u := (outRing (2 ^ 24) none []).now 0
     (u.ring 9).fetched.length = 1 ∧ (u.ring 9).chan < 256 ∧ u.pool.bufBytes < 2 ^ 24) ∧
    (let u := (outRing 2 none [outChunk]).now 0
     (outRing 2 none [outChunk]).runs 0 ∧ 0 < 2 ∧ 2 ≤ u.pool.bufBytes ∧ (u.ring 9).stream = 0 ∧
      takeFirst (fun x => x.stream == 0) (u.chan 5).outQ = some (outChunk, []) ∧ u.sizeOpen 5 outChunk = false ∧
      (u.ring 9).chunkDone + ((outChunk.data.drop (u.ring 9).chunkDone).take 2).length < outChunk.data.length) ∧
    (let u := (outRing 3 none [outChunk]).now 0
     outChunk.data.length ≤ (u.ring 9).chunkDone + ((outChunk.data.drop (u.ring 9).chunkDone).take 3).length) := by decide +kernel

theorem test_DescriptorsAreServed_in_met :
    (let u := (inRing (2 ^ 24)).now 0
     (u.ring 9).chan < 256 ∧ u.pool.bufBytes < 2 ^ 24) ∧
    (let u := ({ inRing 3 with chans := [] } : State).now 0
     3 ≤ u.pool.bufBytes ∧ (u.chan 5).working = false) ∧
    (let u := (inRing 3).now 0
     (inRing 3).runs 0 ∧ (u.chan 5).working = true ∧ u.cv 5 K.CH_DECODE_DIRECTION = 0 ∧ (u.obtain 5 2 0 1).1.isSome = true) ∧
    (let s := State.setV (inRing 3) (chKey 5 K.CH_DECODE_DIRECTION) 1
     let u := s.now 0
     s.runs 0 ∧ u.cv 5 K.CH_DECODE_DIRECTION = 1 ∧ u.cv 5 K.CH_DECODE_INPUT = 0 ∧ (u.obtain 5 3 0 1).1.isSome = true ∧
      ((u.obtain 5 3 0 1).2.fillBufs ((u.obtain 5 3 0 1).1.getD []) 3).cv 5 K.CH_DECODE_INPUT = 0) := by decide +kernel

/-! ### Ingest -/

/-- Quad 3 holds INGEST and its link is up; channel 5 takes its lines, with frame 40 open. -/
def fed : State :=
  (({ ready with
      ports := [(3, { up := true, creditTotal := 8192, lastSeq := some 6 })]
      chans := [(5, { state := .open_, frames := [{ seq := 0, frameCount := 40, opened := 0 }] })]
    }.setV (K.QUAD_ROLE_QUAD_ROLE + 3) 0x40).setV (chKey 5 K.CH_SOURCE_KIND) 1).setV (chKey 5 K.CH_SOURCE_PORT) 3

def fedNoChannel : State := { fed with chans := [] }

theorem test_IngestPorts_met :
    fed.runs 0 ∧ (fed.now 0).role 3 = 0x40 ∧ (fed.now 0).ingestUp 3 = true ∧ fedNoChannel.runs 0 ∧
    (fedNoChannel.now 0).ingestUp 3 = true ∧ (fedNoChannel.now 0).ingestChan 3 = none ∧ ¬(0x40 ≤ 0x44 ∧ 0x44 ≤ 0x43) ∧
    ((fed.now 0).ingest 3).lastSeq = some ((7 + 2 ^ 32 - 1) % 2 ^ 32) := by decide +kernel

/-- A line of frame 40 that has begun. -/
def head : LineHead :=
  { last := false, seq := 7, frameCount := 40, line := 2, phase := 0, depth := 10, samples := 4, capture := 5, lineCrc := 0
    data := [] }

/-- The same with the line in progress. -/
def inLine : State :=
  { fed with ports := [(3, { up := true, creditTotal := 8192, lastSeq := some 6, line := some (head, true) })] }

/-- Channel 5 takes an ST 2110-20 flow through meter 2,000, none. -/
def flow : State :=
  (({ ready with chans := [(5, { state := .open_, lastRtp := some 900, frames := [{ seq := 0, frameCount := 40, opened := 0 }] })] }.setV
    (chKey 5 K.CH_SOURCE_KIND) 2).setV (chKey 5 K.CH_SOURCE_METER) 0xFFFF).setV (chKey 5 K.CH_SOURCE_BUF_BYTES) 0x800000

/-- A member of an array whose channel 5 is an array channel. -/
def member : State :=
  State.setV { ready with
    array := { state := 2, epoch := 4, coordinator := 1, members := 7 }
    chans := [(5, { state := .open_ })] } (chKey 5 K.CH_ARRAY_ARRAY_EN) 1

theorem test_FramesArrive_met :
    ((fed.now 0).fatal = false ∧ (((fed.now 0).flitSeq 3 7).flitCredit 3).1 = true ∧
      (((fed.now 0).flitSeq 3 7).flitCredit 3).2.ingestChan 3 = some 5 ∧
      ((((fed.now 0).flitSeq 3 7).flitCredit 3).2.chan 5).openCount = some 40) ∧
    (inLine.runs 0 ∧ (inLine.now 0).ingestUp 3 = true ∧ (((inLine.now 0).flitSeq 3 7).flitCredit 3).1 = true ∧
      ((((inLine.now 0).flitSeq 3 7).flitCredit 3).2.ingest 3).line = some (head, true)) ∧
    (let v := (((fed.now 0).flitSeq 3 7).flitCredit 3).2
     (v.setIngest 3 { v.ingest 3 with line := none }).ingestChan 3 = some 5 ∧
     ((v.setIngest 3 { v.ingest 3 with line := none }).chan 5).openCount = some 40) ∧
    (let u := fed.now (10 ^ 10)
     fed.runs (10 ^ 10) ∧ ((u.chan 5).openFrame.map (·.opened)) = some 0 ∧ (u.chan 5).working = true ∧
      0 + u.frameTimeoutNs 5 ≤ u.time) ∧
    (let u := flow.now 0
     flow.runs 0 ∧ (u.chan 5).working = true ∧ u.cv 5 K.CH_SOURCE_KIND = 2 ∧ u.cv 5 K.CH_DECODE_DIRECTION = 0 ∧
      1024 ≤ u.cv 5 K.CH_SOURCE_METER ∧ (u.chan 5).flowFill + 1400 ≤ u.cv 5 K.CH_SOURCE_BUF_BYTES ∧
      (u.chan 5).lastRtp = some 900 ∧ (u.chan 5).openCount.isSome = true ∧ (u.chan 5).openFrame.isSome = true) ∧
    (let u := member.now 0
     member.runs 0 ∧ u.inArray = true ∧ (u.chan 5).working = true ∧ (u.fmt 5).array = true) ∧
    (let s : State := { ready with chans := [(5, { state := .open_, frames := [{ seq := 0, frameCount := 40, opened := 0, closed := true, accepted := true }] })] }
     s.runs 0 ∧ ((s.now 0).chan 5).frames.any (fun x => x.frameCount == 40 && x.accepted && !x.derived) = true ∧
      (∀ k < 4, (s.now 0).ro (derKey 5 k K.CH_DERIVEDk_STATUS) = 0)) := by decide +kernel

/-- The open frame does not take the line: its FRAME_COUNT is that of a closed frame. -/
def fedClosed : State := { fed with chans := [(5, { state := .open_, closedCounts := [40], lastFrameCount := some 40 })] }

theorem test_FramesArrive_lines_met :
    (let v := (((fed.now 0).flitSeq 3 7).flitCredit 3).2
     (v.lineFrame 5 head.frameCount head.capture).1 = true ∧ head.last = false ∧ ({ head with last := true } : LineHead).last = true) ∧
    (let v := (((fedClosed.now 0).flitSeq 3 7).flitCredit 3).2
     fedClosed.runs 0 ∧ (((fedClosed.now 0).flitSeq 3 7).flitCredit 3).1 = true ∧ v.ingestChan 3 = some 5 ∧
      (v.lineFrame 5 head.frameCount head.capture).1 = false) ∧
    (let s : State := { ready with chans := [(5, { state := .open_, absorbing := some (40, 0, []) })] }
     let u := s.now (10 ^ 10)
     (u.chan 5).openFrame = none ∧ (u.chan 5).absorbing = some (40, 0, []) ∧ 0 + u.frameTimeoutNs 5 ≤ u.time) ∧
    (let u := flow.now 0
     (u.meterPacket 5 1400).1 = true ∧ ((u.meterPacket 5 1400).2.rtpFrame 5 900).1 = true ∧
      (((u.meterPacket 5 1400).2.rtpFrame 5 900).2.chan 5).openFrame.isSome = true) ∧
    (let s : State := { ready with chans := [(5, { state := .open_, frames := [{ seq := 0, frameCount := 40, opened := 0, closed := true, accepted := true }] })] }
     ((s.now 0).chan 5).frames.find? (fun x => x.frameCount == 40 && x.accepted && !x.derived) =
       some { seq := 0, frameCount := 40, opened := 0, closed := true, accepted := true }) := by decide +kernel

theorem test_TablesOfAChannel_met :
    (let s : State := { ready with chans := [(5, { luts := [(4, { copying := true })] })] }
     s.runs 0 ∧ (((s.now 0).chan 5).lut 4).copying = true) ∧
    (((ready.now 0).chan 5).lut 4).copying = false ∧ (leBytes 8 9).length = 8 ∧
    (∀ i < 4, bits 0x0001000200030004 (16 * i + 15) (16 * i) ≤ ready.lutMax 5 4) := by decide +kernel

/-! ### Search, units and coding -/

/-- A P picture of channel 5 with one reference, every row noted, and nothing issued. -/
def pic : Pic :=
  { stream := 0, count := 30, num := 30, frameSeq := 0, frameCount := 40, capture := 0, launch := 0, type := .p, irap := false
    skipped := false, refs := [29], base := 30, fb := 2 }

/-- Channel 5 codes that picture; its frame is whole. -/
def coding : State :=
  { ready with
    chans := [(5, {
      state := .open_, pics := [pic]
      frames := [{
        seq := 0, frameCount := 40, opened := 0, closed := true, accepted := true
        rowAt := (List.range 34).map (fun r => (r, 0)) }] })] }

/-- A plane of 4 × 4 samples searched in a copy of itself moved by (1, −1), with λmv 0. -/
def moved : SearchView :=
  let at_ := fun (x y : Int) => ((x + 10) * (x + 10) + 7 * (y + 10) * (x + 3)).toNat
  { archive := false, w := 4, h := 4, src := fun _ i j => at_ i j, ref := fun _ x y => at_ (x - 1) (y + 1)
    range := fun _ _ _ => { loX := -270, hiX := 270, loY := -142, hiY := 142 }, lambda := fun _ _ _ => 0
    colocated := fun _ _ _ => none }

/-- The best vector is the one that finds every sample, and two are kept (R142, R144, Table 6-2). -/
theorem test_search_finds_the_shift :
    (moved.block [] [] 0 0 0).1.head? = some { x := 1, y := -1, cost := 0 } ∧ (moved.block [] [] 0 0 0).1.length = 2 ∧
      (0 ∈ (moved.tried [] [] 0 0 0).1.map Prod.fst) := by decide +kernel

/-- Table 6-2: the reach is the sum over levels of the window times 2^k. -/
theorem test_search_reach :
    ((List.range 4).map (fun k => (searchWindow false k).1 * 2 ^ k)).sum = reachH false ∧
      ((List.range 4).map (fun k => (searchWindow false k).2 * 2 ^ k)).sum = reachV false ∧
      ((List.range 6).map (fun k => (searchWindow true k).1 * 2 ^ k)).sum = reachH true ∧
      ((List.range 6).map (fun k => (searchWindow true k).2 * 2 ^ k)).sum = reachV true := by decide +kernel

/-- R152 by hand: 0.57 at QP' 12, 0.57 × 32 at QP' 27 and its root 4.27083, in 1/65536. -/
theorem test_lambda :
    lambdaFix 57 65536 12 = 37356 ∧ lambdaFix 57 65536 27 = 1195377 ∧ lambdaMv 1195377 = 279893 := by decide +kernel

/-- Pixel core 10 in a state. -/
def withPx (x : UnitSt) : State := ready.setUnit .px 10 x

theorem test_UnitsLeaveAndReturn_met :
    (let u := (withPx { lastHandshake := 0 }).now (10 ^ 9)
     (withPx { lastHandshake := 0 }).runs (10 ^ 9) ∧ (u.unit .px 10).inService = true ∧ u.watchdogDue (u.unit .px 10) = true) ∧
    (let u := (withPx { grant := some { chan := 5, pic := 30, idx := 0, gen := 2 } }).now 0
     (u.unit .px 10).inService = true ∧ ((u.unit .px 10).grant.map (·.gen)) = some 2) ∧
    (let u := (withPx { inService := false }).now (10 ^ 6)
     u.testDue (u.unit .px 10) = true ∧ u.coreWorks 3 = true) ∧
    (((withPx { inService := false, testing := true, retired := true }).now 0).unit .px 10).testing = true ∧
    (((withPx { inService := false, testing := true, retired := true }).now 0).unit .px 10).retired = true ∧
    (((withPx { inService := false, testing := true }).now 0).unit .px 10).retired = false := by decide +kernel

/-- Channel 5 with frames of two CTUs, one above the other, each a chunk of its own. -/
def small (c : Chan) : State :=
  (((((State.setV { ready with chans := [(5, c)] } (chKey 5 K.CH_FORMAT_WIDTH) 64).setV (chKey 5 K.CH_FORMAT_HEIGHT) 128).setV
    (chKey 5 K.CH_FORMAT_SAMPLING) 1).setV (chKey 5 K.CH_TILING_CHUNK_MODE) 1).setV (chKey 5 K.CH_TILING_CHUNK_ROWS) 1)

def wholeFrame : Frame :=
  { seq := 0, frameCount := 40, opened := 0, closed := true, accepted := true, rowAt := [(0, 0), (1, 0)] }

def launched : Launched :=
  { frameSeq := 0, time := 0, type := .i, irap := true, skip := false, j := 0, isRef := true }

/-- A frame of channel 5 is next to be coded. -/
def next (x : RateStream) : State :=
  small { state := .open_, frames := [wholeFrame], launched := [launched], order := [0], rate := [(0, x)] }

def sized : RateStream := { started := 5 }
def unsized : RateStream :=
  { started := 5, pics := [{ num := 3, type := .i, base := 30, c := 0, planned := 0 }] }

/-- An I picture of channel 5, of two CTUs, with some of them coded. -/
def intra : Pic := { pic with type := .i, irap := true, refs := [] }
def inWork (p : Pic) : State := small { state := .open_, frames := [wholeFrame], pics := [p] }
def buf2 : FrameBuf := { chan := some 5, of_ := 5, granules := 1 }

theorem test_PicturesAreCoded_starts_met :
    (let u := (next unsized).now 0
     (next unsized).runs 0 ∧ (u.chan 5).nextCoded = some launched ∧ u.fatal = false ∧ u.arrayStopped 5 = false ∧
      (u.chan 5).working = true ∧ launched.startedPhases = 0 ∧ u.statReady 5 launched = true ∧
      unsized.sizesKnown 5 (u.pval launched.vals 5 K.CH_RATE_LAG) = false) ∧
    (let u := (next sized).now 0
     (u.chan 5).nextCoded = some launched ∧ u.statReady 5 launched = true ∧
      sized.sizesKnown 5 (u.pval launched.vals 5 K.CH_RATE_LAG) = true ∧ (u.chan 5).qpWait = none ∧ (u.chan 5).fbWait = none ∧
      u.fbForFrame 5 launched = none) ∧
    (let s : State := { next sized with fbs := [(2, buf2)] }
     s.runs 0 ∧ (s.now 0).fbForFrame 5 launched = some 2) := by decide +kernel

theorem test_PicturesAreCoded_codes_met :
    (let u := (inWork intra).now 0
     (inWork intra).runs 0 ∧ (u.chan 5).pic? 30 = some intra ∧ u.fatal = false ∧ u.arrayStopped 5 = false ∧
      (u.chan 5).working = true ∧ u.unitFree .px 10 = true ∧ u.unitFree .ee 10 = true ∧ u.ctuReady 5 intra 0 = true ∧
      u.earlierFirst intra = false ∧ u.haloArrived 5 intra ((u.fmt 5).ctuRow 0) = true ∧ u.recordPlace 5 intra 0 (clusterOf .ee 10) = some false ∧
      u.firn = [] ∧ u.engineOf 5 30 ((u.fmt 5).subOf 0) = none ∧ (u.chan 5).haloWait = none) := by decide +kernel

/-- Channel 5 decodes from an input. -/
def decoding (input : Nat) (d : Decoder) : State :=
  ((State.setV { ready with chans := [(5, { state := .open_, dec := d })], mags := [(0, { state := 1, capacity := 1000 })] }
    (chKey 5 K.CH_DECODE_DIRECTION) 1).setV (chKey 5 K.CH_DECODE_INPUT) input).setV (chKey 5 K.CH_LAUNCH_MODE) 2

def geom : PicGeom := { w := 64, h := 64, chroma := 1, depth := 8, ctu := 64, crop := (0, 0, 64, 64) }

/-- The picture with one reference, its frame of two CTU rows whole. -/
def searching : State :=
  small { state := .open_, pics := [pic], frames := [{ wholeFrame with lines := (List.range 128).map (fun k => (k, [])) }] }
/-- The same while rows of a halo of its reference are on their way. -/
def haloComing : HaloWait :=
  { owner := 1, req := { chan := 5, plane := 0, pic := 29, x := 0, y := 0, w := 64, h := 128, reqId := 8, final := false }
    got := 0, want := 8192, lastData := 0 }
def haloed (s : State) : State := { s with array := { s.array with halos := [(8, haloComing)] } }
def grant0 : Grant := { chan := 5, pic := 30, idx := 0, ref := 0 }

theorem test_SearchGrants_met :
    (let u := searching.now 0
     searching.runs 0 ∧ (u.chan 5).pic? 30 = some pic ∧ u.fatal = false ∧ u.arrayStopped 5 = false ∧ (u.chan 5).working = true ∧
      pic.stream = 0 ∧ 0 < (u.fmt 5).rows ∧ 0 < u.searchRefs 5 pic ∧ searchKey 0 0 ∉ pic.searched ∧
      u.searching 5 30 0 0 = false ∧ u.unitFree .ms 3 = true ∧ u.msTurn 3 = true ∧ u.rowNotedAll 5 pic 0 = true ∧
      u.blocksPresent 5 pic 0 = true ∧ u.refSettled 5 pic 0 = true ∧ u.haloArrived 5 pic 0 = true ∧
      ((u.haloWaited 5).msCharge (clusterOf .ms 3)).waitingGrant .ms grant0 = none) ∧
    (let u := (haloed searching).now 0
     u.haloArrived 5 pic 0 = false ∧ u.rowNotedAll 5 pic 0 = true) ∧
    (let u := ({ searching with reissue := [(UnitKind.ms.code, { grant0 with gen := 4 })] } : State).now 0
     ((u.haloWaited 5).msCharge (clusterOf .ms 3)).waitingGrant .ms grant0 = some { grant0 with gen := 4 }) ∧
    (let b : FrameBuf := { chan := some 5, of_ := 5, granules := 1 }
     let s := State.setUnit { searching with fbs := [(2, b)] } .ms 3 { grant := some grant0 }
     s.runs 0 ∧ ((s.now 0).unit .ms 3).grant = some grant0 ∧ ((s.now 0).chan 5).pic? 30 = some pic ∧
      (s.now 0).fb? 2 = some b ∧ b.chan.isSome = true) ∧
    (let s := ready.setUnit .ms 3 { grant := some grant0 }
     ((s.now 0).unit .ms 3).grant = some grant0 ∧ ((s.now 0).chan 5).pic? 30 = none) := by decide +kernel

/-- The picture in one chunk of two rows: one substream, or one for each row. -/
def oneChunk : Pic := { intra with vals := [(chKey 5 K.CH_TILING_CHUNK_ROWS, 2)] }
def waves (p : Pic) : State := (inWork p).setV (chKey 5 K.CH_TILING_WAVEFRONT) 1
/-- The first two of four CTUs of a row are coded, and the first of the next row could be. -/
def wide4 : Pic := { oneChunk with done := [0, 1] }
/-- Records of another channel fill every share of Firn, and there is no spill region. -/
def firnFull (p : Pic) : State :=
  { (inWork p).setV (chKey 5 K.CH_FORMAT_WIDTH) 256 with
    firn := (List.range 8).map (fun k => (recKey 9 1 0 k, { bytes := firnShare, spill := false, written := true })) }

theorem test_PicturesAreCoded_room_met :
    (let s := (firnFull wide4).setUnit .ee 10 { grant := some grant0 }
     let u := s.now 0
     s.runs 0 ∧ (u.chan 5).pic? 30 = some wide4 ∧ u.fatal = false ∧ u.arrayStopped 5 = false ∧ (u.chan 5).working = true ∧
      u.unitFree .px 10 = true ∧ u.engineOf 5 30 ((u.fmt 5).subOf 4) = some 10 ∧ u.ctuReady 5 wide4 4 = true ∧
      u.earlierFirst wide4 = false ∧ u.haloArrived 5 wide4 ((u.fmt 5).ctuRow 4) = true ∧
      u.firn.any (fun e => e.1 / 8 == recKey 5 30 4 0 / 8) = false ∧ u.recordPlace 5 wide4 4 (clusterOf .ee 10) = none) ∧
    (let s : State := { inWork intra with firn := [(recKey 5 30 0 1, { bytes := 16, spill := false, written := false })] }
     (s.now 0).firn.any (fun e => e.1 / 8 == recKey 5 30 0 0 / 8) = true ∧ (s.now 0).ctuReady 5 intra 0 = true ∧
      (s.now 0).earlierFirst intra = false) ∧
    (let p := { pic with searched := [0, 16] }
     let s : State := { searching with chans := [(5, { searching.chan 5 with pics := [p] })] }
     let u := (haloed s).now 0
     u.haloArrived 5 p ((u.fmt 5).ctuRow 0) = false ∧ u.ctuReady 5 p 0 = true ∧ u.earlierFirst p = false) := by decide +kernel

theorem test_PicturesAreCoded_ends_met :
    (let p := { oneChunk with done := [0] }
     let s := (waves p).setUnit .ee 10 { grant := some grant0 }
     let u := s.now 0
     s.runs 0 ∧ (u.unit .ee 10).grant = some grant0 ∧ (u.chan 5).pic? 30 = some p ∧ u.chunkOf 5 p 0 = some (0, 1) ∧
      ((u.fmt 5).wavefront && (u.fmt 5).ctuRow 0 ≠ 1) = true ∧ ((u.fmt 5).subCtus 0).all p.done.contains = true) ∧
    (let p := { intra with done := [0] }
     let s := (inWork p).setUnit .ee 10 { grant := some grant0 }
     let u := s.now 0
     s.runs 0 ∧ u.chunkOf 5 p 0 = some (0, 0) ∧ ((u.fmt 5).wavefront && (u.fmt 5).ctuRow 0 ≠ 0) = false ∧
      ((u.fmt 5).chunkCtus 0 0).all p.done.contains = true ∧ u.innerDone 5 p (0, 0) = true ∧
      (u.chunkList 5 p).getLast? ≠ some (0, 0) ∧ (u.obtain 5 1 10 1).1.isSome = true) ∧
    (let s := ready.setUnit .px 10 { grant := some grant0 }
     s.runs 0 ∧ ((s.now 0).unit .px 10).grant = some grant0 ∧ ((s.now 0).chan 5).pic? 30 = none) ∧
    (let s := (inWork intra).setUnit .px 10 { grant := some grant0 }
     ((s.now 0).unit .px 10).grant = some grant0 ∧ ((s.now 0).chan 5).pic? 30 = some intra) := by decide +kernel

/-- Channel 5 passes frames through. -/
def passing : State := (inWork intra).setV (chKey 5 K.CH_OUTPUT_ESSENCE) 1
def verifies : Grant := { chan := 5, pic := 30, idx := 0, verify := true }

theorem test_PicturesAreCoded_leaves_met :
    (let p := { intra with chunks := [{ firstCtu := 0, lastRow := 0, data := [1, 2], bufs := [7] }] }
     let u := (inWork p).now 0
     u.cv 5 K.CH_DECODE_DIRECTION = 0 ∧ (u.fmt 5).pass = false ∧
      u.nextChunk 5 0 = some (p, { firstCtu := 0, lastRow := 0, data := [1, 2], bufs := [7] }, true, false) ∧
      u.destWaits 5 p 2 = false ∧ u.pathFree = true) ∧
    (let p := { intra with chunks := [{ firstCtu := 0, lastRow := 0, data := [1, 2], bufs := [7] }] }
     let u := ({ inWork p with outBusy := 1000 } : State).now 0
     u.destWaits 5 p 2 = false ∧ u.pathFree = false) ∧
    (let u := passing.now 0
     passing.runs 0 ∧ (u.chan 5).working = true ∧ u.cv 5 K.CH_DECODE_DIRECTION = 0 ∧ (u.fmt 5).pass = true ∧
      (u.chan 5).pics = intra :: []) ∧
    (let s := ready.setUnit .df 3 { grant := some verifies }
     let u := s.now 0
     s.runs 0 ∧ (u.unit .df 3).grant = some verifies ∧ (u.verifySub 3 verifies false).verifying 5 30 = false ∧
      (u.verifySub 3 verifies false).fbs = []) ∧
    (let s := (ready.setUnit .df 3 { grant := some verifies }).setUnit .df 4 { grant := some { verifies with idx := 1 } }
     ((s.now 0).verifySub 3 verifies false).verifying 5 30 = true) ∧
    (let b : FrameBuf := { buf2 with verifyLeft := [30], verifyBad := [30] }
     let s : State := { ready.setUnit .df 3 { grant := some verifies } with fbs := [(2, b)] }
     ((s.now 0).verifySub 3 verifies false).fbs.any (fun e => e.2.of_ == 5 && e.2.verifyLeft.contains 30 && e.2.verifyBad.contains 30) =
       true) := by decide +kernel

/-- CRC-32C with each remainder worked out before the next byte. -/
def crcEach : List Byte → BitVec 32 → BitVec 32
  | [], a => a
  | b :: r, a => match (crcByte a b).toNat with
    | 0 => crcEach r 0#32
    | n + 1 => crcEach r (BitVec.ofNat 32 (n + 1))

theorem crcEach_eq (bs : List Byte) (a : BitVec 32) : bs.foldl crcByte a = crcEach bs a := by
  induction bs generalizing a with
  | nil => rfl
  | cons b r ih =>
    rw [List.foldl_cons, ih, crcEach]
    generalize crcByte a b = x
    have e : x = BitVec.ofNat 32 x.toNat := by simp
    cases h : x.toNat with
    | zero => rw [e, h]
    | succ n => simp only; rw [← h, ← e]

/-- A record of the clip table that ends in the CRC of its first 4,092 bytes. -/
theorem readRecord_of {s : State} {m clip : Nat} {b : List Byte} (h : s.v (magKey m K.MAG_CLIP_TABLE_LBA) ≠ 2 ^ 64 - 1)
    (hb : Memory.readBytes (s.mag m).content ((s.v (magKey m K.MAG_CLIP_TABLE_LBA) + clip) * 4096) 4096 = b)
    (hc : leNat (b.drop 4092) = (~~~ crcEach (b.take 4092) 0xFFFFFFFF#32).toNat) : s.readRecord m clip = some b := by
  unfold State.readRecord
  simp only [hb, crc32c, crcEach_eq]
  exact if_neg (by simp only [hc]; simpa using h)

/-- A magazine with clip 3 in its table at block 16: one access unit of the bytes 7, 8, 9, launched at 77. -/
def indexBytes : List Byte :=
  let b := leBytes 16 0 ++ leBytes 4 3 ++ leBytes 8 77
  b ++ leBytes 4 (crc32c b).toNat
def clipContent : Memory :=
  let e : Extent := { start := 1, blocks := 1, isIndex := true }
  let d : Extent := { start := 2, blocks := 1, isIndex := false }
  (((((Memory.writeBytes [] 4096 indexBytes).writeBytes 8192 [7, 8, 9]).writeBytes (19 * 4096 + 48) (leBytes 4 1)).writeBytes
    (19 * 4096 + 66) (leBytes 2 2)).writeBytes (19 * 4096 + 128) (leBytes 8 (e.word 0) ++ leBytes 8 (d.word 0))).writeBytes
      (20 * 4096 - 4) (leBytes 4 1813634112)
def clipState (s : State) : State :=
  State.setV { s with mags := [(0, { state := 1, capacity := 1000, content := clipContent })] } (magKey 0 K.MAG_CLIP_TABLE_LBA) 16
def clipRec : List Byte := Memory.readBytes clipContent (19 * 4096) 4096

theorem clipRec_crc : leNat (clipRec.drop 4092) = (~~~ crcEach (clipRec.take 4092) 0xFFFFFFFF#32).toNat := by decide +kernel
theorem clipRec_units : clipEntries clipContent clipRec = [(77, 0, [7, 8, 9])] := by decide +kernel
theorem test_PicturesAreCoded_waits_met :
    (let p := { intra with
       vals := [(chKey 5 K.CH_OUTPUT_QUEUE, 9)], chunks := [{ firstCtu := 0, lastRow := 0, data := [1, 2], bufs := [7] }] }
     let u := ((inWork p).setV (winKey 9 K.EQ_CONFIG_KIND) 1).now 0
     u.destWaits 5 p 2 = true) := by decide +kernel

/-- The flow that channel 5 takes by default. -/
def flow5 : RtpFlow := { port := 0, addr := 0, udp := 5004 }

theorem test_StreamsAreDecoded_packets_met :
    (let u := (decoding 2 {}).now 0
     (decoding 2 {}).runs 0 ∧ u.fatal = false ∧ u.decodes 5 = true ∧ u.cv 5 K.CH_DECODE_INPUT = 2 ∧ (u.chan 5).dec.rtpNext = none ∧
      u.flowOf 5 flow5 96 = true ∧
      (5 + 65536 - ((u.chan 5).dec.rtpNext.getD (65536 + 5)) % 65536) % 65536 < 32768) ∧
    ((decoding 2 {}).now 0 |>.chan 5).dec.rtpFill + ([] : List Byte).length ≤ Config.rtpBuffer := by
  exact ⟨by decide +kernel, Nat.zero_le _⟩

/-- Channel 5 decodes clip 3. -/
def decodingClip : State := (clipState (decoding 1 {})).setV (chKey 5 K.CH_DECODE_CLIP) 3

theorem test_StreamsAreDecoded_clip_met :
    (let u := decodingClip.now 0
     decodingClip.runs 0 ∧ u.decodes 5 = true ∧ u.cv 5 K.CH_DECODE_INPUT = 1 ∧ (u.chan 5).fbWait = none ∧
      u.cv 5 K.CH_DECODE_PORT = 0 ∧ (u.mag 0).state = 1 ∧ (u.obtain 5 3 0 (ceilDiv 3 (max 1 u.pool.bufBytes))).1.isSome = true) ∧
    (decodingClip.now 0).clipUnit 5 = some (0, [7, 8, 9]) := by
  refine ⟨by decide +kernel, ?_⟩
  have hm : ((decodingClip.now 0).mag 0).content = clipContent := by decide +kernel
  have ht : (decodingClip.now 0).v (magKey 0 K.MAG_CLIP_TABLE_LBA) = 16 := by decide +kernel
  have e : (decodingClip.now 0).readRecord 0 3 = some clipRec := by
    refine readRecord_of (by rw [ht]; decide) ?_ clipRec_crc
    rw [hm, ht, clipRec, show (16 + 3) * 4096 = 19 * 4096 by decide]
  have hu : ((clipEntries clipContent clipRec)[((decodingClip.now 0).chan 5).dec.clipNext]?).map Prod.snd = some (0, [7, 8, 9]) := by
    rw [clipRec_units]; decide +kernel
  have hp : (decodingClip.now 0).cv 5 K.CH_DECODE_PORT = 0 := by decide +kernel
  have hc : (decodingClip.now 0).cv 5 K.CH_DECODE_CLIP = 3 := by decide +kernel
  unfold State.clipUnit
  simp only [hp, hc, e, hm, Option.bind_some, hu]
  decide

theorem test_StreamsAreDecoded_units_met :
    (let u := (decoding 0 { input := [0, 0, 1, 9] }).now 0
     let v := u.skipOn 5
     let e := (v.chan 5).dec
     (decoding 0 { input := [0, 0, 1, 9] }).runs 0 ∧ u.fatal = false ∧ u.decodes 5 = true ∧ u.activeOf .df ≠ 0 ∧
      e.skipping = none ∧ e.gapIn 4 = none ∧ v.badLength 5 = false ∧ v.cv 5 K.CH_CODEC_STREAM_FORMAT ≠ 1 ∧ 4 ≤ e.input.length ∧
      e.seek = false) ∧
    (let e := ((((decoding 0 { input := [0, 0, 1, 9], gaps := [2] }).now 0).skipOn 5).chan 5).dec
     e.skipping = none ∧ e.gapIn 4 = some 2) ∧
    (let s := (decoding 0 { input := [0, 0, 0, 0, 9] }).setV (chKey 5 K.CH_CODEC_STREAM_FORMAT) 1
     let v := (s.now 0).skipOn 5
     s.runs 0 ∧ (v.chan 5).dec.gapIn 5 = none ∧ v.badLength 5 = true) ∧
    (let s := (decoding 0 { input := [0, 0, 0, 1, 9] }).setV (chKey 5 K.CH_CODEC_STREAM_FORMAT) 1
     let v := (s.now 0).skipOn 5
     v.cv 5 K.CH_CODEC_STREAM_FORMAT = 1 ∧ v.badLength 5 = false ∧
      4 + beNat ((v.chan 5).dec.input.take 4) ≤ (v.chan 5).dec.input.length) ∧
    (let p : DecPic := { count := 3, geom := geom, fb := 1 }
     let u := (decoding 0 { pics := [p] }).now 0
     (u.chan 5).dec.pics.find? (fun p => p.count == 3 && !p.dealt) = some p ∧ u.releaseTime 5 = some 1) := by decide +kernel

theorem test_skipOn_when_not_skipping : (decoding 0 {}).skipOn 5 = decoding 0 {} := rfl

def out1 (b : Buf) : State := { ready with pool := { bufs := [(7, b)] } }

theorem test_BuffersAreKept_met :
    (let s : State := { ready with chans := [(5, { state := .open_ })] }
     s.runs 0 ∧ (s.now 0).fatal = false ∧ ((s.now 0).chan 5).working = true ∧ 0 < (s.now 0).pool.free) ∧
    (let s : State := { ready with pool := { total := 0 } }
     s.runs 0 ∧ (s.now 0).pool.free = 0) ∧
    ((out1 { owner := 4 }).runs 0 ∧ Store.find? ((out1 { owner := 4 }).now 0).pool.bufs 7 = some { owner := 4 }) ∧
    Store.find? ((out1 { freed := true, sharers := [9] }).now 0).pool.bufs 7 = some { freed := true, sharers := [9] } ∧
    Store.find? (ready.now 0).pool.bufs 7 = none ∧
    (let s : State := State.setV { ready with fbs := [(2, { buf2 with pic := some (30, 1) })] } (chKey 5 K.CH_REFS_FB_EXTRA) 3
     (s.fbsOf 5).find? (fun e => e.2.holds 30) = some (2, { buf2 with pic := some (30, 1) }) ∧ buf2.exportHold = false ∧
      ((s.fbsOf 5).filter (fun e => e.2.exportHold)).length + 1 < s.cv 5 K.CH_REFS_FB_EXTRA) ∧
    (let b := { buf2 with pic := some (30, 1), exportHold := true }
     List.find? (fun (e : Nat × FrameBuf) => e.2.of_ == 5 && e.2.holds 30 && e.2.exportHold) [(2, b)] = some (2, b)) := by
  decide +kernel

/-! ### Time, launches and record inputs -/

/-- A time base in a state, on a SOURCE. -/
def timed (source : Nat) (b : TimeBase) : State := State.setV { ready with tb := b } K.TIME_BASE_SOURCE source

theorem test_PtpMessages_met :
    (timed 1 {}).runs 0 ∧ ((timed 1 {}).now 0).source = 1 ∧ ((timed 1 {}).now 0).tb.path = none ∧
    ((timed 1 { sync := some (9, 500), path := some 40 }).now 0).tb.sync = some (9, 500) ∧
    ((timed 1 { sync := some (9, 500), path := some 40 }).now 0).tb.path = some 40 ∧
    ((timed 1 { delayReq := some 70, ms := some (-3) }).now 80).tb.delayReq = some 70 ∧
    ((timed 1 { delayReq := some 70, ms := some (-3) }).now 80).tb.ms = some (-3) ∧
    ((timed 1 {}).now 0).ro K.PTP_CONFIG_PORT_STATE ≠ 9 := by decide +kernel

/-- The mean path delay is half the sum of the two differences: 20 one way and 30 the other give 25 (R252). -/
theorem test_mean_path_delay :
    (let s := timed 1 { delayReq := some 1000, ms := some 20 }
     match exec (.ptpDelayResp 2000 1030) s with
     | .next v => v.tb.path == some 25
     | _ => false) = true := by decide +kernel

theorem test_TimeReferences_met :
    (let s := State.setV { ready with tb := { state := .holdover } } K.TIME_BASE_HOLDOVER_MAX_S 1
     s.runs (10 ^ 9) ∧ (s.now (10 ^ 9)).tb.state = .holdover ∧ (s.now (10 ^ 9)).v K.TIME_BASE_HOLDOVER_MAX_S ≠ 0 ∧
      (s.now (10 ^ 9)).tb.holdStart + (s.now (10 ^ 9)).v K.TIME_BASE_HOLDOVER_MAX_S * 1000000000 ≤ (s.now (10 ^ 9)).time) ∧
    (((timed 2 {}).now (3 * 10 ^ 9)).source = 2 ∧ 0 + 3000000000 ≤ ((timed 2 {}).now (3 * 10 ^ 9)).time) ∧
    ((timed 2 {}).tb.state = .freerun ∧ (timed 2 { state := .locked }).tb.state = .locked) ∧
    (((timed 0 {}).now 0).v K.TIME_BASE_SOURCE = 0 ∧ ((timed 0 {}).now 0).stepAllowed = true) ∧
    ((timed 1 {}).now 0).v K.TIME_BASE_SOURCE = 1 ∧
    (((timed 2 {}).now 7).v K.PPS_LTC_PPS_IN_EDGE = 0 ∧ ((timed 2 {}).now 7).tb.tod = none ∧
      ((timed 2 {}).now 7).tb.state ≠ .locked) ∧
    (100000 < (distTo 1000000000 ((timed 2 { state := .locked }).now 200000).time).natAbs) ∧
    (let s := (timed 2 {}).setV K.PPS_LTC_PPS_OUT_EN 1
     s.runs (10 ^ 9) ∧ (s.now (10 ^ 9)).v K.PPS_LTC_PPS_OUT_EN = 1 ∧
      (((s.now (10 ^ 9)).time : Int) - (s.now (10 ^ 9)).vi K.PPS_LTC_PPS_OUT_OFFSET_NS) % 1000000000 = 0) ∧
    (let u := (timed 0 { ltc := [(0, 1, 2)] }).now (10 ^ 9)
     u.tb.ltc = (0, 1, 2) :: [] ∧ 4 * (ltcFrac 2).2 * 1000000000 ≤ (u.time - 0) * (ltcFrac 2).1) := by decide +kernel

/-- Channel 5 open under a launch MODE. -/
def launching (mode : Nat) (c : Chan) : State :=
  State.setV { ready with chans := [(5, { c with state := .open_ })] } (chKey 5 K.CH_LAUNCH_MODE) mode

/-- The time master of an array of DEV 0 and 1, and a follower of DEV 1. -/
def master (c : Chan) : State :=
  { (launching 0 c).setV (chKey 5 K.CH_ARRAY_ARRAY_EN) 1 with
    array := { state := 2, epoch := 4, coordinator := 0, members := 3, epochTime := 0 } }
def followerOf (c : Chan) : State :=
  { (launching 0 c).setV (chKey 5 K.CH_ARRAY_ARRAY_EN) 1 with
    array := { state := 2, epoch := 4, coordinator := 1, members := 3 } }
/-- A master alone in its array: no member shows other settings. -/
def alone : State := { master {} with array := { (master {}).array with members := 1 } }

theorem test_Launches_fires_met :
    (let s := launching 0 {}
     s.runs 50 ∧ (s.now 50).fatal = false ∧ ((s.now 50).dueLaunch 5).isSome = true ∧
      ((s.now 50).dequeueLaunch 5).cv 5 K.CH_DECODE_DIRECTION = 0) ∧
    (let s := (launching 0 {}).setV (chKey 5 K.CH_DECODE_DIRECTION) 1
     s.runs 50 ∧ ((s.now 50).dueLaunch 5).isSome = true ∧
      ((s.now 50).dequeueLaunch 5).cv 5 K.CH_DECODE_DIRECTION = 1) ∧
    (ready.now 0).listLive 5 4096 ≤ 4096 := by decide +kernel

theorem test_Launches_pairs_met :
    (let s := launching 2 { pairs := [{ time := 3, limit := 9, force := false, idle := some false }] }
     s.runs 9 ∧ (((s.now 9).pairUp 5).chan 5).pairs.map (fun w => (w.idle.isSome, w.limit)) = [(true, 9)] ∧
      ((s.now 9).pairUp 5).time = 9) := by decide +kernel

theorem test_Launches_sends_met :
    (let u := (master {}).now 0
     (master {}).runs 0 ∧ u.timeMaster = true ∧ (u.chan 5).state = .open_ ∧ (u.fmt 5).array = true ∧
      (u.arrayNext 5).isSome = true ∧ u.membersMatch 5 = false) ∧
    (let u := alone.now 0
     u.timeMaster = true ∧ u.membersMatch 5 = true) := by decide +kernel

theorem test_Launches_follows_met :
    (let u := (followerOf {}).now 60
     (followerOf {}).runs 60 ∧ u.follower = true ∧ u.array.coordinator = 1 ∧
      (match u.bugleFresh 1 7 with
        | some v => (v.chan 5).state == .open_ && (v.fmt 5).array && (v.chan 5).lastLaunch == none && v.time == 60
        | none => false) = true) := by decide +kernel

theorem test_Launches_modes_met :
    (let u := alone.now 0
     alone.runs 0 ∧ u.timeMaster = true ∧ (u.chan 5).state = .open_ ∧ (u.fmt 5).array = true ∧ u.membersMatch 5 = true ∧
      (match u.arrayNext 5 with
       | some next => (u.sendLaunch 5 next.1 next.2).cv 5 K.CH_LAUNCH_MODE == 0
       | none => false) = true) ∧
    (let s : State := State.modChan (alone.setV (chKey 5 K.CH_LAUNCH_MODE) 1) 5 (fun c => { c with listHead := some (9, false) })
     let u := s.now 0
     u.timeMaster = true ∧ u.membersMatch 5 = true ∧
      (match u.arrayNext 5 with
       | some next => (u.sendLaunch 5 next.1 next.2).cv 5 K.CH_LAUNCH_MODE == 1
       | none => false) = true) := by decide +kernel

theorem test_ArrayTime_met :
    (let u := (master {}).now (5 * 10 ^ 6)
     (master {}).runs (5 * 10 ^ 6) ∧ u.timeMaster = true ∧ u.time % 1000000 = 0 ∧ u.recIn.changes = []) ∧
    (let u := (followerOf {}).now (3 * 10 ^ 6)
     (followerOf {}).runs (3 * 10 ^ 6) ∧ u.follower = true ∧ u.array.coordinator = 1 ∧ (u.bugleFresh 1 7).isSome = true ∧
      u.tb.state ≠ .locked ∧ u.tb.todEdge = none ∧ u.tb.lastSync + 3000000 ≤ u.time) ∧
    (let s : State := { followerOf {} with tb := { state := .locked } }
     s.runs 2000 ∧ (s.now 2000).tb.state = .locked ∧
      1000 < (distTo 1000000 (((s.now 2000).time : Int) - (s.now 2000).v K.ARRAY_TIME_SYNC_DELAY_NS).toNat).natAbs) ∧
    ¬(1 ≤ 9 ∧ 9 ≤ 3) := by decide +kernel

/-- Record inputs in a state. -/
def recording (r : RecInput) : State := { ready with recIn := r }

theorem test_RecordInputs_met :
    ((ready.now 0).pinsCount = true ∧
      ((ready.now 0).recExpire (sampleAt (ready.now 0).time - 1)).pinsCount = true ∧
      (((ready.now 0).recExpire (sampleAt (ready.now 0).time - 1)).recRearm (sampleAt (ready.now 0).time - 1)).pinsCount = true) ∧
    (let u := (recording { state := 1, t1 := 10, td := 5 }).now 15
     (recording { state := 1, t1 := 10, td := 5 }).runs 15 ∧ u.pinsCount = true ∧ u.recIn.state = 1 ∧
      u.recIn.t1 + u.recIn.td ≤ u.time) ∧
    (let u := (recording { state := 4, rearm := some (10, 5) }).now 15
     u.pinsCount = true ∧ u.recIn.state = 4 ∧ u.recIn.rearm = some (10, 5) ∧ 10 + 5 ≤ u.time) ∧
    ((recording { state := 0, pinA := true, pinB := false }).recIn.both true = true) ∧
    ((recording { state := 1, pinA := false, pinB := true }).recIn.both false = true) ∧
    (let s := (recording { state := 0 }).setV K.REC_INPUT_REC_SOURCE 1
     s.v K.REC_INPUT_REC_SOURCE = 1 ∧ s.follower = false ∧ s.recIn.recording ≠ true) := by decide +kernel

/-! ### The array -/

/-- Quad 3 is a RONOX port to DEV 1, of a member of the array of DEV 0 and 1. -/
def linked (p : RonoxPort) (a : ArraySt) : State :=
  (((State.setV { ready with ronox := [(3, { p with up := true })], array := a } (K.QUAD_ROLE_QUAD_ROLE + 3) 0x30).setV
    K.ARRAY_CONFIG_ARRAY_EN 1).setV K.ARRAY_CONFIG_MEMBERS 3).setV K.ARRAY_CONFIG_STANDBY 0

def flit : Nat × Flit := (0, { type := 0x10, epoch := 4, src := 0, dst := 0xFF, cls := 0, body := [] })
def hello1 : Hello := { dev := 1, members := 3, standby := 0, topology := 0, state := 1, epoch := 0 }

theorem test_RonoxPorts_met :
    (let u := (linked {} { firstUp := some 0 }).now 0
     (linked {} { firstUp := some 0 }).runs 0 ∧ u.isRonox 3 = true ∧ u.v K.ARRAY_CONFIG_ARRAY_EN ≠ 0 ∧
      u.array.firstUp.isSome = true ∧ (u.port 3).up = true ∧ (u.port 3).retraining = false ∧ (u.port 3).replay = [] ∧
      (u.port 3).naks < 8) ∧
    (let u := (linked { replay := [flit] } {}).now 100000
     (u.port 3).retraining = false ∧ (u.port 3).replay ≠ [] ∧ (u.port 3).ackAt + 100000 ≤ u.time) ∧
    (let u := (linked { retraining := true } {}).now 0
     (u.port 3).retraining = true ∧ u.time ≤ (u.port 3).retrainAt + 10000000) ∧
    ((((linked { naks := 7 } {}).now 0).port 3).naks = 7) ∧
    (let p := ((linked { rxCount := (256, 0, 0), rxCredit := (256, 512, 7424) } {}).now 0).port 3
     p.rxCount = (256, 0, 0) ∧ p.rxCredit = (256, 512, 7424)) ∧
    (let u := (linked {} {}).now 0
     hello1.dev < 8 ∧ hello1.dev ≠ u.dev ∧ bit (u.v K.ARRAY_CONFIG_MEMBERS) hello1.dev = true ∧
      hello1.members = u.v K.ARRAY_CONFIG_MEMBERS ∧ hello1.standby = u.v K.ARRAY_CONFIG_STANDBY ∧
      hello1.topology = u.v K.ARRAY_CONFIG_TOPOLOGY ∧
      (let w := (u.setPort 3 { u.port 3 with neighbour := some hello1.dev }).endFault F.ARRAY_CONFIG_MISMATCH 3
       (w.setPeer hello1.dev { w.peer hello1.dev with state := hello1.state, fenced := decide (hello1.state = 4) }).inArray = false)) ∧
    (let u := (linked {} {}).now 0
     7 ≠ u.v K.ARRAY_CONFIG_MEMBERS ∧
      hello1.dev ≠ (State.raise (u.setPort 3 { u.port 3 with neighbour := none }) F.ARRAY_CONFIG_MISMATCH
        { inst := 3, detail := [3] }).dev) := by decide +kernel

/-- The port with a neighbour and room in every class, in an array of DEV 0 and 1 at epoch 4. -/
def joined (f : ArraySt → ArraySt) : State :=
  linked { neighbour := some 1, rxCredit := (256, 512, 7424) }
    (f { state := 2, epoch := 4, coordinator := 0, members := 3, epochTime := 0 })
def from1 (cls seq : Nat) : FlitHead := { port := 3, epoch := 4, seq := seq, src := 1, dst := 0, hops := 0, cls := cls }
def request : HaloReq := { chan := 5, plane := 0, pic := 30, x := 0, y := 0, w := 4, h := 4, reqId := 8, final := false }

theorem test_FlitsAndHalos_met :
    (let u := (joined id).now 0
     let p := u.port 3
     (joined id).runs 0 ∧ u.isRonox 3 = true ∧ p.up = true ∧ p.neighbour.isSome = true ∧
      creditLeft (cls3 p.rxCredit 2) (cls3 p.rxCount 2) = true ∧ 9 ≠ p.rxSeq ∧ 0 = p.rxSeq ∧ (from1 2 0).dst = u.dev ∧
      u.dstOk 0 = true ∧ (from1 2 0).epoch = u.array.epoch ∧ epochAfter 4 u.array.epoch = 0 ∧
      (u.acceptFlit (from1 1 0) 0x20 1 0 (haloBody request)).1 = true ∧
      (u.acceptFlit (from1 2 0) 0x21 2 0 (leBytes 4 8 ++ leBytes 4 0 ++ [1, 2])).1 = true) ∧
    (let w : HaloWait := { owner := 1, req := request, got := 0, want := 2, lastData := 0 }
     let u := (joined (fun a => { a with halos := [(8, w)] })).now 200000
     Store.find? u.array.halos 8 = some w ∧ w.got = 0 ∧ [1, 2].length = w.want ∧ w.lastData + 200000 ≤ u.time) ∧
    (let u := (joined (fun a => { a with halosDone := [(5, 30, 0, 1)] })).now 0
     u.array.finals = [] ∧
      u.array.halos.any (fun e => e.2.owner == 1 && e.2.req.chan == 5 && e.2.req.pic == 30 % 2 ^ 32) = false ∧
      u.array.halosDone.any (fun e => e.1 == 5 && e.2.1 == 30 % 2 ^ 32 && e.2.2.2 == 1) = true) := by decide +kernel

def beat (sent : Time) (fenced : Bool) : Heartbeat :=
  { sendTime := sent, state := 2, heard := 3, neighbours := [], slots := [], fenced := fenced, coordinator := false }
def newEpoch : EpochMsg :=
  { epoch := 5, members := 3, standby := 0, dead := 0xFF, taker := 0xFF, coordinator := 1, declareTime := 0 }
def relayed : FaultRecord :=
  { fault := 0, event := 3, reaction := 0, depth := 0, dev := 1, loc := 0, time := 0, seq := 0, detail := [] }

theorem test_ArrayMembership_met :
    (let u := (joined id).now 10000
     (joined id).runs 10000 ∧ u.array.state ≠ 0 ∧ u.array.lastHbSend + 10000 ≤ u.time ∧
      (u.acceptFlit (from1 0 0) 0x10 0 (heartbeatFlags (beat 10000 false)) (heartbeatBody (beat 10000 false))).1 = true ∧
      1 ≠ (u.acceptFlit (from1 0 0) 0x10 0 (heartbeatFlags (beat 10000 false)) (heartbeatBody (beat 10000 false))).2.dev ∧
      (u.acceptFlit (from1 0 0) 0x11 0 0 (epochBody newEpoch)).1 = true ∧
      (u.acceptFlit (from1 0 0) 0x11 0 0 (epochBody newEpoch)).2.array.state ≠ 0 ∧
      1 ≤ epochAfter newEpoch.epoch u.array.epoch ∧ epochAfter newEpoch.epoch u.array.epoch ≤ 0x7FFF ∧
      (u.acceptFlit (from1 0 0) 0x12 0 0 (leBytes 2 4)).1 = true ∧
      (u.acceptFlit (from1 0 0) 0x13 0 0 relayed.bytes).1 = true ∧
      (u.acceptFlit (from1 0 0) 0x13 0 0 relayed.bytes).2.coordinates = true ∧ (faultInfo? 0).isSome = true) ∧
    (let u := (joined id).now 60000
     (u.acceptFlit (from1 0 0) 0x10 0 (heartbeatFlags (beat 9999 false)) (heartbeatBody (beat 9999 false))).2.time = 60000 ∧
      9999 + 50000 < 60000) ∧
    (let u := (joined (fun a => { a with peers := [(1, { lastHb := some 0 })] })).now 100001
     (u.peer 1).lastHb = some 0 ∧ 0 + 100000 < u.time) ∧
    (let u := (joined (fun a => { a with members := 15 })).now 0
     u.inArray = true ∧ u.hearers < popCount 8 u.array.members / 2 ∧ u.array.state ≠ 4) ∧
    (let u := (joined id).now 1000000
     bit u.array.members 1 = true ∧ u.declares 1 = true ∧ u.silent 1 = true ∧ (∀ d < 8, d < 1 → u.declares d = false)) ∧
    (let u := (joined (fun a => { a with declared := some (newEpoch, 200000) })).now 100000
     u.array.declared = some (newEpoch, 200000) ∧ u.coordinates = true ∧ u.array.lastRepeat + 100000 ≤ u.time ∧
      u.time ≤ 200000) ∧
    (let u := (joined (fun a => { a with declared := some (newEpoch, 5) })).now 100000
     u.array.declared = some (newEpoch, 5) ∧ 5 < u.time) ∧
    (let s := linked {} { state := 1, firstUp := some 0 }
     let u := s.now (10 ^ 12)
     s.runs (10 ^ 12) ∧ u.array.firstUp = some 0 ∧ u.array.state = 1 ∧
      0 + u.v K.ARRAY_CONFIG_FORM_TIMEOUT_MS * 1000000 ≤ u.time ∧
      2 * popCount 8 ((List.range 8).foldl
        (fun m d => if bit (u.v K.ARRAY_CONFIG_MEMBERS) d && bit u.reachable d then setBit m d true else m) 0) ≤
          popCount 8 (u.v K.ARRAY_CONFIG_MEMBERS)) ∧
    (let u := (joined (fun a => { a with members := 1, peers := [(1, { fenced := true, neighbours := [0] })] })).now 0
     u.coordinates = true ∧ bit u.array.members 1 = false ∧ bit u.reachable 1 = true ∧ (u.peer 1).fenced = true) := by
  decide +kernel

theorem test_ArrayMembership_more_met :
    (let s := linked {} { state := 1, firstUp := some 0, peers := [(1, { neighbours := [0] })] }
     let s : State := { s with ronox := [(3, { up := true, neighbour := some 1 })] }
     let u := s.now (10 ^ 12)
     popCount 8 (u.v K.ARRAY_CONFIG_MEMBERS) < 2 * popCount 8 ((List.range 8).foldl
        (fun m d => if bit (u.v K.ARRAY_CONFIG_MEMBERS) d && bit u.reachable d then setBit m d true else m) 0)) ∧
    (let u := (joined id).now 10000
     let v := (u.acceptFlit (from1 0 0) 0x10 0 (heartbeatFlags (beat 10000 true)) (heartbeatBody (beat 10000 true))).2
     let w := (v.heard 1 4 (beat 10000 true)).tryForm
     (u.acceptFlit (from1 0 0) 0x10 0 (heartbeatFlags (beat 10000 true)) (heartbeatBody (beat 10000 true))).1 = true ∧
      ((beat 10000 true).fenced && bit w.array.members 1 && w.declares 1) = true) ∧
    (let u := (joined (fun a => { a with state := 4 })).now 0
     u.array.state = 4) := by decide +kernel

theorem test_FlitsAndHalos_more_met :
    (let w : HaloWait := { owner := 1, req := request, got := 0, want := 4, lastData := 0 }
     let u := (joined (fun a => { a with halos := [(8, w)] })).now 0
     Store.find? u.array.halos 8 = some w ∧ 0 ≤ w.got ∧ min w.want (max w.got (0 + [1, 2].length)) < w.want) ∧
    (let u := (joined (fun a => { a with halosDone := [(5, 30, 0, 1)], finals := [(5, 30, 1, 3, 0)] })).now 10000
     u.array.finals.find? (fun e => e.1 == 5 && e.2.1 == 30 && e.2.2.1 == 1) = some (5, 30, 1, 3, 0) ∧ 0 + 10000 ≤ u.time) := by
  decide +kernel

/-! ### Egress and magazines -/

/-- Quad 2 holds four Ethernet ports of 50 Gbit/s; port 0x20 is up as given, and queue 9 sends there. -/
def wired (e : EthPort) (q : EgressQ) : State :=
  (State.setV { ready with eth := [(0x20, e)], queues := [(9, q)] } (K.QUAD_ROLE_QUAD_ROLE + 2) 0x23).setV
    (winKey 9 K.EQ_CONFIG_PORT) 0x20

def packet : Packet :=
  { wire := 200, head := { mac := none, src := (0, 0), ip := 0, ports := 0, vlan := 0, dscpTtl := 0 }, payload := [1] }
def oneHeld : EgressQ := { state := 1, held := [{ chan := 5, bufs := [], bytes := 1, packets := [packet] }] }

theorem test_EgressQueues_met :
    ({} : EgressQ).state = 0 ∧ ({ state := 2 } : EgressQ).state = 2 ∧
    (let s := (wired { link := true } oneHeld).setV (ethKey 0x20 K.ETH_PORT_IP_ADDR) 0x0A000001
     let u := s.now 5000
     s.runs 5000 ∧ u.fatal = false ∧ (u.ethPort 0x20).link = true ∧
      (u.ethPort 0x20).busy = none ∧ u.portRate 0x20 ≠ 0 ∧ u.selected 0x20 = some 9 ∧ refillsDue u.shaperAt u.time ≠ 0 ∧
      u.dict.waiting = [] ∧ u.eq 9 K.EQ_CONFIG_SHAPE_RATE = 0 ∧ refillsDue u.meterAt u.time ≠ 0) ∧
    ((((wired { busy := some 9 } {}).now 0).ethPort 0x20).busy = some 9) := by decide +kernel

theorem shape_rate_default (k : Nat) (h1 : k % 2 ^ 24 = 2769159) (h2 : k % 256 = 7) (h3 : k ≠ K.UDP_CONFIG_IP_ADDR) :
    ready.v k = 0 := by
  unfold State.v
  rw [show ready.dict.appl = [] from rfl]
  simp only [Store.find?]
  unfold State.dflt entryOfKey
  rw [if_neg h3, h1, h2]
  decide +kernel

/-- No queue of a device whose dictionary is at its defaults is shaped. -/
theorem test_no_queue_shaped : ∀ q, ready.eq q K.EQ_CONFIG_SHAPE_RATE = 0 := by
  intro q
  exact shape_rate_default _ (by simp only [winKey, K.EQ_CONFIG_SHAPE_RATE]; omega)
    (by simp only [winKey, K.EQ_CONFIG_SHAPE_RATE]; omega)
    (by simp only [winKey, K.EQ_CONFIG_SHAPE_RATE, K.UDP_CONFIG_IP_ADDR]; omega)

theorem test_EthernetPorts_met :
    (let u := (wired {} {}).now 0
     (wired {} {}).runs 0 ∧ u.portRate 0x20 ≠ 0) ∧
    (let s : State := { wired { link := true } {} with queues := [] }
     let u := (s.setV (ethKey 0x20 K.ETH_PORT_IP_ADDR) 0x0A000001).now (10 ^ 11)
     (u.ethPort 0x20).link = true ∧ u.queues = [] ∧ (u.ethPort 0x20).busy = none ∧ u.v (ethKey 0x20 K.ETH_PORT_IP_ADDR) ≠ 0) ∧
    (((wired { arp := [(7, 8, 0)] } {}).now (10 ^ 11)).ethPort 0x20).arp.any (fun x =>
      x.1 == 7 && x.2.2 + 60000000000 ≤ ((wired { arp := [(7, 8, 0)] } {}).now (10 ^ 11)).time) = true ∧
    (let u := (wired {} {}).now 0
     u.pv (ethKey 0x20 K.ETH_PORT_GATE_COUNT) = 0 ∧ (u.ethPort 0x20).commitAt = none ∧ (u.ethPort 0x20).active.entries = []) ∧
    (let u := (wired { commitAt := some 5 } {}).now (10 ^ 7)
     (u.ethPort 0x20).commitAt = some 5 ∧ u.switchAt 0x20 5 ≤ u.time) ∧
    (let a : EthPort := { active := { cycle := 1000, entries := [(1, 400), (2, 600)] } }
     let u := (wired a {}).now 2500
     (u.ethPort 0x20).commitAt = none ∧ (u.ethPort 0x20).active.entries ≠ [] ∧
      (u.ethPort 0x20).cycleStart + (u.ethPort 0x20).active.cycle ≤ u.time) ∧
    (let e : EthPort := { active := { cycle := 1000, entries := [(1, 400), (2, 600)] } }
     (gateSpans e.active.cycle 0 e.active.entries).findIdx?
       (fun x => decide (e.cycleStart + x.1 ≤ 450) && decide (450 < e.cycleStart + x.2.1)) = some 1) := by decide +kernel

/-- Two magazine quads; magazine 0 as given, and channel 5 records as given. -/
def mags (m : Mag) (r : Recording) : State :=
  (State.setV { ready with mags := [(0, m)], recs := [(5, r)] } (K.QUAD_ROLE_QUAD_ROLE + 1) 0x10).setV
    (K.QUAD_ROLE_QUAD_ROLE + 4) 0x10

def oneClip : Recording := { state := 1, mags := 1, clips := [(0, { number := 3, state := 1 })] }
def identify : MagIdentify := { lba4k := true, mdtsOk := true, blocks := 2 ^ 20, content := [(0, [1, 2])] }

theorem test_Magazines_met :
    (let u := (mags { state := 1, capacity := 1000, inFlight := [(1, 0)] } {}).now (2 * 10 ^ 9)
     (mags { state := 1, capacity := 1000, inFlight := [(1, 0)] } {}).runs (2 * 10 ^ 9) ∧
      (((List.range 6).filter (fun q => u.role q == 0x10))[0]?).isSome = true ∧ (u.mag 0).state = 1 ∧
      identify.lba4k = true ∧ identify.mdtsOk = true ∧ identify.blocks ≤ 2 ^ 33 ∧ (u.mag 0).inFlight = (1, 0) :: [] ∧
      u.magReady 0 = true ∧ 0 + 2000000000 ≤ u.time ∧ 0 % 2048 = 0 ∧ 0x281 % 2048 ≠ 0) ∧
    (ready.pv (chKey 5 K.CH_OUTPUT_MAGAZINES) = 0) ∧
    (let v := (mags { state := 1, capacity := 1000 } {}).setV (magKey 0 K.MAG_CLIP_TABLE_LBA) (2 ^ 64 - 1)
     let x := 2 ^ 31 * 8 + 16
     bits x 63 31 + bits x 27 0 ≤ (v.mag 0).capacity ∧ bits x 27 0 ≠ 0 ∧ v.v (magKey 0 K.MAG_CLIP_TABLE_LBA) = 2 ^ 64 - 1 ∧
      ((v.recOf 5).clip 0 (bits x 30 29)).extents.length < 495) ∧
    (let s := ready.setSel (.func 0) (chKey 5 K.CH_MAG_CLIP) 0
     match s.writeCheck (.func 0) (chKey 5 K.CH_MAG_CLIP / 256) (chKey 5 K.CH_MAG_CLIP % 256) (leBytes 2 7),
       lookup (chKey 5 K.CH_MAG_CLIP / 256) (chKey 5 K.CH_MAG_CLIP % 256) with
     | .ok (e, none), .ok f => e == f
     | _, _ => false) = true ∧
    (let u := (mags { state := 1 } { oneClip with next := [(0, 100)], ending := [(0, 2)] }).now 50
     u.closeReached 5 = false ∧ u.recordingOn 5 = [0] ∧ (u.recOf 5).busy 0 = false ∧ u.time < Store.get (u.recOf 5).next 0 0 ∧
      (Store.find? (u.recOf 5).ending 0).isSome = true) ∧
    (let u := (mags { state := 1 } { oneClip with flushing := [0] }).now 0
     0 ∈ (u.recOf 5).flushing ∧ (u.recOf 5).streams = 1 ∧ u.magChunks = []) ∧
    (let u := (mags { state := 1 } { oneClip with records := [(0, 0)] }).now 0
     (0, 0) ∈ (u.recOf 5).records) := by decide +kernel

/-- Queue 9 is enabled and offloads clip 3 of magazine 0. -/
def offloading : State := (clipState { (wired { link := true } { state := 1 }) with mags := [] }).setV (winKey 9 K.EQ_CONFIG_OFFLOAD) 3

theorem test_EgressQueues_offload_met :
    (let u := offloading
     (u.queue 9).enabled = true ∧ u.queueNamed 9 = false ∧ u.eq 9 K.EQ_CONFIG_OFFLOAD / 4096 % 2 = 0 ∧
      u.eq 9 K.EQ_CONFIG_OFFLOAD % 4096 = 3 ∧ u.magReady 0 = true ∧ bit (leNat ((clipRec.drop 7).take 1)) 3 = false) ∧
    offloading.readRecord 0 3 = some clipRec ∧
    accepts (ready.now 0) (.func 0) 0x2A41 7 (leBytes 8 800) (fun e => e.acc == .rw) = true ∧ keyOf 0x2A41 7 ≠ K.EQ_CONFIG_ENABLE ∧
    ((mags {} {}).queue 9).state = 0 := by
  have hm : (offloading.mag 0).content = clipContent := by decide +kernel
  have ht : offloading.v (magKey 0 K.MAG_CLIP_TABLE_LBA) = 16 := by decide +kernel
  refine ⟨by decide +kernel, ?_, by decide +kernel, by decide, by decide⟩
  refine readRecord_of (by rw [ht]; decide) ?_ clipRec_crc
  rw [hm, ht, clipRec, show (16 + 3) * 4096 = 19 * 4096 by decide]

theorem test_EthernetPorts_down_met :
    (let u := (wired { link := true, busy := some 9 } {}).now 0
     (wired { link := true, busy := some 9 } {}).runs 0 ∧ (u.ethPort 0x20).link = true ∧ (u.ethPort 0x20).busy = some 9) ∧
    (((wired { link := true, arp := [(7, 8, 0)] } {}).now (10 ^ 11)).ethPort 0x20).link = true := by decide +kernel

/-- A clip that has room for index and essence on magazine 0, to which channel 5 records. -/
def ready5 : State :=
  let x : List Extent := [{ start := 40, blocks := 8, isIndex := true }, { start := 50, blocks := 8, isIndex := false }]
  State.setPv ((mags { state := 1, capacity := 1000 } { clips := [(0, { number := 0, extents := x })] }).setV
    (magKey 0 K.MAG_CLIP_TABLE_LBA) 16) (chKey 5 K.CH_OUTPUT_MAGAZINES) 1

theorem test_Magazines_clips_met :
    (∀ m < 2, bit (ready5.pv (chKey 5 K.CH_OUTPUT_MAGAZINES)) m = true → ready5.magReady m = true ∧
      ready5.v (magKey m K.MAG_CLIP_TABLE_LBA) ≠ 2 ^ 64 - 1 ∧
      ∀ k < (fmtOf (fun k => ready5.pv (chKey 5 k))).pictures,
        ((ready5.recOf 5).clip m k).exts false ≠ [] ∧ ((ready5.recOf 5).clip m k).exts true ≠ []) ∧
    ready5.pv (chKey 5 K.CH_OUTPUT_MAGAZINES) = 1 ∧
    ready5.pv (chKey 5 K.CH_MAG_CLIP) + (fmtOf (fun k => ready5.pv (chKey 5 k))).pictures ≤ 4096 ∧ (ready5.recOf 5).state ≠ 1 ∧
    (let u := (mags { state := 1, inFlight := [(1, 0)] } {}).now 0
     u.magReady 0 = true ∧ (u.mag 0).inFlight ≠ []) ∧
    (let u := (mags { state := 1 } { oneClip with next := [(0, 100)] }).now 200
     u.closeReached 5 = false ∧ u.recordingOn 5 = [0] ∧ (u.recOf 5).busy 0 = false ∧ Store.get (u.recOf 5).next 0 0 ≤ u.time) := by
  decide +kernel

/-! ### DRAM and DMA -/

/-- Every DRAM channel in use, with 16 GiB of which one line is bad; channel 2 due at an instant. -/
def dramOn (due : Time) : State :=
  (State.setRo { ready with dram := { due := [(2, due)], badLines := [lineOf 0x4000] } } K.DRAM_STATUS_IN_USE 0xFF).setRo
    K.DRAM_STATUS_CAPACITY_MIB 16384

theorem test_DramCommands_met :
    (let u := (dramOn 5).now (10 ^ 12)
     (dramOn 5).runs (10 ^ 12) ∧ bit u.dramUse 2 = true ∧ Store.find? u.dram.due 2 = some 5 ∧ 5 ≤ u.time ∧
      u.plannedWithin (u.v K.DRAM_CONFIG_GAP_US * 1000) = false ∧ 5 + u.v K.DRAM_CONFIG_RETRAIN_MS * 1000000 ≤ u.time ∧
      Store.find? u.dram.replays (2 * 2 + 1) = none ∧ u.v K.DRAM_CONFIG_SCRUB_HOURS ≠ 0 ∧ 0x8000 < u.dramBytes ∧
      lineOf 0x8000 ∉ u.dram.badLines ∧ 0x4010 < u.dramBytes ∧ lineOf 0x4010 ∈ u.dram.badLines) := by decide +kernel

/-- DMA channel 6 in a state. -/
def dmaIn (d : Dma) : State := { ready with dma := [(6, d)] }
def fromHost : DmaXfer :=
  { src := 0x1000, dst := 0x2000, count := 2, last := true, irq := false, dstHost := false, srcHost := true, dstWidth := 0
    srcWidth := 0, next := 0 }

theorem test_DmaCommands_met :
    ((ready.dmaCh 6).busy = false ∧ ready.fatal = false ∧ bit (ready.dmaMode 6) 31 = false) ∧
    ((dmaIn { status := 1 }).dmaCh 6).status = 1 ∧ ((dmaIn { status := 1 }).dmaCh 6).busy = true ∧
    (let u := (dmaIn { status := 1, cur := some fromHost }).now 0
     (dmaIn { status := 1, cur := some fromHost }).runs 0 ∧ (u.dmaCh 6).cur = some fromHost ∧ fromHost.srcHost = true ∧
      fromHost.dstHost = false ∧ [1, 2].length = fromHost.count ∧ bit (u.dmaMode 6) 31 = false ∧ (u.dmaCh 6).hostDst = false) ∧
    (((dmaIn { status := 1, ending := some 2 }).now 0).dmaCh 6).ending = some 2 := by decide +kernel

theorem test_DmaCommands_moves_met :
    (let u := (dmaIn { status := 1, cur := some fromHost }).now 0
     (u.dmaCh 6).cur = some fromHost ∧ fromHost.srcHost = true ∧
      ((u.dmaSource fromHost [1, 2]).take fromHost.count).length = fromHost.count) ∧
    (let x := { fromHost with srcHost := false, dstHost := true }
     (((dmaIn { status := 1, cur := some x }).now 0).dmaCh 6).cur = some x ∧ x.srcHost = false ∧ x.dstHost = true) := by
  decide +kernel

/-! ### Interrupts -/

/-- Source 20 of F000 group 3, in a state, and its group in a state. -/
def source20 (x : IntSource) (g : IntGroup) : State :=
  { ready with ints := { sources := [(20, { x with func := 0, group := 3 })], groups := [(groupKey 0 3, g)] } }

theorem test_InterruptCommands_met :
    (let u := (source20 {} { timer := some 50 }).now 50
     (source20 {} { timer := some 50 }).runs 50 ∧ (u.intGroup 0 3).timer = some 50 ∧ 50 ≤ u.time) ∧
    ((((source20 {} { msixPending := true }).now 0).intGroup 0 3).msixPending = true) ∧
    ((((source20 {} {}).now 0).intGroup 0 3).msixPending = false) ∧
    (((source20 { pending := true, enable := true } {}).now 0).claimable 0 3 = some 20) ∧
    (((source20 {} {}).now 0).claimable 0 3 = none ∧ ((source20 {} {}).now 0).funcReaches 0 = true) ∧
    (let u := (source20 { active := true } {}).now 0
     (u.intSource 20).active = true ∧ (u.intSource 20).func = 0 ∧ (u.intSource 20).group = 3) ∧
    ((((source20 {} {}).now 0).intSource 20).active = false) ∧
    (match (ready.now 0).writeCheck (.func 0) 0x2501 3 [byteOf 7], lookup 0x2501 3 with
      | .ok (e, none), .ok f => e == f
      | _, _ => false) = true := by decide +kernel

/-! ### Faults and the dump -/

/-- Fault 6 is some source; one of its rows holds. -/
def faulty : State := { ready with faults := { active := [(6, { holders := [2] })] } }

theorem test_FaultSources_met :
    (∃ n < 255, (faultInfo? n).map (·.event) = some true) ∧ (∃ n < 255, (faultInfo? n).map (·.event) = some false) ∧
    ready.faults.ignored = [] ∧
    (faulty.runs 0 ∧ Store.find? (faulty.now 0).faults.active 6 = some { holders := [2] } ∧
      ((faulty.now 0).faultRow 6).latch = false) ∧
    (let s : State := { faulty with faults := { faulty.faults with rows := [(6, { latch := true })] } }
     ((s.now 0).faultRow 6).latch = true) ∧
    0x0000000000000001 &&& faultRowReserved = 0 ∧
    (let s : State := { ready with faults := { errOut := true, errHold := 3 } }
     s.runs 3 ∧ (s.now 3).errWanted = false ∧ (s.now 3).faults.errOut = true ∧ (s.now 3).faults.errHold ≤ (s.now 3).time ∧
      false ≠ (s.now 3).faults.errOut) := by decide +kernel

theorem test_CoresAndDumps_met :
    ((ready.now 0).core 1).stalled = false ∧ ((ready.now 0).core 1).returned = none ∧
    (∀ j < 4, ((ready.now 0).core j).stalled = false) ∧
    (let s : State := { ready with cores := [(1, { stalled := true })] }
     s.runs 0 ∧ ((s.now 0).core 1).stalled = true ∧ (s.now 0).coreWorks (restarter 1) = true) ∧
    (let s : State := State.setV { ready with faults := { device := .fatalDumping }, moraine := { valid := true } } K.MORAINE_KEEP_FIRST 1
     s.runs 0 ∧ (s.now 0).coreWorks 3 = true ∧ (s.now 0).faults.device = .fatalDumping ∧ (s.now 0).power.shutdown = false ∧
      (s.now 0).mayDump = false) ∧
    (let s : State := { ready with moraine := { dumping := true } }
     s.runs 0 ∧ (s.now 0).faults.device = .normal ∧ (s.now 0).moraine.dumping = true) := by decide +kernel

theorem test_FaultSources_latches_met :
    (let s : State := { ready with faults := { active := [(6, { holders := [2, 3] })] } }
     Store.find? (s.now 0).faults.active 6 = some { holders := [2, 3] } ∧ [2, 3].filter (· ≠ 2) ≠ []) ∧
    (ready.now 0).MayAct (.func 0) (keyOf 0x2403 1) ∧ (∃ src < 255, (faultInfo? src).isSome = true ∧ src ∉ ready.faults.ignored) :=
  ⟨by decide +kernel, f000_may _ _ (by decide +kernel), by decide +kernel⟩

/-! ### Power, temperature and calibration -/

/-- The power manager in a state. -/
def powered (p : Power) : State := { ready with power := p }

theorem test_VoltageAndPmbus_met :
    (ready.runs 100000 ∧ (ready.at 100000).power.ladder = 0 ∧ (ready.at 100000).time % 100000 = 0) ∧
    (let a := (powered { raising := [(4, 800)] }).at 100000
     Store.find? a.power.raising 4 = some 800 ∧ a.supplied = true ∧ a.power.off = false ∧ a.vinConfirmed = true) ∧
    (ready.at 0).pmbusOn = true ∧ ((powered { pmbusFails := 2 }).at 0).pmbusOn = true ∧
    ((powered { pmbusFails := 2 }).at 0).power.pmbusFails = 2 := by decide +kernel

theorem test_PowerLadder_met :
    (ready.at 0).frostReady = true ∧ ready.ladderRefused = false ∧
    (let s := powered { entering := some 2 }
     s.runs 0 ∧ (s.at 0).power.entering = some 2 ∧ (s.at 0).nvm.current = none) ∧
    ((powered { entering := some 3 }).runs 0 ∧ (powered { entering := some 4 }).runs 0) ∧
    (let a := (powered { ladder := 3 }).at 0
     a.sensing = true ∧ a.mayWake .can0 = true ∧ WakeSource.can0 ≠ .timer ∧ a.power.ladder = 3) ∧
    (let a := ((powered { ladder := 2 }).setV K.POWER_CONFIG_WAKE_AT 40).at 50
     a.sensing = true ∧ a.mayWake .timer = true ∧ a.timerDue = true) := by decide +kernel

theorem test_PowerLadder_sleeps_met :
    (let a := (powered { ladder := 1 }).at 0
     a.power.ladder = 1) ∧
    (ready.at 0).power.ladder ≠ 1 ∧
    (let a := ((powered { entering := some 4 }).setV K.PMBUS_CONFIG_EXT_MODE 1).at 0
     let v := (State.drift { a with power := { a.power with ladder := 4, entering := none } }).loseCore
     ((powered { entering := some 4 }).setV K.PMBUS_CONFIG_EXT_MODE 1).runs 0 ∧ a.power.entering = some 4 ∧ a.nvm.current = none ∧
      v.v K.PMBUS_CONFIG_EXT_MODE = 1) ∧
    (let a := ((powered { entering := some 4 }).setV K.PMBUS_CONFIG_EXT_MODE 0).at 0
     (State.drift { a with power := { a.power with ladder := 4, entering := none } }).loseCore.v K.PMBUS_CONFIG_EXT_MODE ≠ 1) := by
  decide +kernel

/-- While TEMP_THROTTLE holds. -/
def hot : State := { ready with faults := { active := [(F.TEMP_THROTTLE, { holders := [0] })] } }

theorem test_Temperature_met :
    (ready.at 0).sensing = true ∧ (ready.at 0).boot.held.isNone = true ∧
    ((ready.setV K.TDIODE_ROLE 2).at 0).sensing = true ∧ ((ready.setV K.TDIODE_ROLE 2).at 0).v (K.TDIODE_ROLE + 0) ≠ 0 ∧
    (ready.at 0).v (K.TDIODE_ROLE + 0) = 0 ∧ (hot.at 0).sensing = true ∧ (hot.at 0).throttling = true ∧
    (ready.at 0).throttling = false ∧ (powered { shutdown := true }).power.shutdown = true := by decide +kernel

def windows (p : Nat) : CalGroup := { probe := p }
/-- The group of PD 4, class 1, in the band of 750 mV is being calibrated. -/
def calibrating (p : Nat) : State :=
  powered { calClass := [(4, 1)], groups := [(trimKey 4 1 2, windows p)] }

theorem test_CalibrationAndCopies_met :
    (let u := (calibrating 3).now 0
     (calibrating 3).runs 0 ∧ u.v K.CAL_CONFIG_CAL_EN ≠ 0 ∧ selfTimed 4 = true ∧ Store.get u.power.calClass 0 4 = 1 ∧
      bandOf (u.domainMv 4) = 2 ∧ Store.get u.power.groups {} (trimKey 4 1 2) = windows 3 ∧ (windows 3).backoff = none ∧
      (List.replicate 64 0).length = 64 ∧ (List.replicate 64 5000).length = 64 ∧
      (List.replicate 64 5000).all (fun n => u.v K.CAL_CONFIG_CAL_MIN_TRANS ≤ n) = true ∧ (windows 3).probe ≠ 8) ∧
    (Store.get ((calibrating 8).now 0).power.groups {} (trimKey 4 1 2)).probe = 8 ∧
    (let u := (powered { groups := [(trimKey 4 1 2, { backoff := some 50 })] }).now 50
     (Store.get u.power.groups {} (trimKey 4 1 2)).backoff = some 50 ∧ 50 ≤ u.time) ∧
    (selfTimed 17 = true ∧ ((ready.now 0).unit .px 10).inService = true ∧ clusterOf .px 10 = 1) ∧
    (let u := ready.now (8 * 3600 * 10 ^ 9)
     u.power.lastStore + u.v K.CAL_CONFIG_CAL_STORE_H * 3600000000000 ≤ u.time) ∧
    (let a := ready.at 122000
     a.sensing = true ∧ a.ro K.SLOW_COPY_LAST_REFRESH + 122000 ≤ a.time ∧ a.slowFrozen = false) := by decide +kernel

/-! ### Flash, patches and configuration parity -/

/-- Flash region 2 in a state. -/
def flash2 (x : FlashRegion) : State := { ready with boot := { ready.boot with regions := [(2, x)] } }

theorem test_FlashUpdates_met :
    ((ready.flash 2).state = 0 ∧ ready.boot.patchState ≠ 1) ∧
    (((flash2 { state := 2 }).flash 2).state = 2 ∧ ((flash2 { state := 2 }).flash 2).fetching = none ∧ 4 + 3 ≤ copySize 2 ∧
      ((flash2 { state := 2 }).flash 2).written + (flash2 { state := 2 }).v K.FLASH_UPDATE_FETCH_LEN ≤ copySize 2) ∧
    (bit (1 : Nat) (1 - 1) = true) ∧
    ((flash2 { state := 1 }).runs 0 ∧ (((flash2 { state := 1 }).now 0).flash 2).state = 1) ∧
    (((flash2 { state := 2, fetching := some (8, 3) }).now 0).flash 2).fetching = some (8, 3) ∧ [1, 2, 3].length = 3 ∧
    (ready.now 0).MayAct (.can 1) K.FLASH_UPDATE_DATA := by
  refine ⟨?_, ?_, ?_, ?_, ?_, ?_, ⟨⟨by decide, trivial⟩, by decide +kernel⟩⟩ <;> decide +kernel

/-- An image of region 5 that passes every check and fits no records. -/
def goodPatch : Image :=
  { magicOk := true, region := 5, keyIndex := 0, sameOutput := true, length := 64, secVersion := 0, name := [], stepping := 0
    base := ([], []), keyOk := true, signatureOk := true, digestOk := true, records := [(0, 5)] }

/-- A patch in progress. -/
def patching (p : Bool × List Byte × List (Nat × Nat)) : State :=
  { ready with boot := { ready.boot with patchState := 1, patch := some p } }

theorem test_PatchesAndParity_met :
    (ready.boot.patchState ≠ 1 ∧ (ready.flash 5).state = 0 ∧ ready.imageFault 5 goodPatch = none ∧ patchOk goodPatch = true ∧
      ready.imageFault 5 { goodPatch with signatureOk := false } = some 4) ∧
    (let u := (patching (true, [], [(0, 5)])).now 0
     (patching (true, [], [(0, 5)])).runs 0 ∧ u.boot.patch = some (true, [], [(0, 5)]) ∧ u.withheld = some 0 ∧
      u.clusterIdle 0 = true) ∧
    ((patching (false, [], [])).boot.patch = some (false, [], []) ∧ (patching (false, [], [])).chans = [] ∧
      (patching (false, [], [])).boot.heldOpens = []) ∧
    (let s : State := { ready with blockReset := [{ pd := 9, keys := [77] }] }
     s.runs 0 ∧ (s.now 0).blockReset.find? (·.pd == 9) = some { pd := 9, keys := [77] }) ∧
    (let s : State := { ready with blockReset := [{ pd := 3, keys := [77] }] }
     (s.now 0).blockReset.find? (·.pd == 3) = some { pd := 3, keys := [77] }) := by decide +kernel

theorem test_BootsStart_copies_met : ∀ v : State, v.imageFault 1 { goodPatch with magicOk := false } ≠ none := by
  intro v; simp [State.imageFault]

/-! ### Buffers and packets -/

theorem test_BuffersReadBack_met :
    Memory.wf (Memory.writeBytes [] 0x1000 [1, 0, 3]) ∧ [1, 0, 3][2]? = some 3 ∧ (0x1003 < 0x1000 ∨ 0x1000 + 3 ≤ 0x1003) ∧
    Memory.writeBytes [] 0x1000 [1, 0, 3] = [(0x1000, 1), (0x1002, 3)] := by decide

theorem test_PacketsAreReadAsWritten_met :
    (∀ i ∈ [oneItem], i.index < 2 ^ 16 ∧ i.sub < 2 ^ 8 ∧ i.type < 2 ^ 8 ∧ i.offset < 2 ^ 32 ∧ i.length < 2 ^ 16 ∧
      i.data.length = if true then i.length else 0) ∧ oneWrite.length ≤ 1472 := by decide

/-! ### Single steps against the manual's examples -/

/-- R40: 0x4149:01 sits at 0x020A_4808. -/
theorem test_bar0_offset : bar0Offset 0x4149 1 = 0x020A4808 ∧ bar0Place 0x020A4808 = (0x4149, 1, 0) := by decide

/-- The code of R17's example, and coding units 253, 254 and 300 of the same CTU (R18). -/
theorem test_location_code :
    let l : Loc := { depth := 5, chan := 5, pic := 0x0123, ctu := 0xCA }
    locCode 0 l = 0x00A024600000CAFF ∧ locCode 0 { l with depth := 6, blk := 253 } = 0x00A024600000CAFD ∧
      locCode 0 { l with depth := 6, blk := 254 } = 0x00A024600000CAFE ∧
      locCode 0 { l with depth := 6, blk := 300 } = 0x00A024600000CAFE := by decide

/-- R75's example: the counter carries into the high word between the two reads, and the shadow still gives the old one. -/
theorem test_bar0_low_then_high :
    (match exec (.bar0LowWordRead 0x17A53C40FFFFFFF8 0 0x2100 1) ready with
      | .next v => (match exec (.bar0HighWordRead 0x17A53C4100000008 0 0x2100 1) v with
        | .next w => w.out == [.bar0 0 0xFFFFFFF8, .bar0 0 0x17A53C40]
        | _ => false)
      | _ => false) = true := by decide +kernel

/-- A high-word read alone returns the live word. -/
theorem test_bar0_high_alone :
    (match exec (.bar0HighWordRead 0x17A53C4100000008 0 0x2100 1) ready with
      | .next w => w.out == [.bar0 0 0x17A53C41]
      | _ => false) = true := by decide +kernel

/-- The GRANT word of the chapter 4 example: 0x0011_0020 gives ring 32 to F017 as its local 0. -/
theorem test_grant_word :
    (let s : State := { ready with host := { linkUp := true, vfEnable := true, numVfs := 20 } }
     match exec (.ringGrant 0 (.func 0) (leBytes 4 0x00110020)) s with
     | .next v => (v.ring 32).owner == some 17 && (v.ring 32).loc == 0
     | _ => false) = true := by decide +kernel

/-- A second grant of the ring is refused with 0x0609_0030 (R90). -/
theorem test_grant_refused :
    (let s : State := { virtual with rings := [(32, { owner := some 1 })] }
     match exec (.ringGrant 0 (.func 0) (leBytes 4 0x00020020)) s with
     | .next v => (v.ring 32).owner == some 1 && (v.req (.func 0)).code == 0x06090030
     | _ => false) = true := by decide +kernel

/-- A doorbell one beyond the ring's 2^SIZE stops it with ERR_CAUSE 7 (R103). -/
theorem test_doorbell_overrun :
    (match exec (.doorbellWrite 0 2 4 [65, 0, 0, 0]) (ringIn .enabled true) with
     | .next v => (v.ring 9).state == .error && (v.ring 9).errCause == 7
     | _ => false) = true := by decide +kernel

/-- An RO entry refuses a write with 0x0601_0002 (Table 2-4). -/
theorem test_ro_write_refused :
    (match exec (.dictWrite 9 (.func 0) 0x2100 1 ⟨0, leBytes 8 5⟩) ready with
     | .next v => (v.req (.func 0)).code == 0x06010002 && (v.req (.func 0)).entry == 0x210001 && (v.req (.func 0)).errTime == 9
     | _ => false) = true := by decide +kernel

/-- The first fence read returns 1, the second 2 (R111). -/
theorem test_fence_counts :
    (match exec (.mailboxFenceRead 0 (.func 0)) ready with
     | .next v => (match exec (.mailboxFenceRead 0 (.func 0)) v with
       | .next w => w.out == [.fence (.func 0) 1, .fence (.func 0) 2]
       | _ => false)
     | _ => false) = true := by decide +kernel

/-- The thermal cap stops at 550 mV on its way down and at 850 mV on its way up (R382). -/
theorem test_thermal_cap_ends :
    (match exec (.thermalCapStep 0) { hot with power := { thermalCap := 560 } } with
     | .next v => v.power.thermalCap == 550
     | _ => false) = true ∧
    (match exec (.thermalCapStep 0) (powered { thermalCap := 840 }) with
     | .next v => v.power.thermalCap == 850
     | _ => false) = true := by decide +kernel

/-- A read-back that fails spends the slot, keeps the value and answers 0x0A48_0006 (R56, R57). -/
theorem test_slot_write_fails :
    (match exec (.nvmSlotWriteDone 0 false) writing with
     | .next v => (v.nvmRecord K.HEARTBEAT_TIME).wear == 1 && v.nvm.current.isNone && (v.req (.func 0)).code == 0x0A480006
     | _ => false) = true := by decide +kernel

/-- A unit outside its range names nothing (R4). -/
theorem test_no_unit : exec (.magRemoved 0 2) ready = .fault (.noUnit "MAG" 2) := rfl

/-- A command in reset changes nothing but the time. -/
theorem test_in_reset_nothing : exec (.snapshotTrigger 5 (.func 0) [1]) held = .next (held.at 5) := rfl

end Sys2Proof.Tests
end

section
/-! SUPPORT. Scope of the commands: the names that DECODE_NAL_UNIT is well formed by, and those that its meaning checks. -/

namespace Sys2Proof.Machine

/-- The meaning of DECODE_NAL_UNIT checks its channel alone: whatever front ends it names, it answers a next state. -/
theorem exec_decodeNalUnit_next_of_channel {ch : Nat} (hch : ch < 256) (t bytes : Nat) (parse : NalParse) (dfs : List Nat)
    (s : State) : ∃ s', exec (.decodeNalUnit t ch bytes parse dfs) s = .next s' :=
  ⟨_, inRange_of hch⟩

/-- A front end beyond DF23 makes DECODE_NAL_UNIT ill formed (R4). -/
theorem wf_decodeNalUnit_of_frontEnd {dfs : List Nat} {df : Nat} (hmem : df ∈ dfs) (hdf : 24 ≤ df) (t ch bytes : Nat)
    (parse : NalParse) : Instr.wf (.decodeNalUnit t ch bytes parse dfs) = false := by
  have hall : dfs.all (· < 24) = false := List.all_eq_false.mpr ⟨df, hmem, by simpa using hdf⟩
  simp only [Instr.wf, hall, Bool.and_false]

/-- Refutes O2: DECODE_NAL_UNIT on channel 0 with front end 24, where the front ends are DF00 to DF23, is ill formed, and its
meaning, which checks the channel alone, answers a next state (here right after reset) in place of the fault noUnit. -/
theorem not_everyWellFormedCommandCompletes : ¬ Obligations.EveryWellFormedCommandCompletes := by
  unfold Obligations.EveryWellFormedCommandCompletes
  intro h
  have hwf : Instr.wf (.decodeNalUnit 0 0 0 ⟨.ignored, none⟩ [24]) = false :=
    wf_decodeNalUnit_of_frontEnd (List.mem_singleton_self 24) (le_refl 24) 0 0 0 _
  obtain ⟨s', hnext⟩ := exec_decodeNalUnit_next_of_channel (by decide : 0 < 256) 0 0 ⟨.ignored, none⟩ [24] State.reset
  obtain ⟨what, num, hfault⟩ := (h _ State.reset).2 hwf
  cases hnext.symm.trans hfault

end Sys2Proof.Machine
end

section
/-! SUPPORT. OD/UDP packets: the bytes of a field read back, an item and a packet taken apart as they are laid out (R43). -/

namespace Sys2Proof.Machine

/-! ### Bytes of a field -/

@[simp] theorem length_leBytes (n v : Nat) : (leBytes n v).length = n := by
  induction n generalizing v with
  | zero => rfl
  | succ n ih => simp [leBytes, ih]

theorem leNat_leBytes_mod (n v : Nat) : leNat (leBytes n v) = v % 256 ^ n := by
  induction n generalizing v with
  | zero => simp [leBytes, leNat, Nat.mod_one]
  | succ n ih =>
    have hbyte : (BitVec.ofNat 8 v).toNat = v % 256 := by simp
    rw [leBytes, leNat, ih, hbyte, pow_succ', Nat.mod_mul]

/-- A number is read back from as many bytes as hold it (R31). -/
theorem leNat_leBytes {n v : Nat} (h : v < 256 ^ n) : leNat (leBytes n v) = v := by
  rw [leNat_leBytes_mod, Nat.mod_eq_of_lt h]

/-- A number of `n` bytes is below 256 to the `n`. -/
theorem leNat_lt (bs : List Byte) : leNat bs < 256 ^ bs.length := by
  induction bs with
  | nil => simp [leNat]
  | cons b r ih =>
    have hb := b.isLt
    rw [leNat, List.length_cons, pow_succ']
    omega

/-- A field that follows `k` bytes is read back. -/
theorem leNat_field {pre post : List Byte} {k n v : Nat} (hk : pre.length = k) (hv : v < 256 ^ n) :
    leNat (((pre ++ (leBytes n v ++ post)).drop k).take n) = v := by
  rw [← hk, List.drop_left, List.take_left' (length_leBytes n v), leNat_leBytes hv]

@[simp] theorem length_pad4 (bs : List Byte) : (pad4 bs).length = (bs.length + 3) / 4 * 4 := by
  simp only [pad4, List.length_append, List.length_replicate]
  omega

@[simp] theorem take_pad4_append (bs post : List Byte) : (pad4 bs ++ post).take bs.length = bs := by
  rw [pad4, List.append_assoc, List.take_left]

/-! ### Items and packets as they are laid out -/

/-- The bytes of an item of a READ or WRITE packet (Table 2-8). -/
def Item.layout (i : Item) : List Byte := itemHeader i.index i.sub i.type i.offset i.length 0 ++ pad4 i.data

/-- Every field of an item fits its bytes, and a WRITE carries LENGTH bytes of data. -/
def Item.Fits (isWrite : Bool) (i : Item) : Prop :=
  i.index < 2 ^ 16 ∧ i.sub < 2 ^ 8 ∧ i.type < 2 ^ 8 ∧ i.offset < 2 ^ 32 ∧ i.length < 2 ^ 16 ∧
    i.data.length = if isWrite then i.length else 0

/-- An item as it arrives: the answer of a FENCE item is no part of a request. -/
def Item.asSent (i : Item) : Item := { i with answer := none }

/-- The bytes of a READ or WRITE packet (Tables 2-7 and 2-8). -/
def packetLayout (isWrite : Bool) (seq : Nat) (items : List Item) : List Byte :=
  udpHeader (if isWrite then 2 else 1) seq items.length 0 ++ items.flatMap Item.layout

@[simp] theorem length_itemHeader (idx sub type offset len status : Nat) :
    (itemHeader idx sub type offset len status).length = 16 := by simp [itemHeader]

@[simp] theorem length_udpHeader (opcode seq count flags : Nat) : (udpHeader opcode seq count flags).length = 12 := by
  simp [udpHeader]

/-- The fields of an item's header, each read at its place. -/
theorem itemHeader_fields {idx sub type offset len : Nat} (post : List Byte) (hidx : idx < 2 ^ 16) (hsub : sub < 2 ^ 8)
    (htype : type < 2 ^ 8) (hoff : offset < 2 ^ 32) (hlen : len < 2 ^ 16) :
    let bs := itemHeader idx sub type offset len 0 ++ post
    leNat (bs.take 2) = idx ∧ leNat ((bs.drop 2).take 1) = sub ∧ leNat ((bs.drop 3).take 1) = type ∧
      leNat ((bs.drop 4).take 4) = offset ∧ leNat ((bs.drop 8).take 2) = len := by
  simp only [itemHeader, List.append_assoc]
  refine ⟨leNat_field (pre := []) rfl hidx, leNat_field (pre := leBytes 2 idx) rfl hsub, ?_, ?_, ?_⟩
  · exact leNat_field (pre := leBytes 2 idx ++ leBytes 1 sub) rfl htype
  · exact leNat_field (pre := leBytes 2 idx ++ leBytes 1 sub ++ leBytes 1 type) rfl hoff
  · exact leNat_field (pre := leBytes 2 idx ++ leBytes 1 sub ++ leBytes 1 type ++ leBytes 4 offset) rfl hlen

/-- The fields of a packet's header, each read at its place. -/
theorem udpHeader_fields {opcode seq count : Nat} (post : List Byte) (hop : opcode < 2 ^ 8) (hseq : seq < 2 ^ 32)
    (hcount : count < 2 ^ 16) :
    let bs := udpHeader opcode seq count 0 ++ post
    leNat (bs.take 2) = 0x485A ∧ leNat ((bs.drop 2).take 1) = 1 ∧ leNat ((bs.drop 3).take 1) = opcode ∧
      leNat ((bs.drop 4).take 4) = seq ∧ leNat ((bs.drop 8).take 2) = count := by
  simp only [udpHeader, List.append_assoc]
  refine ⟨leNat_field (pre := []) rfl (by decide), leNat_field (pre := leBytes 2 0x485A) rfl (by decide), ?_, ?_, ?_⟩
  · exact leNat_field (pre := leBytes 2 0x485A ++ leBytes 1 1) rfl hop
  · exact leNat_field (pre := leBytes 2 0x485A ++ leBytes 1 1 ++ leBytes 1 opcode) rfl hseq
  · exact leNat_field (pre := leBytes 2 0x485A ++ leBytes 1 1 ++ leBytes 1 opcode ++ leBytes 4 seq) rfl hcount

/-! ### Taking a packet apart -/

/-- The item at the front of a packet's body is read as it was sent, and the rest of the body is left to the others. -/
theorem parseItems_layout_append {isWrite : Bool} {i : Item} (h : i.Fits isWrite) (n : Nat) (rest : List Byte) :
    parseItems isWrite (n + 1) (i.layout ++ rest) =
      (i.asSent :: (parseItems isWrite n rest).1, (parseItems isWrite n rest).2) := by
  obtain ⟨hidx, hsub, htype, hoff, hlen, hdata⟩ := h
  obtain ⟨ridx, rsub, rtype, roff, rlen⟩ := itemHeader_fields (pad4 i.data ++ rest) hidx hsub htype hoff hlen
  have hbody : (i.layout ++ rest).drop 16 = pad4 i.data ++ rest := by
    rw [Item.layout, List.append_assoc, List.drop_left' (length_itemHeader ..)]
  have hlong : ¬ (i.layout ++ rest).length < 16 := by simp [Item.layout]
  have hpad : (if isWrite = true then (i.length + 3) / 4 * 4 else 0) = (pad4 i.data).length := by
    cases isWrite <;> simp [hdata]
  have hfits : ¬ (pad4 i.data ++ rest).length < (pad4 i.data).length := by simp
  have htake : (if isWrite = true then (pad4 i.data ++ rest).take i.length else []) = i.data := by
    cases isWrite
    · exact (List.eq_nil_of_length_eq_zero hdata).symm
    · have hdata' : i.data.length = i.length := hdata
      rw [if_pos rfl, ← hdata', take_pad4_append]
  rw [parseItems, if_neg hlong]
  simp only [hbody]
  rw [Item.layout, List.append_assoc, ridx, rsub, rtype, roff, rlen, hpad, if_neg hfits, htake, List.drop_left]
  rfl

/-- The body of a packet is read as the items it was made of, as they were sent. -/
theorem parseItems_layout {isWrite : Bool} {items : List Item} (h : ∀ i ∈ items, i.Fits isWrite) :
    parseItems isWrite items.length (items.flatMap Item.layout) = (items.map Item.asSent, []) := by
  induction items with
  | nil => rfl
  | cons i items ih =>
    obtain ⟨hi, hitems⟩ := List.forall_mem_cons.mp h
    rw [List.length_cons, List.flatMap_cons, parseItems_layout_append hi, ih hitems, List.map_cons]

/-- A packet of 1 to 64 items within 1,472 bytes is read as the items it was made of, every field at every value that it can
hold, as they were sent (R43). -/
theorem parseDatagram_packetLayout {isWrite : Bool} {seq : Nat} {items : List Item} (hseq : seq < 2 ^ 32)
    (hmin : 1 ≤ items.length) (hmax : items.length ≤ 64) (hfit : ∀ i ∈ items, i.Fits isWrite)
    (hlen : (packetLayout isWrite seq items).length ≤ 1472) :
    parseDatagram (packetLayout isWrite seq items) = .packet isWrite seq (items.map Item.asSent) := by
  have hop : (if isWrite then 2 else 1) < 2 ^ 8 := by cases isWrite <;> decide
  obtain ⟨rmagic, rver, rop, rseq, rcount⟩ :=
    udpHeader_fields (items.flatMap Item.layout) hop hseq (by omega : items.length < 2 ^ 16)
  have hbody : (packetLayout isWrite seq items).drop 12 = items.flatMap Item.layout := by
    rw [packetLayout, List.drop_left' (length_udpHeader ..)]
  have hshort : ¬ (packetLayout isWrite seq items).length < 12 := by simp [packetLayout]
  have hitems := parseItems_layout hfit
  rw [← packetLayout] at rmagic rver rop rseq rcount
  unfold parseDatagram
  simp only [rmagic, rver, rop, rseq, rcount, hbody]
  cases isWrite <;> simp [hshort, hlen.not_gt, hitems, hmin, hmax]

/-- A READ item that carries an answer, which no packet can. -/
def answeredItem : Item :=
  { index := 0x2051, sub := 6, type := 0, offset := 0, length := 2, data := [], answer := some (0, []) }

/-- Refutes O60: every field that Tables 2-7 and 2-8 lay out is read back, but an item of the model also holds the answer of a
FENCE item, which no packet carries. A READ packet of one item that holds an answer is read as that item without it. -/
theorem not_packetsAreReadAsWritten : ¬ Obligations.PacketsAreReadAsWritten := by
  unfold Obligations.PacketsAreReadAsWritten
  intro h
  have hfit : ∀ i ∈ [answeredItem], i.Fits false := List.forall_mem_singleton.mpr (by unfold Item.Fits; decide)
  have hread := parseDatagram_packetLayout (seq := 5) (by decide) (by decide) (by decide) hfit (by decide)
  have hclaim := h false 5 [answeredItem] (by decide) (by decide) (by decide) hfit (by decide)
  have hsame : [answeredItem] = [answeredItem].map Item.asSent := by
    injection hclaim.symm.trans hread
  exact absurd hsame (by decide)

end Sys2Proof.Machine
end

section
/-! SUPPORT. Requests that find their queue idle, request queues, CANopen FD and OD/UDP (R39, R43 to R52, R111). -/

namespace Sys2Proof.Machine

/-! ### A request that finds its queue idle -/

/-- The queue of a requester that exists is one of the five of Table 2-12. -/
theorem queueOf_lt {r : Requester} (h : r.place < 256) : queueOf r < 5 := by
  cases r with
  | func f => simp only [queueOf]; split <;> decide
  | can k =>
    simp only [Requester.place] at h
    simp only [queueOf]
    split at h <;> omega
  | udp a p => exact (by decide : 2 < 5)
  | shawm => exact (by decide : 3 < 5)

theorem State.Prompt.reqQueue_eq {u : State} (hP : u.Prompt) {q : Nat} (hq : q < 5) : u.reqQueue q = {} := by
  have hitems := hP.empty q hq
  have hblocked := hP.running q hq
  generalize u.reqQueue q = x at hitems hblocked
  cases x
  simp_all

theorem State.Prompt.queueDepth_eq {u : State} (hP : u.Prompt) {q : Nat} (hq : q < 5) : u.queueDepth q = 0 := by
  have hitems : (Store.get u.access.queues {} q).items = [] := hP.empty q hq
  simp [State.queueDepth, hitems]

/-- While requests are served as they come, one waits at the head of its queue only for a LUT that is being copied. -/
theorem State.Prompt.mustWait_eq {u : State} (hP : u.Prompt) {r : Request} (hlut : ∀ k ∈ r.keys, u.lutBusy k = false) :
    u.mustWait r = false := by
  simp only [State.mustWait, List.any_eq_false]
  intro k hk
  simp [hlut k hk, hP.channels]

/-- A request whose queue is idle is run as it comes, in the state in which it has passed through its queue (R39, R51). -/
theorem State.submit_idle {u : State} {q : Nat} {r : Request} (env : Env) (hP : u.Prompt) (hq : q < 5) (hcount : r.count ≤ 64)
    (hlut : ∀ k ∈ r.keys, u.lutBusy k = false) :
    u.draws.submit q r env = (u.afterQueue q r).runRequest q r env := by
  have hdepth : ¬ 64 < u.draws.queueDepth q + r.count := by
    have : u.draws.queueDepth q = 0 := hP.queueDepth_eq hq
    omega
  have hold : u.draws.reqQueue q = {} := hP.reqQueue_eq hq
  have hfirst : ((List.range 5).all fun n => !u.draws.servable n) = true := by
    rw [List.all_eq_true]
    intro n hn
    have hitems : u.draws.reqQueue n = {} := hP.reqQueue_eq (List.mem_range.mp hn)
    simp [State.servable, hitems]
  have hserv : (u.draws.setReqQueue q { items := [r] }).servable q = true := by
    have hpaths : (u.draws.setReqQueue q { items := [r] }).pathsServed = true := hP.served
    have hwait : (u.draws.setReqQueue q { items := [r] }).mustWait r = false := hP.mustWait_eq hlut
    simp [State.servable, State.reqQueue_setReqQueue, hpaths, hwait]
  unfold State.submit
  simp only [if_neg hdepth, hfirst, hold, List.isEmpty_nil, Bool.true_and, List.nil_append, if_pos hserv]
  unfold State.serveQueue
  rw [State.reqQueue_setReqQueue]
  rfl

/-! ### Request queues (R39, R50, R51) -/

/-- A request that finds its queue full is answered and not executed (R50). -/
theorem State.submit_full {u : State} {q : Nat} {r : Request} (env : Env) (h : 64 < u.queueDepth q + r.count) :
    u.submit q r env = u.queueFull q r := if_pos h

/-- The arbiter takes from a queue that can be served. -/
theorem State.nextQueue_servable {u : State} {q : Nat} (h : u.nextQueue = some q) : u.servable q = true ∧ q < 5 := by
  obtain ⟨i, -, hi⟩ := List.mem_map.mp (List.mem_of_find?_eq_some h)
  exact ⟨List.find?_some h, by omega⟩

/-- A queue is served from its head, and the arbiter goes on from the next queue. -/
theorem State.serveQueue_cons {u : State} {n : Nat} {r : Request} {rest : List Request} (env : Env)
    (h : (u.reqQueue n).items = r :: rest) :
    let w := u.setReqQueue n { u.reqQueue n with items := rest }
    let v : State := { w with access := { w.access with arbiter := (n + 1) % 5 } }
    u.serveQueue n env = v.runRequest n r env ∧ (v.reqQueue n).items = rest := by
  refine ⟨?_, ?_⟩
  · unfold State.serveQueue
    simp only [h]
  · exact congrArg Queue.items (State.reqQueue_setReqQueue u n { u.reqQueue n with items := rest })

/-- Settles O18, by the definitions of the queue's entry, the arbiter's search and the queue's head. -/
theorem requestQueues : Obligations.RequestQueues := by
  unfold Obligations.RequestQueues
  refine ⟨fun u q r env h => State.submit_full env h, ?_, fun u q h => State.nextQueue_servable h,
    fun u n r rest env h => State.serveQueue_cons env h⟩
  intro s t q hq hruns hnext
  show execQueuedRequestServe t q s = _
  rw [execQueuedRequestServe, inRange_of hq, live_runs hruns, if_pos hnext]

/-! ### NMT, heartbeats and bus-off (R46, R47, R49) -/

/-- An NMT command to a node that it addresses has its effect on that controller. -/
theorem live_addressed {s : State} {t : Time} {can node : Nat} {f : State → State} (hcan : can < 2) (hnode : node < 128)
    (hruns : s.runs t) (haddr : (s.now t).nmtAddressed can node = true) :
    inRange "CAN" can 2 (inRange "node" node 128 (live t s fun s => if s.nmtAddressed can node then f s else s)) =
      .next (f (s.now t)) := by
  rw [inRange_of hcan, inRange_of hnode, live_runs hruns, if_pos haddr]

/-- A due heartbeat of a controller that may send goes out. -/
theorem exec_canHeartbeat_due {s : State} {t : Time} {can : Nat} (hcan : can < 2) (hruns : s.runs t)
    (hdue : (s.now t).heartbeatDue can = true) (hsends : ((s.now t).canNode can).sends = true) :
    exec (.canHeartbeat t can) s = .next (((s.now t).setCan can { (s.now t).canNode can with lastHb := (s.now t).time }).emit
      (.canHeartbeat can ((s.now t).canNode can).nmt.code)) := by
  show execCanHeartbeat t can s = _
  rw [execCanHeartbeat, inRange_of hcan, live_runs hruns, if_pos hdue, State.heartbeat, if_pos hsends]

/-- A controller that goes bus-off is marked so and counted. -/
theorem exec_canBusOff_on {s : State} {t : Time} {can : Nat} (hcan : can < 2) (hruns : s.runs t)
    (hon : ((s.now t).canNode can).on = true) (hoff : ((s.now t).canNode can).busOff = false) :
    exec (.canBusOff t can) s = .next (((s.now t).setCan can { (s.now t).canNode can with busOff := true }).bumpSat
      K.CAN_CONFIG_BUS_OFF_COUNT 1) := by
  show execCanBusOff t can s = _
  rw [execCanBusOff, inRange_of hcan, live_runs hruns]
  simp only [hon, hoff, Bool.not_false, Bool.and_self, if_true]

/-- Settles O15: each NMT command is one effect on the controller it addresses, and the bus events are theirs. -/
theorem nmtCommands : Obligations.NmtCommands := by
  unfold Obligations.NmtCommands
  refine ⟨?_, ?_⟩
  · intro s t can node hcan hnode hruns u c haddr
    exact ⟨live_addressed hcan hnode hruns haddr, live_addressed hcan hnode hruns haddr,
      live_addressed hcan hnode hruns haddr, live_addressed hcan hnode hruns haddr, live_addressed hcan hnode hruns haddr⟩
  · intro s t can hcan hruns u c
    refine ⟨exec_canHeartbeat_due hcan hruns, exec_canBusOff_on hcan hruns, ?_⟩
    show execCanBusOffRecovery t can s = _
    rw [execCanBusOffRecovery, inRange_of hcan, live_runs hruns]

/-! ### The answer of a USDO request (R46) -/

/-- A node whose controller is bus-off sends no USDO message. -/
theorem State.usdoSend_busOff {v : State} {can : Nat} (h : (v.canNode can).busOff = true) (client idx sub : Nat)
    (a : Option Abort) (data : List Byte) : v.usdoSend can client idx sub a data = v := by
  simp [State.usdoSend, h]

/-- A session whose request has been taken from its queue ends with its answer, sent where the node may send. -/
theorem State.usdoAnswer_served {v : State} {can client : Nat} {x : Session}
    (hx : Store.find? (v.canNode can).sessions client = some x) (hqueued : x.queued = true)
    (hitems : (v.reqQueue can).items = []) (idx sub : Nat) (a : Option Abort) (data : List Byte) :
    v.usdoAnswer can client idx sub a data = (v.endSession can client).usdoSend can client idx sub a data := by
  have hitems' : (Store.get v.access.queues {} can).items = [] := hitems
  simp [State.usdoAnswer, hx, hqueued, hitems']

/-- A read of NOTIFY_PORT that waits for its answer. -/
def openRead : Session := { idx := 0x2051, sub := 6, isWrite := false, data := [], queued := true }

/-- A controller that went bus-off while the request of its client 9 waited. -/
def offBus : State := State.reset.setCan 0 { on := true, busOff := true, sessions := [(9, openRead)] }

/-- The answer of a session on a controller that is bus-off is not sent. -/
theorem offBus_answer_unsent : (offBus.usdoAnswer 0 9 0x2051 6 none []).out = [] := by
  have hoff : ((offBus.endSession 0 9).canNode 0).busOff = true := by
    rw [State.endSession, State.canNode_setCan]; rfl
  rw [State.usdoAnswer_served (x := openRead) rfl rfl rfl, State.usdoSend_busOff hoff]
  rfl

/-- Refutes O16: it has the answer of every open session go out, whatever the controller's state, but the session of a
controller that went bus-off while the request waited ends with nothing sent. -/
theorem not_canTransfers : ¬ Obligations.CanTransfers := by
  unfold Obligations.CanTransfers
  rintro ⟨-, hanswers, -⟩
  obtain ⟨hout, -⟩ := hanswers offBus 0 9 0x2051 6 [] openRead rfl rfl rfl
  have hsent : (offBus.usdoAnswer 0 9 0x2051 6 none []).out = [.usdo 0 9 0x2051 6 0 []] := hout
  rw [offBus_answer_unsent] at hsent
  cases hsent

end Sys2Proof.Machine
end

section
/-! SUPPORT. Datagrams on the management port (R43 to R45, R111). -/

namespace Sys2Proof.Machine

/-! ### FENCE items of a packet (R111) -/

/-- A state but for what it keeps of its requesters. -/
abbrev State.withReqs (s : State) (q : Store ReqState) : State := { s with reqs := q }

/-- A read of FENCE moves nothing but the requesters' records. -/
theorem State.readEntry_fence_frame (s : State) (r : Requester) : ∃ q, (s.readEntry r 0x2F10 1).2 = s.withReqs q := by
  unfold State.readEntry
  split
  · exact ⟨s.reqs, rfl⟩
  · split
    · exact ⟨s.reqs, rfl⟩
    · exact ⟨_, rfl⟩

/-- The row of FENCE. -/
theorem lookup_fence : lookup 0x2F10 1 = .ok ⟨0x2F10, 1, 1, 1, .u32, .ro, 0, .imm, .any, false⟩ := rfl

/-- So does a FENCE item, whether it is refused by its checks, by its length or not at all. -/
theorem State.readItem_fence_frame (s : State) (r : Requester) {i : Item} (hidx : i.index = 0x2F10) (hsub : i.sub = 1) :
    ∃ q, (s.readItem r i).2 = s.withReqs q := by
  obtain ⟨q, hread⟩ := s.readEntry_fence_frame r
  rcases hx : s.readEntry r 0x2F10 1 with ⟨x, v⟩
  obtain rfl : v = s.withReqs q := by rw [hx] at hread; exact hread
  unfold State.readItem
  simp only [hidx, hsub, lookup_fence, Ty.size, hx]
  split
  · exact ⟨_, rfl⟩
  · split
    · exact ⟨_, rfl⟩
    · cases x <;> exact ⟨_, rfl⟩

/-- Reading the FENCE items of a packet, one after another, moves nothing but the requesters' records. -/
theorem State.readFences_frame (s : State) (r : Requester) (items : List Item) :
    ∃ q, (s.readFences r items).2 = s.withReqs q := by
  unfold State.readFences
  refine List.foldlRecOn (motive := fun acc : List Item × State => ∃ q, acc.2 = s.withReqs q) items _ ⟨s.reqs, rfl⟩ ?_
  rintro ⟨done, _⟩ ⟨q, rfl⟩ i -
  dsimp only
  split
  next hfence =>
    obtain ⟨q', h⟩ := (s.withReqs q).readItem_fence_frame r hfence.1 hfence.2
    exact ⟨q', h⟩
  next => exact ⟨q, rfl⟩

/-- What a WRITE packet leaves to its queue is all of it, and what a READ packet leaves is all but the FENCE items. -/
def State.fencesFirst (s : State) (addr port : Nat) (w : Bool) (items : List Item) : List Item × State :=
  if w then (items, s) else s.readFences (.udp addr port) items

theorem State.fencesFirst_frame (s : State) (addr port : Nat) (w : Bool) (items : List Item) :
    ∃ q, (s.fencesFirst addr port w items).2 = s.withReqs q := by
  cases w
  · exact s.readFences_frame (.udp addr port) items
  · exact ⟨s.reqs, rfl⟩

/-! ### A datagram arrives -/

/-- Requests are served as they come whatever is kept of the requesters. -/
theorem State.Prompt.withReqs {u : State} (hP : u.Prompt) (q : Store ReqState) : (u.withReqs q).Prompt :=
  ⟨hP.empty, hP.running, hP.served, hP.channels, hP.slots, hP.normal, hP.unfenced⟩

/-- A packet taken up, with none of its items answered. -/
def packetOf (addr port seq : Nat) (w : Bool) (items : List Item) : OpenPacket :=
  { addr := addr, port := port, seq := seq, isWrite := w, items := items, answers := [], left := 0 }

/-- A packet that no kept answer repeats is executed. -/
theorem State.runRequest_udp {v : State} {addr port seq : Nat} (w : Bool) (items : List Item) (env : Env)
    (hkept : v.keptAnswer addr port seq = none) :
    v.runRequest 2 (.udp addr port seq w items) env = v.runPacket (packetOf addr port seq w items) env := by
  unfold State.runRequest
  simp only [hkept]
  rfl

/-- The state in which a packet is executed: it passes through queue 2, unless no item is left for it. -/
def State.packetTaken (u : State) (r : Request) : State := if r.count = 0 then u.draws else u.afterQueue 2 r

/-- A new packet whose queue is idle is executed as it comes, its FENCE items first. -/
theorem State.udpArrive_packet {u : State} {addr port seq : Nat} {bytes : List Byte} {w : Bool} {items : List Item}
    (hport : u.v K.UDP_CONFIG_UDP_PORT ≠ 0) (hboot : u.booting = false) (hparse : parseDatagram bytes = .packet w seq items)
    (hkept : u.keptAnswer addr port seq = none) (hP : u.Prompt) (hlut : ∀ key, u.lutBusy key = false)
    (hcount : (Request.udp addr port seq w (u.fencesFirst addr port w items).1).count ≤ 64) :
    u.udpArrive addr port bytes =
      ((u.fencesFirst addr port w items).2.packetTaken (.udp addr port seq w (u.fencesFirst addr port w items).1)).runPacket
        (packetOf addr port seq w (u.fencesFirst addr port w items).1) ((u.fencesFirst addr port w items).2.freeEnv 0) := by
  obtain ⟨q, hframe⟩ := u.fencesFirst_frame addr port w items
  have harrive : u.udpArrive addr port bytes =
      if (Request.udp addr port seq w (u.fencesFirst addr port w items).1).count = 0 then
        (u.fencesFirst addr port w items).2.draws.runRequest 2 (.udp addr port seq w (u.fencesFirst addr port w items).1)
          ((u.fencesFirst addr port w items).2.freeEnv 0)
      else (u.fencesFirst addr port w items).2.draws.submit 2 (.udp addr port seq w (u.fencesFirst addr port w items).1)
        ((u.fencesFirst addr port w items).2.freeEnv 0) := by
    unfold State.udpArrive
    simp only [if_neg hport, hparse, hboot, Bool.false_eq_true, if_false, hkept]
    rfl
  rw [harrive, State.packetTaken, hframe]
  split
  · exact State.runRequest_udp w _ _ hkept
  · rw [State.submit_idle _ (hP.withReqs q) (by decide) hcount fun k _ => hlut k]
    exact State.runRequest_udp w _ _ hkept

/-- A datagram to a device in service that has booted. -/
theorem udpMeaning_ready {s : State} {t : Time} {addr port : Nat} {bytes : List Byte} (haddr : addr < 2 ^ 32)
    (hport : port < 65536) (hruns : s.runs t) (hready : s.boot.state = .ready) :
    inRange "address" addr (2 ^ 32) (inRange "port" port 65536 (udpMeaning t addr port bytes s)) =
      .next ((s.now t).udpArrive addr port bytes) := by
  have hboot : (s.at t).booting = false := by simp [State.booting, hready]
  have hup : (s.at t).up = true := hruns
  rw [inRange_of haddr, inRange_of hport, udpMeaning, served, if_neg (by simp [hboot]), if_pos hup]
  rfl

/-- A device that has booted does not boot when a command wakes it. -/
theorem State.now_booting {s : State} (hready : s.boot.state = .ready) (t : Time) : (s.now t).booting = false := by
  have hboot : (s.now t).boot.state = .ready := by
    unfold State.now State.awake
    split <;> exact hready
  simp [State.booting, hboot]

/-- Settles O17: each kind of datagram has one effect, and a packet whose queue is idle passes through it at once. -/
theorem datagrams : Obligations.Datagrams := by
  unfold Obligations.Datagrams
  intro s t addr port bytes haddr hport hruns u hready hserved
  have hmeaning : _ = Host.Outcome.next (u.udpArrive addr port bytes) :=
    udpMeaning_ready haddr hport hruns hready
  have hboot : u.booting = false := State.now_booting hready t
  refine ⟨fun hparse => hmeaning.trans ?_, fun seq hparse => hmeaning.trans ?_, ?_, ?_⟩
  · simp only [State.udpArrive, if_neg hserved, hparse]
  · simp only [State.udpArrive, if_neg hserved, hparse]
  · intro w seq items hparse hkept x r p hP hlut hcount v
    have hrun := State.udpArrive_packet hserved hboot hparse hkept hP hlut hcount
    exact ⟨fun _ => hmeaning.trans (congrArg _ hrun), fun _ => hmeaning.trans (congrArg _ hrun)⟩
  · intro seq items k w hparse hkept
    have hagain : u.udpArrive addr port bytes = u.emit (.udp addr port k.bytes) := by
      simp only [State.udpArrive, if_neg hserved, hparse, hboot, Bool.false_eq_true, if_false, hkept]
    exact ⟨hmeaning.trans (congrArg _ hagain), hmeaning.trans (congrArg _ hagain)⟩

end Sys2Proof.Machine
end

section
/-! SUPPORT. The management cores and the Moraine dump (R52, R361, R362). -/

namespace Sys2Proof.Machine

/-! ### Management cores -/

/-- A core that stalls while no other is stalled, and that did not return lately, raises MGMT_STALL alone (R361). -/
theorem exec_mgmtStall_first {s : State} {t : Time} {k : Nat} (hruns : s.runs t) (hk : k < 4)
    (hstalled : ((s.now t).core k).stalled = false) (hreturned : ((s.now t).core k).returned = none)
    (hothers : ∀ j < 4, ((s.now t).core j).stalled = false) :
    exec (.mgmtStall t k) s = .next (((s.now t).setCore k { (s.now t).core k with stalled := true }).raise F.MGMT_STALL
      { inst := k, detail := [k] }) := by
  have hnone : ((List.range 4).any fun j => j ≠ k && ((s.now t).core j).stalled) = false := by
    rw [List.any_eq_false]
    intro j hj
    simp [hothers j (List.mem_range.mp hj)]
  show execMgmtStall t k s = _
  rw [execMgmtStall, inRange_of hk, live_runs hruns]
  simp only [hstalled, hreturned, hnone, Bool.false_eq_true, Bool.or_self, if_false]

/-- A stalled core is restarted by a core that works (R361). -/
theorem exec_shawmCoreRestart_stalled {s : State} {t : Time} {k : Nat} (hruns : s.runs t) (hk : k < 4)
    (hstalled : ((s.now t).core k).stalled = true) (hworks : (s.now t).coreWorks (restarter k) = true) :
    exec (.shawmCoreRestart t k) s = .next ((s.now t).setCore k { (s.now t).core k with restarting := true }) := by
  show execShawmCoreRestart t k s = _
  rw [execShawmCoreRestart, inRange_of hk, live_runs hruns]
  simp only [hstalled, hworks, Bool.and_self, if_true]

/-- A stalled core resumes, its MGMT_STALL ends, and the notices that waited go out (R52, R361). -/
theorem exec_shawmLoopResume_stalled {s : State} {t : Time} {k : Nat} (hruns : s.runs t) (hk : k < 4)
    (hstalled : ((s.now t).core k).stalled = true) :
    exec (.shawmLoopResume t k) s = .next (State.flushNotices (State.endFault
      ((s.now t).setCore k { stalled := false, restarting := false, returned := some (s.now t).time }) F.MGMT_STALL k)) := by
  show execShawmLoopResume t k s = _
  rw [execShawmLoopResume, inRange_of hk, live_runs hruns]
  simp only [hstalled, if_true]

/-! ### Dumps -/

/-- No thermal shutdown goes on where none is pending. -/
theorem State.stopGo_running {s : State} (h : s.power.shutdown = false) : s.stopGo = s := by
  simp [State.stopGo, h]

/-- A fatal sequence in which no dump may be written leaves the dump that stands, and ends in FATAL (R362, R363). -/
theorem State.dumpComplete_fatal {u : State} (hworks : u.coreWorks 3 = true) (hdumping : u.faults.device = .fatalDumping)
    (hkept : u.mayDump = false) : u.dumpComplete = { u with faults := { u.faults with device := .fatal } } := by
  simp only [State.dumpComplete, hworks, hdumping, hkept, Bool.not_true, Bool.false_eq_true, if_false, if_true]

/-- A dump begun by DUMP_NOW is complete, with writer 3 and STATE 2 (R362). -/
theorem State.dumpComplete_now {u : State} (hworks : u.coreWorks 3 = true) (hnormal : u.faults.device = .normal)
    (hdumping : u.moraine.dumping = true) : u.dumpComplete = u.dumpDone u.dumpAll 3 2 := by
  simp only [State.dumpComplete, hworks, hnormal, hdumping, Bool.not_true, Bool.false_eq_true, reduceCtorEq, if_false, if_true]

/-- The end of a dump while no thermal shutdown is pending, which neither kind of end begins. -/
theorem exec_moraineDumpComplete {s v : State} {t : Time} (hruns : s.runs t) (hdump : (s.now t).dumpComplete = v)
    (hshutdown : v.power.shutdown = false) : exec (.moraineDumpComplete t) s = .next v := by
  show execMoraineDumpComplete t s = _
  rw [execMoraineDumpComplete, live_runs hruns, hdump, State.stopGo_running hshutdown]

/-- Settles O52: each event of a management core has one effect, and a dump ends as the device's state has it. -/
theorem coresAndDumps : Obligations.CoresAndDumps := by
  unfold Obligations.CoresAndDumps
  intro s t hruns u
  exact ⟨fun k => exec_mgmtStall_first hruns, fun k => exec_shawmCoreRestart_stalled hruns,
    fun k => exec_shawmLoopResume_stalled hruns,
    fun hworks hdevice hshutdown hkept =>
      exec_moraineDumpComplete hruns (State.dumpComplete_fatal hworks hdevice hkept) hshutdown,
    fun hworks hdevice hdumping hshutdown =>
      exec_moraineDumpComplete hruns (State.dumpComplete_now hworks hdevice hdumping) hshutdown⟩

end Sys2Proof.Machine
end

section
/-! SUPPORT. Slot writes of RWP entries: their start and their end (R54 to R59). -/

namespace Sys2Proof.Machine

/-! ### The end of a slot write -/

/-- A slot write is one more in the wear of its entry, and leaves its content in the slot in turn (R56, R57). -/
theorem State.nvmRecord_slotWrite (u : State) (j : NvmJob) (c : Slot) :
    (u.slotWrite j c).nvmRecord j.key =
      { slots := Store.put (u.nvmRecord j.key).slots ((u.nvmRecord j.key).wear % 8) c
        wear := (u.nvmRecord j.key).wear + 1 } := by
  simp [State.slotWrite, State.nvmRecord]

section
variable {s : State} {t : Time} {j : NvmJob} {since : Time} (hruns : s.runs t)
  (hcurrent : (s.now t).nvm.current = some (j, since))
include hruns hcurrent

/-- A slot write that reads back is stored, and NVM_WEAR is raised where it was the 800,000th (R56, R57). -/
theorem exec_nvmSlotWriteDone_stored {v : State}
    (hv : v = ((s.now t).slotWrite j ((s.now t).nvmSlotOf j)).rwpStored j.key j.value.toNat) :
    exec (.nvmSlotWriteDone t true) s = .next
      (((if (v.nvmRecord j.key).wear = 800000 then v.raise F.NVM_WEAR { detail := [j.key] } else v).nvmAnswer j
        none).nvmGo.stopGo) := by
  show execNvmSlotWriteDone t true s = _
  rw [execNvmSlotWriteDone, live_runs hruns]
  simp only [hcurrent, if_true, hv]

/-- A slot write that does not read back is counted and answered 0x0A48_0006 (R57). -/
theorem exec_nvmSlotWriteDone_broken : exec (.nvmSlotWriteDone t false) s = .next
    (((((s.now t).slotWrite j .broken).bumpSat K.NVM_STATUS_FAILED_SLOTS 1).nvmAnswer j (some A.readBack)).nvmGo.stopGo) := by
  show execNvmSlotWriteDone t false s = _
  rw [execNvmSlotWriteDone, live_runs hruns]
  simp only [hcurrent, Bool.false_eq_true, if_false]

/-- A thermal shutdown gives a slot write up 100 µs after it arrived (R59). -/
theorem exec_nvmWriteAbandon_due (hshutdown : (s.now t).power.shutdown = true)
    (hdue : (s.now t).power.stopAt + 100000 ≤ (s.now t).time) :
    exec (.nvmWriteAbandon t) s = .next ((s.now t).slotWrite j .broken).stopGo := by
  show execNvmWriteAbandon t s = _
  rw [execNvmWriteAbandon, live_runs hruns, if_pos ⟨hshutdown, hdue⟩]
  simp only [State.slotSettle, hcurrent, Bool.false_eq_true, if_false]

end

/-- Settles O12: the two ends of a slot write, by its read-back and its wear, and what every slot write leaves. -/
theorem slotWritesEnd : Obligations.SlotWritesEnd := by
  unfold Obligations.SlotWritesEnd
  intro s t j since hruns u hcurrent
  refine ⟨?_, exec_nvmSlotWriteDone_broken hruns hcurrent, ?_, exec_nvmWriteAbandon_due hruns hcurrent⟩
  · intro v hv
    have hdone := exec_nvmSlotWriteDone_stored hruns hcurrent hv
    exact ⟨fun hwear => by rw [hdone, if_neg hwear], fun hwear => by rw [hdone, if_pos hwear]⟩
  · rintro c w rfl
    rw [State.nvmRecord_slotWrite]
    exact ⟨rfl, Store.find?_put_same .., rfl, rfl, rfl, rfl⟩

end Sys2Proof.Machine
end

section
/-! SUPPORT. Accepted writes of plain entries: the values after them and their apply points (R33, R34, R67 to R71). -/

namespace Sys2Proof.Machine

/-! ### Keys and rows -/

theorem keyOf_div {idx sub : Nat} (h : sub < 256) : keyOf idx sub / 256 = idx := by unfold keyOf; omega

theorem keyOf_mod {idx sub : Nat} (h : sub < 256) : keyOf idx sub % 256 = sub := by unfold keyOf; omega

/-- The entry of a write that passes its checks is its row. -/
theorem State.lookup_of_writeCheck {u : State} {r : Requester} {idx sub : Nat} {data : List Byte} {e : Entry}
    {a : Option Abort} (h : u.writeCheck r idx sub data = .ok (e, a)) : lookup idx sub = .ok e := by
  unfold State.writeCheck at h
  split at h
  · cases h
  next e' hl =>
    split at h
    · cases h
    · split at h
      · cases h
      · cases h
        exact hl

/-- A value of a fixed size has at most 8 bytes, so a dictionary value holds it. -/
theorem leNat_lt_of_size {ty : Ty} {data : List Byte} (h : ty.size = some data.length) : leNat data < 2 ^ 64 := by
  have hlen : data.length ≤ 8 := by
    generalize data.length = n at h
    cases ty <;> simp_all [Ty.size] <;> omega
  calc leNat data < 256 ^ data.length := leNat_lt data
    _ ≤ 256 ^ 8 := Nat.pow_le_pow_right (by decide) hlen
    _ = 2 ^ 64 := by decide

/-! ### Values after a write -/

theorem find?_putDflt_other (m : Store W64) (d v : Nat) {k i : Nat} (h : i ≠ k) :
    Store.find? (putDflt m d k v) i = Store.find? m i := by
  unfold putDflt
  split
  · exact Store.find?_erase_other m k i h
  · exact Store.find?_put_other m k i _ h

theorem State.pv_setPv_other (s : State) {k i : Nat} (v : Nat) (h : i ≠ k) : (s.setPv k v).pv i = s.pv i := by
  have hfind : Store.find? (s.setPv k v).dict.pend i = Store.find? s.dict.pend i := find?_putDflt_other _ _ v h
  rw [State.pv, hfind]
  rfl

theorem State.v_setV_other (s : State) {k i : Nat} (v : Nat) (h : i ≠ k) : (s.setV k v).v i = s.v i := by
  have hfind : Store.find? (s.setV k v).dict.appl i = Store.find? s.dict.appl i := find?_putDflt_other _ _ v h
  rw [State.v, hfind]
  rfl

/-- A key whose value has just been accepted waits for its apply point. -/
theorem State.waits_setWaiting (s : State) (k : Nat) : (s.setWaiting k).waits k = true := by
  simp [State.waits, State.setWaiting]

/-! ### The effect of a write -/

/-- What an accepted write of a plain RW entry does: it is accepted under its apply point. -/
theorem State.acceptRw_plain (s : State) (r : Requester) (e : Entry) {idx sub : Nat} (v : Nat)
    (h : plainEntry idx sub = true) :
    s.acceptRw r e idx sub v = (none, s.acceptPlain e (s.regKey r (keyOf idx sub)) v) := by
  simp only [plainEntry, List.contains_cons, List.contains_nil, Bool.and_eq_true, Bool.not_eq_true', Bool.and_eq_false_iff,
    Bool.or_eq_false_iff, Bool.or_false, beq_eq_false_iff_ne, decide_eq_true_eq] at h
  obtain ⟨⟨⟨⟨hsel, hlut⟩, hchan⟩, hrow, hrow', hsource, hgroup⟩, hen⟩ := h
  have hpart : ∀ k ∈ [K.CH_STATE_OWNER, K.CH_LAUNCH_LIST_WR, K.CH_MAG_CLIP],
      ¬ (isChanIdx idx = true ∧ chanPart (keyOf idx sub) = k) := by
    rintro k hk ⟨hi, rfl⟩
    rcases hchan with hno | ⟨howner, hlist, hclip⟩
    · exact absurd (hno.symm.trans hi) Bool.false_ne_true
    · simp only [List.mem_cons, List.not_mem_nil, howner, hlist, hclip, or_self] at hk
  simp only [List.forall_mem_cons] at hpart
  obtain ⟨howner, hlist, hclip, -⟩ := hpart
  simp only [State.acceptRw, hsel, hlut, howner, hlist, hclip, hrow, hrow', hsource, hgroup, hen, Bool.false_eq_true,
    or_self, if_false]

/-- No LUT's copy holds up a write of a plain entry. -/
theorem State.lutBusy_plain (s : State) {idx sub : Nat} (h : plainEntry idx sub = true) : s.lutBusy (keyOf idx sub) = false := by
  simp only [plainEntry, Bool.and_eq_true, Bool.not_eq_true'] at h
  obtain ⟨⟨⟨⟨-, hlut⟩, -⟩, -⟩, -⟩ := h
  rw [State.lutBusy, hlut, Bool.false_and]

/-- An IMM value that nothing else follows is pending and in effect. -/
theorem State.acceptPlain_imm (s : State) {e : Entry} {key : Nat} (v : Nat) (hap : e.ap = .imm) (h : ¬ actsAtOnce key = true) :
    s.acceptPlain e key v = s.setImm key v := by
  simp only [actsAtOnce, List.contains_cons, List.contains_nil, Bool.or_eq_true, beq_iff_eq, Bool.false_eq_true, or_false,
    not_or] at h
  obtain ⟨hbeat, hsource, hlow, hhigh, hsnap⟩ := h
  simp only [State.acceptPlain, hap, State.immEffect, hbeat, hsource, hlow, hhigh, hsnap, or_self, if_false]

/-- Any other value that is not kept for the next reset waits for its apply point (Table 2-5). -/
theorem State.acceptPlain_waits (s : State) {e : Entry} (key v : Nat) (hap : e.ap = .frame ∨ e.ap = .cycle ∨ e.ap = .refill) :
    s.acceptPlain e key v = (s.setPv key v).setWaiting key := by
  unfold State.acceptPlain
  rcases hap with h | h | h <;> rw [h]

/-! ### Served as they come -/

/-- What a served request leaves depends only on what its effect does where the request is found. -/
theorem ServedAs.congr {u : State} {o : Out} {f g : State → State} (h : ServedAs u o f)
    (hfg : ∀ (a : Access) (n : Nat), f { u with access := a, free := n } = g { u with access := a, free := n }) :
    ServedAs u o g := by
  obtain ⟨a, n, h⟩ := h
  exact ⟨a, n, by rwa [hfg a n] at h⟩

/-- A write of a whole entry is made as its requester makes it. -/
theorem exec_dictWrite_whole {s : State} {t : Time} {r : Requester} {idx sub : Nat} (data : List Byte) (hruns : s.runs t)
    (hr : r.place < 256) (hidx : idx < 65536) (hsub : sub < 256) :
    exec (.dictWrite t r idx sub ⟨0, data⟩) s = .next ((s.now t).draws.requestWrite r idx sub data ((s.now t).freeEnv 0)) := by
  show execDictWrite t r idx sub ⟨0, data⟩ s = _
  rw [execDictWrite, inRange_of hr, inRange_of hidx, inRange_of hsub, live_runs hruns]
  rfl

/-- A write of a plain RW entry is served as it comes: its value is accepted under its apply point. -/
theorem exec_dictWrite_plain {s : State} {t : Time} {r : Requester} {idx sub : Nat} {data : List Byte} {e : Entry}
    (hruns : s.runs t) (hP : (s.now t).Prompt) (hr : (s.now t).Present r) (hidx : idx < 65536) (hsub : sub < 256)
    (hc : (s.now t).writeCheck r idx sub data = .ok (e, none)) (hacc : e.acc = .rw) (hsize : e.ty.size = some data.length)
    (hplain : plainEntry idx sub = true) :
    ServedAs (s.now t) (exec (.dictWrite t r idx sub ⟨0, data⟩) s)
      (fun v => v.acceptPlain e ((s.now t).regKey r (keyOf idx sub)) (leNat data)) := by
  rw [exec_dictWrite_whole data hruns hr.1 hidx hsub]
  have heffect : ∀ v : State, v.writeEffect r e idx sub data ((s.now t).freeEnv 0) =
      (none, v.acceptPlain e (v.regKey r (keyOf idx sub)) (leNat data)) := by
    intro v
    simp only [State.writeEffect, hacc, v.acceptRw_plain r e (leNat data) hplain]
  refine (State.write_served (s.now t) r idx sub data _ e _ hP hr (State.lookup_of_writeCheck hc) (by simp [hacc]) hsize hc
    (State.lutBusy_plain _ hplain) heffect).congr fun a n => rfl

/-- Settles O9. -/
theorem plainWritesAreAccepted : Obligations.PlainWritesAreAccepted := by
  unfold Obligations.PlainWritesAreAccepted
  intro s t r idx sub data e hruns u key hP hr hidx hsub hc hacc hsize hplain
  have hserved := exec_dictWrite_plain hruns hP hr hidx hsub hc hacc hsize hplain
  have hv := leNat_lt_of_size hsize
  refine ⟨?_, ?_, ?_⟩
  · intro hap hacts
    exact ⟨hserved.congr fun a n => State.acceptPlain_imm _ _ hap hacts, u.pv_setPv key _ hv, State.v_setV _ key _ hv⟩
  · intro hap f
    have hwaits : e.ap = .frame ∨ e.ap = .cycle ∨ e.ap = .refill := hap.imp_right (Or.imp_right And.left)
    exact ⟨hserved.congr fun a n => State.acceptPlain_waits _ key _ hwaits, u.pv_setPv key _ hv, rfl,
      State.waits_setWaiting _ key⟩
  · intro n k hk
    exact ⟨u.pv_setPv_other n hk, State.v_setV_other _ n hk, u.pv_setPv_other n hk, rfl⟩

end Sys2Proof.Machine
end

section
/-! SUPPORT. Writes of RWP entries, which go to their NVM slot before they are answered (R34, R54 to R56), and the device
commands that are writes of one WO entry (R30, R36, R66, R76, R337, R352, R358, R362, R363). -/

namespace Sys2Proof.Machine

/-! ### The checks of a write -/

/-- A write passes its checks where its requester has the right to a writable entry, whose length, limits, wear and rules do not
refuse it (Table 2-14). -/
theorem State.writeCheck_ok {u : State} {r : Requester} {idx sub : Nat} {data : List Byte} {e : Entry}
    (hl : lookup idx sub = .ok e) (hright : u.mayReach r idx sub true = true) (hacc : ¬ (e.acc = .const ∨ e.acc = .ro))
    (hwear : u.wornOut e (keyOf idx sub) data = false) (hcheck : e.check data = none)
    (hrule : u.writeRule r e idx sub (leNat data) = none) : u.writeCheck r idx sub data = .ok (e, none) := by
  simp only [State.writeCheck, hl, hright, if_neg hacc, hwear, hcheck, hrule, firstAbort, Bool.not_true, Bool.false_eq_true,
    if_false]

/-- An entry without limits takes every value of its length, a BOOLEAN's apart. -/
theorem Entry.check_any {e : Entry} {data : List Byte} (hsize : e.ty.size = some data.length) (hty : e.ty ≠ .bool)
    (hlim : e.lim = .any) : e.check data = none := by
  simp [Entry.check, hsize, hty, hlim, Lim.check]

/-- Nothing turns a write away whatever its value while requests are served as they come. -/
theorem State.Prompt.writeBlocked_eq {u : State} (hP : u.Prompt) (key v : Nat) : u.writeBlocked key v = none := by
  simp [State.writeBlocked, hP.normal, hP.unfenced]

/-! ### A write of an RWP entry waits for its slot -/

/-- No entry of a channel is RWP (Table 2-4). -/
theorem chanEntries_not_rwp : ∀ e ∈ chanEntries, e.acc ≠ .rwp := by decide +kernel

/-- An RWP entry is not the data of a LUT, which is a channel's. -/
theorem isLutData_of_rwp {idx sub : Nat} {e : Entry} (hsub : sub < 256) (hl : lookup idx sub = .ok e) (hacc : e.acc = .rwp) :
    isLutData (keyOf idx sub) = false := by
  have hdev : isChanIdx idx = false := by
    rw [Bool.eq_false_iff]
    intro hchan
    have hcounter : (decide (0x3001 ≤ idx) && decide (idx < 0x4000)) = false := by
      simp only [isChanIdx, Bool.and_eq_true, decide_eq_true_eq] at hchan
      simp only [Bool.and_eq_false_iff, decide_eq_false_iff_not]
      omega
    simp only [lookup, hchan, if_true, hcounter, Bool.false_and, Bool.false_eq_true, if_false] at hl
    split at hl
    next e' hfind =>
      cases hl
      exact chanEntries_not_rwp e (List.mem_of_find?_eq_some hfind) hacc
    next => split at hl <;> cases hl
  rw [isLutData, keyOf_div hsub, hdev, Bool.false_and]

/-- The slot write that a write of an RWP entry asks for. -/
def rwpJob (r : Requester) (idx sub : Nat) (data : List Byte) : NvmJob :=
  { key := keyOf idx sub, value := w64 (leNat data), restored := false
    back := .request (queueOf r) (.write r idx sub data), who := r }

/-- The state in which the slot write of an RWP entry waits, and its queue with it. -/
def State.rwpWaits (u : State) (r : Requester) (idx sub : Nat) (data : List Byte) : State :=
  let v := (u.afterQueue (queueOf r) (.write r idx sub data)).nvmWait (rwpJob r idx sub data)
  v.setReqQueue (queueOf r) { v.reqQueue (queueOf r) with blocked := true }

/-- Passing through its queue moves nothing for a request but the access paths and the count of open values. -/
theorem State.afterQueue_frame (u : State) (q : Nat) (r : Request) :
    ∃ a, u.afterQueue q r = { u with access := a, free := u.free + 1 } := ⟨_, rfl⟩

/-- A state with one more slot write waiting, the access paths and the count of open values apart. -/
def State.withJob (u : State) (a : Access) (j : NvmJob) : State :=
  { u with access := a, free := u.free + 1, nvm := { u.nvm with waiting := u.nvm.waiting ++ [j] } }

/-- A write of an RWP entry leaves one more slot write waiting and moves nothing else. -/
theorem State.rwpWaits_frame (u : State) (r : Requester) (idx sub : Nat) (data : List Byte) :
    ∃ a, u.rwpWaits r idx sub data = u.withJob a (rwpJob r idx sub data) := by
  obtain ⟨a, ha⟩ := u.afterQueue_frame (queueOf r) (.write r idx sub data)
  rw [State.rwpWaits, ha]
  exact ⟨_, rfl⟩

/-- A queue that waits for a slot write is blocked (R56). -/
theorem State.blocked_rwpWaits (u : State) (r : Requester) (idx sub : Nat) (data : List Byte) :
    ((u.rwpWaits r idx sub data).reqQueue (queueOf r)).blocked = true := by
  rw [State.rwpWaits, State.reqQueue_setReqQueue]

/-- A write of an RWP entry enters its request queue, on every path. -/
theorem State.requestWrite_rwp {u : State} {r : Requester} {idx sub : Nat} {data : List Byte} {e : Entry} (env : Env)
    (hr : u.Present r) (hl : lookup idx sub = .ok e) (hacc : e.acc = .rwp) (hsize : e.ty.size = some data.length) :
    u.requestWrite r idx sub data env = u.submit (queueOf r) (.write r idx sub data) env := by
  cases r with
  | func f =>
    have hreach : u.funcReaches f = true := hr.2
    have hqueued : u.queued e (keyOf idx sub) = true := by simp [State.queued, hacc]
    have hdata : bar0Data data.length data = data := by unfold bar0Data; split <;> simp
    simp only [State.requestWrite, hreach, hl, hsize, hdata, hqueued, Bool.not_true, Bool.false_eq_true, if_false, if_true]
  | can k => rfl
  | udp a p => rfl
  | shawm => rfl

/-- A write of an RWP entry that passes its checks is left to its slot write (R34). -/
theorem State.writeFor_rwp {v : State} {r : Requester} {idx sub : Nat} {data : List Byte} {e : Entry} (env : Env)
    (hc : v.writeCheck r idx sub data = .ok (e, none)) (hacc : e.acc = .rwp)
    (hblocked : v.writeBlocked (keyOf idx sub) (leNat data) = none) :
    v.writeFor r idx sub data env = .slot (keyOf idx sub) (leNat data) := by
  simp only [State.writeFor, State.writeEntry, hc, hblocked, firstAbort, hacc, if_true]

/-- A write of an RWP entry that finds its queue idle waits for its slot write, and the slot writes are taken up. -/
theorem State.freeWrite_rwp {u : State} {r : Requester} {idx sub : Nat} {data : List Byte} {e : Entry} (hP : u.Prompt)
    (hr : u.Present r) (hsub : sub < 256) (hc : u.writeCheck r idx sub data = .ok (e, none)) (hacc : e.acc = .rwp)
    (hsize : e.ty.size = some data.length) :
    u.freeWrite r idx sub data 0 = (u.rwpWaits r idx sub data).nvmGo := by
  have hl := State.lookup_of_writeCheck hc
  have hlut : ∀ k ∈ (Request.write r idx sub data).keys, u.lutBusy k = false :=
    List.forall_mem_singleton.mpr (by rw [State.lutBusy, isLutData_of_rwp hsub hl hacc, Bool.false_and])
  have hslot : (u.afterQueue (queueOf r) (.write r idx sub data)).writeFor r idx sub data (u.freeEnv 0) =
      .slot (keyOf idx sub) (leNat data) := by
    obtain ⟨a, ha⟩ := u.afterQueue_frame (queueOf r) (.write r idx sub data)
    rw [ha]
    exact State.writeFor_rwp _ hc hacc (hP.writeBlocked_eq _ _)
  rw [State.freeWrite, State.requestWrite_rwp (u := u.draws) _ hr hl hacc hsize,
    State.submit_idle _ hP (queueOf_lt hr.1) (by simp [Request.count]) hlut]
  simp only [State.runRequest, State.runWrite, hslot]
  rfl

/-! ### The slot write that waits alone is taken up (R56) -/

/-- The state with other slot writes waiting. -/
def State.withWaiting (s : State) (l : List NvmJob) : State := { s with nvm := { s.nvm with waiting := l } }

/-- The slot write that waits longest, while none is in progress and no thermal shutdown is pending: one of the value that stands
takes no slot, and an entry at its limit takes none. -/
theorem State.nvmNext_cons {v : State} {j : NvmJob} {rest : List NvmJob} (n : Nat) (hcurrent : v.nvm.current = none)
    (hshutdown : v.power.shutdown = false) (hwaiting : v.nvm.waiting = j :: rest) :
    v.nvmNext (n + 1) =
      if j.value.toNat = v.pv j.key then ((v.withWaiting rest).nvmAnswer j none).nvmNext n
      else if 800000 ≤ (v.nvmRecord j.key).wear then
        ((v.withWaiting rest).nvmAnswer j (if j.restored then none else some A.worn)).nvmNext n
      else { v with nvm := { v.nvm with waiting := rest, current := some (j, v.time) } } := by
  have hidle : ¬ (v.nvm.current.isSome || v.power.shutdown) = true := by simp [hcurrent, hshutdown]
  rw [State.nvmNext, if_neg hidle, hwaiting]
  rfl

/-- A slot write that waits alone starts, where its entry holds another value and is not worn. -/
theorem State.nvmGo_starts {v : State} {j : NvmJob} (hcurrent : v.nvm.current = none) (hshutdown : v.power.shutdown = false)
    (hwaiting : v.nvm.waiting = [j]) (hnew : j.value.toNat ≠ v.pv j.key) (hwear : (v.nvmRecord j.key).wear < 800000) :
    v.nvmGo = { v with nvm := { v.nvm with waiting := [], current := some (j, v.time) } } := by
  rw [State.nvmGo, State.nvmNext_cons _ hcurrent hshutdown hwaiting, if_neg hnew, if_neg (not_le.mpr hwear)]

/-- A queue that goes on is not blocked. -/
theorem State.blocked_unblock (s : State) (q : Nat) : ((s.unblock q).reqQueue q).blocked = false :=
  congrArg Queue.blocked (State.reqQueue_setReqQueue s q { s.reqQueue q with blocked := false })

/-- One of a value that already stands, asked for by a write request, is done without a slot, and its queue goes on. -/
theorem State.nvmGo_same {v : State} {j : NvmJob} {q : Nat} {r : Requester} {idx sub : Nat} {data : List Byte}
    (hcurrent : v.nvm.current = none) (hshutdown : v.power.shutdown = false) (hwaiting : v.nvm.waiting = [j])
    (hback : j.back = .request q (.write r idx sub data)) (hsame : j.value.toNat = v.pv j.key) :
    v.nvmGo = (v.withWaiting []).unblock q := by
  have hanswer : (v.withWaiting []).nvmAnswer j none = (v.withWaiting []).unblock q := by
    simp only [State.nvmAnswer, hback, State.answerRequest]
  rw [State.nvmGo, State.nvmNext_cons _ hcurrent hshutdown hwaiting, if_pos hsame, hanswer, hwaiting]
  exact State.nvmGo_idle ((v.withWaiting []).unblock q) rfl

section
variable {u : State} {r : Requester} {idx sub : Nat} {data : List Byte} {e : Entry} (hP : u.Prompt) (hr : u.Present r)
  (hsub : sub < 256) (hc : u.writeCheck r idx sub data = .ok (e, none)) (hacc : e.acc = .rwp)
  (hsize : e.ty.size = some data.length) (hshutdown : u.power.shutdown = false)

/-- The value of the slot write is the value written. -/
theorem rwpJob_value (hsize : e.ty.size = some data.length) : (rwpJob r idx sub data).value.toNat = leNat data :=
  BitVec.toNat_ofNat .. |>.trans (Nat.mod_eq_of_lt (leNat_lt_of_size hsize))

include hP hr hsub hc hacc hsize hshutdown

/-- A write of a new value starts its slot write and keeps its queue waiting; no value has changed yet. -/
theorem State.freeWrite_rwp_starts (hnew : leNat data ≠ u.pv (keyOf idx sub))
    (hwear : (u.nvmRecord (keyOf idx sub)).wear < 800000) :
    let w := u.freeWrite r idx sub data 0
    w.nvm.current = some (rwpJob r idx sub data, u.time) ∧ (w.reqQueue (queueOf r)).blocked = true ∧
      w.nvm.records = u.nvm.records ∧ w.dict = u.dict := by
  have hblocked := u.blocked_rwpWaits r idx sub data
  obtain ⟨a, ha⟩ := u.rwpWaits_frame r idx sub data
  have hgo := State.nvmGo_starts (v := u.withJob a (rwpJob r idx sub data)) hP.slots.1 hshutdown
    (congrArg (· ++ [_]) hP.slots.2) (by rw [rwpJob_value hsize]; exact hnew) hwear
  rw [ha] at hblocked
  rw [State.freeWrite_rwp hP hr hsub hc hacc hsize, ha, hgo]
  exact ⟨rfl, hblocked, rfl, rfl⟩

/-- A write of the value that stands leaves the records, the values and its queue as they were. -/
theorem State.freeWrite_rwp_same (hsame : leNat data = u.pv (keyOf idx sub)) :
    let w := u.freeWrite r idx sub data 0
    w.nvm = u.nvm ∧ w.dict = u.dict ∧ (w.reqQueue (queueOf r)).blocked = false := by
  obtain ⟨a, ha⟩ := u.rwpWaits_frame r idx sub data
  have hgo := State.nvmGo_same (v := u.withJob a (rwpJob r idx sub data)) hP.slots.1 hshutdown
    (congrArg (· ++ [_]) hP.slots.2) rfl (by rw [rwpJob_value hsize]; exact hsame)
  rw [State.freeWrite_rwp hP hr hsub hc hacc hsize, ha, hgo]
  refine ⟨?_, rfl, State.blocked_unblock _ _⟩
  show ({ u.nvm with waiting := [] } : Nvm) = u.nvm
  rw [← hP.slots.2]

end

end Sys2Proof.Machine
end

section
/-! SUPPORT. Commands that are writes of one entry of the device (R30, R36, R56, R66, R76, R337, R352, R358, R362, R363). -/

namespace Sys2Proof.Machine

/-! ### Rows of the device -/

theorem keyOf_div_mod (key : Nat) : keyOf (key / 256) (key % 256) = key := by unfold keyOf; omega

/-- The row of a writable entry of the device for which no other value refuses a write. -/
structure DeviceRow (key : Nat) (e : Entry) : Prop where
  row : lookup (key / 256) (key % 256) = .ok e
  writable : ¬ (e.acc = .const ∨ e.acc = .ro)
  device : isChanIdx (key / 256) = false
  unruled : ∀ (s : State) (r : Requester) (v : Nat), s.writeRule r e (key / 256) (key % 256) v = none

/-- A requester with the right to such an entry passes the checks with a value that its wear and its limits allow. -/
theorem DeviceRow.writeCheck_eq {u : State} {r : Requester} {key : Nat} {e : Entry} {data : List Byte} (h : DeviceRow key e)
    (hmay : u.MayAct r key) (hwear : u.wornOut e key data = false) (hcheck : e.check data = none) :
    u.writeCheck r (key / 256) (key % 256) data = .ok (e, none) :=
  State.writeCheck_ok h.row hmay.2 h.writable (by rwa [keyOf_div_mod]) hcheck (h.unruled u r _)

/-- A command that writes one entry, of a requester that exists. -/
theorem live_act {s : State} {t : Time} {r : Requester} (key : Nat) (data : List Byte) (hruns : s.runs t)
    (hr : r.place < 256) : inRange "requester" r.place 256 (live t s fun s => s.act r key data) =
      .next ((s.now t).freeWrite r (key / 256) (key % 256) data 0) := by
  rw [inRange_of hr, live_runs hruns]
  rfl

/-! ### Writes of an RWP entry (R56) -/

/-- HEARTBEAT_TIME (Table 2-2). -/
def heartbeatEntry : Entry := ⟨0x1017, 1, 0, 1, .u16, .rwp, 0x64, .imm, .any, false⟩

/-- REC_SOURCE of REC_INPUT (R273). -/
def recSourceEntry : Entry := ⟨0x2110, 1, 1, 1, .u8, .rwp, 0, .imm, .codes [0, 1], false⟩

theorem deviceRow_heartbeat : DeviceRow K.HEARTBEAT_TIME heartbeatEntry := ⟨rfl, by decide, rfl, fun _ _ _ => rfl⟩

theorem deviceRow_recSource : DeviceRow K.REC_INPUT_REC_SOURCE recSourceEntry := ⟨rfl, by decide, rfl, fun _ _ _ => rfl⟩

/-- A command that writes a new value into an RWP entry of the device starts its slot write. -/
theorem live_act_rwp_starts {s : State} {t : Time} {r : Requester} {key : Nat} {data : List Byte} {e : Entry}
    (hruns : s.runs t) (hP : (s.now t).Prompt) (hshutdown : (s.now t).power.shutdown = false)
    (hmay : (s.now t).MayAct r key) (hrow : DeviceRow key e) (hacc : e.acc = .rwp) (hsize : e.ty.size = some data.length)
    (hcheck : e.check data = none) (hnew : leNat data ≠ (s.now t).pv key)
    (hwear : ((s.now t).nvmRecord key).wear < 800000) :
    ∃ s' j, inRange "requester" r.place 256 (live t s fun s => s.act r key data) = .next s' ∧
      s'.nvm.current = some (j, (s.now t).time) ∧ j.key = key ∧ j.value = w64 (leNat data) := by
  have hfresh : (s.now t).wornOut e key data = false := by simp [State.wornOut, not_le.mpr hwear]
  obtain ⟨hcurrent, -⟩ := State.freeWrite_rwp_starts hP hmay.1 (Nat.mod_lt key (by decide))
    (hrow.writeCheck_eq hmay hfresh hcheck) hacc hsize hshutdown (by rwa [keyOf_div_mod]) (by rwa [keyOf_div_mod])
  exact ⟨_, _, live_act key data hruns hmay.1.1, hcurrent, keyOf_div_mod key, rfl⟩

theorem exec_rwpWrite {s : State} {t : Time} {r : Requester} {idx sub : Nat} (data : List Byte) (hruns : s.runs t)
    (hr : r.place < 256) (hidx : idx < 65536) (hsub : sub < 256) :
    exec (.rwpWrite t r idx sub data) s = .next ((s.now t).freeWrite r idx sub data 0) := by
  show execRwpWrite t r idx sub data s = _
  rw [execRwpWrite, inRange_of hr, inRange_of hidx, inRange_of hsub, live_runs hruns]

/-- Settles O11: a write of an RWP entry passes its request queue and leaves one slot write waiting, which starts unless its value
stands already. -/
theorem rwpWritesGoToNvm : Obligations.RwpWritesGoToNvm := by
  unfold Obligations.RwpWritesGoToNvm
  refine ⟨?_, ?_⟩
  · intro s t r idx sub data e hruns u key hP hr hidx hsub hc hacc hsize hshutdown
    have hexec := exec_rwpWrite data hruns hr.1 hidx hsub
    exact ⟨fun hnew hwear => ⟨_, hexec, State.freeWrite_rwp_starts hP hr hsub hc hacc hsize hshutdown hnew hwear⟩,
      fun hsame => ⟨_, hexec, State.freeWrite_rwp_same hP hr hsub hc hacc hsize hshutdown hsame⟩⟩
  · intro s t r hruns u hP hshutdown
    refine ⟨?_, ?_⟩
    · intro ms hms hmay hnew hwear
      have hval : leNat (leBytes 2 ms) = ms := leNat_leBytes hms
      have hstart := live_act_rwp_starts (data := leBytes 2 ms) hruns hP hshutdown hmay deviceRow_heartbeat rfl rfl
        (Entry.check_any rfl (by decide) rfl) (by rwa [hval]) hwear
      rwa [hval] at hstart
    · intro src hsrc hmay hnew hwear
      have hval : leNat [byteOf src] = src := leNat_leBytes (n := 1) (by omega)
      have hcheck : recSourceEntry.check [byteOf src] = none := by
        interval_cases src <;> rfl
      have hstart := live_act_rwp_starts (data := [byteOf src]) hruns hP hshutdown hmay deviceRow_recSource rfl rfl hcheck
        (by rwa [hval]) hwear
      rwa [hval] at hstart

/-! ### Actions of WO entries -/

/-- The row of a WO entry of the device that has no limits of its own. -/
def actionEntry (key : Nat) (ty : Ty) : Entry := ⟨key / 256, 1, key % 256, 1, ty, .wo, 0, .imm, .any, false⟩

/-- A write of such an entry by a requester with the right to it is served as it comes, with the action's effect. -/
theorem DeviceRow.action_served {u : State} {r : Requester} {key : Nat} {ty : Ty} {data : List Byte} {env : Env}
    {g : State → State} (hrow : DeviceRow key (actionEntry key ty)) (hP : u.Prompt) (hmay : u.MayAct r key)
    (hsize : ty.size = some data.length) (hty : ty ≠ .bool)
    (hg : ∀ (a : Access) (n : Nat), State.devAction { u with access := a, free := n } r (key / 256) (key % 256) (leNat data) data
      env = (none, g { u with access := a, free := n })) :
    ServedAs u (.next (u.draws.requestWrite r (key / 256) (key % 256) data env)) g := by
  have hlut : u.lutBusy (keyOf (key / 256) (key % 256)) = false := by
    rw [keyOf_div_mod, State.lutBusy, isLutData, hrow.device, Bool.false_and, Bool.false_and]
  have hc := hrow.writeCheck_eq (data := data) hmay rfl (Entry.check_any hsize hty rfl)
  have heffect : ∀ v : State, v.writeEffect r (actionEntry key ty) (key / 256) (key % 256) data env =
      v.devAction r (key / 256) (key % 256) (leNat data) data env := by
    intro v
    simp only [State.writeEffect, actionEntry, hrow.device, Bool.false_eq_true, if_false]
  refine (State.write_served u r _ _ data env _ _ hP hmay.1 hrow.row (by simp [actionEntry]) hsize hc hlut heffect).congr ?_
  intro a n
  simp only [hg a n]

/-- A command that is a write of such an entry is served as it comes. -/
theorem live_action_served {s : State} {t : Time} {r : Requester} {key : Nat} {ty : Ty} {data : List Byte}
    {g : State → State} (hruns : s.runs t) (hrow : DeviceRow key (actionEntry key ty)) (hP : (s.now t).Prompt)
    (hmay : (s.now t).MayAct r key) (hsize : ty.size = some data.length) (hty : ty ≠ .bool)
    (hg : ∀ (a : Access) (n : Nat), State.devAction { s.now t with access := a, free := n } r (key / 256) (key % 256)
      (leNat data) data ((s.now t).freeEnv 0) = (none, g { s.now t with access := a, free := n })) :
    ServedAs (s.now t) (inRange "requester" r.place 256 (live t s fun s => s.act r key data)) g := by
  rw [live_act key data hruns hmay.1.1]
  exact hrow.action_served hP hmay hsize hty hg

theorem deviceRow_lastAccessErrorClear : DeviceRow K.LAST_ACCESS_ERROR_CLEAR (actionEntry K.LAST_ACCESS_ERROR_CLEAR .u8) :=
  ⟨rfl, by decide, rfl, fun _ _ _ => rfl⟩

theorem deviceRow_restoreDefaults : DeviceRow K.RESTORE_DEFAULTS (actionEntry K.RESTORE_DEFAULTS .u32) :=
  ⟨rfl, by decide, rfl, fun _ _ _ => rfl⟩

theorem deviceRow_snapshotTrigger : DeviceRow K.SNAPSHOT_TRIGGER (actionEntry K.SNAPSHOT_TRIGGER .u8) :=
  ⟨rfl, by decide, rfl, fun _ _ _ => rfl⟩

theorem deviceRow_faultLogClear : DeviceRow K.FAULT_LOG_CLEAR (actionEntry K.FAULT_LOG_CLEAR .u8) :=
  ⟨rfl, by decide, rfl, fun _ _ _ => rfl⟩

theorem deviceRow_dramErrLogClear : DeviceRow K.DRAM_ERR_LOG_CLEAR (actionEntry K.DRAM_ERR_LOG_CLEAR .u8) :=
  ⟨rfl, by decide, rfl, fun _ _ _ => rfl⟩

theorem deviceRow_faultAck : DeviceRow K.FAULT_STATUS_ACK (actionEntry K.FAULT_STATUS_ACK .u16) :=
  ⟨rfl, by decide, rfl, fun _ _ _ => rfl⟩

theorem deviceRow_moraineCommand : DeviceRow K.MORAINE_COMMAND (actionEntry K.MORAINE_COMMAND .u8) :=
  ⟨rfl, by decide, rfl, fun _ _ _ => rfl⟩

theorem deviceRow_warmReset : DeviceRow K.BOOT_STATUS_WARM_RESET (actionEntry K.BOOT_STATUS_WARM_RESET .u32) :=
  ⟨rfl, by decide, rfl, fun _ _ _ => rfl⟩

/-- A source number of Table 15-3 written to ACK is acknowledged (R352). -/
theorem State.devAction_faultAck (v : State) (r : Requester) {src : Nat} (data : List Byte) (env : Env) (h : src ≤ 509) :
    v.devAction r (K.FAULT_STATUS_ACK / 256) (K.FAULT_STATUS_ACK % 256) src data env = (none, v.ackFault src) :=
  if_neg (not_lt.mpr h)

/-- DUMP_NOW begins a dump where one may be written (R362). -/
theorem State.devAction_dumpNow (v : State) (r : Requester) (data : List Byte) (env : Env) (h : v.mayDump = true) :
    v.devAction r (K.MORAINE_COMMAND / 256) (K.MORAINE_COMMAND % 256) 1 data env =
      (none, { v with moraine := { v.moraine with dumping := true, state := 1 } }) := by
  have hdump : v.dumpNow = .ok { v with moraine := { v.moraine with dumping := true, state := 1 } } := by
    simp only [State.dumpNow, h, Bool.not_true, Bool.false_eq_true, if_false]
  exact congrArg v.outcome hdump

/-- WARM_RESET writes the boot facts it finds beside its value (R36). -/
theorem exec_warmReset_served {s : State} {t : Time} {r : Requester} (b : BootFacts) (hruns : s.runs t)
    (hP : (s.now t).Prompt) (hmay : (s.now t).MayAct r K.BOOT_STATUS_WARM_RESET) :
    ServedAs (s.now t) (exec (.warmReset t r (leBytes 4 0x74736572) b) s) (fun v => v.warmReset 4 b) := by
  show ServedAs (s.now t) (execWarmReset t r (leBytes 4 0x74736572) b s) _
  rw [execWarmReset, inRange_of hmay.1.1, live_runs hruns]
  exact deviceRow_warmReset.action_served hP hmay rfl (by decide) fun _ _ => rfl

/-- Settles O13: each command is a write of one WO entry, which is served as it comes with that entry's action. -/
theorem deviceActionsTakeEffect : Obligations.DeviceActionsTakeEffect := by
  unfold Obligations.DeviceActionsTakeEffect
  intro s t r hruns u hP
  refine ⟨?_, ?_, ?_, ?_, ?_, ?_, ?_, ?_, ?_⟩
  · intro b hmay
    exact live_action_served hruns deviceRow_lastAccessErrorClear hP hmay rfl (by decide) fun _ _ => rfl
  · intro hmay
    exact live_action_served hruns deviceRow_restoreDefaults hP hmay rfl (by decide) fun _ _ => rfl
  · intro b hmay
    exact live_action_served hruns deviceRow_snapshotTrigger hP hmay rfl (by decide) fun _ _ => rfl
  · intro hmay
    exact live_action_served hruns deviceRow_faultLogClear (data := leBytes 1 1) hP hmay rfl (by decide) fun _ _ => rfl
  · intro hmay
    exact live_action_served hruns deviceRow_dramErrLogClear (data := leBytes 1 1) hP hmay rfl (by decide) fun _ _ => rfl
  · intro src hsrc hmay
    refine live_action_served hruns deviceRow_faultAck hP hmay rfl (by decide) fun _ _ => ?_
    rw [leNat_leBytes (by omega : src < 256 ^ 2)]
    exact State.devAction_faultAck _ r _ _ hsrc
  · intro hmay
    exact live_action_served hruns deviceRow_moraineCommand (data := leBytes 1 2) hP hmay rfl (by decide) fun _ _ => rfl
  · intro hmay hdump
    exact live_action_served hruns deviceRow_moraineCommand (data := leBytes 1 1) hP hmay rfl (by decide)
      fun _ _ => State.devAction_dumpNow _ r _ _ hdump
  · intro b hmay
    exact exec_warmReset_served b hruns hP hmay

end Sys2Proof.Machine
end

section
/-! SUPPORT. Accesses of BAR0: refused accesses, and the reads and writes of a slot's halves (R64 to R66, R72 to R75). -/

namespace Sys2Proof.Machine

/-! ### The records of requesters -/

/-- The last value put under a number is the one that stands. -/
theorem Store.put_put {α : Type} (m : Store α) (k : Nat) (v w : α) : Store.put (Store.put m k v) k w = Store.put m k w := by
  induction m with
  | nil => simp [Store.put]
  | cons e r ih =>
    obtain ⟨j, x⟩ := e
    by_cases hlt : k < j
    · simp [Store.put, hlt]
    · by_cases heq : j = k
      · simp [Store.put, heq]
      · simp [Store.put, hlt, heq, ih]

/-- Two changes of one requester's record are one. -/
theorem State.modReq_modReq (s : State) (r : Requester) (f g : ReqState → ReqState) :
    (s.modReq r f).modReq r g = s.modReq r (fun q => g (f q)) := by
  have hput := Store.put_put s.reqs r.key (f (s.req r)) (g (f (s.req r)))
  rw [State.modReq, State.req_modReq]
  exact congrArg s.withReqs hput

/-- A change of one requester's record leaves the others'. -/
theorem State.req_modReq_other (s : State) {r r' : Requester} (f : ReqState → ReqState) (h : r'.key ≠ r.key) :
    (s.modReq r f).req r' = s.req r' := Store.get_put_other _ _ _ _ _ h

/-- The state in which a command finds the device keeps a change of a requester's record. -/
theorem State.now_modReq (s : State) (t : Time) (r : Requester) (f : ReqState → ReqState) :
    (s.modReq r f).now t = (s.now t).modReq r f := by
  unfold State.now State.awake
  by_cases h : s.power.ladder = 1
  · rw [if_pos (show (s.at t).power.ladder = 1 from h), if_pos (show ((s.modReq r f).at t).power.ladder = 1 from h)]
    rfl
  · rw [if_neg (show ¬ (s.at t).power.ladder = 1 from h), if_neg (show ¬ ((s.modReq r f).at t).power.ladder = 1 from h)]
    rfl

/-- A device in service is in service in the state in which a command finds it. -/
theorem State.runs_now {s : State} {t : Time} (h : s.runs t) : (s.now t).runs t := by
  unfold State.now State.awake
  split
  next =>
    simp only [State.runs, State.up, State.at_pins, State.at_power, State.at_boot, Bool.and_eq_true] at h ⊢
    exact ⟨h.1, rfl⟩
  next => exact h

/-! ### Refused accesses (R64 to R66) -/

/-- A read that its checks refuse leaves the state as it is. -/
theorem State.readEntry_refused {s : State} {r : Requester} {idx sub : Nat} {a : Abort} (h : s.readCheck r idx sub = .error a) :
    s.readEntry r idx sub = (.error a, s) := by
  simp only [State.readEntry, h]

/-- The read of a slot's low word that its checks refuse answers zero and is recorded. -/
theorem State.lowRead_refused {s : State} {f idx sub : Nat} {a : Abort}
    (h : s.readCheck (.func f) idx sub = .error a) : s.lowRead f idx sub = s.bar0Refuse f a idx sub := by
  cases hl : lookup idx sub with
  | error b =>
    simp only [State.readCheck, hl, Except.error.injEq] at h
    simp only [State.lowRead, hl, h]
  | ok e =>
    simp only [State.lowRead, hl, State.slotPeek, State.slotRead, State.readEntry_refused h, ite_self]

/-- The read of its high word likewise. -/
theorem State.highRead_refused {s : State} {f idx sub : Nat} {a : Abort}
    (h : s.readCheck (.func f) idx sub = .error a) : s.highRead f idx sub = s.bar0Refuse f a idx sub := by
  cases hl : lookup idx sub with
  | error b =>
    simp only [State.readCheck, hl, Except.error.injEq] at h
    simp only [State.highRead, hl, h]
  | ok e => simp only [State.highRead, hl, h]

/-- Whether the entry refuses a write does not depend on the bytes written. -/
theorem State.writeCheck_error {u : State} {r : Requester} {idx sub : Nat} {data : List Byte} {a : Abort}
    (h : u.writeCheck r idx sub data = .error a) (d : List Byte) : u.writeCheck r idx sub d = .error a := by
  unfold State.writeCheck at h ⊢
  cases hl : lookup idx sub with
  | error b => simpa only [hl] using h
  | ok e =>
    simp only [hl] at h ⊢
    split at h
    next hright => rwa [if_pos hright]
    next hright =>
      rw [if_neg hright]
      split at h
      next hro => rwa [if_pos hro]
      next => cases h

/-- A write of a whole entry over BAR0 that passes through no queue is carried out at once. -/
theorem State.requestWrite_direct {u : State} {f idx sub : Nat} {data : List Byte} {e : Entry} (env : Env)
    (hreach : u.funcReaches f = true) (hl : lookup idx sub = .ok e) (hsize : e.ty.size = some data.length)
    (hqueued : u.queued e (keyOf idx sub) = false) {a : Option Abort} {v : State}
    (hw : u.writeFor (.func f) idx sub data env = .done a v) : u.requestWrite (.func f) idx sub data env = v := by
  have hdata : bar0Data data.length data = data := by unfold bar0Data; split <;> simp
  simp only [State.requestWrite, hreach, hl, hsize, hdata, hqueued, hw, Bool.not_true, Bool.false_eq_true, if_false]

/-- A write of an RW entry passes through no queue while no LUT's copy holds it up. -/
theorem State.queued_rw {u : State} {e : Entry} {key : Nat} (hacc : e.acc = .rw) (hlut : u.lutBusy key = false) :
    u.queued e key = false := by
  simp [State.queued, hacc, hlut]

/-- A write refused for its value or for the entry's state, and for nothing before, is only recorded. -/
theorem State.writeFor_refused {u : State} {r : Requester} {idx sub : Nat} {data : List Byte} {e : Entry} {a : Abort}
    (env : Env) (hc : u.writeCheck r idx sub data = .ok (e, some a)) (hb : u.writeBlocked (keyOf idx sub) (leNat data) = none) :
    u.writeFor r idx sub data env = .done (some a) (u.accessError r a idx sub) := by
  simp only [State.writeFor, State.writeEntry, hc, hb, firstAbort, Option.isSome_some, true_or, if_true]

/-- A device that no fault stops and that its array has not fenced turns no write away whatever its value. -/
theorem State.writeBlocked_none {u : State} (hfatal : u.fatal = false) (hfence : u.array.state ≠ 4) (key v : Nat) :
    u.writeBlocked key v = none := by
  simp [State.writeBlocked, hfatal, hfence]

section
variable {s : State} {t : Time} {f idx sub : Nat} (hruns : s.runs t) (hf : f < 256) (hidx : idx < 65536) (hsub : sub < 256)
  (hreach : (s.now t).funcReaches f = true)
include hruns hf hidx hsub hreach

/-- A read of a slot by a function that exists, while no LUT's copy holds it up. -/
theorem live_bar0Read (part : Part) (hlut : (s.now t).lutBusy (keyOf idx sub) = false) :
    (inRange "F" f 256 <| inRange "index" idx 65536 <| inRange "sub" sub 256 <|
      live t s fun s => s.bar0Read f idx sub part) = .next ((s.now t).partRead f idx sub part) := by
  rw [inRange_of hf, inRange_of hidx, inRange_of hsub, live_runs hruns]
  simp only [State.bar0Read, hreach, hlut, Bool.not_true, Bool.false_eq_true, if_false]

theorem exec_bar0LowWordRead (hlut : (s.now t).lutBusy (keyOf idx sub) = false) :
    exec (.bar0LowWordRead t f idx sub) s = .next ((s.now t).lowRead f idx sub) :=
  live_bar0Read hruns hf hidx hsub hreach .low hlut

theorem exec_bar0HighWordRead (hlut : (s.now t).lutBusy (keyOf idx sub) = false) :
    exec (.bar0HighWordRead t f idx sub) s = .next ((s.now t).highRead f idx sub) :=
  live_bar0Read hruns hf hidx hsub hreach .high hlut

/-- A write refused for its value or for the entry's state is recorded, and draws the operands that no command names. -/
theorem exec_dictWrite_refused {data : List Byte} {e : Entry} {a : Abort} (hlut : (s.now t).lutBusy (keyOf idx sub) = false)
    (hfatal : (s.now t).fatal = false) (hfence : (s.now t).array.state ≠ 4)
    (hc : (s.now t).writeCheck (.func f) idx sub data = .ok (e, some a)) (hsize : e.ty.size = some data.length)
    (hacc : e.acc = .rw) :
    exec (.dictWrite t (.func f) idx sub ⟨0, data⟩) s = .next ((s.now t).draws.accessError (.func f) a idx sub) := by
  have hc' : (s.now t).draws.writeCheck (.func f) idx sub data = .ok (e, some a) := hc
  rw [exec_dictWrite_whole (r := .func f) data hruns hf hidx hsub]
  exact congrArg _ (State.requestWrite_direct (u := (s.now t).draws) _ hreach (State.lookup_of_writeCheck hc) hsize
    (State.queued_rw hacc hlut) (State.writeFor_refused _ hc' (State.writeBlocked_none hfatal hfence _ _)))

end

/-- Settles O10: a refused read never reaches its entry, and a refused write ends in the requester's record. -/
theorem refusedAccessesAreRecorded : Obligations.RefusedAccessesAreRecorded := by
  unfold Obligations.RefusedAccessesAreRecorded
  intro s t f idx sub a hruns u r hf hreach hidx hsub hlut
  refine ⟨?_, ?_, ?_, State.req_modReq _ _ _, fun r' h => State.req_modReq_other _ _ h, rfl⟩
  · intro hc
    rw [exec_bar0LowWordRead hruns hf hidx hsub hreach hlut, exec_bar0HighWordRead hruns hf hidx hsub hreach hlut,
      State.lowRead_refused hc, State.highRead_refused hc]
    exact ⟨rfl, rfl⟩
  · intro data hP hc
    rw [exec_dictWrite_whole (r := .func f) data hruns hf hidx hsub]
    exact State.refused_served u f idx sub data _ a hP ⟨hf, hreach⟩ hlut (State.writeCheck_error hc)
  · intro data e hfatal hfence hc hsize hacc
    exact ⟨_, exec_dictWrite_refused hruns hf hidx hsub hreach hlut hfatal hfence hc hsize hacc⟩

/-! ### Half reads (R72, R73) -/

/-- The low word of a 64-bit slot is answered, and the high word is kept in the shadow. -/
theorem State.lowRead_wide {u : State} {f idx sub v : Nat} {e : Entry} (hl : lookup idx sub = .ok e)
    (hwide : wideSlot e = true) (hpeek : u.slotPeek (.func f) e idx sub = .ok v) :
    u.lowRead f idx sub =
      (u.modReq (.func f) (fun q => { q with shadow := some (keyOf idx sub, w32 (v / 2 ^ 32)) })).bar0Answer f (v % 2 ^ 32) := by
  simp only [State.lowRead, hl, hwide, hpeek, if_true]

/-- Settles O19. -/
theorem lowWordReadKeepsTheHighWord : Obligations.LowWordReadKeepsTheHighWord := by
  unfold Obligations.LowWordReadKeepsTheHighWord
  intro s t f idx sub e v hf hidx hsub hruns u r hreach hl hwide hlut hpeek
  rw [exec_bar0LowWordRead hruns hf hidx hsub hreach hlut, State.lowRead_wide hl hwide hpeek]
  rfl

/-- The read of a value moves nothing of a requester's shadow. -/
theorem State.shadow_readValue (s : State) (r : Requester) (e : Entry) (idx sub : Nat) :
    ((s.readValue r e idx sub).2.req r).shadow = (s.req r).shadow := by
  unfold State.readValue
  dsimp only
  split
  next =>
    unfold State.counterValue
    split
    · rfl
    · dsimp only
      split <;> rfl
  next =>
    split
    next => rw [State.req_modReq]
    next =>
      split
      next => rw [State.lutRead, State.req_modReq]
      next => rfl

theorem State.shadow_readEntry (s : State) (r : Requester) (idx sub : Nat) :
    ((s.readEntry r idx sub).2.req r).shadow = (s.req r).shadow := by
  unfold State.readEntry
  split
  next => rfl
  next e _ =>
    split
    next => rfl
    next =>
      split
      next => rfl
      next =>
        split
        next => rfl
        next => exact s.shadow_readValue r e idx sub

theorem State.shadow_slotRead (s : State) (r : Requester) (e : Entry) (idx sub : Nat) :
    ((s.slotRead r e idx sub).2.req r).shadow = (s.req r).shadow := by
  have hread := s.shadow_readEntry r idx sub
  unfold State.slotRead
  split
  next hx => rwa [hx] at hread
  next => exact hread

/-- The high word of the slot that the shadow is tagged with is the shadow. -/
theorem State.highRead_tagged {u : State} {f idx sub : Nat} {e : Entry} {w : W32} (hl : lookup idx sub = .ok e)
    (hwide : wideSlot e = true) (hc : u.readCheck (.func f) idx sub = .ok e)
    (htag : (u.req (.func f)).shadow = some (keyOf idx sub, w)) :
    u.highRead f idx sub = (u.slotRead (.func f) e idx sub).2.bar0Answer f w.toNat := by
  simp only [State.highRead, hl, hc, hwide, htag, Bool.not_true, Bool.false_eq_true, if_false, if_true]

/-- The high word of any other slot is the live one. -/
theorem State.highRead_untagged {u : State} {f idx sub : Nat} {e : Entry} {bs : List Byte} (hl : lookup idx sub = .ok e)
    (hwide : wideSlot e = true) (hc : u.readCheck (.func f) idx sub = .ok e)
    (htag : ∀ w, (u.req (.func f)).shadow ≠ some (keyOf idx sub, w)) (hread : (u.slotRead (.func f) e idx sub).1 = .ok bs) :
    u.highRead f idx sub = (u.slotRead (.func f) e idx sub).2.bar0Answer f (leNat bs / 2 ^ 32) := by
  simp only [State.highRead, hl, hc, hwide, hread, Bool.not_true, Bool.false_eq_true, if_false]
  split
  next k w hshadow =>
    have hk : k ≠ keyOf idx sub := by
      rintro rfl
      exact htag w hshadow
    rw [if_neg hk]
  next => rfl

/-- Settles O20: the shadow answers for the slot of its tag, and no read moves it but that of a low word. -/
theorem highWordReadReturnsTheShadow : Obligations.HighWordReadReturnsTheShadow := by
  unfold Obligations.HighWordReadReturnsTheShadow
  intro s t f idx sub e hf hidx hsub hruns u r hreach hl hwide hlut hc
  rw [exec_bar0HighWordRead hruns hf hidx hsub hreach hlut]
  refine ⟨fun w htag => ⟨?_, ?_⟩, fun htag bs hread => ?_⟩
  · exact congrArg _ (State.highRead_tagged hl hwide hc htag)
  · exact (u.shadow_slotRead r e idx sub).trans htag
  · exact congrArg _ (State.highRead_untagged hl hwide hc htag hread)

/-! ### Half writes (R74, R75) -/

theorem leNat_append (a b : List Byte) : leNat (a ++ b) = leNat a + 256 ^ a.length * leNat b := by
  induction a with
  | nil => simp [leNat]
  | cons x r ih => simp only [List.cons_append, leNat, ih, List.length_cons, pow_succ]; ring

/-- Two words written as one value (R31). -/
theorem leNat_words (low high : W32) : leNat (leBytes 4 low.toNat ++ leBytes 4 high.toNat) = low.toNat + 2 ^ 32 * high.toNat := by
  rw [leNat_append, length_leBytes, leNat_leBytes low.isLt, leNat_leBytes high.isLt]
  norm_num

/-- The state with a function's write stage set. -/
def State.withStage (u : State) (f : Nat) (x : Option (Nat × W32)) : State :=
  u.modReq (.func f) (fun q => { q with stage := x })

theorem State.dropStage_same {u : State} {f key : Nat}
    (h : ∀ k w, (u.req (.func f)).stage = some (k, w) → k = key) : u.dropStage f key = u := by
  unfold State.dropStage
  dsimp only
  split
  next k w hstage => rw [if_pos (h k w hstage)]
  next => rfl

/-- A low word of another slot discards the staged one, which is recorded (R75). -/
theorem State.dropStage_other {u : State} {f key k : Nat} {w : W32} (hstage : (u.req (.func f)).stage = some (k, w))
    (hk : k ≠ key) : u.dropStage f key = (u.withStage f none).accessError (.func f) A.store (k / 256) (k % 256) := by
  simp only [State.dropStage, hstage, if_neg hk]
  rfl

/-- What is staged after a discarded word is recorded as though the stage had not been emptied in between. -/
theorem State.withStage_accessError (u : State) (f : Nat) (x : Option (Nat × W32)) (a : Abort) (idx sub : Nat) :
    ((u.withStage f none).accessError (.func f) a idx sub).withStage f x =
      (u.accessError (.func f) a idx sub).withStage f x := by
  simp only [State.withStage, State.accessError, State.modReq_modReq]
  rfl

section
variable {s : State} {t : Time} {f idx sub : Nat} {e : Entry} (word : W32) (hruns : s.runs t) (hf : f < 256)
  (hidx : idx < 65536) (hsub : sub < 256) (hreach : (s.now t).funcReaches f = true) (hl : lookup idx sub = .ok e)
  (hsize : e.ty.size = some 8)
include hruns hf hidx hsub hreach hl hsize

/-- A low word of a 64-bit slot is staged. -/
theorem exec_bar0LowWordWrite_wide : exec (.bar0LowWordWrite t f idx sub word) s =
    .next (((s.now t).dropStage f (keyOf idx sub)).withStage f (some (keyOf idx sub, word))) := by
  show execBar0LowWordWrite t f idx sub word s = _
  rw [execBar0LowWordWrite, inRange_of hf, inRange_of hidx, inRange_of hsub, live_runs hruns]
  simp only [hreach, hl, hsize, Bool.not_true, Bool.false_eq_true, if_false, if_true]
  rfl

/-- The high word of the slot whose low word is staged commits both, and the stage is empty. -/
theorem exec_bar0HighWordWrite_staged {low : W32}
    (hstage : ((s.now t).req (.func f)).stage = some (keyOf idx sub, low)) :
    exec (.bar0HighWordWrite t f idx sub word) s = .next (((s.now t).withStage f none).freeWrite (.func f) idx sub
      (leBytes 4 low.toNat ++ leBytes 4 word.toNat) 0) := by
  show execBar0HighWordWrite t f idx sub word s = _
  rw [execBar0HighWordWrite, inRange_of hf, inRange_of hidx, inRange_of hsub, live_runs hruns]
  simp only [hreach, hl, hsize, hstage, Bool.not_true, Bool.false_eq_true, reduceCtorEq, ne_eq, not_true_eq_false, if_false,
    if_true]
  rfl

/-- With no low word staged for the slot, the pending one is written with it. -/
theorem exec_bar0HighWordWrite_pending {v : Nat} (hstage : ∀ w, ((s.now t).req (.func f)).stage ≠ some (keyOf idx sub, w))
    (hpeek : (s.now t).slotPeek (.func f) e idx sub = .ok v) :
    exec (.bar0HighWordWrite t f idx sub word) s = .next ((s.now t).freeWrite (.func f) idx sub
      (leBytes 4 (v % 2 ^ 32) ++ leBytes 4 word.toNat) 0) := by
  show execBar0HighWordWrite t f idx sub word s = _
  rw [execBar0HighWordWrite, inRange_of hf, inRange_of hidx, inRange_of hsub, live_runs hruns]
  simp only [hreach, hl, hsize, hpeek, Bool.not_true, Bool.false_eq_true, reduceCtorEq, ne_eq, not_true_eq_false, if_false]
  rcases hx : ((s.now t).req (.func f)).stage with _ | ⟨k, w⟩
  · rfl
  · have hk : k ≠ keyOf idx sub := by
      rintro rfl
      exact hstage w hx
    simp only [if_neg hk]

end

/-- Settles O21: a half write changes the stage alone, or is the 8-byte write of both halves. -/
theorem halfWritesCommitTogether : Obligations.HalfWritesCommitTogether := by
  unfold Obligations.HalfWritesCommitTogether
  intro s t f idx sub e word hf hidx hsub hruns u r key hreach hl hsize
  have hemptyRuns : (u.withStage f none).runs t := State.runs_now hruns
  have hemptyNow : (u.withStage f none).now t = u.withStage f none := by
    rw [State.withStage, State.now_modReq, State.now_now]
  have hlow := exec_bar0LowWordWrite_wide word hruns hf hidx hsub hreach hl hsize
  have hhigh := fun low => exec_bar0HighWordWrite_staged (low := low) word hruns hf hidx hsub hreach hl hsize
  have hcommit : ∀ low, (u.req r).stage = some (key, low) → exec (.bar0HighWordWrite t f idx sub word) s =
      exec (.dictWrite t r idx sub ⟨0, leBytes 4 low.toNat ++ leBytes 4 word.toNat⟩) (u.withStage f none) := by
    intro low hstage
    rw [hhigh low hstage, exec_dictWrite_whole (r := .func f) _ hemptyRuns hf hidx hsub, hemptyNow]
    rfl
  refine ⟨?_, ?_, ?_, ?_, ?_⟩
  · intro hstage
    rw [hlow, State.dropStage_same hstage]
    rfl
  · intro k w hstage hk
    rw [hlow, State.dropStage_other hstage hk, State.withStage_accessError]
    rfl
  · intro low hstage v data
    refine ⟨hcommit low hstage, ?_, leNat_words low word, congrArg ReqState.stage (State.req_modReq u r _)⟩
    have hrwp := exec_rwpWrite (r := .func f) data hemptyRuns hf hidx hsub
    rw [hemptyNow] at hrwp
    exact (hhigh low hstage).trans hrwp.symm
  · intro v hstage hpeek
    rw [exec_bar0HighWordWrite_pending word hruns hf hidx hsub hreach hl hsize hstage hpeek,
      exec_dictWrite_whole (r := .func f) _ (State.runs_now hruns) hf hidx hsub, State.now_now]
    rfl
  · intro low hstage v data hP hc hacc hplain hap hacts
    have hdata : e.ty.size = some data.length := by
      rw [hsize, List.length_append, length_leBytes, length_leBytes]
    have hserved := exec_dictWrite_plain (r := .func f) hemptyRuns (by rwa [hemptyNow]) (by rw [hemptyNow]; exact ⟨hf, hreach⟩) hidx hsub
      (by rwa [hemptyNow]) hacc hdata hplain
    rw [hemptyNow, ← hcommit low hstage] at hserved
    exact hserved.congr fun a n => State.acceptPlain_imm _ _ hap hacts

end Sys2Proof.Machine
end

section
/-! SUPPORT. Snapshots of the counters (R76 to R78). -/

namespace Sys2Proof.Machine

/-! ### What a snapshot holds (R76) -/

/-- Entries put into a table leave every other one as it was. -/
theorem Store.get_foldl_put_other {α : Type} (g : Nat → α) (d : α) {ks : List Nat} {i : Nat} (h : i ∉ ks) (m : Store α) :
    Store.get (ks.foldl (fun m k => Store.put m k (g k)) m) d i = Store.get m d i := by
  induction ks generalizing m with
  | nil => rfl
  | cons k ks ih =>
    obtain ⟨hne, hrest⟩ := not_or.mp (List.mem_cons.not.mp h)
    rw [List.foldl_cons, ih hrest, Store.get_put_other m d k i _ hne]

/-- A counter that a rule gives is held as it stands. -/
theorem State.held_snapshot (s : State) {key : Nat} (h : key ∉ trafficKeys) :
    Store.get s.snapshot.dict.held 0 key = Store.get s.dict.live 0 key :=
  Store.get_foldl_put_other (fun k => w64 (Config.dramTraffic k s.free)) 0 h s.dict.live

/-- An RO entry whose default is 0 reads as the 64 bits of what was stored. -/
theorem State.ro_setRo_mod (s : State) {k : Nat} (v : Nat) (h : s.dflt k = 0) : (s.setRo k v).ro k = v % 2 ^ 64 := by
  have hd : (s.setRo k v).dflt k = s.dflt k := rfl
  rw [State.ro, hd, h]
  by_cases hv : v = 0
  · simp [State.setRo, putDflt, h, hv]
  · simp [State.setRo, putDflt, h, hv, w64]

theorem State.ro_snapTime_snapshot (s : State) : s.snapshot.ro K.SNAPSHOT_SNAP_TIME = s.time % 2 ^ 64 :=
  State.ro_setRo_mod _ _ rfl

/-! ### SNAP_AT (R78) -/

/-- SNAP_AT (Table 3-4). -/
def snapAtEntry : Entry := ⟨0x3000, 1, 4, 1, .time, .rw, 0, .imm, .any, false⟩

theorem deviceRow_snapAt : DeviceRow K.SNAPSHOT_SNAP_AT snapAtEntry := ⟨rfl, by decide, rfl, fun _ _ _ => rfl⟩

/-- The state with SNAP_AT written, and the snapshot fired where the instant has been reached. -/
def State.snapAtSet (s : State) (at_ : Nat) : State :=
  let v := s.setImm K.SNAPSHOT_SNAP_AT at_
  if v.snapDue then v.snapFire else v

/-- A SNAP_AT that is an instant is due where it does not lie in the future. -/
theorem State.snapDue_setImm (s : State) {at_ : Nat} (hset : 0 < at_) (hever : at_ < 2 ^ 64 - 1) :
    (s.setImm K.SNAPSHOT_SNAP_AT at_).snapDue = decide (at_ ≤ s.time) := by
  have hv : (s.setImm K.SNAPSHOT_SNAP_AT at_).v K.SNAPSHOT_SNAP_AT = at_ := State.v_setV _ _ _ (by omega)
  simp only [State.snapDue, hv, State.setImm_time]
  have hne : at_ ≠ 0 := by omega
  simp [hne]
  omega

/-- A write of SNAP_AT is served as it comes. -/
theorem exec_snapAtWrite_served {s : State} {t : Time} {r : Requester} {at_ : Nat} (hruns : s.runs t)
    (hP : (s.now t).Prompt) (hmay : (s.now t).MayAct r K.SNAPSHOT_SNAP_AT) (hat : at_ < 2 ^ 64) :
    ServedAs (s.now t) (exec (.snapAtWrite t r (leBytes 8 at_)) s) (fun v => v.snapAtSet at_) := by
  have hc := deviceRow_snapAt.writeCheck_eq (data := leBytes 8 at_) hmay rfl (Entry.check_any rfl (by decide) rfl)
  have hval : leNat (leBytes 8 at_) = at_ := leNat_leBytes hat
  have heffect : ∀ v : State, v.writeEffect r snapAtEntry (K.SNAPSHOT_SNAP_AT / 256) (K.SNAPSHOT_SNAP_AT % 256) (leBytes 8 at_)
      ((s.now t).freeEnv 0) = (none, v.snapAtSet at_) := by
    intro v
    show v.acceptRw r snapAtEntry (K.SNAPSHOT_SNAP_AT / 256) (K.SNAPSHOT_SNAP_AT % 256) (leNat (leBytes 8 at_)) = _
    rw [hval, v.acceptRw_plain r snapAtEntry at_ (by decide)]
    rfl
  show ServedAs (s.now t) (execSnapAtWrite t r (leBytes 8 at_) s) _
  rw [execSnapAtWrite, live_act K.SNAPSHOT_SNAP_AT (leBytes 8 at_) hruns hmay.1.1]
  exact (State.write_served (s.now t) r _ _ _ _ _ _ hP hmay.1 deviceRow_snapAt.row (by decide) rfl hc rfl heffect).congr
    fun a n => rfl

/-- Settles O14: SNAP_AT is judged as it is written, and the counters are copied but for those that no rule gives. -/
theorem snapshotsHoldCounters : Obligations.SnapshotsHoldCounters := by
  unfold Obligations.SnapshotsHoldCounters
  refine ⟨?_, fun s key hkey => ⟨s.held_snapshot hkey, s.ro_snapTime_snapshot⟩, ?_⟩
  · intro s t r at_ hruns u hP hmay hset hever
    have hserved := exec_snapAtWrite_served hruns hP hmay (by omega : at_ < 2 ^ 64)
    refine ⟨fun hfuture => hserved.congr fun a n => ?_, fun hpast => hserved.congr fun a n => ?_⟩
    · have hdue : ¬ at_ ≤ u.time := not_le.mpr hfuture
      simp only [State.snapAtSet, State.snapDue_setImm _ hset hever, decide_eq_true_eq]
      rw [if_neg hdue]
    · simp only [State.snapAtSet, State.snapDue_setImm _ hset hever, decide_eq_true_eq]
      rw [if_pos hpast]
      rfl
  · intro s t hruns hdue
    show execSnapshotScheduled t s = _
    rw [execSnapshotScheduled, live_runs hruns, if_pos hdue]
    rfl

end Sys2Proof.Machine
end

section
/-! SUPPORT. BAR2: the apertures' selection, the mailbox and the writable tables (R84 to R86). -/

namespace Sys2Proof.Machine

/-! ### Selecting an aperture (Table 3-8) -/

/-- The three APERTURE entries of BAR2_SELECT (Table 3-8). -/
def apertureEntry : Entry := ⟨0x2057, 1, 1, 3, .u32, .rw, 0, .imm, .aperture, false⟩

theorem lookup_aperture {sub : Nat} (h1 : 1 ≤ sub) (h3 : sub ≤ 3) : lookup 0x2057 sub = .ok apertureEntry := by
  interval_cases sub <;> rfl

theorem isSelector_aperture {sub : Nat} (h1 : 1 ≤ sub) (h3 : sub ≤ 3) : isSelector (keyOf 0x2057 sub) = true := by
  interval_cases sub <;> rfl

/-- No key of a device entry is one of a LUT's data. -/
theorem State.lutBusy_device (s : State) {idx sub : Nat} (hsub : sub < 256) (h : isChanIdx idx = false) :
    s.lutBusy (keyOf idx sub) = false := by
  rw [State.lutBusy, isLutData, keyOf_div hsub, h, Bool.false_and, Bool.false_and]

/-- A write of a selector keeps its value for the requester (R61). -/
theorem State.acceptRw_selector (s : State) (r : Requester) (e : Entry) {idx sub : Nat} (v : Nat)
    (h : isSelector (keyOf idx sub) = true) : s.acceptRw r e idx sub v = (none, s.setSel r (keyOf idx sub) v) := by
  simp only [State.acceptRw, h, if_true]

/-- The fence, which concerns no BAR2_SELECT, turns no aperture's write away. -/
theorem State.writeBlocked_aperture {u : State} (hfatal : u.fatal = false) {sub : Nat} (hsub : sub < 256) (v : Nat) :
    u.writeBlocked (keyOf 0x2057 sub) v = none := by
  have hfence : fencedEntry 0x2057 = false := rfl
  simp [State.writeBlocked, hfatal, keyOf_div hsub, hfence]

/-- An accepted write of a selector is its effect. -/
theorem State.writeFor_selector {u : State} {r : Requester} {idx sub : Nat} {data : List Byte} {e : Entry} (env : Env)
    (hc : u.writeCheck r idx sub data = .ok (e, none)) (hb : u.writeBlocked (keyOf idx sub) (leNat data) = none)
    (hacc : e.acc = .rw) (hsel : isSelector (keyOf idx sub) = true) :
    u.writeFor r idx sub data env = .done none (u.setSel r (keyOf idx sub) (leNat data)) := by
  simp only [State.writeFor, State.writeEntry, hc, hb, firstAbort, hacc, reduceCtorEq, if_false, State.writeEffect,
    State.acceptRw_selector _ _ _ _ hsel]

/-- An aperture's selection that its checks take is kept at once. -/
theorem State.freeWrite_aperture {u : State} {f sub v : Nat} (hreach : u.funcReaches f = true) (hfatal : u.fatal = false)
    (h1 : 1 ≤ sub) (h3 : sub ≤ 3) (hv : v < 2 ^ 32)
    (hc : u.writeCheck (.func f) 0x2057 sub (leBytes 4 v) = .ok (apertureEntry, none)) :
    u.freeWrite (.func f) 0x2057 sub (leBytes 4 v) 0 = u.draws.setSel (.func f) (keyOf 0x2057 sub) v := by
  have hsub : sub < 256 := by omega
  have hc' : u.draws.writeCheck (.func f) 0x2057 sub (leBytes 4 v) = .ok (apertureEntry, none) := hc
  have hw := State.writeFor_selector (u.freeEnv 0) hc' (State.writeBlocked_aperture hfatal hsub _) rfl
    (isSelector_aperture h1 h3)
  rw [leNat_leBytes hv] at hw
  exact State.requestWrite_direct (u := u.draws) _ hreach (lookup_aperture h1 h3) rfl
    (State.queued_rw rfl (State.lutBusy_device _ hsub rfl)) hw

/-! ### Writes of a table (R86) -/

/-- All the bytes of a number replaced. -/
theorem mergeBytes_whole (v : Nat) {size : Nat} {data : List Byte} (h : data.length = size) :
    mergeBytes v size 0 data = leNat data := by
  have hold : (leBytes size v).drop (0 + data.length) = [] := List.drop_eq_nil_of_le (by rw [length_leBytes]; omega)
  simp only [mergeBytes, hold, List.take_zero, List.nil_append, List.append_nil]

/-- A whole entry of a port's pending gate list is written (R308). -/
theorem State.writeTable_gate (s : State) (f : Nat) {p i : Nat} {data : List Byte} (hp : p < 24) (hi : i < 1024)
    (hlen : data.length = 8) :
    s.writeTable f 2 (p * 0x4000 + i * 8) data = (none,
      let n := p / 4 * 16 + p % 4
      s.setEth n { s.ethPort n with pendingList := Store.put (s.ethPort n).pendingList i (w64 (leNat data)) }) := by
  have hport : (p * 0x4000 + i * 8) / 0x4000 = p := by omega
  have hrow : (p * 0x4000 + i * 8) % 0x2000 / 8 = i := by omega
  have hbyte : (p * 0x4000 + i * 8) % 8 = 0 := by omega
  have hin : ¬ 24 * 0x4000 ≤ p * 0x4000 + i * 8 := by omega
  have hlist : ¬ 0x2000 ≤ (p * 0x4000 + i * 8) % 0x4000 := by omega
  have hsize : ¬ 8 < 0 + data.length := by omega
  simp only [State.writeTable, hport, hrow, hbyte, if_neg hin, if_neg hlist, if_neg hsize, mergeBytes_whole _ hlen]

/-- Bytes of one launch-list row of a channel that the function owns are written (R261). -/
theorem State.writeTable_launch {s : State} {f o : Nat} {data : List Byte} (ho : o < 0x1000000)
    (hlen : o % 16 + data.length ≤ 16) (hright : f = 0 ∨ (s.chan (o / 0x10000)).owner = f) :
    s.writeTable f 4 o data = (none, { s with dram := { s.dram with lists := s.dram.lists.writeBytes o data } }) := by
  have hin : ¬ 0x1000000 ≤ o := by omega
  have hsize : ¬ 16 < o % 16 + data.length := by omega
  have howner : ¬ (f ≠ 0 ∧ (s.chan (o / 0x10000)).owner ≠ f) := by
    rintro ⟨h0, hf⟩
    exact hright.elim h0 hf
  simp only [State.writeTable, if_neg hin, if_neg hsize, if_neg howner]

/-- The buffer-state table is read-only. -/
theorem State.writeTable_buffers {s : State} (f : Nat) {o : Nat} (data : List Byte) (ho : o < 8 * s.pool.total) :
    s.writeTable f 3 o data = (some A.readOnly, s) := by
  simp only [State.writeTable, if_neg (not_le.mpr ho)]

section
variable {s : State} {t : Time} {f : Nat} (hruns : s.runs t) (hf : f < 256) (hreach : (s.now t).funcReaches f = true)
  (hfatal : (s.now t).fatal = false)
include hruns hf hreach hfatal

/-- A write through aperture 0 goes to the mailbox and the doorbells. -/
theorem exec_bar2TableWrite_mailbox {o : Nat} (data : List Byte) (ho : o < 0x4000000) :
    exec (.bar2TableWrite t f o data) s = .next ((s.now t).writeMailbox f o data) := by
  have hap : o / 0x4000000 = 0 := Nat.div_eq_of_lt ho
  have hoff : o % 0x4000000 = o := Nat.mod_eq_of_lt ho
  show execBar2TableWrite t f o data s = _
  rw [execBar2TableWrite, inRange_of hf, inRange_of (by omega), live_runs hruns]
  simp only [hreach, hfatal, hap, hoff, Bool.not_true, Bool.false_eq_true, if_false, if_true]

/-- A write through another aperture goes into the table that it shows from its first byte on. -/
theorem exec_bar2TableWrite_table {ap o code : Nat} (data : List Byte) (h1 : 1 ≤ ap) (h3 : ap ≤ 3) (ho : o < 0x4000000)
    (hcode : code < 256) (hsel : (s.now t).sel (.func f) (K.BAR2_SELECT_APERTURE + ap - 1) = code * 2 ^ 24) :
    exec (.bar2TableWrite t f (ap * 0x4000000 + o) data) s =
      .next (((s.now t).writeTable f code o data).2.bar2Error f ap ((s.now t).writeTable f code o data).1) := by
  have hap : (ap * 0x4000000 + o) / 0x4000000 = ap := by omega
  have hoff : (ap * 0x4000000 + o) % 0x4000000 = o := by omega
  have hap0 : ap ≠ 0 := by omega
  have htable : bits (code * 2 ^ 24) 31 24 = code := by simp only [bits]; omega
  have hfirst : bits (code * 2 ^ 24) 15 0 * 0x4000000 + o = o := by simp only [bits]; omega
  show execBar2TableWrite t f (ap * 0x4000000 + o) data s = _
  rw [execBar2TableWrite, inRange_of hf, inRange_of (by omega), live_runs hruns]
  simp only [hreach, hfatal, hap, hoff, hsel, htable, hfirst, if_neg hap0, Bool.not_true, Bool.false_eq_true, if_false]

end

/-- Settles O28: a selection is a write of one selector, and a table write goes where its aperture's selection says. -/
theorem tablesAreWritten : Obligations.TablesAreWritten := by
  unfold Obligations.TablesAreWritten
  intro s t f hf hruns u r hreach hfatal
  refine ⟨?_, ?_, ?_, ?_, ?_⟩
  · intro sub v h1 h3 hv hc
    rw [lookup_aperture h1 h3] at hc
    show execBar2SelectWrite t f sub (leBytes 4 v) s = _
    rw [execBar2SelectWrite, inRange_of hf, inRange_of (by omega), live_runs hruns]
    exact congrArg _ (State.freeWrite_aperture hreach hfatal h1 h3 hv hc)
  · intro o data ho
    rw [exec_bar2TableWrite_mailbox hruns hf hreach hfatal data (by omega), State.writeMailbox, if_pos ho]
  · intro ap p i data h1 h3 hsel hp hi hlen n
    have hwrite := exec_bar2TableWrite_table hruns hf hreach hfatal data h1 h3 (by omega : p * 0x4000 + i * 8 < 0x4000000)
      (by decide) hsel
    rw [State.writeTable_gate u f hp hi hlen] at hwrite
    rwa [Nat.add_assoc]
  · intro ap o data h1 h3 hsel ho hlen hright
    rw [exec_bar2TableWrite_table hruns hf hreach hfatal data h1 h3 (by omega) (by decide) hsel,
      State.writeTable_launch ho hlen hright]
    rfl
  · intro ap o data h1 h3 hsel ho hbuf
    rw [exec_bar2TableWrite_table hruns hf hreach hfatal data h1 h3 ho (by decide) hsel, State.writeTable_buffers f data hbuf]
    rfl

end Sys2Proof.Machine
end

section
/-! SUPPORT. What the reset state holds (R67, R91, R100, R250, R351, R405). -/

namespace Sys2Proof.Machine

/-- No record of a channel, a ring or a requester is listed after reset, so each reads as a fresh one. -/
theorem State.chan_reset (ch : Nat) : State.reset.chan ch = {} := rfl

theorem State.ring_reset (n : Nat) : State.reset.ring n = {} := rfl

theorem State.req_reset (r : Requester) : State.reset.req r = {} := rfl

/-- No value is listed either, so each entry reads as its default. -/
theorem State.v_reset (key : Nat) : State.reset.v key = State.reset.dflt key := rfl

theorem State.pv_reset (key : Nat) : State.reset.pv key = State.reset.dflt key := rfl

/-- Settles O5: the reset state lists nothing in its tables, and its other fields are as the statement has them. -/
theorem resetValues : Obligations.ResetValues := by
  unfold Obligations.ResetValues
  refine ⟨rfl, rfl, rfl, rfl, rfl, rfl, rfl, rfl, rfl, rfl, rfl, fun ch => ?_, fun n => ?_, fun r => ?_,
    fun key => ⟨State.v_reset key, State.pv_reset key⟩⟩
  · rw [State.chan_reset]
    exact ⟨rfl, rfl⟩
  · rw [State.ring_reset]
    exact ⟨rfl, rfl⟩
  · rw [State.req_reset]

end Sys2Proof.Machine
end

section
/-! SUPPORT. The margin calibrator and the slow-domain copies (R79, R80, R383 to R387). -/

namespace Sys2Proof.Machine

section
variable {s : State} {t : Time} {pd cls band : Nat}

/-! ### Windows and back-off (R383, R384) -/

/-- What a full window of the group being calibrated does: it is kept, and the eighth ends the run. -/
def State.windowKept (u : State) (pd cls band : Nat) (w : List Nat × List Nat) : State :=
  let x : CalGroup := Store.get u.power.groups {} (trimKey pd cls band)
  if x.probe = 8 then u.runDone pd cls band x (x.windows ++ [w])
  else u.setGroup (trimKey pd cls band) { x with probe := x.probe + 1, windows := x.windows ++ [w] }

/-- A window of the group being calibrated in which every line saw enough transitions counts. -/
theorem exec_calWindow_full {late trans : List Nat} (hruns : s.runs t) (hpd : pd < 32) (hcls : cls < 8) (hband : band < 4)
    (hen : (s.now t).v K.CAL_CONFIG_CAL_EN ≠ 0) (htimed : selfTimed pd = true)
    (hclass : Store.get (s.now t).power.calClass 0 pd = cls) (hmv : bandOf ((s.now t).domainMv pd) = band)
    (hback : (Store.get (s.now t).power.groups {} (trimKey pd cls band)).backoff = none) (hlate : late.length = 64)
    (htrans : trans.length = 64) (hmin : trans.all (fun n => (s.now t).v K.CAL_CONFIG_CAL_MIN_TRANS ≤ n) = true) :
    exec (.calWindow t pd cls band late trans) s = .next ((s.now t).windowKept pd cls band (late, trans)) := by
  show execCalWindow t pd cls band late trans s = _
  rw [execCalWindow, inRange_of hpd, inRange_of hcls, inRange_of hband, live_runs hruns]
  exact congrArg _ (if_neg (by simp [hen, htimed, hclass, hmv, hback, hlate, htrans, hmin]))

/-- A group whose back-off has passed starts afresh. -/
theorem exec_calBackoffExpiry_due {e : Time} (hruns : s.runs t) (hpd : pd < 32) (hcls : cls < 8) (hband : band < 4)
    (hback : (Store.get (s.now t).power.groups {} (trimKey pd cls band)).backoff = some e) (hdue : e ≤ (s.now t).time) :
    exec (.calBackoffExpiry t pd cls band) s = .next ((s.now t).setGroup (trimKey pd cls band) {}) := by
  show execCalBackoffExpiry t pd cls band s = _
  rw [execCalBackoffExpiry, inRange_of hpd, inRange_of hcls, inRange_of hband, live_runs hruns]
  simp only [hback, if_pos hdue]

/-! ### Capture errors (R386) -/

/-- What a capture error does beside the trim: its unit leaves service, or a block without grant-holding units is block-reset. -/
def State.captureError (s : State) (pd : Nat) (u : Option UnitId) : State :=
  match u with
  | some u =>
    if pd < 8 && (s.unit u.kind u.num).inService && clusterOf u.kind u.num = pd then
      s.leaveService u.kind u.num (retiredFault u.kind) true
    else s
  | none => if pd < 8 then s else { s with blockReset := s.blockReset ++ [({ pd := pd } : BlockReset)] }

/-- A capture error of a self-timed domain raises its line's trim. -/
theorem exec_stageCaptureError_timed {line : Nat} {u : Option UnitId} (hruns : s.runs t) (hpd : pd < 32) (hcls : cls < 8)
    (hline : line < 64) (hunit : unitNum u < unitBound u) (htimed : selfTimed pd = true) :
    exec (.stageCaptureError t pd cls line u) s = .next (((s.now t).captureError pd u).emergencyTrim pd cls line) := by
  show execStageCaptureError t pd cls line u s = _
  rw [execStageCaptureError, inRange_of hpd, inRange_of hcls, inRange_of hline, inRange_of hunit, live_runs hruns]
  simp only [htimed, Bool.not_true, Bool.false_eq_true, if_false]
  rfl

/-! ### Stores and slow copies (R79, R80, R387) -/

theorem exec_trimStore_due (hruns : s.runs t) (hdiffer : (s.now t).trimsDiffer = true) (hdue : (s.now t).storeDue = true) :
    exec (.trimStore t) s = .next (s.now t).storeTrims := by
  show execTrimStore t s = _
  rw [execTrimStore, live_runs hruns]
  simp only [hdiffer, hdue, Bool.and_self, if_true]

/-- An edge of the always-on clock refreshes the copies and ends their freeze. -/
theorem exec_slowCopyRefresh_sensing (hsensing : (s.at t).sensing = true) :
    exec (.slowCopyRefresh t) s = .next (((State.bump { s.at t with slow := (s.at t).slowReadings, slowFrozen := false }
      K.SLOW_COPY_REFRESH_COUNT 1).setRo K.SLOW_COPY_LAST_REFRESH (s.at t).time).endFault F.AO_CLOCK_STOP 0) := by
  show execSlowCopyRefresh t s = _
  rw [execSlowCopyRefresh, always_next]
  simp only [hsensing, Bool.not_true, Bool.false_eq_true, if_false]

/-- Without an edge for 122 µs the copies are frozen. -/
theorem exec_aoClockStop_due (hsensing : (s.at t).sensing = true)
    (hlate : (s.at t).ro K.SLOW_COPY_LAST_REFRESH + 122000 ≤ (s.at t).time) (hfrozen : (s.at t).slowFrozen = false) :
    exec (.aoClockStop t) s = .next (State.raise { s.at t with slowFrozen := true } F.AO_CLOCK_STOP {}) := by
  show execAoClockStop t s = _
  rw [execAoClockStop, always_next]
  simp only [hsensing, hlate, hfrozen, decide_true, Bool.not_false, Bool.and_self, if_true]

end

/-- Settles O56: each event of the calibrator has one effect under its condition, and so has each edge of the slow clock. -/
theorem calibrationAndCopies : Obligations.CalibrationAndCopies := by
  unfold Obligations.CalibrationAndCopies
  intro s t
  refine ⟨fun hruns => ⟨?_, fun pd cls band e hpd hcls hband => exec_calBackoffExpiry_due hruns hpd hcls hband, ?_,
    exec_trimStore_due hruns⟩, fun hsensing => ⟨exec_slowCopyRefresh_sensing hsensing, exec_aoClockStop_due hsensing⟩⟩
  · intro pd cls band late trans hpd hcls hband x hen htimed hclass hmv hback hlate htrans hmin
    have hwindow := exec_calWindow_full hruns hpd hcls hband hen htimed hclass hmv hback hlate htrans hmin
    exact ⟨fun hprobe => hwindow.trans (congrArg _ (if_neg hprobe)), fun hprobe => hwindow.trans (congrArg _ (if_pos hprobe))⟩
  · intro pd cls line hpd hcls hline htimed
    have herror := fun u hunit => exec_stageCaptureError_timed (u := u) hruns hpd hcls hline hunit htimed
    refine ⟨fun hcluster => ?_, fun hblock => ?_, fun x hnum hcluster hserves hplace => ?_⟩
    · rw [herror none Nat.one_pos, State.captureError, if_pos hcluster]
    · rw [herror none Nat.one_pos, State.captureError, if_neg (not_lt.mpr hblock)]
    · rw [herror (some x) hnum]
      simp only [State.captureError, hcluster, hserves, hplace, decide_true, Bool.and_self, if_true]

end Sys2Proof.Machine
end

section
/-! SUPPORT. Patches, and parity of the configuration storage (R81 to R83, R398, R399). -/

namespace Sys2Proof.Machine

/-! ### Patches (R399) -/

theorem deviceRow_patchCommand : DeviceRow K.PATCH_COMMAND (actionEntry K.PATCH_COMMAND .u8) :=
  ⟨rfl, by decide, rfl, fun _ _ _ => rfl⟩

/-- An action's result as a refusal and a state leaves what the action leaves. -/
theorem State.acted2_outcome (s : State) (r : Requester) (key : Nat) (x : Except Abort State) :
    acted2 r key (s.outcome x) = s.acted r key x := by
  cases x <;> rfl

/-- A write of a WO entry whose action may be refused is served as it comes. -/
theorem DeviceRow.outcome_served {u : State} {r : Requester} {key : Nat} {ty : Ty} {data : List Byte} {env : Env}
    {g : State → Except Abort State} (hrow : DeviceRow key (actionEntry key ty)) (hP : u.Prompt) (hmay : u.MayAct r key)
    (hsize : ty.size = some data.length) (hty : ty ≠ .bool)
    (hg : ∀ v : State, v.devAction r (key / 256) (key % 256) (leNat data) data env = v.outcome (g v)) :
    ServedAs u (.next (u.draws.requestWrite r (key / 256) (key % 256) data env)) (fun v => v.acted r key (g v)) := by
  have hlut := u.lutBusy_device (Nat.mod_lt key (by decide)) hrow.device
  have hc := hrow.writeCheck_eq (data := data) hmay rfl (Entry.check_any hsize hty rfl)
  have heffect : ∀ v : State, v.writeEffect r (actionEntry key ty) (key / 256) (key % 256) data env = v.outcome (g v) := by
    intro v
    simp only [State.writeEffect, actionEntry, hrow.device, Bool.false_eq_true, if_false, hg v]
  exact (State.write_served u r _ _ data env _ _ hP hmay.1 hrow.row (by simp [actionEntry]) hsize hc hlut heffect).congr
    fun a n => State.acted2_outcome _ r key _

/-- APPLY writes the image that it finds beside its code. -/
theorem exec_patchApply_served {s : State} {t : Time} {r : Requester} (img : Image) (hruns : s.runs t)
    (hP : (s.now t).Prompt) (hmay : (s.now t).MayAct r K.PATCH_COMMAND) :
    ServedAs (s.now t) (exec (.patchApply t r img) s) (fun v => v.acted r K.PATCH_COMMAND (v.patchApply img)) := by
  show ServedAs (s.now t) (execPatchApply t r img s) _
  rw [execPatchApply, inRange_of hmay.1.1, live_runs hruns]
  exact deviceRow_patchCommand.outcome_served (data := leBytes 1 1) (g := fun v => v.patchApply img) hP hmay rfl (by decide)
    fun _ => rfl

section
variable {v : State} {img : Image} (hstate : v.boot.patchState ≠ 1) (hidle : (v.flash 5).state = 0)
include hstate hidle

/-- While no patch and no update of region 5 is under way, APPLY takes a patch that passes every check and fits. -/
theorem State.patchApply_fits (hfault : v.imageFault 5 img = none) (hok : patchOk img = true) :
    v.patchApply img = .ok (State.patchAll { v with boot := { v.boot with
      patchState := 1, clustersDone := 0, patch := some (img.sameOutput, img.name, img.records) } }) := by
  simp [State.patchApply, hstate, hidle, hfault, hok]

/-- It rejects one that fails a check, with the check's number. -/
theorem State.patchApply_fault {k : Nat} (hfault : v.imageFault 5 img = some k) :
    v.patchApply img = .ok ((v.raise F.IMAGE_AUTH_FAIL { detail := [k] }).patchReject k) := by
  simp [State.patchApply, hstate, hidle, hfault]

end

/-- A patch without SAME_OUTPUT is applied to every cluster while no channel exists, and is then done; with no OPEN held, the
record of patches alone changes. -/
theorem State.patchAll_idle {v : State} {name : List Byte} {recs : List (Nat × Nat)}
    (hpatch : v.boot.patch = some (false, name, recs)) (hchans : v.chans = []) (hheld : v.boot.heldOpens = []) :
    v.patchAll = { v with boot := { v.boot with
      patched := v.boot.withPatch (List.range 8) recs, clustersDone := 0xFF, patch := none, patchState := 2
      patchName := name, heldOpens := [] } } := by
  simp only [State.patchAll, hpatch, hchans, List.any_nil, Bool.false_eq_true, if_false, State.patchDone, hheld, State.each,
    List.foldl_nil]

section
variable {s : State} {t : Time} {cl : Nat} {name : List Byte} {recs : List (Nat × Nat)} (hruns : s.runs t) (hcl : cl < 8)
include hruns hcl

/-- The withheld cluster takes a SAME_OUTPUT patch once it holds no grant; after the last one the patch is done. -/
theorem exec_patchClusterWrite_withheld (hlast : cl ≠ 7) (hpatch : (s.now t).boot.patch = some (true, name, recs))
    (hwithheld : (s.now t).withheld = some cl) (hidle : (s.now t).clusterIdle cl = true) :
    exec (.patchClusterWrite t cl) s = .next (State.serveEngines { s.now t with boot := { (s.now t).boot with
      patched := (s.now t).boot.withPatch [cl] recs, clustersDone := setBit (s.now t).boot.clustersDone cl true } }) := by
  show execPatchClusterWrite t cl s = _
  rw [execPatchClusterWrite, inRange_of hcl, live_runs hruns]
  generalize s.now t = u at *
  have hgo : ¬ (decide (u.withheld ≠ some cl) || !u.clusterIdle cl) = true := by simp [hwithheld, hidle]
  split
  next name' recs' h =>
    cases hpatch.symm.trans h
    rw [if_neg hgo]
    exact congrArg (Host.Outcome.next ∘ State.serveEngines) (if_neg hlast)
  next h => cases hpatch.symm.trans h
  next h => cases hpatch.symm.trans h

theorem exec_patchClusterWrite_all (hpatch : (s.now t).boot.patch = some (false, name, recs)) :
    exec (.patchClusterWrite t cl) s = .next (s.now t).patchAll := by
  show execPatchClusterWrite t cl s = _
  rw [execPatchClusterWrite, inRange_of hcl, live_runs hruns]
  simp only [hpatch]

end

/-! ### Configuration parity (R81 to R83) -/

/-- A complete sweep that has found a mismatch: both are counted, and the word and its domain are kept. -/
def State.parityCounted (u : State) (x : CfgBad) : State :=
  (((u.bump K.CFG_PARITY_STATUS_SWEEP_COUNT 1).bumpSat K.CFG_PARITY_STATUS_PARITY_EVENTS 1).setRo
    K.CFG_PARITY_STATUS_LAST_WORD x.word).setRo K.CFG_PARITY_STATUS_LAST_PD x.pd

theorem State.blockReset_parityCounted (u : State) (x : CfgBad) : (u.parityCounted x).blockReset = u.blockReset := by
  simp only [State.parityCounted, State.bump_blockReset, State.bumpSat, State.setRo_blockReset]

/-- The mismatch is raised with its word. -/
def State.parityRaised (u : State) (x : CfgBad) : State :=
  (u.parityCounted x).raise F.CFG_PARITY
    { inst := x.word, detail := [x.word, x.pd], pd := some x.pd, keys := x.keys, cells := x.cells }

section
variable {s : State} {t : Time} (hruns : s.runs t)
include hruns

theorem exec_cfgParitySweep_good :
    exec (.cfgParitySweep t ⟨true, none⟩) s = .next ((s.now t).bump K.CFG_PARITY_STATUS_SWEEP_COUNT 1) := by
  show execCfgParitySweep t ⟨true, none⟩ s = _
  rw [execCfgParitySweep, live_runs hruns]
  rfl

/-- A mismatch has its word restored: with a block reset where the fault's reaction makes one, and without one otherwise. -/
theorem exec_cfgParitySweep_bad (x : CfgBad) : exec (.cfgParitySweep t ⟨true, some x⟩) s =
    .next (if ((s.now t).parityRaised x).blockReset = (s.now t).blockReset then
      { (s.now t).parityRaised x with
        blockReset := (s.now t).blockReset ++ [{ pd := x.pd, restart := false, keys := x.keys, cells := x.cells }] }
    else (s.now t).parityRaised x) := by
  show execCfgParitySweep t ⟨true, some x⟩ s = _
  rw [execCfgParitySweep, live_runs hruns, ← State.blockReset_parityCounted (s.now t) x]
  rfl

/-- The end of a block reset takes the oldest one of its domain: the words are restored, or they are lost. -/
theorem exec_blockResetComplete_found {pd : Nat} {x : BlockReset} (ok : Bool) (hpd : pd < 32)
    (hfind : (s.now t).blockReset.find? (·.pd == pd) = some x) :
    exec (.blockResetComplete t pd ok) s = .next
      (let w : State := { s.now t with blockReset := (s.now t).blockReset.erase x }
       if ok then (if x.restart && pd < 8 then w.repeatCluster pd else w)
       else (w.loseWords x).raise F.CFG_SHADOW_LOST { detail := x.keys }) := by
  show execBlockResetComplete t pd ok s = _
  rw [execBlockResetComplete, inRange_of hpd, live_runs hruns]
  simp only [hfind]

end

/-- Settles O58: an image's checks decide APPLY, the kind of the patch decides where it goes, and a block reset ends with its words
restored or lost. -/
theorem patchesAndParity : Obligations.PatchesAndParity := by
  unfold Obligations.PatchesAndParity
  refine ⟨?_, ?_⟩
  · intro s t hruns u
    refine ⟨fun r img hP hmay => exec_patchApply_served img hruns hP hmay,
      fun v img hstate hidle hfault hok => State.patchApply_fits hstate hidle hfault hok,
      fun v img k hstate hidle hfault => State.patchApply_fault hstate hidle hfault, ?_, ?_, ?_⟩
    · intro cl name recs hcl hpatch hwithheld hidle
      exact exec_patchClusterWrite_withheld hruns (by omega) (by omega) hpatch hwithheld hidle
    · intro cl name recs hcl hpatch
      exact exec_patchClusterWrite_all hruns hcl hpatch
    · intro v name recs hpatch hchans hheld
      rw [State.patchAll_idle hpatch hchans hheld]
      exact ⟨rfl, rfl, rfl, rfl⟩
  · intro s t hruns u
    refine ⟨exec_cfgParitySweep_good hruns, ?_, ?_⟩
    · intro x w
      have hsweep := exec_cfgParitySweep_bad hruns x
      exact ⟨fun hreset => hsweep.trans (congrArg _ (if_neg hreset)), fun hnone => hsweep.trans (congrArg _ (if_pos hnone))⟩
    · intro pd x hpd hfind
      have hend := fun ok => exec_blockResetComplete_found hruns ok hpd hfind
      refine ⟨fun hno => ?_, fun hcluster hyes => ?_, hend false⟩
      · have hkeep : ¬ (x.restart && decide (pd < 8)) = true := by
          rcases hno with h | h <;> simp [h]
        exact (hend true).trans (congrArg _ (if_neg hkeep))
      · have hrepeat : (x.restart && decide (pd < 8)) = true := by simp [hyes, hcluster]
        exact (hend true).trans (congrArg _ (if_pos hrepeat))

end Sys2Proof.Machine
end

section
/-! SUPPORT. The FENCE read, which counts itself and enters no queue (R111). -/

namespace Sys2Proof.Machine

/-- FENCE of MAILBOX_FENCE. -/
def fenceEntry : Entry := ⟨0x2F10, 1, 1, 1, .u32, .ro, 0, .imm, .any, false⟩

/-- Every requester has the right to read FENCE. -/
theorem State.mayReach_fence (s : State) (r : Requester) : s.mayReach r 0x2F10 1 false = true := by
  cases r with
  | func f => exact Bool.or_true _
  | can k => rfl
  | udp a p => rfl
  | shawm => rfl

theorem State.readCheck_fence {s : State} (r : Requester) (hlost : s.dict.lost = []) :
    s.readCheck r 0x2F10 1 = .ok fenceEntry := by
  have hrow : lookup 0x2F10 1 = .ok fenceEntry := lookup_fence
  have hacc : ¬ fenceEntry.acc = .wo := by decide
  simp only [State.readCheck, hrow, s.mayReach_fence r, if_neg hacc, hlost, List.contains_nil, Bool.and_false, Bool.or_self,
    Bool.not_true, Bool.false_eq_true, if_false]

/-- A read of FENCE counts itself, and answers the count with itself in it. -/
theorem State.readEntry_fence {s : State} (r : Requester) (hlost : s.dict.lost = []) :
    s.readEntry r 0x2F10 1 = (.ok (leBytes 4 ((s.req r).fences + 1).toNat),
      s.modReq r (fun q => { q with fences := q.fences + 1 })) := by
  have hcount : ((s.modReq r (fun q => { q with fences := q.fences + 1 })).req r).fences = (s.req r).fences + 1 :=
    congrArg ReqState.fences (State.req_modReq ..)
  rw [← hcount, State.readEntry, s.readCheck_fence r hlost]
  rfl

/-- The answer of a fence is its count. -/
theorem State.fenceRead_eq {s : State} (r : Requester) (hlost : s.dict.lost = []) :
    s.fenceRead r = (s.modReq r (fun q => { q with fences := q.fences + 1 })).emit (.fence r ((s.req r).fences + 1)) := by
  have hanswer : w32 (leNat (leBytes 4 ((s.req r).fences + 1).toNat)) = (s.req r).fences + 1 := by
    rw [leNat_leBytes ((s.req r).fences + 1).isLt]
    exact (BitVec.ofNat_toNat ..).trans (BitVec.setWidth_eq _)
  simp only [State.fenceRead, State.readFor, s.readEntry_fence r hlost, hanswer]

/-- Settles O22: the read is made at once, for a function that reaches the device and for any other requester. -/
theorem fenceCountsItself : Obligations.FenceCountsItself := by
  unfold Obligations.FenceCountsItself
  intro s t r hruns u hplace hreach hlost
  show execMailboxFenceRead t r s = _
  rw [execMailboxFenceRead, inRange_of hplace, live_runs hruns, ← u.fenceRead_eq r hlost]
  cases r with
  | func f => exact congrArg _ (if_pos (hreach f rfl))
  | can k => rfl
  | udp a p => rfl
  | shawm => rfl

end Sys2Proof.Machine
end

section
/-! SUPPORT. Virtual functions and function-level resets (R87 to R89). -/

namespace Sys2Proof.Machine

/-- The functions above a number of VFs end in rising order, and NumVFs is that number, with VF Enable clear where it is 0. -/
def State.lowerVfs (u : State) (n : Nat) : State :=
  let v := u.each ((List.range 256).filter (fun f => n < f && f ≤ u.host.numVfs)) State.endVf
  { v with host := { v.host with vfEnable := decide (n ≠ 0), numVfs := n } }

/-- No function above NumVFs exists. -/
theorem State.funcExists_above {s : State} {f : Nat} (h : s.host.numVfs < f) : s.funcExists f = false := by
  have hne : f ≠ 0 := by omega
  simp [State.funcExists, hne, not_le.mpr h]

section
variable {s : State} {t : Time} (hruns : s.runs t)
include hruns

/-- VF Enable is set while the link is up (R87). -/
theorem exec_vfEnable_off {n : Nat} (hn : n < 256) (hreach : (s.now t).funcReaches 0 = true)
    (hoff : (s.now t).host.vfEnable = false) : exec (.vfEnable t n) s =
      .next { s.now t with host := { (s.now t).host with vfEnable := true, numVfs := n } } := by
  show execVfEnable t n s = _
  rw [execVfEnable, inRange_of hn, live_runs hruns]
  simp only [hreach, hoff, Bool.not_false, Bool.and_self, if_true]

/-- A lower NumVFs, or 0, ends the functions above it (R89). -/
theorem exec_vfDisable_lower {n : Nat} (hn : n < 256) (hreach : (s.now t).funcReaches 0 = true)
    (hon : (s.now t).host.vfEnable = true) (hlower : n < (s.now t).host.numVfs ∨ n = 0) :
    exec (.vfDisable t n) s = .next ((s.now t).lowerVfs n) := by
  have hgo : (decide (n = 0) || decide (n < (s.now t).host.numVfs)) = true := by simpa using hlower.symm
  show execVfDisable t n s = _
  rw [execVfDisable, inRange_of hn, live_runs hruns]
  simp only [hreach, hon, hgo, Bool.and_self, if_true]
  rfl

/-- A function-level reset of a virtual function is counted (R88). -/
theorem exec_flrVf_reached {f : Nat} (hf : f < 256) (hvf : 0 < f) (hreach : (s.now t).funcReaches f = true) :
    exec (.flrVf t f) s = .next (((s.now t).flr f).countFlr 1) := by
  have hne : f ≠ 0 := by omega
  show execFlrVf t f s = _
  rw [execFlrVf, inRange_of hf, live_runs hruns]
  simp only [hreach, hne, ne_eq, not_false_eq_true, decide_true, Bool.and_self, if_true]

/-- A function-level reset of F000 acts on every function, and is counted once (R89). -/
theorem exec_flrPf_reached (hreach : (s.now t).funcReaches 0 = true) :
    exec (.flrPf t) s = .next ((s.now t).flrAll.countFlr 1) := by
  show execFlrPf t s = _
  rw [execFlrPf, live_runs hruns, if_pos hreach]

end

/-- Settles O23: each command has one effect while the host link reaches its function. -/
theorem functionsComeAndGo : Obligations.FunctionsComeAndGo := by
  unfold Obligations.FunctionsComeAndGo
  refine ⟨fun s t n hn hruns => ⟨exec_vfEnable_off hruns hn, fun hreach hon hlower => ?_⟩,
    fun s t hruns => ⟨fun f hvf hf => exec_flrVf_reached hruns hf hvf, exec_flrPf_reached hruns⟩⟩
  exact ⟨exec_vfDisable_lower hruns hn hreach hon hlower, fun f hf => State.funcExists_above hf⟩

end Sys2Proof.Machine
end

section
/-! SUPPORT. A write of a function that does not reach the device (R22, R91). -/

namespace Sys2Proof.Machine

/-- A write of a function whose accesses do not arrive changes nothing. -/
theorem State.freeWrite_unreached {u : State} {f : Nat} (h : u.funcReaches f = false) (idx sub : Nat) (data : List Byte)
    (offset : Nat) : u.freeWrite (.func f) idx sub data offset = u.draws := by
  have hdraws : u.draws.funcReaches f = false := h
  simp only [State.freeWrite, State.requestWrite, hdraws, Bool.not_false, if_true]

theorem exec_chOwnerWrite_unreached {s : State} {t : Time} {f ch : Nat} (data : List Byte) (hruns : s.runs t) (hf : f < 256)
    (hch : ch < 256) (h : (s.now t).funcReaches f = false) :
    exec (.chOwnerWrite t (.func f) ch data) s = .next (s.now t).draws := by
  show execChOwnerWrite t (.func f) ch data s = _
  rw [execChOwnerWrite, inRange_of (by exact hf), inRange_of hch, live_runs hruns]
  exact congrArg _ (State.freeWrite_unreached h ..)

/-- A device in service with one virtual function, whose host link is down. -/
def unlinked : State :=
  { State.reset with
    pins := { State.reset.pins with resetLow := false }
    boot := { State.reset.boot with state := .ready }
    host := { State.reset.host with vfEnable := true, numVfs := 1 } }

theorem unlinked_prompt : (unlinked.now 0).Prompt where
  empty _ _ := rfl
  running _ _ := rfl
  served := rfl
  channels := rfl
  slots := ⟨rfl, rfl⟩
  normal := rfl
  unfenced := by decide

/-- Refutes O24: it has F000 set OWNER whether or not the host link is up, but while the link is down F000's write does not
arrive. F001 exists, channel 0 is CLOSED without a ring, and its owner stays F000. -/
theorem not_ringsAndOwners : ¬ Obligations.RingsAndOwners := by
  unfold Obligations.RingsAndOwners
  rintro ⟨-, howner⟩
  obtain ⟨n, hwrite⟩ := howner unlinked 0 0 1 (by decide) rfl unlinked_prompt rfl (by decide) rfl rfl
  rw [exec_chOwnerWrite_unreached _ rfl (by decide) (by decide) rfl] at hwrite
  injection hwrite with hstate
  have hkept : ((unlinked.now 0).draws.chan 0).owner = 0 := rfl
  rw [hstate, State.modChan, State.chan_setChan] at hkept
  exact one_ne_zero hkept

end Sys2Proof.Machine
end

section
/-! SUPPORT. Rings: ENABLE and doorbells (R100, R101, R103). -/

namespace Sys2Proof.Machine

/-! ### ENABLE (R100) -/

section
variable {u : State} {n : Nat}

/-- A DISABLED ring that passes every check starts afresh. -/
theorem State.ringEnable_passes (hstate : (u.ring n).state = .disabled)
    (hcause : u.ringCause n { u.ring n with enable := true } = 0) :
    u.ringEnable n = u.setRing n { u.ring n with
      enable := true, pi := 0, ci := 0, state := .enabled, errCause := 0, fetched := [], chunkDone := 0
      chunkAborted := none, frame := none } := by
  have hgo : ¬ (u.ring n).state = .stopping := by rw [hstate]; decide
  simp only [State.ringEnable, if_neg hgo, if_pos hcause]

/-- One that fails a check is in ERROR, with the check's number. -/
theorem State.ringEnable_fails (hstate : (u.ring n).state = .disabled)
    (hcause : u.ringCause n { u.ring n with enable := true } ≠ 0) :
    u.ringEnable n = u.setRing n { u.ring n with
      enable := true, state := .error, errCause := u.ringCause n { u.ring n with enable := true } } := by
  have hgo : ¬ (u.ring n).state = .stopping := by rw [hstate]; decide
  simp only [State.ringEnable, if_neg hgo, if_neg hcause]

/-- An ENABLED ring stops, and its signal is withdrawn. -/
theorem State.ringDisable_enabled (hstate : (u.ring n).state = .enabled) :
    u.ringDisable n =
      (u.setRing n { u.ring n with enable := false, state := .stopping }).withdraw (u.ring n).irqSrc := by
  simp only [State.ringDisable, hstate]

/-- A ring in ERROR is DISABLED at once, and its signal is withdrawn. -/
theorem State.ringDisable_error (hstate : (u.ring n).state = .error) :
    u.ringDisable n = (u.setRing n { u.ring n with
      enable := false, state := .disabled, errCause := 0, fetched := [] }).withdraw (u.ring n).irqSrc := by
  simp only [State.ringDisable, hstate]

end

section
variable {s : State} {t : Time} (hruns : s.runs t)
include hruns

/-- A function that may write the ring sets its ENABLE. -/
theorem exec_ringEnable_off {f ring : Nat} (hfatal : (s.now t).fatal = false) (hf : f < 256) (hring : ring < 32768)
    (hmay : (s.now t).mayWriteRing f ring = true) (hoff : ((s.now t).ring ring).enable = false) :
    exec (.ringEnable t f ring) s = .next ((s.now t).ringEnable ring) := by
  show execRingEnable t f ring s = _
  rw [execRingEnable, inRange_of hf, inRange_of hring, live_runs hruns]
  simp only [hfatal, hmay, hoff, Bool.not_true, Bool.or_self, Bool.false_eq_true, if_false]

/-- Or clears it. -/
theorem exec_ringDisable_on {f ring : Nat} (hfatal : (s.now t).fatal = false) (hf : f < 256) (hring : ring < 32768)
    (hmay : (s.now t).mayWriteRing f ring = true) (hon : ((s.now t).ring ring).enable = true) :
    exec (.ringDisable t f ring) s = .next ((s.now t).ringDisable ring) := by
  show execRingDisable t f ring s = _
  rw [execRingDisable, inRange_of hf, inRange_of hring, live_runs hruns]
  simp only [hfatal, hmay, hon, Bool.not_true, Bool.or_self, Bool.false_eq_true, if_false]

/-- A stopping ring without a fetched descriptor is DISABLED. -/
theorem exec_ringStoppingDone_empty {ring : Nat} (hring : ring < 32768) (hstate : ((s.now t).ring ring).state = .stopping)
    (hempty : ((s.now t).ring ring).fetched = []) (hoff : ((s.now t).ring ring).enable = false) :
    exec (.ringStoppingDone t ring) s =
      .next ((s.now t).setRing ring { (s.now t).ring ring with state := .disabled }) := by
  show execRingStoppingDone t ring s = _
  rw [execRingStoppingDone, inRange_of hring, live_runs hruns]
  simp only [hstate, hempty, hoff, List.isEmpty_nil, and_self, Bool.false_eq_true, if_true, if_false]

/-! ### Doorbells (R101, R103) -/

/-- A 4-byte doorbell of a ring that the function holds. -/
theorem exec_doorbellWrite_held {f loc ring : Nat} {data : List Byte} (hfatal : (s.now t).fatal = false) (hf : f < 256)
    (hloc : loc < 128) (hreach : (s.now t).funcReaches f = true) (hheld : (s.now t).ringOf f loc = some ring)
    (hlen : data.length = 4) :
    exec (.doorbellWrite t f loc data) s = .next ((s.now t).doorbell ring (w32 (leNat data))) := by
  show execDoorbellWrite t f loc data s = _
  rw [execDoorbellWrite, inRange_of hf, inRange_of hloc, live_runs hruns]
  simp only [hfatal, hlen, hreach, hheld, ne_eq, not_true_eq_false, decide_false, Bool.not_true, Bool.or_self,
    Bool.false_eq_true, if_false]

end

/-- A doorbell within the ring's size moves PI of an ENABLED ring. -/
theorem State.doorbell_within {u : State} {n : Nat} {v : W32} (hstate : (u.ring n).state = .enabled)
    (hroom : (v - (u.ring n).ci).toNat ≤ 2 ^ (u.ring n).size) :
    u.doorbell n v = (u.tick K.HOST_COUNTERS_DOORBELLS 1).setRing n { u.ring n with
      dbCount := (u.ring n).dbCount + 1, pi := v } := by
  simp only [State.doorbell, hstate, if_neg (not_lt.mpr hroom), ne_eq, not_true_eq_false, if_false]

/-- One beyond it puts the ring in ERROR with cause 7. -/
theorem State.doorbell_beyond {u : State} {n : Nat} {v : W32} (hstate : (u.ring n).state = .enabled)
    (hover : 2 ^ (u.ring n).size < (v - (u.ring n).ci).toNat) :
    u.doorbell n v = (u.tick K.HOST_COUNTERS_DOORBELLS 1).setRing n { u.ring n with
      dbCount := (u.ring n).dbCount + 1, pi := v, state := .error, errCause := 7 } := by
  simp only [State.doorbell, hstate, if_pos hover, ne_eq, not_true_eq_false, if_false]

/-- Settles O26: a write of ENABLE and a doorbell are one operation on the ring each, which the ring's state decides. -/
theorem ringsStartAndStop : Obligations.RingsStartAndStop := by
  unfold Obligations.RingsStartAndStop
  intro s t hruns u hfatal
  refine ⟨fun f ring hf hring hmay => ?_, fun ring hring => exec_ringStoppingDone_empty hruns hring, ?_⟩
  · have henable := exec_ringEnable_off hruns hfatal hf hring hmay
    have hdisable := exec_ringDisable_on hruns hfatal hf hring hmay
    refine ⟨fun hoff hstate hcause => ?_, fun hoff hstate hcause => ?_, fun hon hstate => ?_, fun hon hstate => ?_⟩
    · rw [henable hoff, State.ringEnable_passes hstate hcause]
    · rw [henable hoff, State.ringEnable_fails hstate hcause]
    · rw [hdisable hon, State.ringDisable_enabled hstate]
    · rw [hdisable hon, State.ringDisable_error hstate]
  · intro f loc ring data hf hloc hreach hheld hlen r v hstate
    have hbell := exec_doorbellWrite_held hruns hfatal hf hloc hreach hheld hlen
    exact ⟨fun hroom => hbell.trans (congrArg _ (State.doorbell_within hstate hroom)),
      fun hover => hbell.trans (congrArg _ (State.doorbell_beyond hstate hover))⟩

end Sys2Proof.Machine
end

section
/-! SUPPORT. Descriptors and completions, and the transaction trackers (R102 to R108, R112). -/

namespace Sys2Proof.Machine

/-! ### Trackers (R112) -/

/-- A request that waits behind no other takes a tracker that is free. -/
theorem State.takeTxn_free {s : State} {c f : Nat} (hgiven : s.txn.given = []) (hroom : s.txn.room c f = true)
    (hwaiting : Store.get s.txn.waiting [] c = []) :
    s.takeTxn c f = (some { s with txn := s.txn.take c f }, { s with txn := s.txn.take c f }) := by
  simp [State.takeTxn, hgiven, hroom, hwaiting]

/-- A freed tracker that no waiting request suits is given to none. -/
theorem State.serveTxn_none {s : State} (h : s.txn.heads = []) : s.serveTxn = s := by
  simp only [State.serveTxn, h, oldestHead, List.foldl_nil]

/-! ### Completions (R105) -/

/-- Only counters and stored values, interrupts and what leaves the device have moved. -/
def State.Reports (s w : State) : Prop := ∃ v i o, w = { s with dict := v, ints := i, out := o }

theorem State.Reports.trans {s w z : State} (h : s.Reports w) (h' : w.Reports z) : s.Reports z := by
  obtain ⟨v, i, o, rfl⟩ := h
  obtain ⟨v', i', o', rfl⟩ := h'
  exact ⟨v', i', o', rfl⟩

theorem State.reports_tick (s : State) (key n : Nat) : s.Reports (s.tick key n) := ⟨_, _, _, rfl⟩

theorem State.reports_emit (s : State) (o : Output) : s.Reports (s.emit o) := ⟨_, _, _, rfl⟩

theorem State.reports_setIntSource (s : State) (n : Nat) (r : IntSource) : s.Reports (s.setIntSource n r) := ⟨_, _, _, rfl⟩

theorem State.reports_sendVector (s : State) (f g : Nat) : s.Reports (s.sendVector f g) := by
  unfold State.sendVector
  dsimp only
  split <;> exact ⟨_, _, _, rfl⟩

theorem State.reports_updateSource (s : State) (n : Nat) (r : IntSource) : s.Reports (s.updateSource n r) := by
  unfold State.updateSource State.becameEligible
  dsimp only
  split
  next =>
    split
    next => exact (s.reports_setIntSource n r).trans (State.reports_sendVector ..)
    next => exact s.reports_setIntSource n r
  next => exact s.reports_setIntSource n r

theorem State.reports_signal (s : State) (n : Nat) (from_ : Option Nat) : s.Reports (s.signal n from_) := by
  unfold State.signal
  dsimp only
  split
  next => exact ⟨_, _, _, rfl⟩
  next =>
    split
    next => exact s.reports_setIntSource n _
    next => exact s.reports_updateSource n _

/-- A ring whose oldest fetched descriptor has completed with a status. -/
def Ring.headDone (r : Ring) (rest : List Desc) (status : Nat) : Ring :=
  { r with fetched := rest, ci := r.ci + 1, errCount := if status ≠ 0 then r.errCount + 1 else r.errCount }

/-- What a completion leaves: its ring goes on to the next descriptor, and the completion is reported. -/
theorem State.completeHead_reports {s : State} {n : Nat} {d : Desc} {rest : List Desc} (x : Done)
    (hfetched : (s.ring n).fetched = d :: rest) :
    (s.setRing n ((s.ring n).headDone rest x.status)).Reports (s.completeHead n x) := by
  unfold State.completeHead
  simp only [hfetched]
  have hcounted : ∀ w : State, w.Reports (if x.status ≠ 0 then w.tick K.HOST_COUNTERS_ERR_COMPLETIONS 1 else w) := by
    intro w
    split
    · exact w.reports_tick _ _
    · exact ⟨_, _, _, rfl⟩
  have hwritten := fun (w : State) (a b : Output) => (((w.reports_emit a).trans (State.reports_emit _ b)).trans
    (State.reports_tick _ K.HOST_COUNTERS_COMPLETIONS 1)).trans (hcounted _)
  split
  · exact (hwritten (s.setRing n ((s.ring n).headDone rest x.status)) _ _).trans (State.reports_signal ..)
  · exact hwritten (s.setRing n ((s.ring n).headDone rest x.status)) _ _

/-! ### Fetching (R102) -/

section
variable {s : State} {t : Time} {ring : Nat} (hruns : s.runs t) (hring : ring < 32768)
include hruns hring

/-- A slot that a doorbell covers is fetched with a free tracker. -/
theorem exec_descriptorFetch_free (slot : BitVec 256) (hstate : ((s.now t).ring ring).state = .enabled)
    (hcovered : ((s.now t).ring ring).unfetched ≠ 0) (hgoes : (s.now t).inPaused ((s.now t).ring ring) = false)
    (hgiven : (s.now t).txn.given = []) (hwaiting : Store.get (s.now t).txn.waiting [] 1 = [])
    (hroom : (s.now t).txn.room 1 (((s.now t).ring ring).owner.getD 0) = true) :
    exec (.descriptorFetch t ring slot) s =
      .next (State.setRing { s.now t with txn := (s.now t).txn.take 1 (((s.now t).ring ring).owner.getD 0) } ring
        { (s.now t).ring ring with fetched := ((s.now t).ring ring).fetched ++ [decodeDesc slot] }) := by
  show execDescriptorFetch t ring slot s = _
  rw [execDescriptorFetch, inRange_of hring, live_runs hruns]
  simp only [hstate, hcovered, hgoes, State.takeTxn_free hgiven hroom hwaiting, ne_eq, not_true_eq_false,
    Bool.false_eq_true, or_self, if_false]

/-- The oldest fetched descriptor of a ring that is not DISABLED completes as its type has it. -/
theorem exec_descriptorComplete_head {d : Desc} {rest : List Desc} (data : List Byte) (hostError : Bool)
    (hfetched : ((s.now t).ring ring).fetched = d :: rest) (hstate : ((s.now t).ring ring).state ≠ .disabled) :
    exec (.descriptorComplete t ring data hostError) s =
      .next (if ((s.now t).ring ring).type = 0 then (s.now t).inComplete ring d data hostError
        else (s.now t).outComplete ring d) := by
  show execDescriptorComplete t ring data hostError s = _
  rw [execDescriptorComplete, inRange_of hring, live_runs hruns]
  simp only [hfetched, if_neg hstate]

end

/-! ### OUT descriptors (R107) -/

/-- The completion of a descriptor that belongs to no chunk. -/
def State.noChunk (u : State) (n : Nat) : Done := { loc := locCode u.dev (Loc.ofChan (u.ring n).chan), time := u.time }

/-- The bytes of a chunk that the ring's next descriptor takes. -/
def Ring.chunkPart (r : Ring) (x : OutChunk) (d : Desc) : List Byte := (x.data.drop r.chunkDone).take d.len

/-- Those bytes written to host memory, with the chunk's progress. -/
def State.partWritten (u : State) (n : Nat) (x : OutChunk) (d : Desc) (done : Nat) : State :=
  (u.emit (.hostWrite d.addr ((u.ring n).chunkPart x d))).setRing n { u.ring n with chunkDone := done }

section
variable {u : State} {n : Nat} {d : Desc}

/-- A chunk that was aborted ends with its next descriptor. -/
theorem State.outComplete_aborted {x : OutChunk} (h : (u.ring n).chunkAborted = some x) :
    u.outComplete n d =
      (u.setRing n { u.ring n with chunkAborted := none }).completeHead n { x.done with status := 7, eoc := true } := by
  simp only [State.outComplete, h]

variable (hwhole : (u.ring n).chunkAborted = none) (hchan : (u.ring n).chan < 256)
include hwhole hchan

theorem State.outComplete_noBytes (hlen : d.len = 0) :
    u.outComplete n d = u.completeHead n { u.noChunk n with status := 2 } := by
  simp only [State.outComplete, hwhole, if_neg (not_le.mpr hchan), hlen, if_true]
  rfl

theorem State.outComplete_tooLong (hlen : u.pool.bufBytes < d.len) :
    u.outComplete n d = u.completeHead n { u.noChunk n with status := 1 } := by
  have hne : ¬ d.len = 0 := by omega
  simp only [State.outComplete, hwhole, if_neg (not_le.mpr hchan), if_neg hne, if_pos hlen]
  rfl

variable {x : OutChunk} {others : List OutChunk} (hlen : 0 < d.len) (hfit : d.len ≤ u.pool.bufBytes)
  (hchunk : takeFirst (fun x => x.stream == (u.ring n).stream) (u.chan (u.ring n).chan).outQ = some (x, others))
  (hsized : u.sizeOpen (u.ring n).chan x = false)
include hlen hfit hchunk hsized

/-- A descriptor that ends before its chunk takes its share. -/
theorem State.outComplete_part (hmore : (u.ring n).chunkDone + ((u.ring n).chunkPart x d).length < x.data.length) :
    u.outComplete n d =
      (u.partWritten n x d ((u.ring n).chunkDone + ((u.ring n).chunkPart x d).length)).completeHead n { x.done with
        len := ((u.ring n).chunkPart x d).length, eop := false, eoc := false, soc := decide ((u.ring n).chunkDone = 0) } := by
  have hne : ¬ d.len = 0 := by omega
  have hopen : ¬ x.data.length ≤ (u.ring n).chunkDone + ((x.data.drop (u.ring n).chunkDone).take d.len).length :=
    not_le.mpr hmore
  simp only [State.outComplete, State.partWritten, Ring.chunkPart, hwhole, if_neg (not_le.mpr hchan), if_neg hne,
    if_neg (not_lt.mpr hfit), hchunk, hsized, Bool.false_eq_true, if_false, if_neg hopen, decide_eq_false hopen, Bool.and_false]

/-- One that takes the rest of its chunk ends it, and the chunk's buffers are done with. -/
theorem State.outComplete_last (hdone : x.data.length ≤ (u.ring n).chunkDone + ((u.ring n).chunkPart x d).length) :
    u.outComplete n d =
      (((u.partWritten n x d 0).completeHead n { x.done with
        len := ((u.ring n).chunkPart x d).length, eop := x.eop, eoc := true
        soc := decide ((u.ring n).chunkDone = 0) }).each x.bufs (fun s b => s.doneBuf b 4)).modChan (u.ring n).chan
          (fun c => { c with outQ := others }) := by
  have hne : ¬ d.len = 0 := by omega
  have hclosed : x.data.length ≤ (u.ring n).chunkDone + ((x.data.drop (u.ring n).chunkDone).take d.len).length := hdone
  simp only [State.outComplete, State.partWritten, Ring.chunkPart, hwhole, if_neg (not_le.mpr hchan), if_neg hne,
    if_neg (not_lt.mpr hfit), hchunk, hsized, Bool.false_eq_true, if_false, if_pos hclosed, decide_eq_true hclosed, Bool.and_true]

end

/-! ### IN descriptors (R108) -/

/-- The completion of a descriptor whose bytes were read. -/
def State.inDone (u : State) (n : Nat) (d : Desc) : Done :=
  { loc := locCode u.dev (Loc.ofChan (u.ring n).chan), time := u.time, len := d.len }

section
variable {u : State} {n : Nat} {d : Desc} {data : List Byte}

/-- On an unbound ring, or one whose channel does no work, a descriptor completes with CHAN_CLOSED. -/
theorem State.inComplete_closed
    (h : 256 ≤ (u.ring n).chan ∨ (d.len ≤ u.pool.bufBytes ∧ (u.chan (u.ring n).chan).working = false)) :
    u.inComplete n d data false = u.completeHead n { u.inDone n d with status := 4, len := 0 } := by
  by_cases hchan : 256 ≤ (u.ring n).chan
  · simp only [State.inComplete, if_pos hchan]
    rfl
  · obtain ⟨hfit, hidle⟩ := h.resolve_left hchan
    simp only [State.inComplete, if_neg hchan, if_neg (not_lt.mpr hfit), hidle, Bool.not_false, if_true]
    rfl

variable (hchan : (u.ring n).chan < 256)
include hchan

theorem State.inComplete_tooLong (hlen : u.pool.bufBytes < d.len) :
    u.inComplete n d data false = u.completeHead n { u.inDone n d with status := 1, len := 0 } := by
  simp only [State.inComplete, if_neg (not_le.mpr hchan), if_pos hlen]
  rfl

variable {bufs : List Nat} (hlen : 0 < d.len) (hfit : d.len ≤ u.pool.bufBytes)
  (hworking : (u.chan (u.ring n).chan).working = true) (hdata : data.length = d.len)

omit hchan in
include hdata in
/-- Bytes that fill the descriptor are neither padded nor cut. -/
theorem inBytes_eq : (data ++ List.replicate (d.len - d.len) 0).take d.len = data := by
  simp [← hdata]

include hlen hfit hworking hdata

/-- In an encode channel the bytes enter the frame, in a buffer obtained for them. -/
theorem State.inComplete_encode (hdir : u.cv (u.ring n).chan K.CH_DECODE_DIRECTION = 0)
    (hgot : (u.obtain (u.ring n).chan 2 0 1).1 = some bufs) :
    u.inComplete n d data false =
      ((u.obtain (u.ring n).chan 2 0 1).2.fillBufs bufs d.len).inEncode n d data bufs false (u.inDone n d) := by
  have hsome : data.isEmpty = false := by
    cases data with
    | nil => simp at hdata; omega
    | cons b r => rfl
  rcases hobtain : u.obtain (u.ring n).chan 2 0 1 with ⟨got, w⟩
  obtain rfl : got = some bufs := by rw [hobtain] at hgot; exact hgot
  simp only [State.inComplete, if_neg (not_le.mpr hchan), if_neg (not_lt.mpr hfit), hworking, hdir, inBytes_eq hdata, hsome,
    hobtain, hdata, Bool.not_true, Bool.false_eq_true, if_false, zero_ne_one, decide_false, Bool.not_false, if_true]
  rfl

/-- In a decode channel that takes them over the ring they enter its input. -/
theorem State.inComplete_decode (hdir : u.cv (u.ring n).chan K.CH_DECODE_DIRECTION = 1)
    (hgot : (u.obtain (u.ring n).chan 3 0 1).1 = some bufs)
    (hinput : ((u.obtain (u.ring n).chan 3 0 1).2.fillBufs bufs d.len).cv (u.ring n).chan K.CH_DECODE_INPUT = 0) :
    u.inComplete n d data false =
      (((u.obtain (u.ring n).chan 3 0 1).2.fillBufs bufs d.len).addInput (u.ring n).chan data
        (bufs.map (fun b => (b, d.len))) false).completeHead n (u.inDone n d) := by
  have hsome : data.isEmpty = false := by
    cases data with
    | nil => simp at hdata; omega
    | cons b r => rfl
  rcases hobtain : u.obtain (u.ring n).chan 3 0 1 with ⟨got, w⟩
  rw [hobtain] at hgot hinput
  obtain rfl : got = some bufs := hgot
  simp only [State.inComplete, if_neg (not_le.mpr hchan), if_neg (not_lt.mpr hfit), hworking, hdir, inBytes_eq hdata, hsome,
    hobtain, hdata, hinput, Bool.not_true, Bool.false_eq_true, if_false, decide_true, if_true, ne_eq, not_true_eq_false]
  rfl

end

/-! ### The trackers' end -/

/-- A transaction in flight ends, and its tracker goes to a request that waits. -/
theorem exec_txnTrackerFreed_used {s : State} {t : Time} {c : TxnClass} {f : Nat} (hruns : s.runs t) (hf : f < 256)
    (hused : (s.now t).txn.used (txnCode c) ≠ 0) :
    exec (.txnTrackerFreed t c f) s =
      .next (State.serveTxn { s.now t with txn := (s.now t).txn.release (txnCode c) f }) := by
  show execTxnTrackerFreed t c f s = _
  rw [execTxnTrackerFreed, inRange_of hf, live_runs hruns]
  simp only [if_neg hused]

/-- Settles O27: a descriptor completes by its ring's type and the case that its length, its channel and its chunk make. -/
theorem descriptorsAreServed : Obligations.DescriptorsAreServed := by
  unfold Obligations.DescriptorsAreServed
  intro s t hruns u
  refine ⟨?_, ?_, ?_, ?_, ?_, ?_⟩
  · intro ring slot hring r hstate hcovered hgoes hgiven hwaiting hroom
    exact exec_descriptorFetch_free hruns hring slot hstate hcovered hgoes hgiven hwaiting hroom
  · intro ring data d rest hring r none_ hfetched hstate htype
    have hhead := exec_descriptorComplete_head hruns hring data false hfetched hstate
    rw [if_neg (by rw [show ((s.now t).ring ring).type = 1 from htype]; decide)] at hhead
    refine ⟨fun x hx => hhead.trans (congrArg _ (State.outComplete_aborted hx)), fun hwhole hchan => ⟨?_, ?_, ?_⟩⟩
    · exact fun hlen => hhead.trans (congrArg _ (State.outComplete_noBytes hwhole hchan hlen))
    · exact fun hlen => hhead.trans (congrArg _ (State.outComplete_tooLong hwhole hchan hlen))
    · intro x others hlen hfit hchunk hsized part written
      exact ⟨fun hmore => hhead.trans
          (congrArg _ (State.outComplete_part hwhole hchan hlen hfit hchunk hsized hmore)),
        fun hdone => hhead.trans (congrArg _ (State.outComplete_last hwhole hchan hlen hfit hchunk hsized hdone))⟩
  · intro ring data d rest hring r x hfetched hstate htype
    have hhead := exec_descriptorComplete_head hruns hring data false hfetched hstate
    rw [if_pos htype] at hhead
    refine ⟨fun hclosed => hhead.trans (congrArg _ (State.inComplete_closed hclosed)),
      fun hchan hlen => hhead.trans (congrArg _ (State.inComplete_tooLong hchan hlen)), ?_⟩
    intro bufs hchan hlen hfit hworking hdata
    refine ⟨fun hdir hgot => ?_, fun hdir _ hgot w hw hinput => ?_⟩
    · exact hhead.trans (congrArg _ (State.inComplete_encode hchan hlen hfit hworking hdata hdir hgot))
    · subst hw
      exact hhead.trans (congrArg _ (State.inComplete_decode hchan hlen hfit hworking hdata hdir hgot hinput))
  · intro ring x d rest hfetched
    obtain ⟨v, i, o, h⟩ := State.completeHead_reports x hfetched
    have hring := u.ring_setRing ring ((u.ring ring).headDone rest x.status)
    rw [h]
    exact ⟨congrArg Ring.ci hring, congrArg Ring.fetched hring, rfl, rfl⟩
  · intro c f hf hused
    exact exec_txnTrackerFreed_used hruns hf hused
  · exact fun v => State.serveTxn_none

end Sys2Proof.Machine
end

section
/-! SUPPORT. What a fault, a buffer's return and a clip's end leave: the boot's records and every channel that does no work (R94,
R234, R323, R352 to R360). -/

namespace Sys2Proof.Machine

/-! ### Changes that keep the boot's records and idle channels -/

/-- The boot's records have not moved, and no channel that does no work has. -/
structure KeepsIdle (s w : State) : Prop where
  boot : w.boot = s.boot
  idle : ∀ n, (s.chan n).working = false → w.chan n = s.chan n

theorem KeepsIdle.of_fields {s w : State} (hboot : w.boot = s.boot) (hchans : w.chans = s.chans) : KeepsIdle s w where
  boot := hboot
  idle n _ := by rw [State.chan, hchans, State.chan]

theorem KeepsIdle.refl (s : State) : KeepsIdle s s := .of_fields rfl rfl

/-- One change after another. -/
theorem KeepsIdle.after {s w z : State} (h' : KeepsIdle w z) (h : KeepsIdle s w) : KeepsIdle s z where
  boot := h'.boot.trans h.boot
  idle n hn := (h'.idle n (by rwa [h.idle n hn])).trans (h.idle n hn)

theorem KeepsIdle.ite {s w z : State} {c : Prop} [Decidable c] (h : KeepsIdle s w) (h' : KeepsIdle s z) :
    KeepsIdle s (if c then w else z) := by
  split
  · exact h
  · exact h'

theorem KeepsIdle.each {α : Type} {f : State → α → State} (h : ∀ s x, KeepsIdle s (f s x)) (s : State) (l : List α) :
    KeepsIdle s (s.each l f) := by
  induction l generalizing s with
  | nil => exact .refl s
  | cons x l ih => exact (ih (f s x)).after (h s x)

theorem keepsIdle_setRo (s : State) (key v : Nat) : KeepsIdle s (s.setRo key v) := .of_fields rfl rfl

theorem State.Reports.keepsIdle {s w : State} (h : s.Reports w) : KeepsIdle s w := by
  obtain ⟨v, i, o, rfl⟩ := h
  exact .of_fields rfl rfl

/-! ### Messages to peers and clients -/

theorem keepsIdle_drainPort (s : State) (q fuel : Nat) : KeepsIdle s (s.drainPort q fuel) := by
  induction fuel generalizing s with
  | zero => exact .refl s
  | succ n ih =>
    unfold State.drainPort
    dsimp only
    split
    · exact .refl s
    · split
      · exact .refl s
      · exact (ih _).after (.of_fields rfl rfl)

theorem keepsIdle_pushFlit (s : State) (q : Nat) (f : Flit) : KeepsIdle s (s.pushFlit q f) :=
  .after (keepsIdle_drainPort ..) (.of_fields rfl rfl)

theorem keepsIdle_ronoxSend (s : State) (type flags cls dst : Nat) (body : List Byte) :
    KeepsIdle s (s.ronoxSend type flags cls dst body) := by
  unfold State.ronoxSend State.route
  exact .ite (.each (fun s q => keepsIdle_pushFlit s q _) s _) (.refl s)

theorem keepsIdle_notify (s : State) (r : FaultRecord) : KeepsIdle s (s.notify r) := by
  unfold State.notify State.notifyNow
  dsimp only
  split
  · refine .after (.each (fun s k => ?_) _ _) (.ite (.refl s) (.of_fields rfl rfl))
    exact .ite (.of_fields rfl rfl) (.refl s)
  · exact .of_fields rfl rfl

/-! ### Faults (R352 to R359) -/

theorem keepsIdle_lastFault (s : State) (r : FaultRecord) (n : Nat) : KeepsIdle s (s.lastFault r n) :=
  .ite (.of_fields rfl rfl) (.refl s)

theorem keepsIdle_recordOne (s : State) (src event reaction : Nat) (x : Site) :
    KeepsIdle s (s.recordOne src event reaction x) := by
  unfold State.recordOne
  dsimp only
  refine .after (.ite (State.reports_signal ..).keepsIdle (.refl _)) ?_
  refine .after (.ite (keepsIdle_ronoxSend ..) (.refl _)) ?_
  refine .after (.ite (keepsIdle_notify ..) (.refl _)) ?_
  refine .after (keepsIdle_lastFault ..) ?_
  exact .ite (.of_fields rfl rfl) (.of_fields rfl rfl)

/-- A channel-fatal fault acts on a channel that does work alone (R355). -/
theorem keepsIdle_chanFatal (s : State) (n : Nat) : KeepsIdle s (s.chanFatal n) := by
  unfold State.chanFatal
  dsimp only
  split
  next hworks =>
    refine ⟨rfl, fun m hidle => State.chan_setChan_other s n m _ ?_⟩
    rintro rfl
    simp only [Chan.working, Bool.or_eq_false_iff, decide_eq_false_iff_not] at hidle
    exact hworks.elim hidle.1 hidle.2
  next => exact .refl s

theorem keepsIdle_assertErr (s : State) : KeepsIdle s s.assertErr := .ite (.refl s) (.of_fields rfl rfl)

theorem keepsIdle_driveErr (s : State) : KeepsIdle s s.driveErr :=
  .ite (keepsIdle_assertErr s) (.ite (.of_fields rfl rfl) (.refl s))

theorem keepsIdle_deviceFatal (s : State) (r : FaultRecord) : KeepsIdle s (s.deviceFatal r) :=
  .after (keepsIdle_assertErr _) (.after (.each keepsIdle_chanFatal _ _) (.of_fields rfl rfl))

theorem keepsIdle_react (s : State) (code : Nat) (x : Site) : KeepsIdle s (s.react code x) := by
  unfold State.react
  split
  · split
    · exact .of_fields rfl rfl
    · exact .refl s
  · exact keepsIdle_chanFatal s _
  · split
    · exact keepsIdle_deviceFatal s _
    · exact .refl s
  · exact .refl s

theorem keepsIdle_recordAct (s : State) (src event code : Nat) (x : Site) : KeepsIdle s (s.recordAct src event code x) :=
  .after (keepsIdle_driveErr _) (.after (.ite (.refl _) (keepsIdle_react ..)) (keepsIdle_recordOne s src event _ x))

theorem keepsIdle_errEvent (s : State) (src : Nat) : KeepsIdle s (s.errEvent src) :=
  .ite (keepsIdle_assertErr s) (.refl s)

theorem keepsIdle_record (s : State) (src event code : Nat) (x : Site) : KeepsIdle s (s.record src event code x) := by
  unfold State.record State.wrapCheck
  exact .after (.ite (.after (keepsIdle_recordAct ..) (keepsIdle_errEvent ..)) (.refl _))
    (keepsIdle_recordAct s src event code x)

theorem keepsIdle_raise (s : State) (src : Nat) (x : Site) : KeepsIdle s (s.raise src x) := by
  unfold State.raise State.raiseWith
  split
  · exact .refl s
  · refine .ite (.refl s) (.ite (.after (keepsIdle_record ..) (keepsIdle_errEvent s src)) ?_)
    split
    · exact .of_fields rfl rfl
    · exact .after (keepsIdle_record ..) (.of_fields rfl rfl)

theorem keepsIdle_endFault (s : State) (src inst : Nat) : KeepsIdle s (s.endFault src inst) := by
  unfold State.endFault
  split
  · exact .refl s
  · exact .ite (.refl s) (.ite (.after (keepsIdle_record ..) (.of_fields rfl rfl)) (.of_fields rfl rfl))

/-! ### Buffers (R232 to R237) -/

theorem keepsIdle_poolLevel (s : State) : KeepsIdle s s.poolLevel := by
  unfold State.poolLevel
  exact .ite (.after (keepsIdle_raise ..) (.of_fields rfl rfl))
    (.ite (.after (keepsIdle_endFault ..) (.of_fields rfl rfl)) (.of_fields rfl rfl))

theorem keepsIdle_grantBuf (s : State) (chan use unit : Nat) : KeepsIdle s (s.grantBuf chan use unit) :=
  .after (State.reports_tick ..).keepsIdle (.of_fields rfl rfl)

theorem keepsIdle_serveWaiter (s : State) : KeepsIdle s s.serveWaiter := by
  unfold State.serveWaiter
  split
  · exact .refl s
  · refine .ite (.after (State.reports_tick ..).keepsIdle ?_) (.refl s)
    exact .after (keepsIdle_grantBuf ..) (.of_fields rfl rfl)

theorem keepsIdle_seenFree (s : State) :
    KeepsIdle s (if 0 < s.pool.free then { s with pool := { s.pool with seenFree := true } } else s) :=
  .ite (.of_fields rfl rfl) (.refl s)

theorem keepsIdle_returnBuf (s : State) (n : Nat) : KeepsIdle s (s.returnBuf n) := by
  unfold State.returnBuf
  refine .after (keepsIdle_poolLevel _) (.after (keepsIdle_seenFree _) ?_)
  refine .after (keepsIdle_serveWaiter _) (.after (State.reports_tick ..).keepsIdle ?_)
  exact .of_fields rfl rfl

theorem keepsIdle_badFree (s : State) (fault n : Nat) : KeepsIdle s (s.badFree fault n) :=
  .after (State.reports_tick ..).keepsIdle (keepsIdle_raise s fault _)

theorem keepsIdle_settleBuf (s : State) (n : Nat) (b : Buf) : KeepsIdle s (s.settleBuf n b) :=
  .ite (keepsIdle_returnBuf s n) (.of_fields rfl rfl)

theorem keepsIdle_freeBuf (s : State) (n owner : Nat) : KeepsIdle s (s.freeBuf n owner) := by
  unfold State.freeBuf
  split
  · exact keepsIdle_badFree s _ n
  · exact .ite (keepsIdle_badFree s _ n) (.ite (keepsIdle_badFree s _ n) (keepsIdle_settleBuf s n _))

theorem keepsIdle_releaseBuf (s : State) (n owner : Nat) : KeepsIdle s (s.releaseBuf n owner) := by
  unfold State.releaseBuf
  split
  · exact keepsIdle_badFree s _ n
  · exact .ite (keepsIdle_badFree s _ n) (.ite (keepsIdle_badFree s _ n)
      (.after (keepsIdle_settleBuf ..) (s.reports_tick ..).keepsIdle))

theorem keepsIdle_doneBuf (s : State) (n owner : Nat) : KeepsIdle s (s.doneBuf n owner) := by
  unfold State.doneBuf
  split
  · exact .ite (keepsIdle_freeBuf s n owner) (keepsIdle_releaseBuf s n owner)
  · exact .refl s

theorem keepsIdle_freeChanBufs (s : State) (ch : Nat) : KeepsIdle s (s.freeChanBufs ch) := by
  unfold State.freeChanBufs
  refine .after (.each (fun s n => ?_) _ _) (.of_fields rfl rfl)
  split
  · exact keepsIdle_freeBuf s n _
  · exact .refl s

/-! ### Clips, completions and frame buffers -/

theorem keepsIdle_clipsAbort (s : State) (ch : Nat) : KeepsIdle s (s.clipsAbort ch) := by
  unfold State.clipsAbort
  refine .after (.ite (.each (fun s m => ?_) _ _) (.refl _)) (.of_fields rfl rfl)
  exact .of_fields rfl rfl

theorem keepsIdle_completeHead (s : State) (n : Nat) (x : Done) : KeepsIdle s (s.completeHead n x) := by
  rcases hfetched : (s.ring n).fetched with _ | ⟨d, rest⟩
  · have hnone : s.completeHead n x = s := by simp only [State.completeHead, hfetched]
    rw [hnone]
    exact .refl s
  · exact .after (State.completeHead_reports x hfetched).keepsIdle (.of_fields rfl rfl)

theorem keepsIdle_inClosed (s : State) (ch n : Nat) : KeepsIdle s (s.inClosed ch n) :=
  .after (w := s.each (s.ring n).fetched _) (.of_fields rfl rfl) (.each (fun s _ => keepsIdle_completeHead s n _) s _)

theorem keepsIdle_closeFbs (s : State) (ch : Nat) : KeepsIdle s (s.closeFbs ch) := by
  refine .each (fun s b => ?_) s _
  exact .ite (.of_fields rfl rfl) (.of_fields rfl rfl)

theorem keepsIdle_takeFbs (s : State) (ch count granules : Nat) : KeepsIdle s (s.takeFbs ch count granules) := by
  refine .each (fun s _ => ?_) s _
  exact .of_fields rfl rfl

end Sys2Proof.Machine
end

section
/-! SUPPORT. The channel commands: OPEN, DRAIN and ABORT, and the end of a drain (R92 to R96, R172). -/

namespace Sys2Proof.Machine

/-! ### Closing (R94) -/

/-- What follows the new record of a channel that closes: its outputs' status, and the end of a fault. -/
theorem keepsIdle_outputsEnd (s : State) (ch : Nat) :
    KeepsIdle s ((s.each (List.range 4) (fun s k => s.setRo (derKey ch k K.CH_DERIVEDk_STATUS) 0)).endFault
      F.ARRAY_CHANNEL_MISMATCH ch) :=
  .after (keepsIdle_endFault ..) (.each (fun s _ => keepsIdle_setRo s _ 0) s _)

/-- All that a channel keeps as it closes. -/
theorem State.chan_closeChan (v : State) (ch : Nat) :
    (v.closeChan ch).chan ch = {
      state := .closed, owner := (v.chan ch).owner, luts := (v.chan ch).luts, roi := (v.chan ch).roi
      history := (v.chan ch).history, picCount := (v.chan ch).picCount, lastLate := (v.chan ch).lastLate
      lastOverrun := (v.chan ch).lastOverrun, lastLaunch := (v.chan ch).lastLaunch, lastDone := (v.chan ch).lastDone
      flagsKept := v.chanFlags ch } := by
  unfold State.closeChan
  refine ((keepsIdle_outputsEnd _ ch).idle ch ?_).trans (State.chan_setChan ..)
  rw [State.chan_setChan]
  rfl

/-! ### The boot's records under the commands (R399) -/

theorem State.boot_each {α : Type} {f : State → α → State} (h : ∀ s x, (f s x).boot = s.boot) (s : State) (l : List α) :
    (s.each l f).boot = s.boot := by
  induction l generalizing s with
  | nil => rfl
  | cons x l ih => exact (ih _).trans (h s x)

theorem State.boot_closeChan (s : State) (ch : Nat) : (s.closeChan ch).boot = s.boot := by
  unfold State.closeChan
  exact (keepsIdle_outputsEnd _ ch).boot.trans (keepsIdle_closeFbs s ch).boot

theorem State.boot_cbump (s : State) (ch k n : Nat) : (s.cbump ch k n).boot = s.boot := State.bump_boot ..

theorem State.boot_regrant (s : State) (k : UnitKind) (u : Nat) (g : Grant) :
    ((s.dropWaiting k g).giveGrant k u g).draws.boot = s.boot := rfl

theorem State.boot_serveGrants (s : State) (fuel : Nat) : (s.serveGrants fuel).boot = s.boot := by
  induction fuel generalizing s with
  | zero => rfl
  | succ n ih =>
    unfold State.serveGrants
    dsimp only
    split
    · rw [ih]
      split
      · rw [State.boot_cbump, State.tick_boot]
        exact State.boot_regrant ..
      · exact State.boot_regrant ..
    · rfl

theorem keepsIdle_dropWork (s : State) (ch : Nat) : KeepsIdle s (s.dropWork ch) := .of_fields rfl rfl

/-- The parts of an ABORT before the channel closes: its rings, its work and its buffers. -/
theorem State.boot_abortChan (s : State) (ch : Nat) : (s.abortChan ch false).boot = s.boot := by
  unfold State.abortChan
  refine (State.boot_serveGrants ..).trans ((State.boot_closeChan ..).trans ?_)
  refine (KeepsIdle.boot ?_ : _ = s.boot)
  refine .after (keepsIdle_clipsAbort ..) (.after (keepsIdle_freeChanBufs ..) ?_)
  refine .after (.each (fun s b => keepsIdle_doneBuf s b 4) _ _) (.after (keepsIdle_dropWork ..) ?_)
  refine .after (.each (fun s n => ?_) _ _) (.each (fun s n => keepsIdle_inClosed s ch n) s _)
  exact .of_fields rfl rfl

theorem State.boot_unlaunch (s : State) (ch : Nat) : (s.unlaunch ch).boot = s.boot := by
  unfold State.unlaunch
  dsimp only
  split <;> rfl

theorem State.boot_drainGop (s : State) (ch : Nat) : (s.drainGop ch).boot = s.boot := by
  unfold State.drainGop
  dsimp only
  split <;> rfl

theorem State.boot_unwait (s : State) (key : Nat) (before : Time) : (s.unwait key before).boot = s.boot := rfl

theorem State.boot_applyBefore (s : State) (key : Nat) (before : Time) : (s.applyBefore key before).boot = s.boot := by
  unfold State.applyBefore
  split <;> rfl

theorem State.boot_clipBoundary (s : State) (ch : Nat) (time : Time) : (s.clipBoundary ch time).boot = s.boot := by
  unfold State.clipBoundary
  dsimp only
  split
  · split <;> rfl
  · rfl
  · rfl

theorem State.boot_lutSwap (s : State) (ch obj : Nat) : (s.lutSwap ch obj).boot = s.boot := State.modChan_boot ..

theorem State.boot_applyAt (s : State) (ch key : Nat) (time before : Time) : (s.applyAt ch key time before).boot = s.boot := by
  rw [State.applyAt]
  split
  · exact (State.boot_unwait ..).trans (State.boot_lutSwap ..)
  · split
    · exact (State.boot_unwait ..).trans (State.modChan_boot ..)
    · split
      · exact (State.boot_unwait ..).trans (s.boot_clipBoundary ch time)
      · exact s.boot_applyBefore key before

theorem State.boot_applyEach (s : State) (ch : Nat) (keys : List Nat) (time before : Time) :
    (s.each keys (fun s k => s.applyAt ch k time before)).boot = s.boot := by
  induction keys generalizing s with
  | nil => rfl
  | cons k keys ih => rw [State.each, List.foldl_cons, ← State.each, ih, State.boot_applyAt]

theorem State.boot_applyWaiting (s : State) (ch : Nat) (time before : Time) :
    (s.applyWaiting ch time before).boot = s.boot := by
  rw [State.applyWaiting]
  split
  · rfl
  · exact (State.setRo_boot ..).trans ((State.boot_cbump ..).trans (State.boot_applyEach ..))

theorem State.boot_derCheck (s : State) (ch : Nat) (retake : Nat → Bool) : (s.derCheck ch retake).boot = s.boot := by
  unfold State.derCheck
  refine State.boot_each (fun s k => ?_) s (List.range 4)
  dsimp only
  split <;> rfl

theorem State.boot_joinFlows (s : State) (ch : Nat) : (s.joinFlows ch).boot = s.boot := by
  unfold State.joinFlows
  dsimp only
  split_ifs <;> rfl

theorem State.boot_listHeadRead (s : State) (ch fuel : Nat) : (s.listHeadRead ch fuel).boot = s.boot := by
  induction fuel generalizing s with
  | zero => rfl
  | succ n ih =>
    unfold State.listHeadRead
    dsimp only
    split
    · rfl
    · generalize (State.listRow s ch _ / 2 ^ 64 == 0 || _ : Bool) = bad
      cases bad with
      | true => exact (ih _).trans ((State.boot_cbump ..).trans (State.boot_cbump ..))
      | false => exact State.setChan_boot ..

theorem State.boot_clearStatus (s : State) (ch : Nat) : (s.clearStatus ch).boot = s.boot := rfl

theorem State.boot_takeFbs (s : State) (ch count granules : Nat) : (s.takeFbs ch count granules).boot = s.boot :=
  (keepsIdle_takeFbs s ch count granules).boot

/-- An OPEN changes the boot's records nowhere: neither by what it applies nor by what the channel takes. -/
theorem State.boot_openChan (s : State) (ch need : Nat) : (s.openChan ch need).boot = s.boot := by
  unfold State.openChan
  extract_lets load count granules space wide v f old new w arrays banks x y z z'
  have hv : v.boot = s.boot := (State.boot_clearStatus ..).trans (State.boot_applyWaiting ..)
  clear_value v
  have hx : x.boot = v.boot := rfl
  clear_value x
  have hy : y.boot = x.boot := (State.boot_derCheck ..).trans (State.boot_takeFbs ..)
  clear_value y
  have hz : z.boot = y.boot := (State.setRo_boot ..).trans (State.setRo_boot ..)
  clear_value z
  have hz' : z'.boot = z.boot := by
    unfold z'
    split
    · exact State.setRo_boot ..
    · rfl
  clear_value z'
  rw [State.boot_listHeadRead, State.boot_joinFlows, hz', hz, hy, hx, hv]

/-! ### A write of COMMAND (R92) -/

/-- COMMAND of CH_STATE. -/
def commandEntry : Entry := ⟨0, 1, 0x2, 1, .u8, .wo, 0, .imm, .any, false⟩

theorem chKey_command (ch : Nat) : chKey ch K.CH_STATE_COMMAND = keyOf (0x4000 + 0x40 * ch) 2 := by
  simp only [chKey, keyOf, K.CH_STATE_COMMAND]
  omega

theorem chanOf_chIdx (ch : Nat) : chanOf (0x4000 + 0x40 * ch) = ch := by
  unfold chanOf
  omega

theorem objOf_chIdx (ch : Nat) : objOf (0x4000 + 0x40 * ch) = 0 := by
  unfold objOf
  omega

theorem isChanIdx_chIdx {ch : Nat} (hch : ch < 256) : isChanIdx (0x4000 + 0x40 * ch) = true := by
  simp only [isChanIdx, Bool.and_eq_true, decide_eq_true_eq]
  omega

theorem chanPart_command {ch : Nat} : chanPart (keyOf (0x4000 + 0x40 * ch) 2) = K.CH_STATE_COMMAND := by
  simp only [chanPart, keyOf, K.CH_STATE_COMMAND]
  omega

theorem lookup_command {ch : Nat} (hch : ch < 256) : lookup (0x4000 + 0x40 * ch) 2 = .ok commandEntry := by
  have hplain : ¬ 0x4000 + 0x40 * ch < 0x4000 := by omega
  simp only [lookup, isChanIdx_chIdx hch, objOf_chIdx, hplain, decide_false, Bool.and_false, Bool.false_and, if_true]
  rfl

/-- COMMAND is not the data of a LUT. -/
theorem State.lutBusy_command (u : State) (ch : Nat) : u.lutBusy (keyOf (0x4000 + 0x40 * ch) 2) = false := by
  have hdata : isLutData (keyOf (0x4000 + 0x40 * ch) 2) = false := by
    rw [isLutData, chanPart_command]
    exact Bool.and_false _
  rw [State.lutBusy, hdata, Bool.false_and]

/-- No key of the device is COMMAND's. -/
theorem keyOf_command_ne {ch k : Nat} (hk : k < 0x400000) : keyOf (0x4000 + 0x40 * ch) 2 ≠ k := by
  unfold keyOf
  omega

/-- No other value refuses a write of COMMAND. -/
theorem State.writeRule_command (u : State) (r : Requester) (ch v : Nat) :
    u.writeRule r commandEntry (0x4000 + 0x40 * ch) 2 v = none := by
  have hmapping : isMapping (0x4000 + 0x40 * ch) 2 = false := by
    simp only [isMapping, Bool.and_eq_false_iff, Bool.or_eq_false_iff, decide_eq_false_iff_not]
    omega
  have hopen : ¬ (isChanIdx (0x4000 + 0x40 * ch) = true ∧ commandEntry.adm = true ∧
      (u.chan (chanOf (0x4000 + 0x40 * ch))).state ≠ .closed) := fun h => Bool.false_ne_true h.2.1
  have heq : ¬ 0x4000 + 0x40 * ch = 0x2A41 := by omega
  have hdma : ¬ 0x4000 + 0x40 * ch < 0x2740 := by omega
  have hfunc : ¬ 0x4000 + 0x40 * ch = 0x2057 := by omega
  simp (disch := decide) only [State.writeRule, hmapping, hopen, heq, hdma, hfunc, keyOf_command_ne, false_and, and_false,
    Bool.false_eq_true, if_false]

/-- A write of COMMAND by a requester with the right to it is the command. -/
theorem State.command_served {u : State} {r : Requester} {ch v : Nat} (hch : ch < 256) (hv : v < 256) (hP : u.Prompt)
    (hmay : u.MayAct r (chKey ch K.CH_STATE_COMMAND)) :
    ServedAs u (.next (u.code r (chKey ch K.CH_STATE_COMMAND) v))
      (fun w => acted2 r (chKey ch K.CH_STATE_COMMAND) (w.command ch v)) := by
  obtain ⟨hpresent, hright⟩ := hmay
  have hsub : 2 < 256 := by decide
  have hval : leNat (leBytes 1 v) = v := leNat_leBytes (by simpa using hv)
  rw [chKey_command] at hright ⊢
  simp only [State.code, State.keyWrite, State.freeWrite, acted2, keyOf_div hsub, keyOf_mod hsub] at hright ⊢
  refine State.write_served u r _ 2 (leBytes 1 v) _ commandEntry _ hP hpresent (lookup_command hch) (by decide) rfl ?_
    (u.lutBusy_command ch) fun w => ?_
  · exact State.writeCheck_ok (lookup_command hch) hright (by decide) rfl (Entry.check_any rfl (by decide) rfl)
      (State.writeRule_command ..)
  · simp only [State.writeEffect, commandEntry, isChanIdx_chIdx hch, if_true, State.chanAction, chanPart_command,
      chanOf_chIdx, hval]

/-! ### What each command does (R93, R94, R96) -/

/-- Where no patch waits, a command is carried out, and what it leaves without a patch stays as it is. -/
theorem State.command_unpatched {v : State} {ch n : Nat} (hpatch : v.boot.patch = none)
    (hkept : (v.chCommand ch n).2.boot = v.boot) : v.command ch n = v.chCommand ch n := by
  have hnone : (v.chCommand ch n).2.patchAll = (v.chCommand ch n).2 := by
    rw [State.patchAll, hkept, hpatch]
  unfold State.command
  rw [hpatch]
  split
  next hwaiting => cases hwaiting
  next => exact Prod.ext rfl hnone

/-- What an OPEN shows of its admission. -/
def State.showAdmission (v : State) (ch result need : Nat) : State :=
  (v.setRo (chKey ch K.CH_STATE_ADMIT_RESULT) result).setRo (chKey ch K.CH_STATE_BUF_NEED) need

theorem State.chOpen_admitted {v : State} {ch : Nat} (hclosed : (v.chan ch).state = .closed) (hadmit : v.admitResult ch = 0) :
    v.chOpen ch = (none, (v.showAdmission ch (v.admitResult ch) (v.bufNeed ch)).openChan ch (v.bufNeed ch)) := by
  simp only [State.chOpen, hclosed, hadmit, ne_eq, not_true_eq_false, if_false, if_true, State.showAdmission]

theorem State.chOpen_refused {v : State} {ch : Nat} (hclosed : (v.chan ch).state = .closed) (hadmit : v.admitResult ch ≠ 0) :
    v.chOpen ch = (some A.store, v.showAdmission ch (v.admitResult ch) (v.bufNeed ch)) := by
  simp only [State.chOpen, hclosed, hadmit, ne_eq, not_true_eq_false, if_false, State.showAdmission]

theorem State.chOpen_opened {v : State} {ch : Nat} (hopen : (v.chan ch).state ≠ .closed) : v.chOpen ch = (some A.state, v) :=
  if_pos hopen

theorem State.chDrain_open {v : State} {ch : Nat} (hopen : (v.chan ch).state = .open_) :
    v.chDrain ch = (none, ((v.unlaunch ch).modChan ch (fun c =>
      { c with state := .draining, listHead := none, sched := [] })).drainGop ch) :=
  if_neg (not_not.mpr hopen)

theorem State.chAbort_opened {v : State} {ch : Nat} (hopen : (v.chan ch).state ≠ .closed) :
    v.chAbort ch = (none, v.abortChan ch false) :=
  if_neg hopen

theorem State.boot_chOpen (v : State) (ch : Nat) : (v.chOpen ch).2.boot = v.boot := by
  unfold State.chOpen
  dsimp only
  split
  · rfl
  · split
    · exact (State.boot_openChan ..).trans ((State.setRo_boot ..).trans (State.setRo_boot ..))
    · exact (State.setRo_boot ..).trans (State.setRo_boot ..)

theorem State.boot_chDrain (v : State) (ch : Nat) : (v.chDrain ch).2.boot = v.boot := by
  unfold State.chDrain
  dsimp only
  split
  · rfl
  · exact (State.boot_drainGop ..).trans ((State.modChan_boot ..).trans (v.boot_unlaunch ch))

theorem State.boot_chAbort (v : State) (ch : Nat) : (v.chAbort ch).2.boot = v.boot := by
  unfold State.chAbort
  split
  · rfl
  · exact v.boot_abortChan ch

/-- Admission looks neither at the request queues nor at the count of open values. -/
theorem State.admitResult_served (u : State) (a : Access) (m ch : Nat) :
    State.admitResult { u with access := a, free := m } ch = u.admitResult ch := rfl

theorem State.bufNeed_served (u : State) (a : Access) (m ch : Nat) :
    State.bufNeed { u with access := a, free := m } ch = u.bufNeed ch := rfl

section
variable {u : State} {r : Requester} {ch n : Nat} {f : State → State} (hch : ch < 256) (hn : n < 256) (hP : u.Prompt)
  (hmay : u.MayAct r (chKey ch K.CH_STATE_COMMAND)) (hpatch : u.boot.patch = none)
  (hkept : ∀ v : State, (v.chCommand ch n).2.boot = v.boot)
include hch hn hP hmay hpatch hkept

/-- A command that leaves the boot's records is served as it comes, whatever it answers. -/
theorem State.code_served :
    ServedAs u (.next (u.code r (chKey ch K.CH_STATE_COMMAND) n))
      (fun v => acted2 r (chKey ch K.CH_STATE_COMMAND) (v.chCommand ch n)) :=
  (State.command_served hch hn hP hmay).congr fun a m => by
    rw [State.command_unpatched (v := { u with access := a, free := m }) hpatch (hkept _)]

theorem State.code_done (hdone : ∀ (a : Access) (m : Nat), State.chCommand { u with access := a, free := m } ch n =
      (none, f { u with access := a, free := m })) :
    ServedAs u (.next (u.code r (chKey ch K.CH_STATE_COMMAND) n)) f :=
  (State.code_served hch hn hP hmay hpatch hkept).congr fun a m => by rw [hdone, acted2]

theorem State.code_refused {c : Abort} (hrefused : ∀ (a : Access) (m : Nat),
      State.chCommand { u with access := a, free := m } ch n = (some c, f { u with access := a, free := m })) :
    ServedAs u (.next (u.code r (chKey ch K.CH_STATE_COMMAND) n))
      (fun v => (f v).accessError r c (chKey ch K.CH_STATE_COMMAND / 256) (chKey ch K.CH_STATE_COMMAND % 256)) :=
  (State.code_served hch hn hP hmay hpatch hkept).congr fun a m => by rw [hrefused, acted2]

end

section
variable {s : State} {t : Time} {r : Requester} {ch : Nat} (hruns : s.runs t) (hr : r.place < 256) (hch : ch < 256)
include hruns hr hch

theorem exec_channelOpen :
    exec (.channelOpen t r ch) s = .next ((s.now t).code r (chKey ch K.CH_STATE_COMMAND) 1) := by
  show execChannelOpen t r ch s = _
  rw [execChannelOpen, inRange_of hr, inRange_of hch, live_runs hruns]

theorem exec_channelDrain :
    exec (.channelDrain t r ch) s = .next ((s.now t).code r (chKey ch K.CH_STATE_COMMAND) 2) := by
  show execChannelDrain t r ch s = _
  rw [execChannelDrain, inRange_of hr, inRange_of hch, live_runs hruns]

theorem exec_channelAbort :
    exec (.channelAbort t r ch) s = .next ((s.now t).code r (chKey ch K.CH_STATE_COMMAND) 3) := by
  show execChannelAbort t r ch s = _
  rw [execChannelAbort, inRange_of hr, inRange_of hch, live_runs hruns]

end

section
variable {s : State} {t : Time} {ch : Nat} (hruns : s.runs t) (hch : ch < 256) (hdrained : (s.now t).drained ch = true)
  (hworks : (s.now t).coreWorks 2 = true)
include hruns hch hdrained hworks

/-- A drained channel that owes no end of sequence closes (R93). -/
theorem exec_channelDrainComplete_closes (howed : (s.now t).endOwed ch = none) :
    exec (.channelDrainComplete t ch) s = .next (((s.now t).closeChan ch).serveEngines) := by
  show execChannelDrainComplete t ch s = _
  rw [execChannelDrainComplete, inRange_of hch, live_runs hruns]
  simp only [hdrained, hworks, howed, Bool.and_self, if_true]

/-- One that owes one sends it first (R172). -/
theorem exec_channelDrainComplete_ends {stream : Nat} (howed : (s.now t).endOwed ch = some stream) :
    exec (.channelDrainComplete t ch) s = .next ((s.now t).sendEnd ch stream) := by
  show execChannelDrainComplete t ch s = _
  rw [execChannelDrainComplete, inRange_of hch, live_runs hruns]
  simp only [hdrained, hworks, howed, Bool.and_self, if_true]

end

section
variable {u : State} {r : Requester} {ch : Nat} (hch : ch < 256) (hP : u.Prompt)
  (hmay : u.MayAct r (chKey ch K.CH_STATE_COMMAND)) (hpatch : u.boot.patch = none)
include hch hP hmay hpatch

theorem State.open_admitted (hclosed : (u.chan ch).state = .closed) (hadmit : u.admitResult ch = 0) :
    ServedAs u (.next (u.code r (chKey ch K.CH_STATE_COMMAND) 1))
      (fun v => (v.showAdmission ch (u.admitResult ch) (u.bufNeed ch)).openChan ch (u.bufNeed ch)) := by
  refine State.code_done (n := 1) hch (by decide) hP hmay hpatch (fun v => v.boot_chOpen ch) fun a m => ?_
  rw [← u.admitResult_served a m, ← u.bufNeed_served a m]
  exact State.chOpen_admitted hclosed hadmit

theorem State.open_refused (hclosed : (u.chan ch).state = .closed) (hadmit : u.admitResult ch ≠ 0) :
    ServedAs u (.next (u.code r (chKey ch K.CH_STATE_COMMAND) 1))
      (fun v => (v.showAdmission ch (u.admitResult ch) (u.bufNeed ch)).accessError r A.store
        (chKey ch K.CH_STATE_COMMAND / 256) (chKey ch K.CH_STATE_COMMAND % 256)) := by
  refine State.code_refused (n := 1) hch (by decide) hP hmay hpatch (fun v => v.boot_chOpen ch) fun a m => ?_
  rw [← u.admitResult_served a m, ← u.bufNeed_served a m]
  exact State.chOpen_refused hclosed hadmit

theorem State.open_opened (hopen : (u.chan ch).state ≠ .closed) :
    ServedAs u (.next (u.code r (chKey ch K.CH_STATE_COMMAND) 1))
      (fun v => v.accessError r A.state (chKey ch K.CH_STATE_COMMAND / 256) (chKey ch K.CH_STATE_COMMAND % 256)) :=
  State.code_refused (n := 1) (f := id) hch (by decide) hP hmay hpatch (fun v => v.boot_chOpen ch) fun _ _ =>
    State.chOpen_opened hopen

theorem State.drain_open (hopen : (u.chan ch).state = .open_) :
    ServedAs u (.next (u.code r (chKey ch K.CH_STATE_COMMAND) 2)) (fun v =>
      ((v.unlaunch ch).modChan ch (fun c => { c with state := .draining, listHead := none, sched := [] })).drainGop ch) :=
  State.code_done hch (by decide) hP hmay hpatch (fun v => v.boot_chDrain ch) fun _ _ => State.chDrain_open hopen

theorem State.abort_opened (hopen : (u.chan ch).state ≠ .closed) :
    ServedAs u (.next (u.code r (chKey ch K.CH_STATE_COMMAND) 3)) (fun v => v.abortChan ch false) :=
  State.code_done hch (by decide) hP hmay hpatch (fun v => v.boot_chAbort ch) fun _ _ => State.chAbort_opened hopen

end

/-- Settles O25: each command is a write of COMMAND, which is served as it comes with the command's effect; none of them
brings a patch, and a channel that closes is left CLOSED by what follows. -/
theorem channelCommands : Obligations.ChannelCommands := by
  unfold Obligations.ChannelCommands
  refine ⟨?_, fun v ch => ?_, fun v ch hlast => if_pos hlast, fun s t ch hch hruns hdrained hworks => ?_⟩
  · intro s t r ch hch hruns u key hP hmay hpatch
    have hr := hmay.1.1
    rw [exec_channelOpen hruns hr hch, exec_channelDrain hruns hr hch, exec_channelAbort hruns hr hch]
    exact ⟨fun hclosed => ⟨State.open_admitted hch hP hmay hpatch hclosed, State.open_refused hch hP hmay hpatch hclosed⟩,
      State.open_opened hch hP hmay hpatch, State.drain_open hch hP hmay hpatch, State.abort_opened hch hP hmay hpatch⟩
  · rw [State.chan_closeChan]
    exact ⟨rfl, rfl⟩
  · exact ⟨exec_channelDrainComplete_closes hruns hch hdrained hworks,
      fun _ => exec_channelDrainComplete_ends hruns hch hdrained hworks⟩

end Sys2Proof.Machine
end

section
/-! SUPPORT. Events on an ingest port: its link, its flits and its credit (R117 to R120). -/

namespace Sys2Proof.Machine

/-! ### The port's record -/

@[simp] theorem State.ingest_setIngest (s : State) (quad : Nat) (p : IngestPort) : (s.setIngest quad p).ingest quad = p := by
  simp [State.ingest, State.setIngest]

/-- Counting leaves the ports' records. -/
@[simp] theorem State.ingest_ingestTick (s : State) (quad key n q : Nat) : (s.ingestTick quad key n).ingest q = s.ingest q := rfl

/-- The channel that a port feeds is not chosen by what the port's record holds (R114). -/
@[simp] theorem State.ingestChan_setIngest (s : State) (quad : Nat) (p : IngestPort) (q : Nat) :
    (s.setIngest quad p).ingestChan q = s.ingestChan q := rfl

/-- A spoiled line stays in progress, no longer whole (R118). -/
theorem State.line_spoilLine (s : State) (quad : Nat) :
    ((s.spoilLine quad).ingest quad).line = (s.ingest quad).line.map (fun l => (l.1, false)) := by
  rw [State.spoilLine, State.ingest_setIngest]

/-- A flit whose FLIT_SEQ follows the last one's is counted, and nothing is lost (R117). -/
theorem State.flitSeq_follows {u : State} {quad seq : Nat}
    (hlast : (u.ingest quad).lastSeq = some ((seq + 2 ^ 32 - 1) % 2 ^ 32)) (hseq : seq < 2 ^ 32) :
    u.flitSeq quad seq =
      (u.ingestTick quad K.INGEST_COUNTERS_FLITS 1).setIngest quad { u.ingest quad with lastSeq := some seq } := by
  have hnext : ((seq + 2 ^ 32 - 1) % 2 ^ 32 + 1) % 2 ^ 32 = seq := by omega
  simp only [State.flitSeq, hlast, hnext, ne_eq, not_true_eq_false, if_false]

/-! ### Changes of the channel fed -/

/-- A change at a port that feeds no channel. -/
theorem State.withIngest_none {v : State} {quad : Nat} (h : v.ingestChan quad = none) (g : State → State) :
    v.withIngest quad g = g v := by
  simp only [State.withIngest, h]

/-- A change at a port that feeds a channel, which is then settled. -/
theorem State.withIngest_some {v : State} {quad ch : Nat} (h : v.ingestChan quad = some ch) (g : State → State) :
    v.withIngest quad g = (g v).settle ch (decide (v.anyBegun ch < (g v).anyBegun ch)) := by
  simp only [State.withIngest, h]

/-! ### Link -/

section
variable {s : State} {t : Time} {quad : Nat} (hruns : s.runs t) (hquad : quad < 6)
include hruns hquad

/-- The link of an INGEST port comes up where no channel takes its frames (R119). -/
theorem exec_ingestLinkUp_unfed (hrole : (s.now t).role quad = 0x40) (hchan : (s.now t).ingestChan quad = none) :
    exec (.ingestLinkUp t quad) s = .next
      ((((s.now t).setIngest quad { up := true, creditTotal := 8192 }).endFault F.INGEST_LINK_DOWN quad).sendIngestCredit
        quad) := by
  show execIngestLinkUp t quad s = _
  rw [execIngestLinkUp, inRange_of hquad, live_runs hruns]
  simp only [hrole, ne_eq, not_true_eq_false, if_false, State.ingestChan_setIngest, hchan]

/-- Where a channel takes them, the frames that it closed before are forgotten. -/
theorem exec_ingestLinkUp_fed (hrole : (s.now t).role quad = 0x40) {ch : Nat} (hchan : (s.now t).ingestChan quad = some ch) :
    exec (.ingestLinkUp t quad) s = .next
      (((((s.now t).setIngest quad { up := true, creditTotal := 8192 }).modChan ch
        (fun c => { c with closedCounts := [] })).endFault F.INGEST_LINK_DOWN quad).sendIngestCredit quad) := by
  show execIngestLinkUp t quad s = _
  rw [execIngestLinkUp, inRange_of hquad, live_runs hruns]
  simp only [hrole, ne_eq, not_true_eq_false, if_false, State.ingestChan_setIngest, hchan]

end

/-- The state in which a port's link has gone down and the fault is raised (R120). -/
def State.linkLost (u : State) (quad : Nat) : State :=
  (u.setIngest quad { u.ingest quad with up := false, line := none }).raise F.INGEST_LINK_DOWN { inst := quad, detail := [quad] }

section
variable {s : State} {t : Time} {quad : Nat} (hruns : s.runs t) (hquad : quad < 6) (hup : (s.now t).ingestUp quad = true)
include hruns hquad hup

/-- The link of a port that feeds no channel goes down. -/
theorem exec_ingestLinkDown_unfed (hchan : ((s.now t).linkLost quad).ingestChan quad = none) :
    exec (.ingestLinkDown t quad) s = .next ((s.now t).linkLost quad) := by
  show execIngestLinkDown t quad s = _
  rw [execIngestLinkDown, inRange_of hquad, live_runs hruns]
  simp only [hup, Bool.not_true, Bool.false_eq_true, if_false]
  rw [← State.linkLost, State.withIngest_none hchan, hchan]

/-- The link of a port that feeds a channel goes down, and the channel's open frame closes. -/
theorem exec_ingestLinkDown_fed {ch : Nat} (hchan : ((s.now t).linkLost quad).ingestChan quad = some ch) :
    exec (.ingestLinkDown t quad) s = .next ((((s.now t).linkLost quad).closeOpen ch).settle ch
      (decide (((s.now t).linkLost quad).anyBegun ch < (((s.now t).linkLost quad).closeOpen ch).anyBegun ch))) := by
  show execIngestLinkDown t quad s = _
  rw [execIngestLinkDown, inRange_of hquad, live_runs hruns]
  simp only [hup, Bool.not_true, Bool.false_eq_true, if_false]
  rw [← State.linkLost, State.withIngest_some hchan, hchan]

/-! ### Flits and credit -/

/-- A flit that fails CHECK is counted and discarded (R117). -/
theorem exec_ingestFlitCheckFail : exec (.ingestFlitCheckFail t quad) s = .next
    (((s.now t).ingestTick quad K.INGEST_COUNTERS_FLITS 1).ingestTick quad K.INGEST_COUNTERS_CHECK_DROPS 1) := by
  show execIngestFlitCheckFail t quad s = _
  rw [execIngestFlitCheckFail, inRange_of hquad, live_runs hruns, if_pos hup]

/-- A flit of no TYPE of a sender's is discarded, and the line it falls into is lost (R118). -/
theorem exec_ingestFlitUnknownType {type : Nat} (seq : Nat) (htype : ¬ (0x40 ≤ type ∧ type ≤ 0x43)) :
    exec (.ingestFlitUnknownType t quad type seq) s = .next
      ((((s.now t).flitSeq quad seq).spoilLine quad).ingestTick quad K.INGEST_COUNTERS_DISCARDS 1) := by
  have hunknown : (decide (0x40 ≤ type) && decide (type ≤ 0x43)) = false := by
    rw [← Bool.decide_and, decide_eq_false htype]
  show execIngestFlitUnknownType t quad type seq s = _
  rw [execIngestFlitUnknownType, inRange_of hquad, live_runs hruns]
  simp only [hup, hunknown, Bool.not_false, Bool.and_self, if_true]

/-- An IDLE flit is a flit of its FLIT_SEQ, without credit. -/
theorem exec_ingestIdle (seq : Nat) : exec (.ingestIdle t quad seq) s = .next ((s.now t).flitSeq quad seq) := by
  show execIngestIdle t quad seq s = _
  rw [execIngestIdle, inRange_of hquad, live_runs hruns, if_pos hup]

/-- CREDIT_TOTAL rises by the flits that left the line buffer, never by more than it holds (R119). -/
theorem exec_ingestCreditSend (drained : Nat) :
    let p := (s.now t).ingest quad
    exec (.ingestCreditSend t quad drained) s = .next (((s.now t).setIngest quad { p with
      creditTotal := (p.creditTotal + min drained ((p.credited + 8192 + 2 ^ 32 - p.creditTotal) % 2 ^ 32)) % 2 ^ 32
      }).sendIngestCredit quad) := by
  intro p
  show execIngestCreditSend t quad drained s = _
  rw [execIngestCreditSend, inRange_of hquad, live_runs hruns, hup]
  rfl

end

/-- Settles O29: each event of a port has one effect, by whether the port feeds a channel. -/
theorem ingestPorts : Obligations.IngestPorts := by
  unfold Obligations.IngestPorts
  intro s t quad hquad hruns u
  refine ⟨fun hrole => ⟨exec_ingestLinkUp_unfed hruns hquad hrole, fun _ => exec_ingestLinkUp_fed hruns hquad hrole⟩,
    fun hup => ⟨⟨exec_ingestLinkDown_unfed hruns hquad hup, fun _ => exec_ingestLinkDown_fed hruns hquad hup⟩,
      exec_ingestFlitCheckFail hruns hquad hup, fun _ seq => exec_ingestFlitUnknownType hruns hquad hup seq,
      fun v => v.line_spoilLine quad, exec_ingestIdle hruns hquad hup, fun _ => State.flitSeq_follows,
      exec_ingestCreditSend hruns hquad hup⟩⟩

end Sys2Proof.Machine
end

section
/-! SUPPORT. Lines of a frame on every path, the end of frames, and the derived outputs of an accepted frame (R118, R121 to
R124, R129, R139, R230, R288). -/

namespace Sys2Proof.Machine

/-! ### Ingest flits within credit (R118, R119, R124) -/

/-- What a LINE_START of a frame does at its port and its channel: the line is discarded, is in progress, or is whole. -/
def State.startLine (v : State) (quad ch : Nat) (h : LineHead) : State :=
  let x := v.lineFrame ch h.frameCount h.capture
  let a := x.2.setIngest quad { x.2.ingest quad with line := none }
  let b := a.setIngest quad { a.ingest quad with line := some (h, true) }
  if x.1 then (if h.last then b.lineDone quad else b) else a.discardLine quad

section
variable {v : State} {quad ch : Nat} {h : LineHead}

/-- A line that no frame takes is discarded. -/
theorem State.startLine_refused (htaken : (v.lineFrame ch h.frameCount h.capture).1 = false) :
    let w := (v.lineFrame ch h.frameCount h.capture).2
    v.startLine quad ch h = (w.setIngest quad { w.ingest quad with line := none }).discardLine quad := by
  simp only [State.startLine, htaken, Bool.false_eq_true, if_false]

/-- A line that a frame takes is in progress. -/
theorem State.startLine_begins (htaken : (v.lineFrame ch h.frameCount h.capture).1 = true) (hlast : h.last = false) :
    let w := (v.lineFrame ch h.frameCount h.capture).2
    let a := w.setIngest quad { w.ingest quad with line := none }
    v.startLine quad ch h = a.setIngest quad { a.ingest quad with line := some (h, true) } := by
  simp only [State.startLine, htaken, hlast, Bool.false_eq_true, if_false, if_true]

/-- A line of one flit is whole with it. -/
theorem State.startLine_whole (htaken : (v.lineFrame ch h.frameCount h.capture).1 = true) (hlast : h.last = true) :
    let w := (v.lineFrame ch h.frameCount h.capture).2
    let a := w.setIngest quad { w.ingest quad with line := none }
    v.startLine quad ch h = (a.setIngest quad { a.ingest quad with line := some (h, true) }).lineDone quad := by
  simp only [State.startLine, htaken, hlast, if_true]

end

/-- The bytes of a LINE_DATA go to the line in progress. -/
def State.growLine (v : State) (quad : Nat) (h : LineHead) (whole : Bool) (data : List Byte) : State :=
  v.setIngest quad { v.ingest quad with line := some ({ h with data := h.data ++ data }, whole) }

/-- An answer that is yes, with the state that it leaves. -/
theorem yes_pair {x : Bool × State} (hyes : x.1 = true) : x = (true, x.2) := Prod.ext hyes rfl

/-- A port in service takes flits. -/
theorem State.takesFlits {u : State} {quad : Nat} (hup : u.ingestUp quad = true) (hfatal : u.fatal = false) :
    ¬ (!u.ingestUp quad || u.fatal) = true := by
  simp [hup, hfatal]

section
variable {s v : State} {t : Time} {quad seq : Nat} (hruns : s.runs t) (hquad : quad < 6) (hfatal : (s.now t).fatal = false)
  (hup : (s.now t).ingestUp quad = true) (hcredit : ((s.now t).flitSeq quad seq).flitCredit quad = (true, v))
include hruns hquad hfatal hup hcredit

/-- A LINE_START within credit reaches the channel that its port feeds, which is settled. -/
theorem exec_lineStart_fed {w : State} {h : LineHead} {ch : Nat} (hseq : h.seq = seq) (hchan : v.ingestChan quad = some ch)
    (hstart : v.startLine quad ch h = w) :
    exec (.lineStart t quad h) s = .next (w.settle ch (decide (v.anyBegun ch < w.anyBegun ch))) := by
  subst hseq hstart
  show execLineStart t quad h s = _
  rw [execLineStart, inRange_of hquad, live_runs hruns, if_neg (State.takesFlits hup hfatal), hcredit]
  simp only [Bool.not_true, Bool.false_eq_true, if_false, hchan, State.withIngest_some hchan]
  rcases hframe : v.lineFrame ch h.frameCount h.capture with ⟨taken, w⟩
  cases taken <;> simp [State.startLine, hframe]

/-- Its line is discarded where no frame takes it, and otherwise in progress, or whole where the flit is its last. -/
theorem exec_lineStart_cases {h : LineHead} {ch : Nat} (hseq : h.seq = seq) (hchan : v.ingestChan quad = some ch) :
    let x := v.lineFrame ch h.frameCount h.capture
    let a := x.2.setIngest quad { x.2.ingest quad with line := none }
    let b := a.setIngest quad { a.ingest quad with line := some (h, true) }
    let settled (w : State) : State := w.settle ch (decide (v.anyBegun ch < w.anyBegun ch))
    (x.1 = false → exec (.lineStart t quad h) s = .next (settled (a.discardLine quad))) ∧
    (x.1 = true → h.last = false → exec (.lineStart t quad h) s = .next (settled b)) ∧
    (x.1 = true → h.last = true → exec (.lineStart t quad h) s = .next (settled (b.lineDone quad))) := by
  intro x a b settled
  have hfed := fun w => exec_lineStart_fed (w := w) hruns hquad hfatal hup hcredit hseq hchan
  exact ⟨fun hx => hfed _ (State.startLine_refused hx), fun hx hlast => hfed _ (State.startLine_begins hx hlast),
    fun hx hlast => hfed _ (State.startLine_whole hx hlast)⟩

/-- A LINE_DATA within credit adds its bytes to the line in progress, and the last one ends the line. -/
theorem exec_lineData_inLine {h : LineHead} {whole : Bool} (last : Bool) (data : List Byte)
    (hline : (v.ingest quad).line = some (h, whole)) :
    exec (.lineData t quad last seq data) s = .next (v.withIngest quad (fun w =>
      if last then (w.growLine quad h whole data).lineDone quad else w.growLine quad h whole data)) := by
  show execLineData t quad last seq data s = _
  rw [execLineData, inRange_of hquad, live_runs hruns, if_neg (State.takesFlits hup hfatal), hcredit]
  simp only [Bool.not_true, Bool.false_eq_true, if_false, hline]
  rfl

/-- A FRAME_END within credit closes the open frame of its FRAME_COUNT. -/
theorem exec_frameEnd_open {fc n ch : Nat} (hn : n < 65536)
    (hchan : (v.setIngest quad { v.ingest quad with line := none }).ingestChan quad = some ch)
    (hopen : ((v.setIngest quad { v.ingest quad with line := none }).chan ch).openCount = some fc) :
    exec (.frameEnd t quad seq fc n) s = .next
      ((v.setIngest quad { v.ingest quad with line := none }).withIngest quad (fun w => w.closeOpen ch)) := by
  show execFrameEnd t quad seq fc n s = _
  rw [execFrameEnd, inRange_of hquad, inRange_of hn, live_runs hruns, if_neg (State.takesFlits hup hfatal), hcredit]
  simp only [Bool.not_true, Bool.false_eq_true, if_false, hchan, hopen, if_true]

end

/-! ### The end of a frame at FRAME_TIMEOUT (R124) -/

/-- The frame that a channel has open, one being absorbed included, closes FRAME_TIMEOUT after its first line. -/
theorem exec_frameTimeout_due {s : State} {t opened : Time} {ch : Nat} (hruns : s.runs t) (hch : ch < 256)
    (hworking : ((s.now t).chan ch).working = true)
    (hopen : (∃ x : Frame, ((s.now t).chan ch).openFrame = some x ∧ x.opened = opened) ∨
      (((s.now t).chan ch).openFrame = none ∧ ∃ fc ks, ((s.now t).chan ch).absorbing = some (fc, opened, ks)))
    (hdue : opened + (s.now t).frameTimeoutNs ch ≤ (s.now t).time) :
    exec (.frameTimeout t ch) s = .next (((s.now t).closeOpen ch).settle ch
      (decide ((s.now t).anyBegun ch < ((s.now t).closeOpen ch).anyBegun ch))) := by
  show execFrameTimeout t ch s = _
  rw [execFrameTimeout, inRange_of hch, live_runs hruns]
  rcases hopen with ⟨x, hx, rfl⟩ | ⟨hnone, fc, ks, habsorbing⟩
  · simp only [hx, hworking, hdue, decide_true, Bool.and_self, if_true]
  · simp only [hnone, habsorbing, Option.map_some, hworking, hdue, decide_true, Bool.and_self, if_true]

/-! ### ST 2110-20 packets (R121 to R123) -/

/-- The rows of a packet enter the frame, which its marker closes. -/
def State.enterPacket (b : State) (ch : Nat) (p : St2110) (x : Frame) : State :=
  let c := b.each p.rows (fun v r => v.takeRow ch x.seq r.1 r.2.1 r.2.2)
  if p.marker then c.closeOpen ch else c

/-- A packet that is kept and that has an open frame enters it. -/
theorem exec_st2110Packet_kept {s a b : State} {t : Time} {ch : Nat} {p : St2110} {x : Frame} (hruns : s.runs t)
    (hch : ch < 256) (hfatal : (s.now t).fatal = false) (hworking : ((s.now t).chan ch).working = true)
    (hkind : (s.now t).cv ch K.CH_SOURCE_KIND = 2) (hencode : (s.now t).cv ch K.CH_DECODE_DIRECTION = 0)
    (hkept : (s.now t).meterPacket ch p.bytes = (true, a)) (hframe : a.rtpFrame ch p.rtpTime = (true, b))
    (hopen : (b.chan ch).openFrame = some x) :
    exec (.st2110Packet t ch p) s = .next ((b.enterPacket ch p x).settle ch
      (decide (a.anyBegun ch < (b.enterPacket ch p x).anyBegun ch))) := by
  show execSt2110Packet t ch p s = _
  rw [execSt2110Packet, inRange_of hch, live_runs hruns, if_neg (by simp [hfatal, hworking, hkind, hencode]), hkept]
  simp only [Bool.not_true, Bool.false_eq_true, if_false, hframe, hopen]
  rfl

/-- A flow without a meter keeps a packet where its bytes fit the buffer (R122). -/
theorem State.meterPacket_unmetered {v : State} {ch : Nat} (bytes : Nat) (hnone : 1024 ≤ v.cv ch K.CH_SOURCE_METER) :
    v.meterPacket ch bytes = (decide ((v.chan ch).flowFill + bytes ≤ v.cv ch K.CH_SOURCE_BUF_BYTES), v) := by
  simp only [State.meterPacket, if_pos hnone]

theorem countStep_self (n : Nat) : countStep n n = 0 := by
  unfold countStep
  omega

/-- A packet of the last one's timestamp belongs to the frame that is open (R123). -/
theorem State.rtpFrame_same {v : State} {ch ts : Nat} (hlast : (v.chan ch).lastRtp = some ts)
    (hopen : (v.chan ch).openCount.isSome = true) : v.rtpFrame ch ts = (true, v) := by
  simp only [State.rtpFrame, hlast, countStep_self, hopen, if_true]

/-! ### Tile hand-over (R288) -/

/-- Rows handed over, or lost by their sender, enter a working array channel, and a frame without an instant of capture takes
that of the hand-over. -/
theorem exec_tileHandover_member {s : State} {t : Time} {from_ ch fc : Nat} {dropped : Bool} {lines : List (Nat × List Byte)}
    {capture : Time} (hruns : s.runs t) (hfrom : from_ < 8) (hch : ch < 256) (harray : (s.now t).inArray = true)
    (hworking : ((s.now t).chan ch).working = true) (hfmt : ((s.now t).fmt ch).array = true) :
    exec (.tileHandover t from_ ch fc dropped lines capture) s = .next
      (((if dropped then (s.now t).loseHanded ch fc from_ else (s.now t).takeHanded ch fc lines).modChan ch (fun c =>
        { c with frames := c.frames.map (fun x =>
          if x.frameCount = fc ∧ x.capture = 0 then { x with capture := capture } else x) })).settle ch false) := by
  show execTileHandover t from_ ch fc dropped lines capture s = _
  rw [execTileHandover, inRange_of hfrom, inRange_of hch, live_runs hruns]
  simp only [harray, hworking, hfmt, Bool.not_true, Bool.or_self, Bool.false_eq_true, if_false]

/-! ### Derived outputs (R129, R139, R230) -/

/-- An output is due with the frame: it is being made, and the frame is one in FRAME_DIV. -/
def State.outputDue (u a : State) (ch k : Nat) : Bool :=
  (a.ro (derKey ch k K.CH_DERIVEDk_STATUS) == 1 || a.ro (derKey ch k K.CH_DERIVEDk_STATUS) == 2) &&
    (u.chan ch).derivedSeen % max 1 (a.der ch k K.CH_DERIVEDk_FRAME_DIV) == 0

/-- The bytes of an output: those of the source over an exact link (R230). -/
def State.outputBytes (a : State) (ch : Nat) (x : Frame) (k : Nat) : List Byte :=
  if a.exactLink (a.frameFmt ch x) ch k (a.imageOf ch x (12 + k)) then x.bytes (a.frameFmt ch x)
  else a.derivedBytes ch k (a.frameFmt ch x) x

/-- An output that is due goes to the channel that takes it. -/
def State.giveOutput (u : State) (ch : Nat) (x : Frame) (a : State) (k : Nat) : State :=
  match a.derivedConsumer ch k with
  | some d => if u.outputDue a ch k then a.wholeFrame d (a.outputBytes ch x k) x.capture [] else a
  | none => a

/-- An output is not due where it is not being made, or its turn has not come. -/
theorem State.outputDue_eq_false_iff (u a : State) (ch k : Nat) :
    u.outputDue a ch k = false ↔
      (a.ro (derKey ch k K.CH_DERIVEDk_STATUS) ≠ 1 ∧ a.ro (derKey ch k K.CH_DERIVEDk_STATUS) ≠ 2) ∨
        (!decide ((u.chan ch).derivedSeen % max 1 (a.der ch k K.CH_DERIVEDk_FRAME_DIV) = 0)) = true := by
  simp only [State.outputDue, Bool.and_eq_false_iff, Bool.or_eq_false_iff, beq_eq_false_iff_ne, Bool.not_eq_true',
    decide_eq_false_iff_not, ne_eq]

/-- The unit marks the oldest accepted frame of the FRAME_COUNT as made, counts it, and gives each output out. -/
theorem exec_derivedPicturesMade_found {s : State} {t : Time} {ch fc : Nat} {x : Frame} (hruns : s.runs t) (hch : ch < 256)
    (hfound : ((s.now t).chan ch).frames.find? (fun x => x.frameCount == fc && x.accepted && !x.derived) = some x) :
    exec (.derivedPicturesMade t ch fc) s = .next
      (((((s.now t).modChan ch (fun c => { c with derivedSeen := c.derivedSeen + 1 })).modFrame ch x.seq
        (fun x => { x with derived := true })).each (List.range 4) ((s.now t).giveOutput ch x)).tryRelease ch x.seq) := by
  show execDerivedPicturesMade t ch fc s = _
  rw [execDerivedPicturesMade, inRange_of hch, live_runs hruns]
  simp only [hfound]
  congr 3
  funext a k
  cases hdue : (s.now t).outputDue a ch k with
  | false =>
    rw [if_pos ((State.outputDue_eq_false_iff ..).mp hdue), State.giveOutput, hdue]
    cases a.derivedConsumer ch k <;> rfl
  | true =>
    rw [if_neg fun h => Bool.false_ne_true (((State.outputDue_eq_false_iff ..).mpr h).symm.trans hdue), State.giveOutput, hdue]
    cases a.derivedConsumer ch k <;> rfl

/-- Settles O30: each arrival at a channel has one effect, by what the state holds of its frame. -/
theorem framesArrive : Obligations.FramesArrive := by
  unfold Obligations.FramesArrive
  refine ⟨?_, fun v ch bytes => State.meterPacket_unmetered bytes, fun v ch ts _ => State.rtpFrame_same,
    fun s t ch fc x hch hruns => exec_derivedPicturesMade_found hruns hch⟩
  intro s t hruns u hfatal
  refine ⟨?_, fun ch opened hch => exec_frameTimeout_due hruns hch, ?_,
    fun from_ ch fc dropped lines capture => exec_tileHandover_member hruns⟩
  · intro quad seq hquad hup hwithin v
    have hcredit : (u.flitSeq quad seq).flitCredit quad = (true, v) := yes_pair hwithin
    refine ⟨fun h hseq ch => exec_lineStart_cases hruns hquad hfatal hup hcredit hseq, fun data h whole hline => ?_,
      fun data h whole hline => ?_, fun fc n ch => exec_frameEnd_open hruns hquad hfatal hup hcredit⟩
    · rw [exec_lineData_inLine hruns hquad hfatal hup hcredit true data hline]
      simp only [if_true, State.growLine]
    · rw [exec_lineData_inLine hruns hquad hfatal hup hcredit false data hline]
      simp only [Bool.false_eq_true, if_false, State.growLine]
  · intro ch p x hch hworking hkind hencode a b c d hkept hframe hopen
    exact exec_st2110Packet_kept hruns hch hfatal hworking hkind hencode (yes_pair hkept) (yes_pair hframe) hopen

end Sys2Proof.Machine
end

section
/-! SUPPORT. Look-up tables and regions of a channel (R135, R136, R208). -/

namespace Sys2Proof.Machine

/-! ### Places and rows of a channel's objects (R29) -/

section
variable {ch obj sub : Nat}

theorem isChanIdx_object (hch : ch < 256) (hobj : obj < 64) : isChanIdx (0x4000 + 64 * ch + obj) = true := by
  simp only [isChanIdx, Bool.and_eq_true, decide_eq_true_eq]
  omega

theorem chanOf_object (hobj : obj < 64) : chanOf (0x4000 + 64 * ch + obj) = ch := by
  unfold chanOf
  omega

theorem objOf_object (hobj : obj < 64) : objOf (0x4000 + 64 * ch + obj) = obj := by
  unfold objOf
  omega

theorem chanPart_object (hobj : obj < 64) (hsub : sub < 256) :
    chanPart (keyOf (0x4000 + 64 * ch + obj) sub) = obj * 256 + sub := by
  unfold chanPart keyOf
  omega

theorem chKey_object : chKey ch (obj * 256 + sub) = keyOf (0x4000 + 64 * ch + obj) sub := by
  unfold chKey keyOf
  omega

/-- No key of the device is that of a channel's entry. -/
theorem keyOf_object_ne {k : Nat} (hk : k < 0x400000) : keyOf (0x4000 + 64 * ch + obj) sub ≠ k := by
  unfold keyOf
  omega

/-- The row of a channel's entry is that of its object. -/
theorem lookup_object {e : Entry} (hch : ch < 256) (hobj : obj < 64) (hrow : findEntry chanEntries obj sub = some e) :
    lookup (0x4000 + 64 * ch + obj) sub = .ok e := by
  have hcounter : ¬ 0x4000 + 64 * ch + obj < 0x4000 := by omega
  simp only [lookup, isChanIdx_object hch hobj, objOf_object hobj, hcounter, decide_false, Bool.and_false, Bool.false_and,
    if_true, Bool.false_eq_true, if_false, hrow]

/-- An entry that admission does not rest on is refused by no other value. -/
theorem State.writeRule_object (u : State) (r : Requester) {e : Entry} (v : Nat) (hadm : e.adm = false) :
    u.writeRule r e (0x4000 + 64 * ch + obj) sub v = none := by
  have hmapping : isMapping (0x4000 + 64 * ch + obj) sub = false := by
    simp only [isMapping, Bool.and_eq_false_iff, Bool.or_eq_false_iff, decide_eq_false_iff_not]
    omega
  have hq : ¬ 0x4000 + 64 * ch + obj = 0x2A41 := by omega
  have hdma : ¬ 0x4000 + 64 * ch + obj < 0x2740 := by omega
  have hfunc : ¬ 0x4000 + 64 * ch + obj = 0x2057 := by omega
  simp (disch := decide) only [State.writeRule, hmapping, hadm, hq, hdma, hfunc, keyOf_object_ne, false_and, and_false,
    Bool.false_eq_true, if_false]

end

/-- A refusal of an action is recorded against its entry (R66). -/
theorem acted2_refused (r : Requester) (c : Abort) (w : State) {idx sub : Nat} (hsub : sub < 256) :
    acted2 r (keyOf idx sub) (some c, w) = w.accessError r c idx sub := by
  show w.accessError r c (keyOf idx sub / 256) (keyOf idx sub % 256) = _
  rw [keyOf_div hsub, keyOf_mod hsub]

/-- The row of a writable entry of a channel's objects that no limit, slot write or admission stands before. -/
structure OpenRow (obj sub : Nat) (e : Entry) : Prop where
  object : obj < 64
  small : sub < 256
  row : findEntry chanEntries obj sub = some e
  writable : e.acc = .rw ∨ e.acc = .wo
  unruled : e.adm = false
  unlimited : e.lim = .any
  number : e.ty ≠ .bool

section
variable {u : State} {r : Requester} {ch obj sub : Nat} {e : Entry} {data : List Byte} (hrow : OpenRow obj sub e)
  (hch : ch < 256) (hmay : u.MayAct r (keyOf (0x4000 + 64 * ch + obj) sub))
include hrow

theorem OpenRow.acc_ne_rwp : e.acc ≠ .rwp := by
  rcases hrow.writable with h | h <;> simp [h]

include hch hmay

/-- A requester with the right to such an entry passes the checks with a value of its size. -/
theorem OpenRow.writeCheck_eq (hsize : e.ty.size = some data.length) :
    u.writeCheck r (0x4000 + 64 * ch + obj) sub data = .ok (e, none) := by
  have hright := hmay.2
  rw [keyOf_div hrow.small, keyOf_mod hrow.small] at hright
  refine State.writeCheck_ok (lookup_object hch hrow.object hrow.row) hright ?_ ?_
    (Entry.check_any hsize hrow.number hrow.unlimited) (u.writeRule_object r _ hrow.unruled)
  · rcases hrow.writable with h | h <;> simp [h]
  · simp [State.wornOut, hrow.acc_ne_rwp]

/-- A write of such an entry is served as it comes, while no copy of a LUT holds it up. -/
theorem OpenRow.write_served {g : State → Option Abort × State} (hP : u.Prompt) (hsize : e.ty.size = some data.length)
    (hlut : u.lutBusy (keyOf (0x4000 + 64 * ch + obj) sub) = false)
    (hg : ∀ v : State, v.writeEffect r e (0x4000 + 64 * ch + obj) sub data (u.freeEnv 0) = g v) :
    ServedAs u (.next (u.freeWrite r (0x4000 + 64 * ch + obj) sub data 0))
      (fun v => acted2 r (keyOf (0x4000 + 64 * ch + obj) sub) (g v)) := by
  have hserved := State.write_served u r _ sub data (u.freeEnv 0) e g hP hmay.1 (lookup_object hch hrow.object hrow.row)
    hrow.acc_ne_rwp hsize (hrow.writeCheck_eq hch hmay hsize) hlut hg
  refine hserved.congr fun a n => ?_
  generalize g { u with access := a, free := n } = x
  obtain ⟨refusal, w⟩ := x
  cases refusal with
  | none => rfl
  | some c => exact (acted2_refused r c w hrow.small).symm

end

/-! ### The rows of a LUT and of the regions -/

/-- The objects that hold a LUT: a channel's CH_RAW, and its four CH_DERIVEDk. -/
def HoldsLut (obj : Nat) : Prop := obj = 4 ∨ (0xC ≤ obj ∧ obj ≤ 0xF)

theorem HoldsLut.mem {obj : Nat} (h : HoldsLut obj) : obj ∈ [4, 0xC, 0xD, 0xE, 0xF] := by
  simp only [HoldsLut, List.mem_cons, List.not_mem_nil] at h ⊢
  omega

/-- LUT_DATA of a LUT's object. -/
def lutDataEntry (obj : Nat) : Entry :=
  if obj = 4 then ⟨4, 1, 0x6, 1, .u64, .rw, 0, .imm, .any, false⟩ else ⟨0xc, 4, 0x14, 1, .u64, .rw, 0, .imm, .any, false⟩

/-- LUT_COMMIT of a LUT's object. -/
def lutCommitEntry (obj : Nat) : Entry :=
  if obj = 4 then ⟨4, 1, 0x7, 1, .u8, .wo, 0, .frame, .any, false⟩ else ⟨0xc, 4, 0x19, 1, .u8, .wo, 0, .frame, .any, false⟩

/-- ROI_COMMIT. -/
def roiCommitEntry : Entry := ⟨0x20, 1, 0x21, 1, .u8, .wo, 0, .frame, .any, false⟩

theorem openRow_lutData {obj : Nat} (h : HoldsLut obj) : OpenRow obj (lutDataSub obj) (lutDataEntry obj) := by
  have hmem := h.mem
  fin_cases hmem <;> exact ⟨by decide, by decide, rfl, .inl rfl, rfl, rfl, by decide⟩

theorem openRow_lutCommit {obj : Nat} (h : HoldsLut obj) : OpenRow obj (lutCommitSub obj) (lutCommitEntry obj) := by
  have hmem := h.mem
  fin_cases hmem <;> exact ⟨by decide, by decide, rfl, .inr rfl, rfl, rfl, by decide⟩

theorem openRow_roiCommit : OpenRow 0x20 0x21 roiCommitEntry := ⟨by decide, by decide, rfl, .inr rfl, rfl, rfl, by decide⟩

/-- Whether an entry of a channel is the data of a LUT. -/
def isLutPart (part : Nat) : Bool :=
  part == K.CH_RAW_LUT_DATA || (List.range 4).any (fun k => part == K.CH_DERIVEDk_LUT_DATA + 256 * k)

section
variable {ch obj sub : Nat} (hobj : obj < 64) (hsub : sub < 256)
include hobj hsub

theorem isLutData_object (hch : ch < 256) :
    isLutData (keyOf (0x4000 + 64 * ch + obj) sub) = isLutPart (obj * 256 + sub) := by
  rw [isLutData, keyOf_div hsub, isChanIdx_object hch hobj, chanPart_object hobj hsub, Bool.true_and, isLutPart]

/-- A write of an entry that is not the data of a LUT does not wait for a copy. -/
theorem State.lutBusy_of_not_data (u : State) (hch : ch < 256) (hpart : isLutPart (obj * 256 + sub) = false) :
    u.lutBusy (keyOf (0x4000 + 64 * ch + obj) sub) = false := by
  rw [State.lutBusy, isLutData_object hobj hsub hch, hpart, Bool.false_and]

/-- Nor does any, while the LUT of the object is not being copied (R136). -/
theorem State.lutBusy_of_not_copying {u : State} (hcopying : ((u.chan ch).lut obj).copying = false) :
    u.lutBusy (keyOf (0x4000 + 64 * ch + obj) sub) = false := by
  have hpart : (obj * 256 + sub) / 256 = obj := by omega
  rw [State.lutBusy, keyOf_div hsub, chanOf_object hobj, chanPart_object hobj hsub, hpart, hcopying, Bool.and_false]

end

/-! ### Writes of a LUT (R135, R136) -/

/-- LUT_DATA is no selector. -/
theorem isSelector_lutData (ch : Nat) {obj : Nat} (h : HoldsLut obj) :
    isSelector (keyOf (0x4000 + 64 * ch + obj) (lutDataSub obj)) = false := by
  have hrow := openRow_lutData h
  have hdevice : selectorKeys.contains (keyOf (0x4000 + 64 * ch + obj) (lutDataSub obj)) = false := by
    have hne : ∀ k ∈ selectorKeys, keyOf (0x4000 + 64 * ch + obj) (lutDataSub obj) ≠ k := by
      have hsmall : ∀ k ∈ selectorKeys, k < 0x400000 := by decide
      exact fun k hk => keyOf_object_ne (hsmall k hk)
    rw [List.contains_eq_mem, decide_eq_false_iff_not]
    exact fun hmem => hne _ hmem rfl
  have hindex : isLutIndex (keyOf (0x4000 + 64 * ch + obj) (lutDataSub obj)) = false := by
    rw [isLutIndex, chanPart_object hrow.object hrow.small]
    have hmem := h.mem
    fin_cases hmem <;> exact Bool.and_false _
  rw [isSelector, hdevice, hindex, Bool.or_self]

theorem isLutPart_lutData {obj : Nat} (h : HoldsLut obj) : isLutPart (obj * 256 + lutDataSub obj) = true := by
  have hmem := h.mem
  fin_cases hmem <;> rfl

theorem isLutPart_lutCommit {obj : Nat} (h : HoldsLut obj) : isLutPart (obj * 256 + lutCommitSub obj) = false := by
  have hmem := h.mem
  fin_cases hmem <;> rfl

/-- The effect of a write of LUT_DATA is that of the four entries. -/
theorem State.writeEffect_lutData (v : State) (r : Requester) {ch obj : Nat} (data : List Byte) (env : Env) (hch : ch < 256)
    (h : HoldsLut obj) :
    v.writeEffect r (lutDataEntry obj) (0x4000 + 64 * ch + obj) (lutDataSub obj) data env =
      v.outcome (v.lutWrite r ch obj (leNat data)) := by
  have hrow := openRow_lutData h
  have hacc : (lutDataEntry obj).acc = .rw := by unfold lutDataEntry; split <;> rfl
  have hobject : (obj * 256 + lutDataSub obj) / 256 = obj := by have := hrow.small; omega
  simp only [State.writeEffect, hacc, State.acceptRw, isSelector_lutData ch h,
    isLutData_object hrow.object hrow.small hch, isLutPart_lutData h, chanOf_object hrow.object,
    chanPart_object hrow.object hrow.small, hobject, Bool.false_eq_true, if_false, if_true]

/-- The effect of a write of a commit is that it waits. -/
theorem State.writeEffect_commit (v : State) (r : Requester) {ch obj sub : Nat} {e : Entry} (data : List Byte) (env : Env)
    (hch : ch < 256) (hrow : OpenRow obj sub e) (hacc : e.acc = .wo)
    (hpart : obj * 256 + sub ∉ [K.CH_STATE_COMMAND, K.CH_MAG_CLIP_CMD, K.CH_MAG_EXTENT_ADD, K.CH_MAG_EXTENT_ADD + 1]) :
    v.writeEffect r e (0x4000 + 64 * ch + obj) sub data env =
      (none, v.commit ch (keyOf (0x4000 + 64 * ch + obj) sub)) := by
  simp only [List.mem_cons, List.not_mem_nil, or_false, not_or] at hpart
  obtain ⟨hcommand, hclip, hextent, hextent'⟩ := hpart
  simp only [State.writeEffect, hacc, isChanIdx_object hch hrow.object, if_true, State.chanAction,
    chanPart_object hrow.object hrow.small, chanOf_object hrow.object, hcommand, hclip, hextent, hextent', if_false]

/-- A commit other than ROI_COMMIT waits for the frame boundary. -/
theorem State.commit_lut (v : State) {ch obj : Nat} (h : HoldsLut obj) :
    v.commit ch (keyOf (0x4000 + 64 * ch + obj) (lutCommitSub obj)) =
      v.setWaiting (keyOf (0x4000 + 64 * ch + obj) (lutCommitSub obj)) := by
  have hrow := openRow_lutCommit h
  have hroi : obj * 256 + lutCommitSub obj ≠ K.CH_ROI_ROI_COMMIT := by
    have hmem := h.mem
    fin_cases hmem <;> decide
  rw [State.commit, chanPart_object hrow.object hrow.small, if_neg fun hboth => hroi hboth.1]

/-- What an action leaves is its outcome's. -/
theorem acted2_outcome (v : State) (r : Requester) (key : Nat) (x : Except Abort State) :
    acted2 r key (v.outcome x) = v.acted r key x := by
  cases x <;> rfl

/-! ### The commands -/

section
variable {s : State} {t : Time} {r : Requester} {ch obj : Nat} (hruns : s.runs t) (hch : ch < 256)
include hruns hch

/-- The copy after a swap ends (R136). -/
theorem exec_lutCopyDone_copying (hobj : obj < 64) (hcopying : (((s.now t).chan ch).lut obj).copying = true) :
    exec (.lutCopyDone t ch obj) s = .next ((s.now t).modChan ch (fun c => { c with
      luts := Store.put c.luts obj { c.lut obj with pending := (c.lut obj).active, copying := false } })) := by
  show execLutCopyDone t ch obj s = _
  rw [execLutCopyDone, inRange_of hch, inRange_of hobj, live_runs hruns, if_pos hcopying]

/-- A ROI_COMMIT is served as it comes, and waits for the frame boundary (R208). -/
theorem exec_roiCommit_served (hP : (s.now t).Prompt) (hmay : (s.now t).MayAct r (chKey ch K.CH_ROI_ROI_COMMIT)) :
    ServedAs (s.now t) (exec (.roiCommit t r ch) s) (fun v => v.commit ch (chKey ch K.CH_ROI_ROI_COMMIT)) := by
  have hrow := openRow_roiCommit
  have hkey : chKey ch K.CH_ROI_ROI_COMMIT = keyOf (0x4000 + 64 * ch + 0x20) 0x21 := chKey_object (obj := 0x20) (sub := 0x21)
  rw [hkey] at hmay ⊢
  have hcode : exec (.roiCommit t r ch) s =
      .next ((s.now t).freeWrite r (0x4000 + 64 * ch + 0x20) 0x21 (leBytes 1 1) 0) := by
    show execRoiCommit t r ch s = _
    rw [execRoiCommit, inRange_of hmay.1.1, inRange_of hch, live_runs hruns, State.code, State.keyWrite, hkey,
      keyOf_div hrow.small, keyOf_mod hrow.small]
  rw [hcode]
  exact (hrow.write_served hch hmay hP rfl (State.lutBusy_of_not_data hrow.object hrow.small _ hch (by decide))
    fun v => v.writeEffect_commit r _ _ hch hrow rfl (by decide)).congr fun _ _ => rfl

section
variable (hP : (s.now t).Prompt) (h : HoldsLut obj) (hcopying : (((s.now t).chan ch).lut obj).copying = false)
include hP h hcopying

/-- A write of LUT_DATA is served as it comes, with the four entries written or refused (R135). -/
theorem exec_lutDataWrite_served {data : List Byte} (hlen : data.length = 8)
    (hmay : (s.now t).MayAct r (keyOf (0x4000 + 64 * ch + obj) (lutDataSub obj))) :
    ServedAs (s.now t) (exec (.lutDataWrite t r ch obj data) s) (fun v =>
      v.acted r (keyOf (0x4000 + 64 * ch + obj) (lutDataSub obj)) (v.lutWrite r ch obj (leNat data))) := by
  have hrow := openRow_lutData h
  have hsize : (lutDataEntry obj).ty.size = some data.length := by
    rw [hlen]
    unfold lutDataEntry
    split <;> rfl
  show ServedAs (s.now t) (execLutDataWrite t r ch obj data s) _
  rw [execLutDataWrite, inRange_of hmay.1.1, inRange_of hch, inRange_of hrow.object, live_runs hruns]
  refine (hrow.write_served hch hmay hP hsize (State.lutBusy_of_not_copying hrow.object hrow.small hcopying)
    fun v => v.writeEffect_lutData r data _ hch h).congr fun a n => acted2_outcome ..

omit hcopying in
/-- A LUT_COMMIT is served as it comes, and waits for the frame boundary (R136). -/
theorem exec_lutCommit_served (hmay : (s.now t).MayAct r (keyOf (0x4000 + 64 * ch + obj) (lutCommitSub obj))) :
    ServedAs (s.now t) (exec (.lutCommit t r ch obj) s)
      (fun v => v.setWaiting (keyOf (0x4000 + 64 * ch + obj) (lutCommitSub obj))) := by
  have hrow := openRow_lutCommit h
  have hacc : (lutCommitEntry obj).acc = .wo := by unfold lutCommitEntry; split <;> rfl
  have hsize : (lutCommitEntry obj).ty.size = some (leBytes 1 1).length := by unfold lutCommitEntry; split <;> rfl
  have hpart : obj * 256 + lutCommitSub obj ∉
      [K.CH_STATE_COMMAND, K.CH_MAG_CLIP_CMD, K.CH_MAG_EXTENT_ADD, K.CH_MAG_EXTENT_ADD + 1] := by
    have hmem := h.mem
    fin_cases hmem <;> decide
  show ServedAs (s.now t) (execLutCommit t r ch obj s) _
  rw [execLutCommit, inRange_of hmay.1.1, inRange_of hch, inRange_of hrow.object, live_runs hruns]
  refine (hrow.write_served hch hmay hP hsize
    (State.lutBusy_of_not_data hrow.object hrow.small _ hch (isLutPart_lutCommit h))
    fun v => v.writeEffect_commit r _ _ hch hrow hacc hpart).congr fun a n => State.commit_lut _ h

omit hP in
/-- A function reads the whole of LUT_DATA at once (R136). -/
theorem exec_lutDataRead_func {f : Nat} (hf : f < 256) (hreach : (s.now t).funcReaches f = true) :
    exec (.lutDataRead t (.func f) ch obj) s =
      .next ((s.now t).wholeRead f (0x4000 + 64 * ch + obj) (lutDataSub obj)) := by
  have hrow := openRow_lutData h
  have hbusy : (s.now t).lutBusy (keyOf (0x4000 + 64 * ch + obj) (lutDataSub obj)) = false :=
    State.lutBusy_of_not_copying hrow.object hrow.small hcopying
  show execLutDataRead t (.func f) ch obj s = _
  rw [execLutDataRead, inRange_of (show Requester.place (.func f) < 256 from hf), inRange_of hch, inRange_of hrow.object,
    live_runs hruns]
  simp only [State.bar0Read, hreach, hbusy, Bool.not_true, Bool.false_eq_true, if_false, State.partRead]

/-- Any other requester reads it through its request queue (R39). -/
theorem exec_lutDataRead_queued (hfunc : ∀ f, r ≠ .func f) (hr : r.place < 256) :
    exec (.lutDataRead t r ch obj) s = .next
      ((((s.now t).afterQueue (queueOf r) (.read r (0x4000 + 64 * ch + obj) (lutDataSub obj) .whole)).readFor r
        (0x4000 + 64 * ch + obj) (lutDataSub obj)).2) := by
  have hrow := openRow_lutData h
  have hbusy : ∀ k ∈ (Request.read r (0x4000 + 64 * ch + obj) (lutDataSub obj) .whole).keys, (s.now t).lutBusy k = false :=
    List.forall_mem_singleton.mpr (State.lutBusy_of_not_copying hrow.object hrow.small hcopying)
  have hrun := State.submit_idle ((s.now t).freeEnv 0) hP (queueOf_lt hr) (by simp [Request.count]) hbusy
  show execLutDataRead t r ch obj s = _
  rw [execLutDataRead, inRange_of hr, inRange_of hch, inRange_of hrow.object, live_runs hruns]
  cases r with
  | func f => exact absurd rfl (hfunc f)
  | can k => exact congrArg Host.Outcome.next hrun
  | udp a p => exact congrArg Host.Outcome.next hrun
  | shawm => exact congrArg Host.Outcome.next hrun

end

end

/-! ### The four entries of a write (R135, R136) -/

/-- The image of a LUT with the four entries of a 64-bit value put at a place. -/
def lutPutFour (obj : Nat) (img : Store Nat) (at_ x : Nat) : Store Nat :=
  (List.range 4).foldl (fun m i => lutPut obj m (at_ + i) (bits x (16 * i + 15) (16 * i))) img

section
variable {v : State} {r : Requester} {ch obj x : Nat}

/-- The state that the four entries of a value leave: they stand in the pending image, and LUT_INDEX has advanced. -/
def State.lutWritten (v : State) (r : Requester) (ch obj x : Nat) : State :=
  let key := lutIndexKey ch obj
  let idx := (v.req r).selOf key
  (v.modChan ch (fun c => { c with luts := Store.put c.luts obj { c.lut obj with
    pending := lutPutFour obj (c.lut obj).pending (lutPos obj idx) x } })).modReq r (fun q => { q with
      sel := Store.put q.sel key (w64 (lutNext obj idx)) })

/-- Four entries that the table takes are written. -/
theorem State.lutWrite_taken (hmax : ∀ i < 4, bits x (16 * i + 15) (16 * i) ≤ v.lutMax ch obj) :
    v.lutWrite r ch obj x = .ok (v.lutWritten r ch obj x) := by
  have hfits : (((List.range 4).map fun i => bits x (16 * i + 15) (16 * i)).any fun e => v.lutMax ch obj < e) = false := by
    simpa [List.any_eq_false] using hmax
  rw [State.lutWrite]
  simp only [hfits, Bool.false_eq_true, if_false]
  rfl

/-- One that the table does not take refuses them all. -/
theorem State.lutWrite_refused (hmax : ∃ i < 4, v.lutMax ch obj < bits x (16 * i + 15) (16 * i)) :
    v.lutWrite r ch obj x = .error A.above := by
  refine if_pos (List.any_eq_true.mpr ?_)
  obtain ⟨i, hi, habove⟩ := hmax
  exact ⟨_, List.mem_map.mpr ⟨i, List.mem_range.mpr hi, rfl⟩, decide_eq_true habove⟩

/-- Only the pending image of the LUT moves. -/
theorem State.lut_lutWritten : ((v.lutWritten r ch obj x).chan ch).lut obj = { (v.chan ch).lut obj with
    pending := lutPutFour obj ((v.chan ch).lut obj).pending (lutPos obj ((v.req r).selOf (lutIndexKey ch obj))) x } := by
  show Chan.lut ((v.setChan ch _).chan ch) obj = _
  rw [State.chan_setChan]
  exact Store.get_put_same ..

/-- The index is past the four entries. -/
theorem State.selOf_lutWritten : ((v.lutWritten r ch obj x).req r).selOf (lutIndexKey ch obj) =
    (w64 (lutNext obj ((v.req r).selOf (lutIndexKey ch obj)))).toNat := by
  rw [State.lutWritten, State.req_modReq]
  exact congrArg BitVec.toNat (Store.get_put_same ..)

end

/-- Settles O31: the writes of a LUT and of the regions are served as they come, a read is a whole read of LUT_DATA, and four
entries within the table's limit move its pending image alone. -/
theorem tablesOfAChannel : Obligations.TablesOfAChannel := by
  unfold Obligations.TablesOfAChannel
  intro s t r ch hch hruns u
  refine ⟨fun obj => exec_lutCopyDone_copying hruns hch, ?_, exec_roiCommit_served hruns hch, ?_,
    fun v obj x => State.lutWrite_refused⟩
  · intro obj h hP hcopying idx dataKey commitKey
    refine ⟨fun data => exec_lutDataWrite_served hruns hch hP h hcopying, exec_lutCommit_served hruns hch hP h, ?_,
      exec_lutDataRead_queued hruns hch hP h hcopying⟩
    rintro f rfl
    exact exec_lutDataRead_func hruns hch h hcopying
  · intro v obj x _ hmax
    refine ⟨_, State.lutWrite_taken hmax, ?_, ?_, State.selOf_lutWritten⟩
    · rw [State.lut_lutWritten]
    · rw [State.lut_lutWritten]
      rfl

end Sys2Proof.Machine
end

section
/-! SUPPORT. The motion search: candidates and clips of a block, λ, and search grants (R142 to R146, R152, R160). -/

namespace Sys2Proof.Machine

/-! ### The order of candidates (R144) -/

/-- What the order of R144 compares, in turn: cost, |vx| + |vy|, vy, vx. -/
def Cand.rank (c : Cand) : ℕ ×ₗ ℕ ×ₗ ℤ ×ₗ ℤ := toLex (c.cost, toLex (c.x.natAbs + c.y.natAbs, toLex (c.y, c.x)))

theorem Cand.before_iff_rank_lt {a b : Cand} : a.before b = true ↔ a.rank < b.rank := by
  simp [Cand.before, Cand.rank, Prod.Lex.toLex_lt_toLex]

theorem Cand.before_asymm {a b : Cand} (h : a.before b = true) : b.before a = false :=
  Bool.eq_false_iff.mpr fun h' => lt_asymm (before_iff_rank_lt.mp h) (before_iff_rank_lt.mp h')

theorem Cand.before_trans {a b c : Cand} (h : a.before b = true) (h' : b.before c = true) : a.before c = true :=
  before_iff_rank_lt.mpr ((before_iff_rank_lt.mp h).trans (before_iff_rank_lt.mp h'))

/-- No later candidate of the list comes before an earlier one. -/
def InOrder (l : List Cand) : Prop := l.Pairwise fun a b => b.before a = false

theorem mem_putCand {c d : Cand} {l : List Cand} : d ∈ putCand c l ↔ d = c ∨ d ∈ l := by
  induction l with
  | nil => simp [putCand]
  | cons b r ih =>
    unfold putCand
    split
    · exact List.mem_cons
    · rw [List.mem_cons, ih, List.mem_cons]
      tauto

theorem InOrder.putCand {l : List Cand} (h : InOrder l) (c : Cand) : InOrder (putCand c l) := by
  induction l with
  | nil => exact List.pairwise_singleton ..
  | cons b r ih =>
    obtain ⟨hb, hr⟩ := List.pairwise_cons.mp h
    unfold Machine.putCand
    split
    · next hcb =>
      refine List.pairwise_cons.mpr ⟨List.forall_mem_cons.mpr ⟨Cand.before_asymm hcb, fun d hd => ?_⟩, h⟩
      refine Bool.eq_false_iff.mpr fun hdc => ?_
      exact Bool.eq_false_iff.mp (hb d hd) (Cand.before_trans hdc hcb)
    · next hcb =>
      refine List.pairwise_cons.mpr ⟨fun d hd => ?_, ih hr⟩
      obtain rfl | hd := mem_putCand.mp hd
      · exact Bool.eq_false_iff.mpr hcb
      · exact hb d hd

/-- Candidates put one by one into a list in order. -/
theorem foldl_putCand (l : List Cand) : ∀ {m : List Cand}, InOrder m →
    InOrder (l.foldl (fun m c => putCand c m) m) ∧
      ∀ d, d ∈ l.foldl (fun m c => putCand c m) m ↔ d ∈ l ∨ d ∈ m := by
  induction l with
  | nil => intro m hm; simpa using hm
  | cons c r ih =>
    intro m hm
    obtain ⟨hord, hmem⟩ := ih (hm.putCand c)
    refine ⟨hord, fun d => ?_⟩
    rw [List.foldl_cons, hmem, mem_putCand, List.mem_cons]
    tauto

theorem length_bestCands_le (n : Nat) (l : List Cand) : (bestCands n l).length ≤ n := List.length_take_le ..

theorem mem_of_mem_bestCands {n : Nat} {l : List Cand} {c : Cand} (h : c ∈ bestCands n l) : c ∈ l := by
  simpa using ((foldl_putCand l List.Pairwise.nil).2 c).mp (List.mem_of_mem_take h)

/-- A candidate left out of the best ones comes before none of them: it stands behind the place where the list in order was
cut. -/
theorem not_before_of_notMem_bestCands {n : Nat} {l : List Cand} {c d : Cand} (hc : c ∈ bestCands n l) (hd : d ∈ l)
    (hout : d ∉ bestCands n l) : d.before c = false := by
  obtain ⟨hord, hmem⟩ := foldl_putCand l List.Pairwise.nil
  have hall := (hmem d).mpr (.inl hd)
  unfold bestCands at hc hout
  rw [← List.take_append_drop n (l.foldl _ _)] at hord hall
  have hdrop := (List.mem_append.mp hall).resolve_left hout
  exact (List.pairwise_append.mp hord).2.2 c hc d hdrop

/-! ### Clips (R145) -/

section
variable {unit : Nat} {lo hi : Int} (hunit : 0 < unit) (hlo : lo ≤ 0) (hhi : 0 ≤ hi)
include hunit hlo hhi

/-- A range that holds zero holds the multiple of every clipped component. -/
theorem clipAt_mul_mem (x : Int) : lo ≤ clipAt unit lo hi x * unit ∧ clipAt unit lo hi x * unit ≤ hi := by
  have hpos : (0 : Int) < unit := by exact_mod_cast hunit
  have hlow : 0 ≤ -lo / (unit : Int) := Int.ediv_nonneg (by omega) hpos.le
  have hhigh : 0 ≤ hi / (unit : Int) := Int.ediv_nonneg hhi hpos.le
  have hfrom : -clipAt unit lo hi x ≤ -lo / (unit : Int) := by unfold clipAt clipInt; omega
  have hto : clipAt unit lo hi x ≤ hi / (unit : Int) := by unfold clipAt clipInt; omega
  rw [Int.le_ediv_iff_mul_le hpos] at hfrom hto
  exact ⟨by linarith, hto⟩

end

/-- The range holds zero, with the corners' vertical ranges. -/
structure VecRange.HoldsZero (r : VecRange) : Prop where
  loX : r.loX ≤ 0
  hiX : 0 ≤ r.hiX
  loY : r.loY ≤ 0
  hiY : 0 ≤ r.hiY
  corner : ∀ c, r.west = some c ∨ r.east = some c → c.1 ≤ 0 ∧ 0 ≤ c.2

/-- Over any side of the own cell the vertical range holds zero. -/
theorem VecRange.HoldsZero.vertical {r : VecRange} (h : r.HoldsZero) {o : Option (Int × Int)}
    (ho : o = r.west ∨ o = r.east ∨ o = none) : (o.getD (r.loY, r.hiY)).1 ≤ 0 ∧ 0 ≤ (o.getD (r.loY, r.hiY)).2 := by
  cases o with
  | none => exact ⟨h.loY, h.hiY⟩
  | some c => exact h.corner c (by simpa [eq_comm] using ho)

/-- A clipped vector lies in the range. -/
theorem VecRange.HoldsZero.clip_mem {r : VecRange} (h : r.HoldsZero) {unit : Nat} (hunit : 0 < unit) (v : Int × Int) :
    (r.loX ≤ (r.clip unit v).1 * unit ∧ (r.clip unit v).1 * unit ≤ r.hiX) ∧
      r.loY ≤ (r.clip unit v).2 * unit ∧ (r.clip unit v).2 * unit ≤ r.hiY := by
  refine ⟨clipAt_mul_mem hunit h.loX h.hiX v.1, ?_⟩
  unfold VecRange.clip
  extract_lets x corner y
  have hcorner : corner = r.west ∨ corner = r.east ∨ corner = none := by
    unfold corner
    split
    · exact .inl rfl
    · split
      · exact .inr (.inl rfl)
      · exact .inr (.inr rfl)
  obtain ⟨hlo, hhi⟩ : y.1 ≤ 0 ∧ 0 ≤ y.2 := h.vertical hcorner
  obtain ⟨hfrom, hto⟩ := clipAt_mul_mem hunit (max_le h.loY hlo) (le_min h.hiY hhi) v.2
  exact ⟨(le_max_left ..).trans hfrom, hto.trans (min_le_left ..)⟩

theorem levelUnit_pos (k : Nat) : 0 < levelUnit k := by unfold levelUnit; positivity

/-- What a clip leaves of a list of candidates. -/
theorem VecRange.mem_clipAll {r : VecRange} {unit : Nat} {l : List (Int × Int)} {v : Int × Int} :
    v ∈ (r.clipAll unit l).1 ↔ ∃ w ∈ l, r.clip unit w = v := by
  rw [VecRange.clipAll, List.mem_eraseDups, List.mem_map]

/-! ### The search of a block (R143 to R145) -/

section
variable {e : SearchView} {m up : Store (List Cand)} {k x y : Nat}

theorem SearchView.length_block_le : (e.block m up k x y).1.length ≤ keptCands e.archive := length_bestCands_le ..

theorem SearchView.mem_tried_of_mem_block {c : Cand} (hc : c ∈ (e.block m up k x y).1) :
    ∃ v ∈ (e.tried m up k x y).1, c = e.cand m k x y v := by
  obtain ⟨v, hv, rfl⟩ := List.mem_map.mp (mem_of_mem_bestCands hc)
  exact ⟨v, hv, rfl⟩

theorem SearchView.not_before_of_notMem_block {c : Cand} {v : Int × Int} (hc : c ∈ (e.block m up k x y).1)
    (hv : v ∈ (e.tried m up k x y).1) (hout : e.cand m k x y v ∉ (e.block m up k x y).1) :
    (e.cand m k x y v).before c = false :=
  not_before_of_notMem_bestCands hc (List.mem_map_of_mem hv) hout

/-- The last thing done to the vectors tried is the clip. -/
theorem SearchView.clip_of_mem_tried {v : Int × Int} (hv : v ∈ (e.tried m up k x y).1) :
    ∃ w, (e.range k x y).clip (levelUnit k) w = v := by
  obtain ⟨w, -, hw⟩ := VecRange.mem_clipAll.mp hv
  exact ⟨w, hw⟩

end

/-! ### Roots, λ and λmv (R152) -/

/-- The bits below the one that is tried next settle the root. -/
theorem rootFrom_spec {e n : Nat} (b : Nat) : ∀ {r : Nat}, r ^ e ≤ n → n < (r + 2 ^ b) ^ e →
    rootFrom e n b r ^ e ≤ n ∧ n < (rootFrom e n b r + 1) ^ e := by
  induction b with
  | zero => exact fun hlow hhigh => ⟨hlow, hhigh⟩
  | succ b ih =>
    intro r hlow hhigh
    unfold rootFrom
    split
    · next htaken =>
      refine ih htaken ?_
      rwa [Nat.add_assoc, ← Nat.two_mul, ← Nat.pow_succ']
    · next htaken => exact ih hlow (Nat.lt_of_not_le htaken)

/-- A root is rounded down. -/
theorem rootOf_spec {e : Nat} (he : 0 < e) (n : Nat) : rootOf e n ^ e ≤ n ∧ n < (rootOf e n + 1) ^ e := by
  refine rootFrom_spec _ (by rw [Nat.zero_pow he]; exact n.zero_le) ?_
  rw [Nat.zero_add, Nat.max_eq_right he, ← Nat.pow_mul, Nat.mul_comm]
  calc n < 2 ^ (n.log2 + 1) := Nat.lt_log2_self
    _ ≤ 2 ^ (e * (n.log2 / e + 1)) := Nat.pow_le_pow_right (by omega) (Nat.lt_mul_div_succ _ he)

/-- Half of a root, rounded up: the number nearest to half of the root's exact value. -/
theorem halfRoot_nearest {e : Nat} (he : 0 < e) (n : Nat) :
    (2 * ((rootOf e n + 1) / 2) - 1) ^ e ≤ n ∧ n < (2 * ((rootOf e n + 1) / 2) + 1) ^ e := by
  obtain ⟨hlow, hhigh⟩ := rootOf_spec he n
  exact ⟨(Nat.pow_le_pow_left (by omega) e).trans hlow, hhigh.trans_le (Nat.pow_le_pow_left (by omega) e)⟩

/-- λ from QP' 12 on. -/
theorem lambdaFix_add_twelve (w scale qp : Nat) :
    lambdaFix w scale (qp + 12) = (rootOf 3 (8 * (w * scale) ^ 3 * 2 ^ qp / 1000000) + 1) / 2 := by
  simp [lambdaFix]

theorem lambdaFix_nearest (w scale qp : Nat) :
    (2 * lambdaFix w scale (qp + 12) - 1) ^ 3 * 1000000 ≤ 8 * (w * scale) ^ 3 * 2 ^ qp ∧
      8 * (w * scale) ^ 3 * 2 ^ qp < (2 * lambdaFix w scale (qp + 12) + 1) ^ 3 * 1000000 := by
  rw [lambdaFix_add_twelve, ← Nat.le_div_iff_mul_le (by decide), ← Nat.div_lt_iff_lt_mul (by decide)]
  exact halfRoot_nearest (by decide) _

theorem lambdaMv_nearest (l : Nat) :
    (2 * lambdaMv l - 1) ^ 2 ≤ 4 * l * 65536 ∧ 4 * l * 65536 < (2 * lambdaMv l + 1) ^ 2 :=
  halfRoot_nearest (by decide) _

/-! ### Search grants (R142, R146, R160) -/

/-- All that the search of a row for one reference needs to be given to an engine, but for the halo. -/
structure State.MaySearch (u : State) (ms ch pic row ref : Nat) (p : Pic) : Prop where
  found : (u.chan ch).pic? pic = some p
  fatal : u.fatal = false
  arrayStopped : u.arrayStopped ch = false
  working : (u.chan ch).working = true
  stream : p.stream = 0
  inPicture : row < (u.fmt ch).rows
  searched : ref < u.searchRefs ch p
  unsearched : searchKey row ref ∉ p.searched
  searching : u.searching ch pic row ref = false
  unitFree : u.unitFree .ms ms = true
  turn : u.msTurn ms = true
  noted : u.rowNotedAll ch p row = true
  present : u.blocksPresent ch p row = true
  settled : u.refSettled ch p ref = true

/-- What the issue of such a search leaves: the halo decides between the grant and a wait, and where the same search waits to be
issued again its old grant is given (R158, R160, R183). -/
def State.issueSearch (u : State) (ms : Nat) (p : Pic) (g : Grant) : State :=
  if !u.haloArrived g.chan p g.idx then u.haloWaits g.chan
  else
    let v := (u.haloWaited g.chan).msCharge (clusterOf .ms ms)
    match v.waitingGrant .ms g with
    | some old => ((v.dropWaiting .ms g).giveGrant .ms ms old).tick K.SEARCH_COUNTERS_MS_REISSUED 1
    | none => v.giveGrant .ms ms g

section
variable {u : State} {ms : Nat} {p : Pic} {g : Grant}

theorem State.issueSearch_waits (h : u.haloArrived g.chan p g.idx = false) : u.issueSearch ms p g = u.haloWaits g.chan :=
  if_pos (by rw [h]; rfl)

theorem State.issueSearch_fresh (h : u.haloArrived g.chan p g.idx = true)
    (hnone : ((u.haloWaited g.chan).msCharge (clusterOf .ms ms)).waitingGrant .ms g = none) :
    u.issueSearch ms p g = ((u.haloWaited g.chan).msCharge (clusterOf .ms ms)).giveGrant .ms ms g := by
  simp only [State.issueSearch, h, Bool.not_true, Bool.false_eq_true, if_false, hnone]

theorem State.issueSearch_again {old : Grant} (h : u.haloArrived g.chan p g.idx = true)
    (hold : ((u.haloWaited g.chan).msCharge (clusterOf .ms ms)).waitingGrant .ms g = some old) :
    u.issueSearch ms p g = ((((u.haloWaited g.chan).msCharge (clusterOf .ms ms)).dropWaiting .ms g).giveGrant
      .ms ms old).tick K.SEARCH_COUNTERS_MS_REISSUED 1 := by
  simp only [State.issueSearch, h, Bool.not_true, Bool.false_eq_true, if_false, hold]

end

/-- The end of a search grant, but for the field: the engine is free, and the row is searched. -/
def State.searchEnded (v : State) (ms : Nat) (g : Grant) (hits misses refetched : Nat) : State :=
  (((v.endGrant .ms ms).modPic g.chan g.pic (fun p =>
    { p with searched := p.searched ++ [searchKey g.idx g.ref] })).tick K.SEARCH_COUNTERS_MS_GRANTS 1).cacheUse
      hits misses refetched

section
variable {s : State} {t : Time} {ms : Nat} (hms : ms < 16) (hruns : s.runs t)
include hms hruns

theorem exec_searchGrantIssue_maySearch {ch pic row ref : Nat} {p : Pic} (hch : ch < 256)
    (h : (s.now t).MaySearch ms ch pic row ref p) : exec (.searchGrantIssue t ms ch pic row ref) s =
      .next ((s.now t).issueSearch ms p { chan := ch, pic := pic, idx := row, ref := ref }) := by
  obtain ⟨hfound, hfatal, hstopped, hworking, hstream, hrow, href, hunsearched, hsearching, hfree, hturn, hnoted, hpresent,
    hsettled⟩ := h
  show execSearchGrantIssue t ms ch pic row ref s = _
  rw [execSearchGrantIssue, inRange_of hms, inRange_of hch, live_runs hruns]
  simp only [hfound]
  refine congrArg Host.Outcome.next ((if_neg ?_).trans rfl)
  simp [hfatal, hstopped, hworking, hstream, hrow, href, hunsearched, hsearching, hfree, hturn, hnoted, hpresent, hsettled]

section
variable {g : Grant} (hgrant : ((s.now t).unit .ms ms).grant = some g) (hits misses refetched : Nat)
include hgrant

/-- The search of a picture in work writes the row's field (R142). -/
theorem exec_searchGrantComplete_found {p : Pic} (hfound : ((s.now t).chan g.chan).pic? g.pic = some p) :
    exec (.searchGrantComplete t ms hits misses refetched) s =
      .next (((s.now t).writeField g.chan p g.idx g.ref).searchEnded ms g hits misses refetched) := by
  show execSearchGrantComplete t ms hits misses refetched s = _
  rw [execSearchGrantComplete, inRange_of hms, live_runs hruns]
  simp only [hgrant, hfound, State.searchEnded]

/-- That of a picture that has left only frees the engine. -/
theorem exec_searchGrantComplete_left (hleft : ((s.now t).chan g.chan).pic? g.pic = none) :
    exec (.searchGrantComplete t ms hits misses refetched) s =
      .next ((s.now t).searchEnded ms g hits misses refetched) := by
  show execSearchGrantComplete t ms hits misses refetched s = _
  rw [execSearchGrantComplete, inRange_of hms, live_runs hruns]
  simp only [hgrant, hleft, State.searchEnded]

end

end

/-- A change that leaves a frame buffer with its channel is stored, but for the settling of its marks. -/
theorem State.fb?_modFb {v : State} {n : Nat} {b : FrameBuf} {f : FrameBuf → FrameBuf} (hb : v.fb? n = some b)
    (hchan : (f b).chan.isSome = true) : (v.modFb n f).fb? n = some (f b).verifySettled := by
  have hkept : (f b).verifySettled.chan.isNone = false := by
    rw [← Option.not_isSome]
    exact congrArg not hchan
  simp only [State.modFb, hb, State.setFb, hkept, Bool.false_and, Bool.false_eq_true, if_false]
  exact Store.find?_put_same ..

/-- The field of a picture's frame buffer after a row's search (R142). -/
theorem State.field_writeField {u : State} {ch : Nat} {p : Pic} {b : FrameBuf} (row ref : Nat)
    (hb : u.fb? p.fb = some b) (hchan : b.chan.isSome = true) :
    ((u.writeField ch p row ref).fb? p.fb).map (·.field) = some (List.foldl
      (fun m e => Store.put m (ref * 2 ^ 32 + e.1) e.2) b.field (u.searchRow ch p row ref).1) := by
  unfold State.writeField
  generalize u.searchRow ch p row ref = found
  obtain ⟨new, clips⟩ := found
  have hfb : (u.cbump ch K.CH_SEARCH_STATUS_CLIPPED clips).fb? p.fb = some b := hb
  dsimp only
  rw [State.fb?_modFb hfb]
  · rfl
  · exact hchan

/-- Settles O32: a block keeps the head of the list in order of the vectors it tried, all of them clipped; λ and λmv are halves
of roots; and a grant's issue and end have one effect each. -/
theorem searchGrants : Obligations.SearchGrants := by
  unfold Obligations.SearchGrants
  refine ⟨?_, fun w scale qp => ?_, ?_⟩
  · intro e m up k x y kept tried
    refine ⟨SearchView.length_block_le, fun c => SearchView.mem_tried_of_mem_block,
      fun c hc v => SearchView.not_before_of_notMem_block hc, ?_⟩
    intro r unit hloX hhiX hloY hhiY hcorner v hv
    obtain ⟨w, rfl⟩ := SearchView.clip_of_mem_tried hv
    exact and_assoc.mp (VecRange.HoldsZero.clip_mem ⟨hloX, hhiX, hloY, hhiY, hcorner⟩ (levelUnit_pos k) w)
  · obtain ⟨hlow, hhigh⟩ := lambdaFix_nearest w scale qp
    exact ⟨hlow, hhigh, lambdaMv_nearest _⟩
  · intro s t ms hms hruns u
    refine ⟨?_, ?_, fun ch p b row ref => State.field_writeField row ref⟩
    · intro ch pic row ref p hch hfound hfatal hstopped hworking hstream hrow href hunsearched hsearching hfree hturn hnoted
        hpresent hsettled g v
      have hexec := exec_searchGrantIssue_maySearch hms hruns hch ⟨hfound, hfatal, hstopped, hworking, hstream, hrow, href,
        hunsearched, hsearching, hfree, hturn, hnoted, hpresent, hsettled⟩
      refine ⟨fun harrived => ⟨fun hnone => ?_, fun old hold => ?_⟩, fun hmissing => ?_⟩
      · exact hexec.trans (congrArg _ (State.issueSearch_fresh harrived hnone))
      · exact hexec.trans (congrArg _ (State.issueSearch_again harrived hold))
      · exact hexec.trans (congrArg _ (State.issueSearch_waits hmissing))
    · exact fun g hits misses refetched hgrant =>
        ⟨fun p => exec_searchGrantComplete_found hms hruns hgrant hits misses refetched,
          exec_searchGrantComplete_left hms hruns hgrant hits misses refetched⟩

end Sys2Proof.Machine
end

section
/-! SUPPORT. Units: leaving service, stale writes and self-tests (R181, R182, R185). -/

namespace Sys2Proof.Machine

/-- A stale write is noted with its unit and counted (R182). -/
def State.countStale (u : State) (x : UnitId) : State :=
  (u.setUnit x.kind x.num { u.unit x.kind x.num with lastWrite := u.time }).tick K.CODING_COUNTERS_STALE_WRITES 1

/-- A unit that fails its self-test is retired (R185). -/
def State.retireTested (u : State) (x : UnitId) : State :=
  u.setUnit x.kind x.num { u.unit x.kind x.num with retired := true, tested := true, testing := false }

section
variable {s : State} {t : Time} {x : UnitId} (hx : x.num < x.kind.total) (hruns : s.runs t)
include hx hruns

theorem exec_unitWatchdogExpiry_due (hservice : ((s.now t).unit x.kind x.num).inService = true)
    (hdue : (s.now t).watchdogDue ((s.now t).unit x.kind x.num) = true) :
    exec (.unitWatchdogExpiry t x) s = .next ((s.now t).leaveService x.kind x.num (retiredFault x.kind) true) := by
  show execUnitWatchdogExpiry t x s = _
  rw [execUnitWatchdogExpiry, inRange_of hx, live_runs hruns]
  simp only [hservice, hdue, Bool.and_self, if_true]

theorem exec_unitStateError_inService (hservice : ((s.now t).unit x.kind x.num).inService = true) :
    exec (.unitStateError t x) s = .next ((s.now t).leaveService x.kind x.num (retiredFault x.kind) true) := by
  show execUnitStateError t x s = _
  rw [execUnitStateError, inRange_of hx, live_runs hruns]
  simp only [hservice, if_true]

/-- A write with a generation older than that of the grant its unit holds, or to a unit without one, is stale: it quarantines a
unit in service, and marks one that is out (R182). -/
theorem exec_staleWrite_older {gen : Nat} (hold : ∀ g, ((s.now t).unit x.kind x.num).grant = some g → gen < g.gen) :
    exec (.staleWrite t x gen) s = .next (
      let v := (s.now t).countStale x
      if ((s.now t).unit x.kind x.num).inService then v.leaveService x.kind x.num F.UNIT_QUARANTINED false
      else (v.setUnit x.kind x.num { v.unit x.kind x.num with quarantined := true }).raise F.UNIT_QUARANTINED
        { inst := unitKey x.kind x.num, detail := [unitKey x.kind x.num] }) := by
  show execStaleWrite t x gen s = _
  rw [execStaleWrite, inRange_of hx, live_runs hruns]
  refine congrArg Host.Outcome.next ((if_neg ?_).trans rfl)
  cases hgrant : ((s.now t).unit x.kind x.num).grant with
  | none => exact Bool.false_ne_true
  | some g => simpa using hold g hgrant

theorem exec_unitSelfTestStart_due (hdue : (s.now t).testDue ((s.now t).unit x.kind x.num) = true)
    (hworks : (s.now t).coreWorks 3 = true) : exec (.unitSelfTestStart t x) s =
      .next ((s.now t).setUnit x.kind x.num { (s.now t).unit x.kind x.num with testing := true }) := by
  show execUnitSelfTestStart t x s = _
  rw [execUnitSelfTestStart, inRange_of hx, live_runs hruns]
  simp only [hdue, hworks, Bool.and_self, if_true]

section
variable (htesting : ((s.now t).unit x.kind x.num).testing = true)
include htesting

theorem exec_unitSelfTestComplete_passed : exec (.unitSelfTestComplete t x true) s =
    .next (State.serveEngines ((s.now t).setUnit x.kind x.num { (s.now t).unit x.kind x.num with
      inService := true, quarantined := false, retired := false, tested := true, testing := false
      lastHandshake := (s.now t).time })) := by
  show execUnitSelfTestComplete t x true s = _
  rw [execUnitSelfTestComplete, inRange_of hx, live_runs hruns]
  simp only [htesting, Bool.not_true, Bool.false_eq_true, if_false, if_true]

/-- A failed test raises the retirement unless the unit was retired already. -/
theorem exec_unitSelfTestComplete_failed : exec (.unitSelfTestComplete t x false) s =
    .next (if ((s.now t).unit x.kind x.num).retired then (s.now t).retireTested x
      else ((s.now t).retireTested x).raise (retiredFault x.kind)
        { inst := unitKey x.kind x.num, detail := [unitKey x.kind x.num] }) := by
  show execUnitSelfTestComplete t x false s = _
  rw [execUnitSelfTestComplete, inRange_of hx, live_runs hruns]
  simp only [htesting, Bool.not_true, Bool.false_eq_true, if_false, State.retireTested]

end

end

/-- Settles O33: each command on a unit has one effect, which the unit's own record decides. -/
theorem unitsLeaveAndReturn : Obligations.UnitsLeaveAndReturn := by
  unfold Obligations.UnitsLeaveAndReturn
  intro s t x hx hruns u y
  refine ⟨exec_unitWatchdogExpiry_due hx hruns, exec_unitStateError_inService hx hruns, fun gen hin hold => ?_,
    fun gen hout hold => ?_, exec_unitSelfTestStart_due hx hruns, exec_unitSelfTestComplete_passed hx hruns,
    fun htesting hretired => ?_, fun htesting hretired => ?_⟩
  · exact (exec_staleWrite_older hx hruns hold).trans (congrArg _ (if_pos hin))
  · exact (exec_staleWrite_older hx hruns hold).trans (congrArg _ (if_neg (by simpa using hout)))
  · exact (exec_unitSelfTestComplete_failed hx hruns htesting).trans (congrArg _ (if_pos hretired))
  · exact (exec_unitSelfTestComplete_failed hx hruns htesting).trans (congrArg _ (if_neg (by simpa using hretired)))

end Sys2Proof.Machine
end

section
/-! SUPPORT. Coding: starts of pictures, CTUs and their grants, chunks and verification (R164 to R173, R192, R196, R198, R201,
R245). -/

namespace Sys2Proof.Machine

/-! ### PICTURE_START (R192, R245) -/

/-- All that the next picture of a channel needs to start, but for the sizes and the frame buffer. -/
structure State.MayStart (u : State) (ch stream : Nat) (l : Launched) : Prop where
  next : (u.chan ch).nextCoded = some l
  fatal : u.fatal = false
  arrayStopped : u.arrayStopped ch = false
  working : (u.chan ch).working = true
  phase : l.startedPhases = stream
  launched : l.time < u.time
  stat : u.statReady ch l = true

/-- The sizes that R192 names are known for the next picture of a stream. -/
def State.startKnown (u : State) (ch stream : Nat) (l : Launched) : Bool :=
  let x := Store.get (u.chan ch).rate {} stream
  x.sizesKnown x.started (u.pval l.vals ch K.CH_RATE_LAG)

/-- The wait for sizes ends, with its time counted (R192). -/
def State.qpWaitEnds (u : State) (ch : Nat) : State :=
  match (u.chan ch).qpWait with
  | some w => (u.cbump ch K.CH_RATE_STATUS_QP_WAIT_NS (u.since w)).modChan ch (fun c => { c with qpWait := none })
  | none => u

/-- The time of a wait for a frame buffer is counted (R245). -/
def State.countFbWait (v : State) (ch : Nat) (since : Option Time) : State :=
  match since with
  | some w => v.cbump ch K.CH_REFS_FB_WAIT_NS (v.since w)
  | none => v

/-- What the start of the next picture leaves: it waits for a size or for a frame buffer, or has both. -/
def State.startOrWait (u : State) (ch stream : Nat) (l : Launched) (refs unref longTerm : List Nat) : State :=
  if !u.startKnown ch stream l then
    u.modChan ch (fun c => { c with qpWait := c.qpWait.orElse (fun _ => some u.time) })
  else
    let v := u.qpWaitEnds ch
    match v.fbForFrame ch l with
    | none => if (u.chan ch).fbWait.isSome then v else v.awaitFb ch (l.base.getD (u.chan ch).picCount)
    | some n => (v.countFbWait ch (u.chan ch).fbWait).startPicture ch stream n l refs unref longTerm

section
variable {u : State} {ch stream : Nat} {l : Launched} {refs unref longTerm : List Nat}

theorem State.startOrWait_unsized (hknown : u.startKnown ch stream l = false) :
    u.startOrWait ch stream l refs unref longTerm =
      u.modChan ch (fun c => { c with qpWait := c.qpWait.orElse (fun _ => some u.time) }) :=
  if_pos (by rw [hknown]; rfl)

theorem State.startOrWait_found {n : Nat} (hknown : u.startKnown ch stream l = true)
    (hfound : (u.qpWaitEnds ch).fbForFrame ch l = some n) : u.startOrWait ch stream l refs unref longTerm =
      ((u.qpWaitEnds ch).countFbWait ch (u.chan ch).fbWait).startPicture ch stream n l refs unref longTerm := by
  simp only [State.startOrWait, hknown, hfound, Bool.not_true, Bool.false_eq_true, if_false]

theorem State.startOrWait_starved (hknown : u.startKnown ch stream l = true)
    (hnone : (u.qpWaitEnds ch).fbForFrame ch l = none) (hfirst : (u.chan ch).fbWait = none) :
    u.startOrWait ch stream l refs unref longTerm =
      (u.qpWaitEnds ch).awaitFb ch (l.base.getD (u.chan ch).picCount) := by
  simp only [State.startOrWait, hknown, hnone, hfirst, Bool.not_true, Option.isSome_none, Bool.false_eq_true, if_false]

end

theorem exec_pictureStart_mayStart {s : State} {t : Time} {ch stream : Nat} {l : Launched} (hruns : s.runs t) (hch : ch < 256)
    (hstream : stream < 4) (h : (s.now t).MayStart ch stream l) (refs unref longTerm : List Nat) :
    exec (.pictureStart t ch stream refs unref longTerm) s =
      .next ((s.now t).startOrWait ch stream l refs unref longTerm) := by
  obtain ⟨hnext, hfatal, hstopped, hworking, hphase, hlaunched, hstat⟩ := h
  show execPictureStart t ch stream refs unref longTerm s = _
  rw [execPictureStart, inRange_of hch, inRange_of hstream, live_runs hruns]
  simp only [hnext]
  refine congrArg Host.Outcome.next ((if_neg ?_).trans rfl)
  simp [hfatal, hstopped, hworking, hphase, hlaunched, hstat]

/-! ### CTU_ISSUE (R164 to R167, R172) -/

/-- All that a CTU needs to be issued, but for the halo and the room for its record. -/
structure State.MayIssue (u : State) (px ee ch pic ctu : Nat) (p : Pic) : Prop where
  found : (u.chan ch).pic? pic = some p
  fatal : u.fatal = false
  arrayStopped : u.arrayStopped ch = false
  working : (u.chan ch).working = true
  core : u.unitFree .px px = true
  engine : u.engineOf ch pic ((u.fmt ch).subOf ctu) = none → u.unitFree .ee ee = true
  ready : u.ctuReady ch p ctu = true
  first : u.earlierFirst p = false

/-- Firn keeps a place for the CTU's record since an earlier issue. -/
def State.hasPlace (u : State) (ch pic ctu : Nat) : Bool := u.firn.any (fun e => e.1 / 8 == recKey ch pic ctu 0 / 8)

/-- Where the record of a CTU goes once it is issued: where it has a place already, or to a new one in the cluster of its
engine, if there is one (R166, R167). -/
def State.issuePlace (u : State) (ee ch pic ctu : Nat) (p : Pic) : Option Bool :=
  if u.hasPlace ch pic ctu then some false
  else u.recordPlace ch p ctu (clusterOf .ee ((u.engineOf ch pic ((u.fmt ch).subOf ctu)).getD ee))

/-- A place that the record has already is not asked for again. -/
theorem State.issuePlace_held {u : State} {ee ch pic ctu : Nat} {p : Pic} (hheld : u.hasPlace ch pic ctu = true) :
    u.issuePlace ee ch pic ctu p = some false := if_pos hheld

/-- A CTU without a place in Firn needs one in the cluster of its engine. -/
theorem State.issuePlace_new {u : State} {ee ch pic ctu : Nat} {p : Pic} (hnew : u.hasPlace ch pic ctu = false) :
    u.issuePlace ee ch pic ctu p =
      u.recordPlace ch p ctu (clusterOf .ee ((u.engineOf ch pic ((u.fmt ch).subOf ctu)).getD ee)) :=
  if_neg (Bool.eq_false_iff.mp hnew)

/-- What the issue of a CTU leaves: it waits for halo data or for room, or goes to its core (R166, R167, R172). -/
def State.issueOrWait (u : State) (px ee ch pic ctu : Nat) (p : Pic) : State :=
  if !u.haloArrived ch p ((u.fmt ch).ctuRow ctu) then (u.haloWaits ch).noteRepeat ch pic [ctu]
  else match u.issuePlace ee ch pic ctu p with
    | none => (u.haloWaited ch).spillWaits ch p ctu
    | some spill => ((u.haloWaited ch).spillWaited ch p ctu).issueCtu px ee ch p ctu spill

section
variable {u : State} {px ee ch pic ctu : Nat} {p : Pic}

theorem State.issueOrWait_halo (hmissing : u.haloArrived ch p ((u.fmt ch).ctuRow ctu) = false) :
    u.issueOrWait px ee ch pic ctu p = (u.haloWaits ch).noteRepeat ch pic [ctu] := if_pos (by rw [hmissing]; rfl)

theorem State.issueOrWait_placed {spill : Bool} (harrived : u.haloArrived ch p ((u.fmt ch).ctuRow ctu) = true)
    (hplace : u.issuePlace ee ch pic ctu p = some spill) :
    u.issueOrWait px ee ch pic ctu p = ((u.haloWaited ch).spillWaited ch p ctu).issueCtu px ee ch p ctu spill := by
  simp only [State.issueOrWait, harrived, hplace, Bool.not_true, Bool.false_eq_true, if_false]

theorem State.issueOrWait_unplaced (harrived : u.haloArrived ch p ((u.fmt ch).ctuRow ctu) = true)
    (hplace : u.issuePlace ee ch pic ctu p = none) :
    u.issueOrWait px ee ch pic ctu p = (u.haloWaited ch).spillWaits ch p ctu := by
  simp only [State.issueOrWait, harrived, hplace, Bool.not_true, Bool.false_eq_true, if_false]

end

theorem exec_ctuIssue_mayIssue {s : State} {t : Time} {px ee ch pic ctu : Nat} {p : Pic} (hruns : s.runs t) (hpx : px < 72)
    (hee : ee < 56) (hch : ch < 256) (h : (s.now t).MayIssue px ee ch pic ctu p) :
    exec (.ctuIssue t px ee ch pic ctu) s = .next ((s.now t).issueOrWait px ee ch pic ctu p) := by
  obtain ⟨hfound, hfatal, hstopped, hworking, hcore, hengine, hready, hfirst⟩ := h
  have hheld : (((s.now t).engineOf ch pic (((s.now t).fmt ch).subOf ctu)).isNone && !(s.now t).unitFree .ee ee) = false := by
    cases hown : (s.now t).engineOf ch pic (((s.now t).fmt ch).subOf ctu) with
    | none => simp [hengine hown]
    | some e => rfl
  show execCtuIssue t px ee ch pic ctu s = _
  rw [execCtuIssue, inRange_of hpx, inRange_of hee, inRange_of hch, live_runs hruns]
  simp only [hfound]
  refine congrArg Host.Outcome.next ((if_neg ?_).trans rfl)
  simp [hfatal, hstopped, hworking, hcore, hheld, hready, hfirst]

/-! ### PIXEL_GRANT_COMPLETE (R198) -/

/-- The CTU of a grant is coded: its check, its counters and its record, and the CTU done. -/
def State.ctuCoded (u : State) (px : Nat) (g : Grant) (p : Pic) (x : CtuDone) : State :=
  let a := ((((u.endGrant .px px).tick K.CODING_COUNTERS_PX_GRANTS 1).cacheUse (Config.cacheHits u.free)
    (Config.cacheMisses u.free) (Config.cacheRefetch u.free)).draws.recordCheck g.chan p g.idx x.result).cbump g.chan
      K.CH_SEARCH_STATUS_CLIPPED x.clips
  let b := (a.raiseRo (chKey g.chan K.CH_SEARCH_STATUS_MAX_MV_X) (min 65535 x.code.maxMv.1)).raiseRo
    (chKey g.chan K.CH_SEARCH_STATUS_MAX_MV_Y) (min 65535 x.code.maxMv.2)
  (b.writeRecord g.chan p g.idx (min (Config.recordBytes x.code) ((b.fmt g.chan).recordMax g.idx))).modPic g.chan g.pic
    (fun p => { p with done := p.done ++ [g.idx] })

section
variable {s : State} {t : Time} {px : Nat} {g : Grant} (hruns : s.runs t) (hpx : px < 72)
  (hgrant : ((s.now t).unit .px px).grant = some g) (slip : Nat)
include hruns hpx hgrant

/-- The grant of a picture that has left only frees the core. -/
theorem exec_pixelGrantComplete_left (hleft : ((s.now t).chan g.chan).pic? g.pic = none) :
    exec (.pixelGrantComplete t px slip) s = .next ((s.now t).endGrant .px px) := by
  show execPixelGrantComplete t px slip s = _
  rw [execPixelGrantComplete, inRange_of hpx, live_runs hruns]
  simp only [hgrant, hleft]

/-- That of a picture in work codes the CTU, and then its reconstruction is written. -/
theorem exec_pixelGrantComplete_found {p q : Pic} (hfound : ((s.now t).chan g.chan).pic? g.pic = some p)
    (hkept : (((s.now t).ctuCoded px g p ((s.now t).codeCtu g.chan p g.idx slip)).chan g.chan).pic? g.pic = some q) :
    exec (.pixelGrantComplete t px slip) s =
      .next (((s.now t).ctuCoded px g p ((s.now t).codeCtu g.chan p g.idx slip)).reconWritten g.chan q g.idx
        ((s.now t).codeCtu g.chan p g.idx slip).code) := by
  unfold State.ctuCoded at hkept ⊢
  show execPixelGrantComplete t px slip s = _
  rw [execPixelGrantComplete, inRange_of hpx, live_runs hruns]
  simp only [hgrant, hfound, hkept]

end

/-! ### CHUNK_CODED (R165, R173) -/

/-- An engine is in a chunk of a picture in work, on a device that goes on. -/
structure State.InChunk (u : State) (ee : Nat) (g : Grant) (p : Pic) (k : Nat × Nat) : Prop where
  grant : (u.unit .ee ee).grant = some g
  found : (u.chan g.chan).pic? g.pic = some p
  chunk : u.chunkOf g.chan p g.ref = some k
  fatal : u.fatal = false
  arrayStopped : u.arrayStopped g.chan = false

/-- The substream in an engine ends inside the chunk: a wavefront row that is not the chunk's last. -/
def State.endsInside (u : State) (g : Grant) (k : Nat × Nat) : Bool :=
  (u.fmt g.chan).wavefront && (u.fmt g.chan).ctuRow g.ref ≠ k.2

/-- The bytes of the chunk in an engine. -/
def State.engineBytes (u : State) (g : Grant) (p : Pic) (k : Nat × Nat) : List Byte :=
  u.chunkBytes g.chan p k (Store.get p.subs {} g.idx).saved (decide ((u.chunkList g.chan p).head? = some k))
    (decide ((u.chunkList g.chan p).getLast? = some k))

/-- The engine asks for the pool buffers that the chunk takes (R232). -/
def State.engineObtains (u : State) (ee : Nat) (g : Grant) (p : Pic) (k : Nat × Nat) : Option (List Nat) × State :=
  u.obtain g.chan 1 ee (max 1 (ceilDiv (u.engineBytes g p k).length (max 1 u.pool.bufBytes)))

section
variable {s : State} {t : Time} {ee : Nat} {g : Grant} {p : Pic} {k : Nat × Nat} (hruns : s.runs t) (hee : ee < 56)
  (hch : g.chan < 256) (h : (s.now t).InChunk ee g p k)
include hruns hee hch h

/-- A wavefront row inside the chunk ends once its CTUs are done. -/
theorem exec_chunkCoded_inside (hinside : (s.now t).endsInside g k = true)
    (hdone : (((s.now t).fmt g.chan).subCtus g.ref).all p.done.contains = true) :
    exec (.chunkCoded t ee g.chan g.pic) s = .next ((s.now t).endInnerSub g.chan ee p g) := by
  obtain ⟨hgrant, hfound, hchunk, hfatal, hstopped⟩ := h
  unfold State.endsInside at hinside
  show execChunkCoded t ee g.chan g.pic s = _
  rw [execChunkCoded, inRange_of hee, inRange_of hch, live_runs hruns]
  simp only [hgrant, hfound, hchunk, hfatal, hstopped, hinside, hdone, and_self, Bool.or_self, Bool.false_eq_true, if_false,
    if_true]

/-- The chunk ends once all of it is done and, for the picture's last, the picture can be finished; its pool buffers are there. -/
theorem exec_chunkCoded_whole {bufs : List Nat} (hwhole : (s.now t).endsInside g k = false)
    (hdone : (((s.now t).fmt g.chan).chunkCtus k.1 k.2).all p.done.contains = true)
    (hinner : (s.now t).innerDone g.chan p k = true)
    (hlast : ((s.now t).chunkList g.chan p).getLast? = some k → (s.now t).finishable g.chan p k.1 = true)
    (hgot : ((s.now t).engineObtains ee g p k).1 = some bufs) :
    exec (.chunkCoded t ee g.chan g.pic) s = .next (
      let v := ((s.now t).engineObtains ee g p k).2
      v.putChunk g.chan ee p g k (v.binCount g.chan p ((v.chunkSubs g.chan k).getLastD [])) ((s.now t).engineBytes g p k)
        bufs) := by
  obtain ⟨hgrant, hfound, hchunk, hfatal, hstopped⟩ := h
  unfold State.endsInside at hwhole
  unfold State.engineObtains State.engineBytes at hgot ⊢
  have hend : (decide (((s.now t).chunkList g.chan p).getLast? = some k) && !(s.now t).finishable g.chan p k.1) = false := by
    by_cases heop : ((s.now t).chunkList g.chan p).getLast? = some k
    · rw [hlast heop, Bool.not_true, Bool.and_false]
    · rw [decide_eq_false heop, Bool.false_and]
  show execChunkCoded t ee g.chan g.pic s = _
  rw [execChunkCoded, inRange_of hee, inRange_of hch, live_runs hruns]
  simp only [hgrant, hfound, hchunk, hfatal, hstopped, hwhole, hdone, hinner, hend, hgot, and_self, Bool.not_true, Bool.or_self,
    Bool.false_eq_true, if_false, if_true]

end

/-! ### CHUNK_EMIT (R173, R196) -/

/-- The next chunk of a stream leaves, or waits for a destination or for the output path. -/
def State.leaveOrWait (u : State) (ch stream : Nat) (p : Pic) (k : Chunk) (soc eop : Bool) : State :=
  if u.destWaits ch p k.data.length then u.modChan ch (fun c => { c with destWait := true })
  else if !u.pathFree then u.pathWaits ch stream
  else u.emitChunk ch p k soc eop

section
variable {u : State} {ch stream : Nat} {p : Pic} {k : Chunk} {soc eop : Bool}

theorem State.leaveOrWait_dest (h : u.destWaits ch p k.data.length = true) :
    u.leaveOrWait ch stream p k soc eop = u.modChan ch (fun c => { c with destWait := true }) := if_pos h

theorem State.leaveOrWait_leaves (h : u.destWaits ch p k.data.length = false) (hfree : u.pathFree = true) :
    u.leaveOrWait ch stream p k soc eop = u.emitChunk ch p k soc eop := by
  simp only [State.leaveOrWait, h, hfree, Bool.not_true, Bool.false_eq_true, if_false]

theorem State.leaveOrWait_path (h : u.destWaits ch p k.data.length = false) (hbusy : u.pathFree = false) :
    u.leaveOrWait ch stream p k soc eop = u.pathWaits ch stream := by
  simp only [State.leaveOrWait, h, hbusy, Bool.not_false, Bool.false_eq_true, if_false, if_true]

end

section
variable {s : State} {t : Time} {ch : Nat} (hruns : s.runs t) (hch : ch < 256) (hfatal : (s.now t).fatal = false)
  (hworking : ((s.now t).chan ch).working = true) (hdir : (s.now t).cv ch K.CH_DECODE_DIRECTION = 0)
include hruns hch hfatal hworking hdir

theorem exec_chunkEmit_next {stream : Nat} {p : Pic} {k : Chunk} {soc eop : Bool} (hstream : stream < 4)
    (hpass : ((s.now t).fmt ch).pass = false) (hnext : (s.now t).nextChunk ch stream = some (p, k, soc, eop)) :
    exec (.chunkEmit t ch stream) s = .next ((s.now t).leaveOrWait ch stream p k soc eop) := by
  show execChunkEmit t ch stream s = _
  rw [execChunkEmit, inRange_of hch, inRange_of hstream, live_runs hruns]
  simp [hfatal, hworking, hdir, hpass, hnext, State.leaveOrWait]

/-- The next run of lines of a frame that is passed through leaves (R300). -/
theorem exec_chunkEmit_pass {p : Pic} {rest : List Pic} (hpass : ((s.now t).fmt ch).pass = true)
    (hpics : ((s.now t).chan ch).pics = p :: rest) : exec (.chunkEmit t ch 0) s = .next ((s.now t).emitRun ch p) := by
  show execChunkEmit t ch 0 s = _
  rw [execChunkEmit, inRange_of hch, inRange_of (by decide : 0 < 4), live_runs hruns]
  simp [hfatal, hworking, hdir, hpass, hpics]

end

/-! ### VERIFY_DECODE_COMPLETE (R201) -/

/-- A substream of the picture failed to decode earlier. -/
def State.verifyFailed (v : State) (g : Grant) : Bool :=
  v.fbs.any (fun e => e.2.of_ == g.chan && e.2.verifyLeft.contains g.pic && e.2.verifyBad.contains g.pic)

/-- The picture is verified: its result is kept for the certificate. -/
def State.verifyEnds (v : State) (g : Grant) (r : Nat) : State :=
  ((v.tick K.RATE_COUNTERS_VERIFIED_PICS 1).modChan g.chan (fun c => { c with
    rate := Store.map c.rate (fun _ x => { x with
      verified := x.verified.map (fun v => if v.2.1 = g.pic then (v.1, v.2.1, some r) else v) }) })).verifyDone g.chan g.pic

/-- A mismatch or a decode error is raised and counted. -/
def State.countVerifyFail (w : State) (g : Grant) : State :=
  (w.raise F.BOUND_VERIFY_MISMATCH { loc := Loc.ofPic g.chan g.pic }).cbump g.chan K.CH_RATE_STATUS_VERIFY_FAILS 1

/-- The last substream of a picture is verified. The result is 3 for a decode error, 1 where the hashes match, and 2 where they
do not. -/
def State.verifyClose (v : State) (g : Grant) (failed hashesMatch : Bool) : State :=
  let r := if failed then 3 else if hashesMatch then 1 else 2
  (if r = 1 then v.verifyEnds g r else (v.verifyEnds g r).countVerifyFail g).serveEngines

section
variable {v : State} {g : Grant} {failed hashesMatch : Bool}

theorem State.verifyClose_match (hdecoded : failed = false) (hmatch : hashesMatch = true) :
    v.verifyClose g failed hashesMatch = (v.verifyEnds g 1).serveEngines := by
  subst hdecoded hmatch; rfl

theorem State.verifyClose_mismatch (hdecoded : failed = false) (hmatch : hashesMatch = false) :
    v.verifyClose g failed hashesMatch = ((v.verifyEnds g 2).countVerifyFail g).serveEngines := by
  subst hdecoded hmatch; rfl

theorem State.verifyClose_failed (hfailed : failed = true) :
    v.verifyClose g failed hashesMatch = ((v.verifyEnds g 3).countVerifyFail g).serveEngines := by
  subst hfailed; rfl

end

section
variable {s : State} {t : Time} {df : Nat} {g : Grant} (hruns : s.runs t) (hdf : df < 24)
  (hgrant : ((s.now t).unit .df df).grant = some g) (hverify : g.verify = true) (hashesMatch decodeError : Bool)
include hruns hdf hgrant hverify

theorem exec_verifyDecodeComplete_more (hmore : ((s.now t).verifySub df g decodeError).verifying g.chan g.pic = true) :
    exec (.verifyDecodeComplete t df hashesMatch decodeError) s =
      .next ((s.now t).verifySub df g decodeError).serveEngines := by
  show execVerifyDecodeComplete t df hashesMatch decodeError s = _
  rw [execVerifyDecodeComplete, inRange_of hdf, live_runs hruns]
  simp only [hgrant, hverify, hmore, Bool.not_true, Bool.false_eq_true, if_false, if_true]

theorem exec_verifyDecodeComplete_last (hlast : ((s.now t).verifySub df g decodeError).verifying g.chan g.pic = false) :
    exec (.verifyDecodeComplete t df hashesMatch decodeError) s = .next (((s.now t).verifySub df g decodeError).verifyClose g
      (decodeError || ((s.now t).verifySub df g decodeError).verifyFailed g) hashesMatch) := by
  show execVerifyDecodeComplete t df hashesMatch decodeError s = _
  rw [execVerifyDecodeComplete, inRange_of hdf, live_runs hruns]
  simp only [hgrant, hverify, hlast, Bool.not_true, Bool.false_eq_true, if_false]
  rfl

end

/-- Settles O34: the effect of each command of the coding, under the conditions that let it have one. -/
theorem picturesAreCoded : Obligations.PicturesAreCoded := by
  unfold Obligations.PicturesAreCoded
  constructor
  · intro s t ch stream l refs unref longTerm hch hstream hruns u c x known hnext hfatal hstopped hworking hphase hlaunched hstat
    have h : (s.now t).MayStart ch stream l := ⟨hnext, hfatal, hstopped, hworking, hphase, hlaunched, hstat⟩
    have hexec := exec_pictureStart_mayStart hruns hch hstream h refs unref longTerm
    refine ⟨fun hunknown => ?_, fun hknown => ⟨fun n hfound => ?_, fun hnone hfirst => ?_⟩⟩
    · exact hexec.trans (congrArg _ (State.startOrWait_unsized hunknown))
    · exact hexec.trans (congrArg _ (State.startOrWait_found hknown hfound))
    · exact hexec.trans (congrArg _ (State.startOrWait_starved hknown hnone hfirst))
  intro s t hruns u
  refine ⟨?_, ?_, ?_, ?_, ?_, ?_, ?_⟩
  · intro px ee ch pic ctu p hpx hee hch hfound hfatal engine place hstopped hworking hcore hengine hready hfirst
    have h : (s.now t).MayIssue px ee ch pic ctu p :=
      ⟨hfound, hfatal, hstopped, hworking, hcore, hengine, hready, hfirst⟩
    have hexec := exec_ctuIssue_mayIssue hruns hpx hee hch h
    refine ⟨fun harrived hnew => ⟨fun spill hplace => ?_, fun hplace => ?_⟩, fun harrived hplaced => ?_, fun hmissing => ?_⟩
    · exact hexec.trans (congrArg _ (State.issueOrWait_placed harrived ((State.issuePlace_new hnew).trans hplace)))
    · exact hexec.trans (congrArg _ (State.issueOrWait_unplaced harrived ((State.issuePlace_new hnew).trans hplace)))
    · exact hexec.trans (congrArg _ (State.issueOrWait_placed harrived (State.issuePlace_held hplaced)))
    · exact hexec.trans (congrArg _ (State.issueOrWait_halo hmissing))
  · exact fun px slip g hpx hgrant => exec_pixelGrantComplete_left hruns hpx hgrant slip
  · exact fun px slip g p q hpx hgrant hfound => exec_pixelGrantComplete_found hruns hpx hgrant slip hfound
  · intro ee g p k hee hch hgrant hfound hchunk hfatal hstopped
    have h : (s.now t).InChunk ee g p k := ⟨hgrant, hfound, hchunk, hfatal, hstopped⟩
    exact ⟨exec_chunkCoded_inside hruns hee hch h, fun bufs => exec_chunkCoded_whole hruns hee hch h⟩
  · intro ch stream p k soc eop hch hstream hfatal hworking hdir hpass hnext
    have hexec := exec_chunkEmit_next hruns hch hfatal hworking hdir hstream hpass hnext
    refine ⟨fun hwaits => ?_, fun hgoes => ⟨fun hfree => ?_, fun hbusy => ?_⟩⟩
    · exact hexec.trans (congrArg _ (State.leaveOrWait_dest hwaits))
    · exact hexec.trans (congrArg _ (State.leaveOrWait_leaves hgoes hfree))
    · exact hexec.trans (congrArg _ (State.leaveOrWait_path hgoes hbusy))
  · exact fun ch p rest hch hfatal hworking hdir => exec_chunkEmit_pass hruns hch hfatal hworking hdir
  · intro df g hashesMatch decodeError hdf hgrant hverify v bad ends fails
    refine ⟨exec_verifyDecodeComplete_more hruns hdf hgrant hverify hashesMatch decodeError, fun hlast => ?_⟩
    have hexec := exec_verifyDecodeComplete_last hruns hdf hgrant hverify hashesMatch decodeError hlast
    refine ⟨fun hdecoded hgood hmatch => ?_, fun hdecoded hgood hmatch => ?_, fun hfailed => ?_⟩
    · exact hexec.trans (congrArg _ (State.verifyClose_match (Bool.or_eq_false_iff.mpr ⟨hdecoded, hgood⟩) hmatch))
    · exact hexec.trans (congrArg _ (State.verifyClose_mismatch (Bool.or_eq_false_iff.mpr ⟨hdecoded, hgood⟩) hmatch))
    · exact hexec.trans (congrArg _ (State.verifyClose_failed (Bool.or_eq_true_iff.mpr hfailed)))

end Sys2Proof.Machine
end

section
/-! SUPPORT. Decoding: packets and access units that enter a channel's input, NAL units that leave it, and pictures that are output
(R213 to R220). -/

namespace Sys2Proof.Machine

/-! ### RTP packets (R213, R214) -/

section
variable {s : State} {t : Time} {ch seq : Nat} (hruns : s.runs t) (hch : ch < 256) (hseq : seq < 65536)
  (hfatal : (s.now t).fatal = false) (hdecodes : (s.now t).decodes ch = true)
include hruns hch hseq hfatal hdecodes

/-- A packet of the flow that fits and has not been given up waits at its place, and the packets that are in order leave. -/
theorem exec_decodeRtpPacket_placed {flow : RtpFlow} {type : Nat} {payload : List Byte} {next ahead : Nat}
    (hinput : (s.now t).cv ch K.CH_DECODE_INPUT = 2) (hflow : (s.now t).flowOf ch flow type = true)
    (hfits : ((s.now t).chan ch).dec.rtpFill + payload.length ≤ Config.rtpBuffer)
    (hnext : ((s.now t).chan ch).dec.rtpNext.getD (65536 + seq) = next)
    (hahead : (seq + 65536 - next % 65536) % 65536 = ahead) (hahead_lt : ahead < 32768) :
    exec (.decodeRtpPacket t ch flow type seq payload) s = .next (((s.now t).modDec ch (fun d => { d with
      rtpNext := some next, reorder := Store.put d.reorder (next + ahead) payload })).drainRtp ch 65536) := by
  have hfull : ¬ Config.rtpBuffer < ((s.now t).chan ch).dec.rtpFill + payload.length := not_lt.mpr hfits
  have hbehind : ¬ 32768 ≤ ahead := not_le.mpr hahead_lt
  show execDecodeRtpPacket t ch flow type seq payload s = _
  rw [execDecodeRtpPacket, inRange_of hch, inRange_of hseq, live_runs hruns]
  simp only [hfatal, hdecodes, hinput, hflow, hfull, hnext, hahead, hbehind, Bool.not_true, ne_eq, not_true_eq_false, decide_false,
    Bool.or_self, Bool.false_eq_true, if_false]

end

/-! ### Access units of a clip (R213, R214) -/

/-- The channel reads a clip on a magazine that is in use, no picture waits for a frame buffer, and the frame index has a next
access unit. -/
structure State.ReadsClip (u : State) (port ch offset : Nat) (data : List Byte) : Prop where
  fatal : u.fatal = false
  decodes : u.decodes ch = true
  input : u.cv ch K.CH_DECODE_INPUT = 1
  placed : (u.chan ch).fbWait = none
  onPort : u.cv ch K.CH_DECODE_PORT = port
  inUse : (u.mag port).state = 1
  unit : u.clipUnit ch = some (offset, data)

/-- The frame index goes on to the next access unit. -/
def State.nextClipUnit (v : State) (ch : Nat) : State := v.modDec ch (fun d => { d with clipNext := d.clipNext + 1 })

/-- An access unit that was read enters the input, in the buffers obtained for it. -/
def State.enterClipUnit (v : State) (ch offset : Nat) (data : List Byte) (bufs : List Nat) : State :=
  let w := v.modDec ch (fun d => { d with seqs := Store.put d.seqs d.fin offset })
  ((w.fillBufs bufs data.length).addInput ch data (bufShares w.pool.bufBytes data.length bufs) true).nextClipUnit ch

section
variable {s : State} {t : Time} {port ch offset : Nat} {data : List Byte} (hruns : s.runs t) (hport : port < 2) (hch : ch < 256)
  (h : (s.now t).ReadsClip port ch offset data)
include hruns hport hch h

/-- A read that failed leaves a gap in the input. -/
theorem exec_magClipReadComplete_error :
    exec (.magClipReadComplete t port ch true) s = .next (((s.now t).addGap ch).nextClipUnit ch) := by
  obtain ⟨hfatal, hdecodes, hinput, hplaced, honPort, hinUse, hunit⟩ := h
  show execMagClipReadComplete t port ch true s = _
  rw [execMagClipReadComplete, inRange_of hport, inRange_of hch, live_runs hruns]
  simp only [hfatal, hdecodes, hinput, hplaced, honPort, hinUse, hunit, Bool.not_true, Option.isSome_none, ne_eq,
    not_true_eq_false, decide_false, Bool.or_self, Bool.false_eq_true, if_false, if_true]
  rfl

/-- One that succeeded lets the access unit in once the buffers for it are there. -/
theorem exec_magClipReadComplete_read {bufs : List Nat}
    (hgot : ((s.now t).obtain ch 3 0 (ceilDiv data.length (max 1 (s.now t).pool.bufBytes))).1 = some bufs) :
    exec (.magClipReadComplete t port ch false) s = .next
      (((s.now t).obtain ch 3 0 (ceilDiv data.length (max 1 (s.now t).pool.bufBytes))).2.enterClipUnit ch offset data bufs) := by
  obtain ⟨hfatal, hdecodes, hinput, hplaced, honPort, hinUse, hunit⟩ := h
  show execMagClipReadComplete t port ch false s = _
  rw [execMagClipReadComplete, inRange_of hport, inRange_of hch, live_runs hruns]
  simp only [hfatal, hdecodes, hinput, hplaced, honPort, hinUse, hunit, hgot, Bool.not_true, Option.isSome_none, ne_eq,
    not_true_eq_false, decide_false, Bool.or_self, Bool.false_eq_true, if_false]
  rfl

end

/-! ### NAL units (R218 to R220) -/

/-- Bytes of the unit at the front of the input: by its length prefix in STREAM_FORMAT 1. -/
def State.unitBytes (v : State) (ch bytes : Nat) : Nat :=
  if v.cv ch K.CH_CODEC_STREAM_FORMAT = 1 ∧ bytes ≠ 0 then 4 + beNat ((v.chan ch).dec.input.take 4) else bytes

/-- What a DECODE_NAL_UNIT does to the unit at the front of the input: input that is missing there, a length that fails its
checks, a unit that has not arrived, or one that is decoded. -/
def State.frontUnit (v : State) (ch bytes : Nat) (content : NalContent) (err : Option ParseErr) (dfs : List Nat) : State :=
  match (v.chan ch).dec.gapIn bytes with
  | some g => (v.transport ch g).flushReports ch 4096
  | none =>
    if v.badLength ch && bytes ≠ 0 then ((v.decError ch .length true).skipFrom ch (v.beyondUnit ch)).flushReports ch 4096
    else if (v.chan ch).dec.input.length < v.unitBytes ch bytes then
      if v.inputEnded ch && !(v.chan ch).dec.input.isEmpty then (v.truncated ch).flushReports ch 4096 else v
    else (v.seekUnit ch (v.unitBytes ch bytes) content err dfs).flushReports ch 4096

section
variable {v : State} {ch bytes : Nat} {content : NalContent} {err : Option ParseErr} {dfs : List Nat}

theorem State.frontUnit_gap {g : Nat} (hgap : (v.chan ch).dec.gapIn bytes = some g) :
    v.frontUnit ch bytes content err dfs = (v.transport ch g).flushReports ch 4096 := by
  simp only [State.frontUnit, hgap]

variable (hwhole : (v.chan ch).dec.gapIn bytes = none)
include hwhole

theorem State.frontUnit_badLength (hlength : v.badLength ch = true) (hbytes : bytes ≠ 0) :
    v.frontUnit ch bytes content err dfs =
      ((v.decError ch .length true).skipFrom ch (v.beyondUnit ch)).flushReports ch 4096 := by
  simp only [State.frontUnit, hwhole, hlength, decide_eq_true hbytes, Bool.and_self, if_true]

theorem State.frontUnit_arrived (hlength : v.badLength ch = false ∨ bytes = 0)
    (harrived : v.unitBytes ch bytes ≤ (v.chan ch).dec.input.length) :
    v.frontUnit ch bytes content err dfs =
      (v.seekUnit ch (v.unitBytes ch bytes) content err dfs).flushReports ch 4096 := by
  have hgood : ¬ (v.badLength ch && decide (bytes ≠ 0)) = true := by
    rcases hlength with hlength | hbytes
    · simp [hlength]
    · simp [hbytes]
  simp only [State.frontUnit, hwhole, if_neg hgood, if_neg (not_lt.mpr harrived)]

end

/-- Where nothing is being discarded, DECODE_NAL_UNIT takes up the unit at the front of the input. -/
theorem exec_decodeNalUnit_front {s : State} {t : Time} {ch : Nat} (hruns : s.runs t) (hch : ch < 256)
    (hfatal : (s.now t).fatal = false) (hdecodes : (s.now t).decodes ch = true) (hfronts : (s.now t).activeOf .df ≠ 0)
    (hkept : (((s.now t).skipOn ch).chan ch).dec.skipping = none) (bytes : Nat) (content : NalContent) (err : Option ParseErr)
    (dfs : List Nat) :
    exec (.decodeNalUnit t ch bytes ⟨content, err⟩ dfs) s =
      .next (((s.now t).skipOn ch).frontUnit ch bytes content err dfs) := by
  show execDecodeNalUnit t ch bytes ⟨content, err⟩ dfs s = _
  rw [execDecodeNalUnit, inRange_of hch, live_runs hruns]
  simp only [hfatal, hdecodes, hfronts, hkept, Bool.not_true, decide_false, Bool.or_self, Option.isSome_none, Bool.false_eq_true,
    if_false]
  rfl

/-- Outside a search for a resume point, a unit in which no error is found does what it holds. -/
theorem State.seekUnit_intact {v : State} {ch : Nat} (hseek : (v.chan ch).dec.seek = false) (n : Nat) (content : NalContent)
    (dfs : List Nat) : v.seekUnit ch n content none dfs = v.nalUnit ch n content false dfs :=
  if_pos (by rw [hseek]; rfl)

/-- One in which an error is found does what the error asks. -/
theorem State.seekUnit_bad {v : State} {ch : Nat} (hseek : (v.chan ch).dec.seek = false) (n : Nat) (content : NalContent)
    (e : ParseErr) (dfs : List Nat) : v.seekUnit ch n content (some e) dfs = v.badUnit ch n content e dfs :=
  if_pos (by rw [hseek]; rfl)

/-! ### Pictures (R215, R216) -/

/-- A decoded picture not yet dealt with leaves at the time of its release. -/
theorem exec_decodedPictureOutput_released {s : State} {t : Time} {ch pic : Nat} {p : DecPic} {time : Time} (hruns : s.runs t)
    (hch : ch < 256) (hfatal : (s.now t).fatal = false) (hdecodes : (s.now t).decodes ch = true)
    (hfound : ((s.now t).chan ch).dec.pics.find? (fun p => p.count == pic && !p.dealt) = some p)
    (htime : (s.now t).releaseTime ch = some time) :
    exec (.decodedPictureOutput t ch pic) s = .next ((s.now t).outputPicture ch p time) := by
  show execDecodedPictureOutput t ch pic s = _
  rw [execDecodedPictureOutput, inRange_of hch, live_runs hruns]
  simp only [hfatal, hdecodes, hfound, htime, Bool.not_true, Bool.or_self, Bool.false_eq_true, if_false]

/-- Settles O35: what each command of the decoding leaves, on a channel that decodes. -/
theorem streamsAreDecoded : Obligations.StreamsAreDecoded := by
  unfold Obligations.StreamsAreDecoded
  intro s t ch hch hruns u d hfatal hdecodes
  refine ⟨?_, ?_, ?_, ?_, ?_⟩
  · intro flow type seq payload hseq hinput hflow hfits next ahead hahead
    exact exec_decodeRtpPacket_placed hruns hch hseq hfatal hdecodes hinput hflow hfits rfl rfl hahead
  · intro data offset port hinput hplaced hport hport_lt hinUse hunit step
    have h : (s.now t).ReadsClip port ch offset data := ⟨hfatal, hdecodes, hinput, hplaced, hport, hinUse, hunit⟩
    exact ⟨exec_magClipReadComplete_error hruns hport_lt hch h, fun bufs => exec_magClipReadComplete_read hruns hport_lt hch h⟩
  · intro bytes content err dfs hfronts v e n hkept
    have hexec := exec_decodeNalUnit_front hruns hch hfatal hdecodes hfronts hkept bytes content err dfs
    refine ⟨fun g hgap => ?_, fun hwhole hlength hbytes => ?_, fun hwhole hlength harrived => ?_⟩
    · exact hexec.trans (congrArg _ (State.frontUnit_gap hgap))
    · exact hexec.trans (congrArg _ (State.frontUnit_badLength hwhole hlength hbytes))
    · exact hexec.trans (congrArg _ (State.frontUnit_arrived hwhole hlength harrived))
  · intro v n content dfs hseek
    exact ⟨State.seekUnit_intact hseek n content dfs, fun e => State.seekUnit_bad hseek n content e dfs⟩
  · exact fun pic p time hfound htime => exec_decodedPictureOutput_released hruns hch hfatal hdecodes hfound htime

end Sys2Proof.Machine
end

section
/-! SUPPORT. The buffer pool, and frame buffers lent to the host (R232, R234, R235, R246). -/

namespace Sys2Proof.Machine

/-! ### Buffers of the pool (R232, R234, R235) -/

/-- A request takes a buffer while any is free. -/
theorem State.requestBuf_granted {v : State} (hfree : 0 < v.pool.free) (ch use unit : Nat) :
    v.requestBuf ch use unit = (v.grantBuf ch use unit).poolLevel := if_pos hfree

/-- It waits while none is. -/
theorem State.requestBuf_waits {v : State} (hfree : v.pool.free = 0) (ch use unit : Nat) :
    v.requestBuf ch use unit = v.waitBuf ch use unit := if_neg (by omega)

/-- A unit of a working channel makes its request; only an entropy engine makes it under its own number. -/
theorem exec_bufferAlloc_requests {s : State} {t : Time} {ch use ee : Nat} (hruns : s.runs t) (hch : ch < 256) (hee : ee < 56)
    (huse : use < 6) (hfatal : (s.now t).fatal = false) (hworking : ((s.now t).chan ch).working = true) (hused : use ≠ 0) :
    exec (.bufferAlloc t ch use ee) s = .next ((s.now t).requestBuf ch use (if use = 1 then ee else 0)) := by
  show execBufferAlloc t ch use ee s = _
  rw [execBufferAlloc, inRange_of hch, inRange_of hee, inRange_of huse, live_runs hruns]
  simp only [hfatal, hworking, hused, Bool.not_true, Bool.or_self, decide_false, Bool.false_eq_true, if_false]

theorem exec_bufferFree {s : State} {t : Time} {buf : Nat} (hruns : s.runs t) (hbuf : buf < 2 ^ 26) (owner : Nat) :
    exec (.bufferFree t buf owner) s = .next ((s.now t).freeBuf buf owner) := by
  show execBufferFree t buf owner s = _
  rw [execBufferFree, inRange_of hbuf, live_runs hruns]

theorem exec_bufferRelease {s : State} {t : Time} {buf : Nat} (hruns : s.runs t) (hbuf : buf < 2 ^ 26) (owner : Nat) :
    exec (.bufferRelease t buf owner) s = .next ((s.now t).releaseBuf buf owner) := by
  show execBufferRelease t buf owner s = _
  rw [execBufferRelease, inRange_of hbuf, live_runs hruns]

/-- A free or a release of a buffer that is not allocated is a double free. -/
theorem State.freeBuf_absent {v : State} {n : Nat} (hfound : Store.find? v.pool.bufs n = none) (owner : Nat) :
    v.freeBuf n owner = v.badFree F.BPM_DOUBLE_FREE n := by
  simp only [State.freeBuf, hfound]

theorem State.releaseBuf_absent {v : State} {n : Nat} (hfound : Store.find? v.pool.bufs n = none) (owner : Nat) :
    v.releaseBuf n owner = v.badFree F.BPM_DOUBLE_FREE n := by
  simp only [State.releaseBuf, hfound]

section
variable {v : State} {n owner : Nat} {b : Buf} (hfound : Store.find? v.pool.bufs n = some b)
include hfound

/-- The final owner frees its buffer. -/
theorem State.freeBuf_owner (hfreed : b.freed = false) (howner : b.owner = owner) :
    v.freeBuf n owner = v.settleBuf n { b with freed := true } := by
  simp only [State.freeBuf, hfound, hfreed, howner, Bool.false_eq_true, ne_eq, not_true_eq_false, if_false]

/-- A second free is ignored. -/
theorem State.freeBuf_freed (hfreed : b.freed = true) : v.freeBuf n owner = v.badFree F.BPM_DOUBLE_FREE n := by
  simp only [State.freeBuf, hfound, hfreed, if_true]

/-- So is a free by another unit. -/
theorem State.freeBuf_other (hfreed : b.freed = false) (howner : b.owner ≠ owner) :
    v.freeBuf n owner = v.badFree F.BPM_WRONG_OWNER n := by
  simp only [State.freeBuf, hfound, hfreed, howner, Bool.false_eq_true, ne_eq, not_false_eq_true, if_false, if_true]

/-- A sharer gives up its share. -/
theorem State.releaseBuf_sharer (hshares : owner ∈ b.sharers) :
    v.releaseBuf n owner =
      (v.tick K.POOL_COUNTERS_RELEASES 1).settleBuf n { b with sharers := b.sharers.erase owner } := by
  have hsome : b.sharers.isEmpty = false := List.isEmpty_eq_false_iff.mpr (List.ne_nil_of_mem hshares)
  have hnamed : b.sharers.contains owner = true := List.contains_iff_mem.mpr hshares
  simp only [State.releaseBuf, hfound, hsome, hnamed, Bool.not_true, Bool.false_eq_true, if_false]

/-- A release by a unit that holds none of the buffer's shares is ignored. -/
theorem State.releaseBuf_other (hshared : b.sharers ≠ []) (hother : owner ∉ b.sharers) :
    v.releaseBuf n owner = v.badFree F.BPM_WRONG_OWNER n := by
  have hsome : b.sharers.isEmpty = false := List.isEmpty_eq_false_iff.mpr hshared
  have hunnamed : b.sharers.contains owner = false := by simpa using hother
  simp only [State.releaseBuf, hfound, hsome, hunnamed, Bool.not_false, Bool.false_eq_true, if_false, if_true]

end

/-! ### Frame buffers lent to the host (R246) -/

theorem deviceRow_refExportCommand : DeviceRow K.REF_EXPORT_COMMAND (actionEntry K.REF_EXPORT_COMMAND .u8) :=
  ⟨rfl, by decide, rfl, fun _ _ _ => rfl⟩

section
variable {s : State} {t : Time} {r : Requester} (hruns : s.runs t) (hP : (s.now t).Prompt)
  (hmay : (s.now t).MayAct r K.REF_EXPORT_COMMAND)
include hruns hP hmay

/-- EXPORT and RETURN write COMMAND, which acts on the picture that the requester's selectors name. -/
theorem exec_export_served :
    ServedAs (s.now t) (exec (.export_ t r) s) (fun v => v.acted r K.REF_EXPORT_COMMAND
      (v.exportFb r (v.sel r K.REF_EXPORT_CHAN) (v.sel r K.REF_EXPORT_PIC_COUNT))) := by
  show ServedAs (s.now t) (execExport t r s) _
  rw [execExport, inRange_of hmay.1.1, live_runs hruns]
  exact deviceRow_refExportCommand.outcome_served (data := leBytes 1 1) hP hmay rfl (by decide) fun _ => rfl

theorem exec_return_served :
    ServedAs (s.now t) (exec (.return_ t r) s) (fun v => v.acted r K.REF_EXPORT_COMMAND
      (v.returnFb (v.sel r K.REF_EXPORT_CHAN) (v.sel r K.REF_EXPORT_PIC_COUNT))) := by
  show ServedAs (s.now t) (execReturn t r s) _
  rw [execReturn, inRange_of hmay.1.1, live_runs hruns]
  exact deviceRow_refExportCommand.outcome_served (data := leBytes 1 2)
    (g := fun v => v.returnFb (v.sel r K.REF_EXPORT_CHAN) (v.sel r K.REF_EXPORT_PIC_COUNT)) hP hmay rfl (by decide)
    fun _ => rfl

end

/-- The state in which a requester shows no exported frame buffer as its own; what is exported stays so. -/
def State.forgetExport (v : State) (r : Requester) : State :=
  { v with fbs := Store.map v.fbs (fun _ b => if b.exportedTo = some r.key then { b with exportedTo := none } else b) }

/-- A frame buffer not yet exported is lent where the channel's exported ones then number fewer than FB_EXTRA. -/
theorem State.exportFb_lends {v : State} {ch pic n : Nat} {b : FrameBuf} (r : Requester)
    (hfound : (v.fbsOf ch).find? (fun e => e.2.holds pic) = some (n, b)) (hheld : b.exportHold = false)
    (hroom : ((v.fbsOf ch).filter (fun e => e.2.exportHold)).length + 1 < v.cv ch K.CH_REFS_FB_EXTRA) :
    v.exportFb r ch pic = .ok (((v.forgetExport r).modFb n (fun b =>
      { b with exportHold := true, exportedTo := some r.key })).setRo K.REF_EXPORT_FB n) := by
  simp only [State.exportFb, hfound, hheld, not_le.mpr hroom, Bool.false_or, decide_false, Bool.false_eq_true, if_false]
  rfl

/-- A lent frame buffer comes back, an orphan too. -/
theorem State.returnFb_exported {v : State} {ch pic n : Nat} {b : FrameBuf}
    (hfound : List.find? (fun e => e.2.of_ == ch && e.2.holds pic && e.2.exportHold) v.fbs = some (n, b)) :
    v.returnFb ch pic = .ok ((v.modFb n (fun b => { b with exportHold := false, exportedTo := none })).setRo
      K.REF_EXPORT_FB n) := by
  simp only [State.returnFb, hfound]

/-- Settles O36: an operation on a pool buffer has one effect, by FREE or by the buffer's record, and EXPORT and RETURN are
writes of one WO entry. -/
theorem buffersAreKept : Obligations.BuffersAreKept := by
  unfold Obligations.BuffersAreKept
  intro s t hruns u
  refine ⟨?_, ?_, ?_, ?_, ?_⟩
  · intro ch use ee hch hee huse hfatal hworking hused unit
    have hexec := exec_bufferAlloc_requests hruns hch hee huse hfatal hworking hused
    exact ⟨fun hfree => hexec.trans (congrArg _ (State.requestBuf_granted hfree ch use unit)),
      fun hfree => hexec.trans (congrArg _ (State.requestBuf_waits hfree ch use unit))⟩
  · intro buf owner hbuf
    have hfree := exec_bufferFree hruns hbuf owner
    have hrelease := exec_bufferRelease hruns hbuf owner
    refine ⟨fun b hfound => ⟨?_, ?_, ?_, ?_, ?_⟩, fun hfound => ⟨?_, ?_⟩⟩
    · exact fun hfreed howner => hfree.trans (congrArg _ (State.freeBuf_owner hfound hfreed howner))
    · exact fun hfreed => hfree.trans (congrArg _ (State.freeBuf_freed hfound hfreed))
    · exact fun hfreed howner => hfree.trans (congrArg _ (State.freeBuf_other hfound hfreed howner))
    · exact fun hshares => hrelease.trans (congrArg _ (State.releaseBuf_sharer hfound hshares))
    · exact fun hshared hother => hrelease.trans (congrArg _ (State.releaseBuf_other hfound hshared hother))
    · exact hfree.trans (congrArg _ (State.freeBuf_absent hfound owner))
    · exact hrelease.trans (congrArg _ (State.releaseBuf_absent hfound owner))
  · exact fun r hP hmay => ⟨exec_export_served hruns hP hmay, exec_return_served hruns hP hmay⟩
  · exact fun v r ch pic n b hfound hheld hroom => State.exportFb_lends r hfound hheld hroom
  · exact fun v ch pic n b hfound => State.returnFb_exported hfound

end Sys2Proof.Machine
end

section
/-! SUPPORT. The time base and its PTP port (R251, R252). -/

namespace Sys2Proof.Machine

/-! ### Values of RO entries beside others -/

theorem State.ro_setRo_other (s : State) {k i : Nat} (v : Nat) (h : i ≠ k) : (s.setRo k v).ro i = s.ro i := by
  have hfind : Store.find? (s.setRo k v).dict.ro i = Store.find? s.dict.ro i := find?_putDflt_other _ _ v h
  rw [State.ro, hfind]
  rfl

theorem State.ro_setImm (s : State) (k v i : Nat) : (s.setImm k v).ro i = s.ro i := rfl

/-! ### Loss of the reference (R251) -/

/-- Without a reference nothing is lost. -/
theorem State.referenceLost_freerun {v : State} (hfree : v.tb.state = .freerun) : v.referenceLost = v := by
  simp only [State.referenceLost, hfree]

/-- A time base that follows a reference goes to HOLDOVER with its mean correction. -/
theorem State.referenceLost_following {v : State} (hfollows : v.tb.state = .locked ∨ v.tb.state = .acquiring) :
    v.referenceLost = State.raise { v with tb := { v.tb.correct v.time (v.tb.meanFreq v.time) with
      state := .holdover, holdStart := v.time } } F.TIME_REF_LOST {} := by
  rcases hfollows with hlocked | hacquiring
  · simp only [State.referenceLost, hlocked]
  · simp only [State.referenceLost, hacquiring]

/-! ### Sync and Follow_Up -/

/-- Until a path delay is known, a Sync gives the difference alone. -/
theorem State.syncMeasured_unknown {v : State} (hpath : v.tb.path = none) (d : Int) :
    v.syncMeasured d = { v with tb := { v.tb with ms := some d, sync := none } } := by
  simp only [State.syncMeasured, hpath]

/-- From then on it gives the offset too. -/
theorem State.syncMeasured_known {v : State} {p : Int} (hpath : v.tb.path = some p) (d : Int) :
    v.syncMeasured d = (State.setRo { v with tb := { v.tb with ms := some d, sync := none } }
      K.PTP_CONFIG_PORT_STATE 9).measure (d - p) := by
  simp only [State.syncMeasured, hpath]

/-- What the Announce message of the best master leaves, PORT_STATE apart. -/
def State.announced (u : State) (gm steps : Nat) (off : Int) : State :=
  ((State.setRo { u with tb := { u.tb with lastAnnounce := u.time } } K.PTP_CONFIG_GM_IDENTITY gm).setRo
    K.PTP_CONFIG_STEPS_REMOVED (steps % 65536)).setImm K.TIME_BASE_UTC_OFFSET (ofSigned 16 off)

theorem State.announced_portState (u : State) (gm steps : Nat) (off : Int) :
    (u.announced gm steps off).ro K.PTP_CONFIG_PORT_STATE = u.ro K.PTP_CONFIG_PORT_STATE := by
  rw [State.announced, State.ro_setImm, State.ro_setRo_other _ _ (by decide), State.ro_setRo_other _ _ (by decide)]
  rfl

section
variable {s : State} {t : Time} (hruns : s.runs t) (hptp : (s.now t).source = 1)
include hruns hptp

/-- A two-step Sync waits for its Follow_Up. -/
theorem exec_ptpSync_twoStep (seq : Nat) (origin rx : Time) : exec (.ptpSync t seq origin rx true) s =
    .next { s.now t with tb := { (s.now t).tb with sync := some (seq, rx) } } := by
  show execPtpSync t seq origin rx true s = _
  rw [execPtpSync, live_runs hruns, if_neg (not_not.mpr hptp), if_pos rfl]

/-- A one-step Sync carries its origin. -/
theorem exec_ptpSync_oneStep (seq : Nat) (origin rx : Time) : exec (.ptpSync t seq origin rx false) s =
    .next ((s.now t).syncMeasured ((rx : Int) - origin)) := by
  show execPtpSync t seq origin rx false s = _
  rw [execPtpSync, live_runs hruns, if_neg (not_not.mpr hptp), if_neg Bool.false_ne_true]

theorem exec_ptpFollowUp_waiting {seq : Nat} {rx : Time} (hsync : (s.now t).tb.sync = some (seq, rx)) (origin : Time) :
    exec (.ptpFollowUp t seq origin) s = .next ((s.now t).syncMeasured ((rx : Int) - origin)) := by
  show execPtpFollowUp t seq origin s = _
  rw [execPtpFollowUp, live_runs hruns]
  simp only [hsync, hptp, and_self, if_true]

/-! ### The path delay -/

theorem exec_ptpDelayReqSend_ptp : exec (.ptpDelayReqSend t) s = .next (State.emit { s.now t with
    tb := { (s.now t).tb with delayReq := some (s.now t).time, lastDelayReq := (s.now t).time } }
      (.ptpDelayReq ((s.now t).v K.PTP_CONFIG_UNICAST_DELAY = 1))) := by
  show execPtpDelayReqSend t s = _
  rw [execPtpDelayReqSend, live_runs hruns, if_neg (not_not.mpr hptp)]

/-- A Delay_Resp after a Sync gives the mean path delay, half the sum of both differences. -/
theorem exec_ptpDelayResp_measured {q : Time} {d : Int} (hreq : (s.now t).tb.delayReq = some q)
    (hms : (s.now t).tb.ms = some d) (rx : Time) :
    let p := (d + ((rx : Int) - q)) / 2
    exec (.ptpDelayResp t rx) s = .next (((State.setRo { s.now t with
      tb := { (s.now t).tb with delayReq := none, path := some p } } K.PTP_CONFIG_MEAN_PATH_NS (p.toNat % 2 ^ 32)).setRo
        K.PTP_CONFIG_PORT_STATE 9).measure (d - p)) := by
  show execPtpDelayResp t rx s = _
  rw [execPtpDelayResp, live_runs hruns]
  simp only [hreq, hms, hptp, ne_eq, not_true_eq_false, if_false]

omit hptp in
/-- One before any Sync gives none. -/
theorem exec_ptpDelayResp_unmeasured {q : Time} (hreq : (s.now t).tb.delayReq = some q) (hms : (s.now t).tb.ms = none)
    (rx : Time) : exec (.ptpDelayResp t rx) s = .next { s.now t with tb := { (s.now t).tb with delayReq := none } } := by
  show execPtpDelayResp t rx s = _
  rw [execPtpDelayResp, live_runs hruns]
  simp only [hreq, hms]

/-! ### Announce -/

/-- The best master names the grandmaster; a port that is not yet SLAVE becomes UNCALIBRATED. -/
theorem exec_ptpAnnounce_best (gm steps : Nat) (off : Int) : exec (.ptpAnnounce t gm steps off true) s =
    .next (if (s.now t).ro K.PTP_CONFIG_PORT_STATE = 9 then (s.now t).announced gm steps off
      else ((s.now t).announced gm steps off).setRo K.PTP_CONFIG_PORT_STATE 8) := by
  show execPtpAnnounce t gm steps off true s = _
  rw [execPtpAnnounce, live_runs hruns, if_neg (by simp [hptp]), ← (s.now t).announced_portState gm steps off]
  rfl

omit hptp in
/-- Any other master changes nothing. -/
theorem exec_ptpAnnounce_other (gm steps : Nat) (off : Int) :
    exec (.ptpAnnounce t gm steps off false) s = .next (s.now t) := by
  show execPtpAnnounce t gm steps off false s = _
  rw [execPtpAnnounce, live_runs hruns, if_pos (by simp)]

theorem exec_ptpAnnounceTimeout_due
    (hdue : (s.now t).tb.lastAnnounce + (s.now t).v K.PTP_CONFIG_ANNOUNCE_TIMEOUT * Config.announceInterval ≤
      (s.now t).time) :
    exec (.ptpAnnounceTimeout t) s = .next ((State.setRo { s.now t with
      tb := { (s.now t).tb with sync := none, ms := none, path := none, delayReq := none } }
        K.PTP_CONFIG_PORT_STATE 4).referenceLost) := by
  show execPtpAnnounceTimeout t s = _
  rw [execPtpAnnounceTimeout, live_runs hruns, if_neg (by simp [hptp, hdue])]

end

/-- Settles O37: each message of the PTP port has one effect, by what the port holds of the exchange. -/
theorem ptpMessages : Obligations.PtpMessages := by
  unfold Obligations.PtpMessages
  intro s t hruns u hptp
  refine ⟨exec_ptpSync_twoStep hruns hptp, exec_ptpSync_oneStep hruns hptp,
    fun seq origin rx hsync => exec_ptpFollowUp_waiting hruns hptp hsync origin,
    fun v d hpath => State.syncMeasured_unknown hpath d, fun v d p hpath => State.syncMeasured_known hpath d,
    exec_ptpDelayReqSend_ptp hruns hptp, fun q rx d hreq hms => exec_ptpDelayResp_measured hruns hptp hreq hms rx,
    fun q rx hreq hms => exec_ptpDelayResp_unmeasured hruns hreq hms rx, fun gm steps off => ?_,
    exec_ptpAnnounceTimeout_due hruns hptp⟩
  have hbest := exec_ptpAnnounce_best hruns hptp gm steps off
  exact ⟨fun huncalibrated => hbest.trans (congrArg _ (if_neg huncalibrated)),
    fun hslave => hbest.trans (congrArg _ (if_pos hslave)), exec_ptpAnnounce_other hruns gm steps off⟩

end Sys2Proof.Machine
end

section
/-! SUPPORT. References of the time base beside PTP: TOD_SET, 1PPS and LTC (R251, R254 to R256). -/

namespace Sys2Proof.Machine

/-! ### TOD_SET (R254) -/

/-- Where TOD_SET alone sets the time, it steps TIME_NOW to the value written. -/
theorem State.todSet_unsourced {w : State} (hsource : w.v K.TIME_BASE_SOURCE = 0) (hallowed : w.stepAllowed = true)
    (v : Nat) : w.todSet v = .ok (w.stepTo v) := by
  simp only [State.todSet, hsource, hallowed, if_true]

/-- Under PTP it is refused. -/
theorem State.todSet_ptp {w : State} (hsource : w.v K.TIME_BASE_SOURCE = 1) (v : Nat) : w.todSet v = .error A.value := by
  simp only [State.todSet, hsource]

theorem deviceRow_todSet : DeviceRow K.TIME_BASE_TOD_SET (actionEntry K.TIME_BASE_TOD_SET .time) :=
  ⟨rfl, by decide, rfl, fun _ _ _ => rfl⟩

/-- A write of TOD_SET is served as it comes. -/
theorem exec_todSet_served {s : State} {t : Time} {r : Requester} {v : Nat} (hruns : s.runs t) (hP : (s.now t).Prompt)
    (hmay : (s.now t).MayAct r K.TIME_BASE_TOD_SET) (hv : v < 2 ^ 64) :
    ServedAs (s.now t) (exec (.todSet t r (leBytes 8 v)) s) (fun w => w.acted r K.TIME_BASE_TOD_SET (w.todSet v)) := by
  have hval : leNat (leBytes 8 v) = v := leNat_leBytes hv
  show ServedAs (s.now t) (execTodSet t r (leBytes 8 v) s) _
  rw [execTodSet, live_act K.TIME_BASE_TOD_SET (leBytes 8 v) hruns hmay.1.1]
  exact deviceRow_todSet.outcome_served (data := leBytes 8 v) (g := fun w => w.todSet v) hP hmay rfl (by decide)
    fun w => by rw [hval]; rfl

/-! ### HOLDOVER and 1PPS (R251, R255) -/

section
variable {s : State} {t : Time} (hruns : s.runs t)
include hruns

/-- HOLDOVER_MAX_S, where it is set, ends HOLDOVER. -/
theorem exec_holdoverTimeout_due (hholds : (s.now t).tb.state = .holdover)
    (hset : (s.now t).v K.TIME_BASE_HOLDOVER_MAX_S ≠ 0)
    (hdue : (s.now t).tb.holdStart + (s.now t).v K.TIME_BASE_HOLDOVER_MAX_S * 1000000000 ≤ (s.now t).time) :
    exec (.holdoverTimeout t) s =
      .next (State.raise { s.now t with tb := { (s.now t).tb with state := .freerun } } F.TIME_FREERUN {}) := by
  show execHoldoverTimeout t s = _
  rw [execHoldoverTimeout, live_runs hruns]
  exact congrArg _ (if_pos ⟨hholds, hset, hdue⟩)

theorem exec_ppsLossTimeout_due (hsource : (s.now t).source = 2)
    (hdue : (s.now t).tb.lastPps + 3000000000 ≤ (s.now t).time) :
    exec (.ppsLossTimeout t) s = .next (s.now t).referenceLost := by
  show execPpsLossTimeout t s = _
  rw [execPpsLossTimeout, live_runs hruns, if_pos ⟨hsource, hdue⟩]

/-- PPS_OUT rises at a whole second and its offset. -/
theorem exec_ppsOutPulse_due (henabled : (s.now t).v K.PPS_LTC_PPS_OUT_EN = 1)
    (hwhole : (((s.now t).time : Int) - (s.now t).vi K.PPS_LTC_PPS_OUT_OFFSET_NS) % 1000000000 = 0) :
    exec (.ppsOutPulse t) s = .next (State.emit { s.now t with
      tb := { (s.now t).tb with lastPpsOut := (s.now t).time }
      pins := { (s.now t).pins with
        ppsHigh := (s.now t).time + (s.now t).v K.PPS_LTC_PPS_OUT_WIDTH_MS * 1000000 } }
      (.ppsOut (s.now t).time ((s.now t).v K.PPS_LTC_PPS_OUT_WIDTH_MS))) := by
  show execPpsOutPulse t s = _
  rw [execPpsOutPulse, live_runs hruns, if_pos ⟨henabled, hwhole⟩]

end

/-- An accepted 1PPS edge: it counts, uses up the instant that TOD_SET named, and measures an offset. -/
def State.ppsAccepted (u : State) (off : Int) : State :=
  (State.bump { u with tb := { u.tb with
    lastPps := u.time, tod := none, ppsKnown := u.tb.ppsKnown || u.tb.tod.isSome } } K.PPS_LTC_PPS_IN_EDGES 1).measure off

theorem State.ppsAccepted_unnamed {u : State} (hunnamed : u.tb.tod = none) (off : Int) :
    u.ppsAccepted off =
      (State.bump { u with tb := { u.tb with lastPps := u.time } } K.PPS_LTC_PPS_IN_EDGES 1).measure off := by
  simp only [State.ppsAccepted, hunnamed, Option.isSome_none, Bool.or_false]

theorem State.ppsAccepted_named {u : State} {e : Time} (hnamed : u.tb.tod = some e) (off : Int) :
    u.ppsAccepted off = (State.bump { u with tb := { u.tb with lastPps := u.time, tod := none, ppsKnown := true } }
      K.PPS_LTC_PPS_IN_EDGES 1).measure off := by
  simp only [State.ppsAccepted, hnamed, Option.isSome_some, Bool.or_true]

section
variable {s : State} {t : Time} {falling : Bool} {d : Int} (hruns : s.runs t) (hsource : (s.now t).source = 2)
  (hedge : falling = decide ((s.now t).v K.PPS_LTC_PPS_IN_EDGE = 1)) (hdist : distTo 1000000000 (s.now t).time = d)
include hruns hsource hedge hdist

/-- A selected edge is accepted unless it lies far from a whole second of a locked time base; its offset is from the instant
that TOD_SET named, or else from the nearest whole second. -/
theorem exec_ppsInEdge_accepted (hnear : (s.now t).tb.state ≠ .locked ∨ d.natAbs ≤ 100000) :
    exec (.ppsInEdge t falling) s =
      .next ((s.now t).ppsAccepted ((s.now t).tb.tod.elim d (fun e => ((s.now t).time : Int) - e))) := by
  have hkept : ¬ ((s.now t).tb.state = .locked ∧ 100000 < d.natAbs) := by
    rintro ⟨hlocked, hfar⟩
    exact hnear.elim (fun h => h hlocked) (fun h => Nat.not_lt.mpr h hfar)
  show execPpsInEdge t falling s = _
  rw [execPpsInEdge, live_runs hruns, if_neg (by simp [hsource, hedge])]
  simp only [hdist, if_neg hkept]
  cases htod : (s.now t).tb.tod with
  | none => simp only [State.ppsAccepted, htod, Option.elim_none]
  | some e => simp only [State.ppsAccepted, htod, Option.elim_some]

section
variable (hnear : (s.now t).tb.state ≠ .locked ∨ d.natAbs ≤ 100000)
include hnear

theorem exec_ppsInEdge_unnamed (hunnamed : (s.now t).tb.tod = none) : exec (.ppsInEdge t falling) s =
    .next ((State.bump { s.now t with tb := { (s.now t).tb with lastPps := (s.now t).time } }
      K.PPS_LTC_PPS_IN_EDGES 1).measure d) := by
  rw [exec_ppsInEdge_accepted hruns hsource hedge hdist hnear, State.ppsAccepted_unnamed hunnamed, hunnamed,
    Option.elim_none]

theorem exec_ppsInEdge_named {e : Time} (hnamed : (s.now t).tb.tod = some e) : exec (.ppsInEdge t falling) s =
    .next ((State.bump { s.now t with tb := { (s.now t).tb with
      lastPps := (s.now t).time, tod := none, ppsKnown := true } } K.PPS_LTC_PPS_IN_EDGES 1).measure
        (((s.now t).time : Int) - e)) := by
  rw [exec_ppsInEdge_accepted hruns hsource hedge hdist hnear, State.ppsAccepted_named hnamed, hnamed, Option.elim_some]

end

/-- A locked time base rejects an edge far from a whole second. -/
theorem exec_ppsInEdge_rejected (hlocked : (s.now t).tb.state = .locked) (hfar : 100000 < d.natAbs) :
    exec (.ppsInEdge t falling) s = .next (s.now t) := by
  show execPpsInEdge t falling s = _
  rw [execPpsInEdge, live_runs hruns, if_neg (by simp [hsource, hedge])]
  simp only [hdist, hlocked, hfar, and_self, if_true]

end

/-! ### LTC (R256) -/

section
variable {s : State} {t : Time} (hruns : s.runs t)
include hruns

theorem exec_ltcCodeword_valid (rate : LtcRate) (code : W32) (start : Time) :
    exec (.ltcCodeword t true rate code start) s = .next (((State.setRo { s.now t with tb := { (s.now t).tb with
      ltc := (start, ltcPack rate code, ltcCode rate) :: (s.now t).tb.ltc } } K.PPS_LTC_LTC_RATE (ltcCode rate)).setRo
        K.PPS_LTC_LTC_LAST (ltcPack rate code).toNat).setRo K.PPS_LTC_LTC_LAST_TIME start) := by
  show execLtcCodeword t true rate code start s = _
  rw [execLtcCodeword, live_runs hruns, if_pos rfl]

/-- A codeword with a wrong sync word is discarded. -/
theorem exec_ltcCodeword_invalid (rate : LtcRate) (code : W32) (start : Time) :
    exec (.ltcCodeword t false rate code start) s = .next (s.now t) := by
  show execLtcCodeword t false rate code start s = _
  rw [execLtcCodeword, live_runs hruns, if_neg Bool.false_ne_true]

/-- Four frame periods after the last codeword, no rate is shown. -/
theorem exec_ltcTimeout_due {start : Time} {c : W32} {rate : Nat} {rest : List (Time × W32 × Nat)}
    (hlast : (s.now t).tb.ltc = (start, c, rate) :: rest)
    (hdue : 4 * (ltcFrac rate).2 * 1000000000 ≤ ((s.now t).time - start) * (ltcFrac rate).1) :
    exec (.ltcTimeout t) s = .next ((s.now t).setRo K.PPS_LTC_LTC_RATE 0) := by
  show execLtcTimeout t s = _
  rw [execLtcTimeout, live_runs hruns]
  simp only [hlast, hdue, if_true]

end

/-- Settles O38: what each event of a reference leaves, by the state of the time base and the source that is set. -/
theorem timeReferences : Obligations.TimeReferences := by
  unfold Obligations.TimeReferences
  intro s t hruns u
  refine ⟨exec_holdoverTimeout_due hruns, exec_ppsLossTimeout_due hruns, State.referenceLost_freerun,
    State.referenceLost_following, fun r v hP hmay hv => exec_todSet_served hruns hP hmay hv,
    fun v hsource hallowed => State.todSet_unsourced hsource hallowed v, fun v hsource => State.todSet_ptp hsource v,
    fun falling hsource hedge => ⟨fun hnear => ⟨exec_ppsInEdge_unnamed hruns hsource hedge rfl hnear,
      fun e => exec_ppsInEdge_named hruns hsource hedge rfl hnear⟩, exec_ppsInEdge_rejected hruns hsource hedge rfl⟩,
    exec_ppsOutPulse_due hruns, exec_ltcCodeword_valid hruns, exec_ltcCodeword_invalid hruns,
    fun start c rate rest hlast hdue => exec_ltcTimeout_due hruns hlast hdue⟩

end Sys2Proof.Machine
end

section
/-! SUPPORT. Launches: firing, pairing, launch lists, and LAUNCH messages of an array (R259, R261, R263, R267, R276). -/

namespace Sys2Proof.Machine

/-! ### Launches of a channel (R259, R263) -/

section
variable {s : State} {t : Time} {ch : Nat} (hruns : s.runs t) (hch : ch < 256)
include hruns hch

/-- A launch that is due leaves where it waited, and fires as its channel encodes or decodes. -/
theorem exec_launchFire_due {time : Time} {force : Bool} {base : Option Nat} (hfatal : (s.now t).fatal = false)
    (hdue : (s.now t).dueLaunch ch = some (time, force, base)) :
    exec (.launchFire t ch) s = .next (
      if ((s.now t).dequeueLaunch ch).cv ch K.CH_DECODE_DIRECTION = 1 then ((s.now t).dequeueLaunch ch).fireDecode ch time
      else ((s.now t).dequeueLaunch ch).fire ch time force base) := by
  show execLaunchFire t ch s = _
  rw [execLaunchFire, inRange_of hch, live_runs hruns]
  simp only [hfatal, hdue, Bool.false_eq_true, if_false]

/-- A decided launch at the end of its window gives way to the next. -/
theorem exec_pairWindowExpiry_ended {w : PairWait} {rest : List PairWait}
    (hfirst : (((s.now t).pairUp ch).chan ch).pairs = w :: rest) (hdecided : w.idle.isSome = true)
    (hended : w.limit ≤ ((s.now t).pairUp ch).time) :
    exec (.pairWindowExpiry t ch) s = .next ((((s.now t).pairUp ch).expirePair ch w).pairUp ch) := by
  show execPairWindowExpiry t ch s = _
  rw [execPairWindowExpiry, inRange_of hch, live_runs hruns]
  simp only [hfirst, hdecided, hended, and_self, if_true]

end

/-! ### Launch lists (R261) -/

/-- LIST_WR (Table 11-5). -/
def listWrEntry : Entry := ⟨0x10, 1, 0x6, 1, .u32, .rw, 0, .imm, .any, false⟩

theorem openRow_listWr : OpenRow 0x10 0x06 listWrEntry := ⟨by decide, by decide, rfl, .inl rfl, rfl, rfl, by decide⟩

/-- An entry of a channel other than the index of a LUT selects nothing. -/
theorem isSelector_object {ch obj sub : Nat} (hobj : obj < 64) (hsub : sub < 256)
    (hraw : obj * 256 + sub ≠ K.CH_RAW_LUT_INDEX)
    (hderived : ∀ k < 4, obj * 256 + sub ≠ K.CH_DERIVEDk_LUT_INDEX + 256 * k) :
    isSelector (keyOf (0x4000 + 64 * ch + obj) sub) = false := by
  have hdevice : keyOf (0x4000 + 64 * ch + obj) sub ∉ selectorKeys := fun hmem =>
    keyOf_object_ne ((by decide : ∀ k ∈ selectorKeys, k < 0x400000) _ hmem) rfl
  have hnone : (List.range 4).any (fun k => obj * 256 + sub == K.CH_DERIVEDk_LUT_INDEX + 256 * k) = false :=
    List.any_eq_false.mpr fun k hk => by simpa using hderived k (List.mem_range.mp hk)
  rw [isSelector, List.contains_eq_mem, decide_eq_false hdevice, isLutIndex, chanPart_object hobj hsub, hnone,
    beq_eq_false_iff_ne.mpr hraw, Bool.or_self, Bool.and_false, Bool.or_self]

/-- The effect of a write of LIST_WR is that of the list. -/
theorem State.writeEffect_listWr (v : State) (r : Requester) {ch : Nat} (data : List Byte) (env : Env) (hch : ch < 256) :
    v.writeEffect r listWrEntry (0x4000 + 64 * ch + 0x10) 0x06 data env = v.outcome (v.listWr ch (leNat data)) := by
  have hrow := openRow_listWr
  have hselector : isSelector (keyOf (0x4000 + 64 * ch + 0x10) 0x06) = false :=
    isSelector_object hrow.object hrow.small (by decide) (by decide)
  have hlut : isLutData (keyOf (0x4000 + 64 * ch + 0x10) 0x06) = false := isLutData_object hrow.object hrow.small hch
  have howner : (0x10 * 256 + 0x06 : Nat) ≠ K.CH_STATE_OWNER := by decide
  show v.acceptRw r listWrEntry (0x4000 + 64 * ch + 0x10) 0x06 (leNat data) = _
  simp only [State.acceptRw, hselector, hlut, isChanIdx_object hch hrow.object, chanPart_object hrow.object hrow.small,
    chanOf_object hrow.object, howner, and_false, and_self, Bool.false_eq_true, if_false, if_true]

/-- A write of LIST_WR is served as it comes. -/
theorem exec_listWrWrite_served {s : State} {t : Time} {r : Requester} {ch v : Nat} (hruns : s.runs t) (hch : ch < 256)
    (hP : (s.now t).Prompt) (hmay : (s.now t).MayAct r (chKey ch K.CH_LAUNCH_LIST_WR)) (hv : v < 2 ^ 32) :
    ServedAs (s.now t) (exec (.listWrWrite t r ch (leBytes 4 v)) s)
      (fun w => w.acted r (chKey ch K.CH_LAUNCH_LIST_WR) (w.listWr ch v)) := by
  have hrow := openRow_listWr
  have hkey : chKey ch K.CH_LAUNCH_LIST_WR = keyOf (0x4000 + 64 * ch + 0x10) 0x06 := chKey_object (obj := 0x10) (sub := 0x06)
  have hval : leNat (leBytes 4 v) = v := leNat_leBytes hv
  rw [hkey] at hmay ⊢
  have hwrite : exec (.listWrWrite t r ch (leBytes 4 v)) s =
      .next ((s.now t).freeWrite r (0x4000 + 64 * ch + 0x10) 0x06 (leBytes 4 v) 0) := by
    show execListWrWrite t r ch (leBytes 4 v) s = _
    rw [execListWrWrite, inRange_of hmay.1.1, inRange_of hch, live_runs hruns, State.act, State.keyWrite, hkey,
      keyOf_div hrow.small, keyOf_mod hrow.small]
  rw [hwrite]
  refine (hrow.write_served hch hmay hP rfl (State.lutBusy_of_not_data hrow.object hrow.small _ hch (by decide))
    fun w => w.writeEffect_listWr r _ _ hch).congr fun _ _ => ?_
  rw [hval]
  exact acted2_outcome ..

/-- A LIST_WR that leaves no more live rows than the table holds reads the head row. -/
theorem State.listWr_fits {u : State} {ch v : Nat} (hfits : u.listLive ch v ≤ 4096) :
    u.listWr ch v = .ok ((u.setImm (chKey ch K.CH_LAUNCH_LIST_WR) v).listHeadRead ch 4097) :=
  if_neg (not_lt.mpr hfits)

/-! ### LAUNCH messages: the time master (R267, R286) -/

section
variable {s : State} {t : Time} {ch : Nat} {next : Time × Bool} (hruns : s.runs t) (hch : ch < 256)
  (hmaster : (s.now t).timeMaster = true) (hopen : ((s.now t).chan ch).state = .open_)
  (harray : ((s.now t).fmt ch).array = true) (hnext : (s.now t).arrayNext ch = some next)
include hruns hch hmaster hopen harray hnext

/-- While a member shows the channel otherwise, the launch is held. -/
theorem exec_bugleLaunchSend_held (hmatch : (s.now t).membersMatch ch = false) :
    exec (.bugleLaunchSend t ch) s = .next ((s.now t).holdLaunch ch next) := by
  show execBugleLaunchSend t ch s = _
  rw [execBugleLaunchSend, inRange_of hch, live_runs hruns, if_neg (by simp [hmaster, hopen, harray])]
  simp only [hnext, hmatch, Bool.not_false, if_true]

/-- Once all members match it is sent, and the next one is taken from the list where the channel has one. -/
theorem exec_bugleLaunchSend_sent (hmatch : (s.now t).membersMatch ch = true) :
    exec (.bugleLaunchSend t ch) s = .next (
      if ((s.now t).sendLaunch ch next.1 next.2).cv ch K.CH_LAUNCH_MODE = 1 then
        ((s.now t).sendLaunch ch next.1 next.2).listTake ch
      else ((s.now t).sendLaunch ch next.1 next.2).modChan ch (fun c => { c with listHead := none })) := by
  show execBugleLaunchSend t ch s = _
  rw [execBugleLaunchSend, inRange_of hch, live_runs hruns, if_neg (by simp [hmaster, hopen, harray])]
  simp only [hnext, hmatch, Bool.not_true, Bool.false_eq_true, if_false]

end

/-! ### LAUNCH messages: a follower (R267) -/

section
variable {v : State} {ch : Nat} {time : Time} (hopen : (v.chan ch).state = .open_) (harray : (v.fmt ch).array = true)
  (hlater : ∀ l, (v.chan ch).lastLaunch = some l → l < time)
include hopen harray hlater

/-- A launch of an open array channel after its last one is taken up: it fires late, or is put in order of time. -/
theorem State.launchIn_later (force : Bool) (pic : Nat) :
    v.launchIn ch force time pic =
      if time < v.time then
        ((v.bump K.ARRAY_TIME_BUGLE_LATE 1).raise F.BUGLE_LATE { loc := Loc.ofChan ch }).fire ch time force (some pic)
      else v.setChan ch { v.chan ch with sched := insertLaunch (time, force, pic) (v.chan ch).sched } := by
  rw [State.launchIn]
  refine (if_neg ?_).trans rfl
  cases hlast : (v.chan ch).lastLaunch with
  | none => simp [hopen, harray]
  | some l => simp [hopen, harray, hlater l hlast]

end

/-- A follower takes a LAUNCH of the time master that it has not yet applied. -/
theorem exec_launch_fresh {s v : State} {t : Time} {from_ ch seq : Nat} (hruns : s.runs t) (hch : ch < 256) (hfrom : from_ < 8)
    (hfollower : (s.now t).follower = true) (hmaster : from_ = (s.now t).array.coordinator)
    (hfresh : (s.now t).bugleFresh from_ seq = some v) (force : Bool) (time : Time) (pic : Nat) :
    exec (.launch t from_ ch force seq time pic) s = .next ((v.launchIn ch force time pic).releaseRec from_ 1024) := by
  show execLaunch t from_ ch force seq time pic s = _
  rw [execLaunch, inRange_of hfrom, inRange_of hch, live_runs hruns, if_neg (by simp [hfollower, ← hmaster])]
  simp only [hfresh]

/-- With no REC_STATUS waiting there is none to release. -/
theorem State.releaseRec_idle {v : State} (hidle : v.tb.recWaiting = []) (from_ fuel : Nat) : v.releaseRec from_ fuel = v := by
  cases fuel with
  | zero => rfl
  | succ k => simp only [State.releaseRec, hidle, List.filter_nil, List.find?_nil]

/-- Settles O39: each command on a launch has one effect, by where the launch waits and by what the members and the channel
show. -/
theorem launches : Obligations.Launches := by
  unfold Obligations.Launches
  intro s t ch hch hruns u
  refine ⟨?_, fun w rest => exec_pairWindowExpiry_ended hruns hch,
    fun r v hP hv hmay => exec_listWrWrite_served hruns hch hP hmay hv, fun v => State.listWr_fits, ?_, ?_,
    fun v from_ hidle => State.releaseRec_idle hidle from_ 1024⟩
  · intro time force base hfatal hdue
    have hexec := exec_launchFire_due hruns hch hfatal hdue
    refine ⟨fun hencodes => hexec.trans (congrArg _ (if_neg ?_)),
      fun hdecodes => hexec.trans (congrArg _ (if_pos hdecodes))⟩
    exact fun hdecodes => absurd (hencodes.symm.trans hdecodes) (by decide)
  · intro next hmaster hopen harray hnext
    have hsent := exec_bugleLaunchSend_sent hruns hch hmaster hopen harray hnext
    refine ⟨exec_bugleLaunchSend_held hruns hch hmaster hopen harray hnext,
      fun hmatch hperiodic => (hsent hmatch).trans (congrArg _ (if_neg ?_)),
      fun hmatch hlist => (hsent hmatch).trans (congrArg _ (if_pos hlist))⟩
    exact fun hlist => absurd (hperiodic.symm.trans hlist) (by decide)
  · intro from_ force seq time pic v hfrom hfollower hmaster hfresh hopen harray hlater
    have hexec := exec_launch_fresh hruns hch hfrom hfollower hmaster hfresh force time pic
    rw [State.launchIn_later hopen harray hlater force pic] at hexec
    exact ⟨fun htimely => by rw [hexec, if_neg (not_lt.mpr htimely)], fun hlate => by rw [hexec, if_pos hlate]⟩

end Sys2Proof.Machine
end

section
/-! SUPPORT. The time of an array: SYNC_IO, TIME_OF_DAY and REC_STATUS (R251, R268, R269, R276). -/

namespace Sys2Proof.Machine

/-! ### The time master -/

section
variable {s : State} {t : Time} (hruns : s.runs t) (hmaster : (s.now t).timeMaster = true)
include hruns hmaster

theorem exec_syncIoDrive_whole (hwhole : (s.now t).time % 1000000 = 0) :
    exec (.syncIoDrive t) s = .next ((s.now t).emit .syncIo) := by
  show execSyncIoDrive t s = _
  rw [execSyncIoDrive, live_runs hruns, if_pos ⟨hmaster, hwhole⟩]

/-- The time master names the next whole second. -/
theorem exec_timeOfDaySend_master : exec (.timeOfDaySend t) s = .next (State.bugleSend { s.now t with
    tb := { (s.now t).tb with lastTodSend := (s.now t).time } } 3 0 0
      (((s.now t).time / 1000000000 + 1) * 1000000000) 0 0 0) := by
  show execTimeOfDaySend t s = _
  rw [execTimeOfDaySend, live_runs hruns, if_pos hmaster]

/-- Before any accepted change, REC_STATUS names none. -/
theorem exec_recStatusSend_unchanged (hunchanged : (s.now t).recIn.changes = []) :
    exec (.recStatusSend t) s = .next (State.bugleSend { s.now t with
      tb := { (s.now t).tb with lastRecSend := (s.now t).time } } 2 0 (if (s.now t).recIn.recording then 1 else 0)
        (State.finalTime { s.now t with tb := { (s.now t).tb with lastRecSend := (s.now t).time } }) 0 0 0) := by
  show execRecStatusSend t s = _
  rw [execRecStatusSend, live_runs hruns, if_pos hmaster]
  simp only [hunchanged]

end

/-! ### Messages to a follower -/

section
variable {s v : State} {t : Time} {from_ seq : Nat} (hruns : s.runs t) (hfrom : from_ < 8)
  (hfollower : (s.now t).follower = true) (hmaster : from_ = (s.now t).array.coordinator)
  (hfresh : (s.now t).bugleFresh from_ seq = some v)
include hruns hfrom hfollower hmaster hfresh

/-- A follower takes the whole second that a TIME_OF_DAY of the time master names. -/
theorem exec_timeOfDay_fresh (edge : Time) : exec (.timeOfDay t from_ seq edge) s =
    .next (State.releaseRec { v with tb := { v.tb with todEdge := some edge } } from_ 1024) := by
  show execTimeOfDay t from_ seq edge s = _
  rw [execTimeOfDay, inRange_of hfrom, live_runs hruns, if_pos ⟨hfollower, hmaster⟩]
  simp only [hfresh]

/-- A REC_STATUS waits until every message before it has arrived. -/
theorem exec_recStatus_fresh (recording : Bool) (final agree edge : Time) :
    exec (.recStatus t from_ recording seq final agree edge) s = .next (State.releaseRec { v with tb := { v.tb with
      recWaiting := v.tb.recWaiting ++ [⟨from_, seq, recording, final, agree, edge⟩] } } from_ 1024) := by
  show execRecStatus t from_ recording seq final agree edge s = _
  rw [execRecStatus, inRange_of hfrom, live_runs hruns, if_pos ⟨hfollower, hmaster⟩]
  simp only [hfresh]

end

theorem seqBefore_self (a : Nat) : seqBefore a a = false := by
  simp only [seqBefore, ne_eq, not_true_eq_false, decide_false, Bool.false_and]

/-- The one message that waits takes effect once those before it have arrived. -/
theorem State.releaseRec_single {v : State} {m : RecMessage} (hwaits : v.tb.recWaiting = [m])
    (harrived : seqBefore m.seq (Store.get v.tb.bugleNext 0 m.from_) = true) (fuel : Nat) :
    v.releaseRec m.from_ (fuel + 1) =
      ((State.recStatusIn { v with tb := { v.tb with recWaiting := [] } } m).each
        (List.map Prod.fst (State.recStatusIn { v with tb := { v.tb with recWaiting := [] } } m).chans)
        State.pairUp).releaseRec m.from_ fuel := by
  simp [State.releaseRec, hwaits, harrived, seqBefore_self]

/-! ### SYNC_IO at a follower -/

section
variable {s : State} {t : Time} {d : Int} (hruns : s.runs t) (hfollower : (s.now t).follower = true)
  (hdist : distTo 1000000 ((s.now t).time - (s.now t).v K.ARRAY_TIME_SYNC_DELAY_NS) = d)
include hruns hfollower

section
include hdist

/-- A locked time base rejects an edge far from a whole millisecond. -/
theorem exec_syncIoEdge_rejected (hlocked : (s.now t).tb.state = .locked) (hfar : 1000 < d.natAbs) :
    exec (.syncIoEdge t) s = .next ((s.now t).bump K.ARRAY_TIME_SYNC_REJECTED 1) := by
  show execSyncIoEdge t s = _
  rw [execSyncIoEdge, live_runs hruns, if_neg (by simp [hfollower])]
  simp only [hdist, hlocked, hfar, and_self, if_true]

/-- One that is not locked disciplines itself to the nearest whole millisecond while no whole second is named. -/
theorem exec_syncIoEdge_unnamed (hunlocked : (s.now t).tb.state ≠ .locked) (hunnamed : (s.now t).tb.todEdge = none) :
    exec (.syncIoEdge t) s = .next (((State.bump { s.now t with tb := { (s.now t).tb with lastSync := (s.now t).time } }
      K.ARRAY_TIME_SYNC_EDGES 1).setRo K.ARRAY_TIME_SYNC_LAST_ERR_NS (ofSigned 32 d)).measure d) := by
  show execSyncIoEdge t s = _
  rw [execSyncIoEdge, live_runs hruns, if_neg (by simp [hfollower])]
  simp only [hdist, hunlocked, hunnamed, false_and, if_false, if_true]

end

theorem exec_syncLossTimeout_due (hdue : (s.now t).tb.lastSync + 3000000 ≤ (s.now t).time) :
    exec (.syncLossTimeout t) s = .next (s.now t).referenceLost := by
  show execSyncLossTimeout t s = _
  rw [execSyncLossTimeout, live_runs hruns, if_pos ⟨hfollower, hdue⟩]

end

/-- A message of a kind that Table 11-7 does not name counts as a flit error. -/
theorem exec_bugleUnknownKind_unknown {s : State} {t : Time} {port kind : Nat} (hruns : s.runs t) (hport : port < 6)
    (hunknown : ¬ (1 ≤ kind ∧ kind ≤ 3)) :
    exec (.bugleUnknownKind t port kind) s = .next ((s.now t).tick K.ARRAY_COUNTERS_FLIT_ERRORS 1) := by
  show execBugleUnknownKind t port kind s = _
  rw [execBugleUnknownKind, inRange_of hport, live_runs hruns, if_neg hunknown]

/-- Settles O40: what the time master sends, and what each message and edge leaves at a follower. -/
theorem arrayTime : Obligations.ArrayTime := by
  unfold Obligations.ArrayTime
  intro s t hruns u
  refine ⟨fun hmaster => ⟨exec_syncIoDrive_whole hruns hmaster, exec_timeOfDaySend_master hruns hmaster,
    exec_recStatusSend_unchanged hruns hmaster⟩, fun hfollower => ⟨?_, ?_, ?_, ?_, ?_, ?_⟩,
    fun port kind => exec_bugleUnknownKind_unknown hruns⟩
  · exact fun from_ seq edge v hfrom hmaster hfresh => exec_timeOfDay_fresh hruns hfrom hfollower hmaster hfresh edge
  · exact fun from_ seq recording final agree edge v hfrom hmaster hfresh =>
      exec_recStatus_fresh hruns hfrom hfollower hmaster hfresh recording final agree edge
  · rintro v from_ m k hwaits rfl harrived
    exact State.releaseRec_single hwaits harrived k
  · exact exec_syncIoEdge_rejected hruns hfollower rfl
  · exact exec_syncIoEdge_unnamed hruns hfollower rfl
  · exact exec_syncLossTimeout_due hruns hfollower

end Sys2Proof.Machine
end

section
/-! SUPPORT. The record inputs (R271, R273). -/

namespace Sys2Proof.Machine

/-! ### The answer to a sample (Table 11-9) -/

section
variable {v : State}

/-- In STOPPED, both channels in RUN are an accepted start. -/
theorem State.recSample_starts (hstopped : v.recIn.state = 0) (hrun : v.recIn.both true = true) (ts : Time) :
    v.recSample ts = v.recAccept true ts ts := by
  simp only [State.recSample, hstopped, hrun, if_true]

/-- In RECORDING, both in STOP are an accepted stop. -/
theorem State.recSample_stops (hrecording : v.recIn.state = 2) (hstop : v.recIn.both false = true) (ts : Time) :
    v.recSample ts = v.recAccept false ts ts := by
  simp only [State.recSample, hrecording, hstop, if_true]

/-- In STOPPED, channels that differ begin START_PENDING. -/
theorem State.recSample_differs (hstopped : v.recIn.state = 0) (hrun : v.recIn.both true = false)
    (hstop : v.recIn.both false = false) (ts : Time) :
    v.recSample ts = { v with recIn := { v.recIn with state := 1, t1 := ts, td := v.td } } := by
  simp only [State.recSample, hstopped, hrun, hstop, Bool.false_eq_true, if_false]

/-- In START_PENDING, a return of both to STOP is a glitch. -/
theorem State.recSample_glitches (hpending : v.recIn.state = 1) (hstop : v.recIn.both false = true) (ts : Time) :
    v.recSample ts = ({ v with recIn := { v.recIn with state := 0 } }).bump K.REC_INPUT_GLITCHES 1 := by
  simp only [State.recSample, hpending, hstop, if_true]

end

theorem State.recAccept_recIn (v : State) (run : Bool) (agree edge : Time) :
    (v.recAccept run agree edge).recIn = { v.recIn with
      state := if run then 2 else 0, rearm := none, changes := (agree, edge, run) :: v.recIn.changes } := rfl

/-! ### Disagreement and re-arming -/

/-- A disagreement that has lasted Td locks the machine. -/
theorem State.recExpire_due {v : State} {now : Time} (hpending : v.recIn.state = 1 ∨ v.recIn.state = 3)
    (hdue : v.recIn.t1 + v.recIn.td ≤ now) : v.recExpire now = v.recDiscrepancy := if_pos ⟨hpending, hdue⟩

/-- A locked machine re-arms once both channels have shown its prior state for Td. -/
theorem State.recRearm_due {v : State} {now since td : Time} (hlocked : v.recIn.state = 4)
    (hrearm : v.recIn.rearm = some (since, td)) (hdue : since + td ≤ now) :
    v.recRearm now = State.endFault { v with
      recIn := { v.recIn with state := if v.recIn.prior then 2 else 0, rearm := none } } F.REC_DISCREPANCY 0 := by
  simp only [State.recRearm, hlocked, hrearm, if_pos hdue]

/-! ### The pins -/

/-- The state in which a sample finds the record inputs, with what the samples before it bring about. -/
def State.recBefore (u : State) (ts : Time) : State := (u.recExpire (ts - 1)).recRearm (ts - 1)

/-- The sample at an instant of the pins at their new levels. -/
def State.recSampleAs (v : State) (a b : Bool) (ts : Time) : State :=
  State.recSample { v with recIn := { v.recIn with pinA := a, pinB := b } } ts

section
variable {s : State} {t : Time} (hruns : s.runs t)
include hruns

/-- Pins that count are sampled once what the samples before bring about has happened. -/
theorem exec_recInputChange_counted (a b : Bool) (hcount : (s.now t).pinsCount = true)
    (hstill : ((s.now t).recBefore (sampleAt (s.now t).time)).pinsCount = true) :
    exec (.recInputChange t a b) s = .next (((s.now t).recBefore (sampleAt (s.now t).time)).recSampleAs a b
      (sampleAt (s.now t).time)) := by
  show execRecInputChange t a b s = _
  rw [execRecInputChange, live_runs hruns]
  simp only [hcount, if_true]
  exact congrArg Host.Outcome.next (if_pos hstill)

/-- Pins that do not count change alone. -/
theorem exec_recInputChange_uncounted (a b : Bool) (huncounted : (s.now t).pinsCount = false) :
    exec (.recInputChange t a b) s =
      .next { s.now t with recIn := { (s.now t).recIn with pinA := a, pinB := b } } := by
  have hstill : State.pinsCount { s.now t with recIn := { (s.now t).recIn with pinA := a, pinB := b } } = false :=
    huncounted
  show execRecInputChange t a b s = _
  rw [execRecInputChange, live_runs hruns]
  simp only [huncounted, hstill, Bool.false_eq_true, if_false]

section
variable (hcount : (s.now t).pinsCount = true)
include hcount

theorem exec_recTdExpiry_counted : exec (.recTdExpiry t) s = .next ((s.now t).recExpire (s.now t).time) := by
  show execRecTdExpiry t s = _
  rw [execRecTdExpiry, live_runs hruns, if_pos hcount]

theorem exec_recRearm_counted : exec (.recRearm t) s = .next ((s.now t).recRearm (s.now t).time) := by
  show execRecRearm t s = _
  rw [execRecRearm, live_runs hruns, if_pos hcount]

end

end

/-! ### COMMAND (R273) -/

/-- While COMMAND counts, one that asks for a change is accepted at its instant. -/
theorem State.recCommand_changes {v : State} {run : Bool} (hsource : v.v K.REC_INPUT_REC_SOURCE = 1)
    (hfollower : v.follower = false) (hchange : v.recIn.recording ≠ run) :
    v.recCommand (if run then 1 else 2) = .ok (v.recAccept run v.time v.time) := by
  cases run <;> simp [State.recCommand, hsource, hfollower, hchange]

theorem deviceRow_recCommand : DeviceRow K.REC_INPUT_COMMAND (actionEntry K.REC_INPUT_COMMAND .u8) :=
  ⟨rfl, by decide, rfl, fun _ _ _ => rfl⟩

section
variable {s : State} {t : Time} {r : Requester} (hruns : s.runs t) (hP : (s.now t).Prompt)
  (hmay : (s.now t).MayAct r K.REC_INPUT_COMMAND)
include hruns hP hmay

/-- START and STOP write COMMAND, which is served as it comes. -/
theorem exec_recCommandStart_served : ServedAs (s.now t) (exec (.recCommandStart t r) s)
    (fun v => v.acted r K.REC_INPUT_COMMAND (v.recCommand 1)) := by
  show ServedAs (s.now t) (execRecCommandStart t r s) _
  rw [execRecCommandStart, inRange_of hmay.1.1, live_runs hruns]
  exact deviceRow_recCommand.outcome_served (data := leBytes 1 1) (g := fun v => v.recCommand 1) hP hmay rfl (by decide)
    fun _ => rfl

theorem exec_recCommandStop_served : ServedAs (s.now t) (exec (.recCommandStop t r) s)
    (fun v => v.acted r K.REC_INPUT_COMMAND (v.recCommand 2)) := by
  show ServedAs (s.now t) (execRecCommandStop t r s) _
  rw [execRecCommandStop, inRange_of hmay.1.1, live_runs hruns]
  exact deviceRow_recCommand.outcome_served (data := leBytes 1 2) (g := fun v => v.recCommand 2) hP hmay rfl (by decide)
    fun _ => rfl

end

/-- Settles O41: each event of the record inputs has one effect, by STATE and by whether the pins or COMMAND count. -/
theorem recordInputs : Obligations.RecordInputs := by
  unfold Obligations.RecordInputs
  intro s t hruns u
  refine ⟨fun hcount => ⟨?_, ?_, ?_⟩, fun huncounted a b => exec_recInputChange_uncounted hruns a b huncounted,
    fun v ts hstopped hrun => State.recSample_starts hstopped hrun ts,
    fun v ts hrecording hstop => State.recSample_stops hrecording hstop ts,
    fun v ts hstopped hrun hstop => State.recSample_differs hstopped hrun hstop ts,
    fun v ts hpending hstop => State.recSample_glitches hpending hstop ts,
    fun v run agree edge => by simp only [State.recAccept_recIn, and_self],
    fun r hP hmay => ⟨exec_recCommandStart_served hruns hP hmay, exec_recCommandStop_served hruns hP hmay⟩,
    fun v run hsource hfollower hchange => State.recCommand_changes hsource hfollower hchange⟩
  · exact fun a b => exec_recInputChange_counted hruns a b hcount
  · exact fun hpending hdue =>
      (exec_recTdExpiry_counted hruns hcount).trans (congrArg _ (State.recExpire_due hpending hdue))
  · exact fun since td hlocked hrearm hdue =>
      (exec_recRearm_counted hruns hcount).trans (congrArg _ (State.recRearm_due hlocked hrearm hdue))

end Sys2Proof.Machine
end

section
/-! SUPPORT. Ronox device links: their coming up, HELLO, acknowledgement, credit, replay and retraining (R279 to R284). -/

namespace Sys2Proof.Machine

/-! ### A link comes up and goes down (R279, R281, R284) -/

section
variable {s : State} {t : Time} {port : Nat} (hruns : s.runs t) (hport : port < 6)
include hruns hport

/-- IDLE changes nothing. -/
theorem exec_idle_runs : exec (.idle t port) s = .next (s.now t) := by
  show execIdle t port s = _
  rw [execIdle, inRange_of hport, live_runs hruns]

variable (hrole : (s.now t).isRonox port = true)
include hrole

/-- A RONOX port comes up with the credit of its receive buffers. -/
theorem exec_ronoxLinkUp_enabled (henabled : (s.now t).v K.ARRAY_CONFIG_ARRAY_EN ≠ 0) :
    let v := (s.now t).setPort port { up := true, rxCredit := (256, 512, 7424), ackAt := (s.now t).time }
    let w : State := { v with array := { v.array with firstUp := v.array.firstUp.orElse (fun _ => some v.time) } }
    exec (.ronoxLinkUp t port) s =
      .next (((w.endFault F.RONOX_LINK_DOWN port).sendHello port).sendCredit port false) := by
  show execRonoxLinkUp t port s = _
  rw [execRonoxLinkUp, inRange_of hport, live_runs hruns, if_neg (by simp [hrole, henabled])]

variable (hup : ((s.now t).port port).up = true)
include hup

theorem exec_ronoxFlitReject_up : exec (.ronoxFlitReject t port) s = .next ((s.now t).nak port) := by
  show execRonoxFlitReject t port s = _
  rw [execRonoxFlitReject, inRange_of hport, live_runs hruns, if_pos (by simp [hrole, hup])]

theorem exec_ronoxLinkDown_up : exec (.ronoxLinkDown t port) s =
    .next (State.raise ((s.now t).setPort port {}) F.RONOX_LINK_DOWN { inst := port, detail := [port] }) := by
  show execRonoxLinkDown t port s = _
  rw [execRonoxLinkDown, inRange_of hport, live_runs hruns, if_neg (by simp [hrole, hup])]

/-! ### Retraining (R281) -/

/-- Flits outstanding without ACK progress for 100 µs start a retrain. -/
theorem exec_ronoxAckTimeout_due (htrained : ((s.now t).port port).retraining = false)
    (houtstanding : ((s.now t).port port).replay ≠ []) (hdue : ((s.now t).port port).ackAt + 100000 ≤ (s.now t).time) :
    exec (.ronoxAckTimeout t port) s = .next ((s.now t).retrain port) := by
  show execRonoxAckTimeout t port s = _
  rw [execRonoxAckTimeout, inRange_of hport, live_runs hruns, if_pos (by simp [hrole, hup, htrained, houtstanding, hdue])]

/-- A retrain complete within 10 ms sends again what is outstanding. -/
theorem exec_ronoxRetrainDone_timely (hretraining : ((s.now t).port port).retraining = true)
    (htimely : (s.now t).time ≤ ((s.now t).port port).retrainAt + 10000000) :
    exec (.ronoxRetrainDone t port) s = .next ((((s.now t).setPort port { (s.now t).port port with
      retraining := false, ackAt := (s.now t).time }).resend port).drainPort port
        (((s.now t).port port).waiting.length + 1)) := by
  show execRonoxRetrainDone t port s = _
  rw [execRonoxRetrainDone, inRange_of hport, live_runs hruns, if_neg (by simp [hrole, hup, hretraining, htimely])]

/-! ### Acknowledgement and credit (R279, R281) -/

/-- CREDIT_TOTAL of each class rises by what left the receive buffer, never beyond what it holds. -/
theorem exec_ronoxCreditSend_up (drained : Nat × Nat × Nat) :
    let p := (s.now t).port port
    let size (c : Nat) : Nat := if c = 0 then 256 else if c = 1 then 512 else 7424
    let rise (c : Nat) : Nat := min (cls3 drained c) ((cls3 p.rxCount c + size c + 2 ^ 32 - cls3 p.rxCredit c) % 2 ^ 32)
    exec (.ronoxCreditSend t port drained) s = .next (((s.now t).setPort port { p with
      rxCredit := addCls3 (addCls3 (addCls3 p.rxCredit 0 (rise 0)) 1 (rise 1)) 2 (rise 2) }).sendCredit port false) := by
  show execRonoxCreditSend t port drained s = _
  rw [execRonoxCreditSend, inRange_of hport, live_runs hruns, if_neg (by simp [hrole, hup])]

end

/-- The flits that an ACK_SEQ leaves outstanding at a port (R281). -/
def RonoxPort.leftAfter (p : RonoxPort) (ack : Nat) : List (Nat × Flit) :=
  p.replay.filter (fun e => 0 < (e.1 + 2 ^ 32 - ack) % 2 ^ 32 && (e.1 + 2 ^ 32 - ack) % 2 ^ 32 < 2 ^ 31)

/-- An ACK_SEQ makes progress: it acknowledges a flit that was outstanding. -/
def RonoxPort.moves (p : RonoxPort) (ack : Nat) : Bool := decide ((p.leftAfter ack).length < p.replay.length)

/-- The NAKs for the present ACK_SEQ after a CREDIT. -/
def RonoxPort.naksAfter (p : RonoxPort) (ack : Nat) (nak : Bool) : Nat :=
  (if p.moves ack then 0 else p.naks) + (if nak then 1 else 0)

/-- A port's record after a CREDIT at an instant. -/
def RonoxPort.afterCredit (p : RonoxPort) (ack : Nat) (totals : Nat × Nat × Nat) (nak : Bool) (now : Time) : RonoxPort :=
  { p with
    replay := p.leftAfter ack, acked := ack, txCredit := totals, naks := p.naksAfter ack nak
    ackAt := if p.moves ack then now else p.ackAt }

section
variable {s : State} {t : Time} {port ack : Nat} {totals : Nat × Nat × Nat} {nak : Bool} (hruns : s.runs t) (hport : port < 6)
  (hrole : (s.now t).isRonox port = true) (hup : ((s.now t).port port).up = true)
include hruns hport hrole hup

/-- What CREDIT leads to: nothing more while retraining, a retrain at the eighth NAK, or the sending of what may be sent. -/
theorem exec_credit_up :
    let p := (s.now t).port port
    let v := (s.now t).setPort port (p.afterCredit ack totals nak (s.now t).time)
    exec (.credit t port ack totals nak) s = .next (
      if p.retraining then v
      else if 8 ≤ p.naksAfter ack nak then v.retrain port
      else (if nak then v.resend port else v).drainPort port (p.waiting.length + 1)) := by
  show execCredit t port ack totals nak s = _
  rw [execCredit, inRange_of hport, live_runs hruns, if_neg (by simp [hrole, hup])]
  simp only [RonoxPort.afterCredit, RonoxPort.naksAfter, RonoxPort.moves, decide_eq_true_eq]
  rfl

theorem exec_credit_retraining (hretraining : ((s.now t).port port).retraining = true) :
    exec (.credit t port ack totals nak) s =
      .next ((s.now t).setPort port (((s.now t).port port).afterCredit ack totals nak (s.now t).time)) :=
  (exec_credit_up hruns hport hrole hup).trans (congrArg _ (if_pos hretraining))

section
variable (htrained : ((s.now t).port port).retraining = false)
include htrained

theorem exec_credit_eighthNak (heighth : 8 ≤ ((s.now t).port port).naksAfter ack nak) :
    exec (.credit t port ack totals nak) s =
      .next (((s.now t).setPort port (((s.now t).port port).afterCredit ack totals nak (s.now t).time)).retrain port) := by
  refine (exec_credit_up hruns hport hrole hup).trans ?_
  simp only [htrained, heighth, Bool.false_eq_true, if_false, if_true]

theorem exec_credit_fewerNaks (hfew : ((s.now t).port port).naksAfter ack nak < 8) :
    let v := (s.now t).setPort port (((s.now t).port port).afterCredit ack totals nak (s.now t).time)
    exec (.credit t port ack totals nak) s = .next
      ((if nak then v.resend port else v).drainPort port (((s.now t).port port).waiting.length + 1)) := by
  refine (exec_credit_up hruns hport hrole hup).trans ?_
  simp only [htrained, not_le.mpr hfew, Bool.false_eq_true, if_false]

end

end

/-! ### HELLO (R284) -/

/-- The state in which a neighbour is admitted on a port, and what its HELLO says of it is kept. -/
def State.admits (u : State) (port : Nat) (h : Hello) : State :=
  let w := (u.setPort port { u.port port with neighbour := some h.dev }).endFault F.ARRAY_CONFIG_MISMATCH port
  w.setPeer h.dev { w.peer h.dev with state := h.state, fenced := decide (h.state = 4) }

/-- A HELLO is of an epoch older than that of the array. -/
def State.hearsOlder (v : State) (h : Hello) : Bool := v.inArray && epochOlder h.epoch v.array.epoch

section
variable {s : State} {t : Time} {port : Nat} {h : Hello} (hruns : s.runs t) (hport : port < 6)
  (hrole : (s.now t).isRonox port = true) (hup : ((s.now t).port port).up = true)
  (henabled : (s.now t).v K.ARRAY_CONFIG_ARRAY_EN ≠ 0)
include hruns hport hrole hup henabled

/-- A neighbour of the same configuration is admitted, and one of an older epoch is ordered to fence by the coordinator. -/
theorem exec_hello_same (hdev : h.dev < 8) (hother : h.dev ≠ (s.now t).dev)
    (hmember : bit ((s.now t).v K.ARRAY_CONFIG_MEMBERS) h.dev = true)
    (hmembers : h.members = (s.now t).v K.ARRAY_CONFIG_MEMBERS)
    (hstandby : h.standby = (s.now t).v K.ARRAY_CONFIG_STANDBY)
    (htopology : h.topology = (s.now t).v K.ARRAY_CONFIG_TOPOLOGY) :
    let v := (s.now t).admits port h
    exec (.hello t port h) s = .next (if v.coordinates && v.hearsOlder h then v.sendFence h.dev else v).tryForm := by
  show execHello t port h s = _
  rw [execHello, inRange_of hport, live_runs hruns, if_neg (by simp [hrole, hup, henabled]),
    if_neg (by simp [hmembers, hstandby, htopology, hother, hdev, hmember])]
  rfl

/-- One of another configuration is refused. -/
theorem exec_hello_mismatch (hmembers : h.members ≠ (s.now t).v K.ARRAY_CONFIG_MEMBERS) :
    let w := State.raise ((s.now t).setPort port { (s.now t).port port with neighbour := none }) F.ARRAY_CONFIG_MISMATCH
      { inst := port, detail := [port] }
    h.dev ≠ w.dev → exec (.hello t port h) s = .next w := by
  intro w hother
  show execHello t port h s = _
  rw [execHello, inRange_of hport, live_runs hruns, if_neg (by simp [hrole, hup, henabled]),
    if_pos (by simp [hmembers]), if_neg hother]

end

/-- Settles O42: each event of a device link has one effect, by whether the port is up, retraining and at its eighth NAK, and by
whether a HELLO shows the same configuration. -/
theorem ronoxPorts : Obligations.RonoxPorts := by
  unfold Obligations.RonoxPorts
  intro s t port hport hruns u p
  refine ⟨exec_idle_runs hruns hport, fun hrole => ⟨exec_ronoxLinkUp_enabled hruns hport hrole,
    fun hup => ⟨exec_ronoxFlitReject_up hruns hport hrole hup, exec_ronoxLinkDown_up hruns hport hrole hup,
      exec_ronoxAckTimeout_due hruns hport hrole hup, exec_ronoxRetrainDone_timely hruns hport hrole hup, ?_,
      exec_ronoxCreditSend_up hruns hport hrole hup⟩⟩, ?_,
    fun h hrole hup henabled => exec_hello_mismatch hruns hport hrole hup henabled⟩
  · intro ack totals nak
    refine ⟨exec_credit_retraining hruns hport hrole hup, exec_credit_eighthNak hruns hport hrole hup, ?_, ?_⟩
    · rintro htrained hfew rfl
      exact exec_credit_fewerNaks hruns hport hrole hup htrained hfew
    · rintro htrained hfew rfl
      exact exec_credit_fewerNaks hruns hport hrole hup htrained hfew
  · intro h hrole hup henabled hdev hother hmember hmembers hstandby htopology w v older
    have hexec := exec_hello_same hruns hport hrole hup henabled hdev hother hmember hmembers hstandby htopology
    exact ⟨fun hnone => hexec.trans (congrArg (Host.Outcome.next ∘ State.tryForm) (if_neg (Bool.eq_false_iff.mp hnone))),
      fun horder => hexec.trans (congrArg (Host.Outcome.next ∘ State.tryForm) (if_pos horder))⟩

end Sys2Proof.Machine
end

section
/-! SUPPORT. Sequenced flits in order, and the halos that members exchange (R157, R279 to R283, R290). -/

namespace Sys2Proof.Machine

/-! ### Sending leaves the pins -/

@[simp] theorem State.pins_drainPort (s : State) (q fuel : Nat) : (s.drainPort q fuel).pins = s.pins := by
  induction fuel generalizing s with
  | zero => rfl
  | succ n ih =>
    unfold State.drainPort
    dsimp only
    split
    · rfl
    · split
      · rfl
      · exact ih _

@[simp] theorem State.pins_pushFlit (s : State) (q : Nat) (f : Flit) : (s.pushFlit q f).pins = s.pins :=
  State.pins_drainPort ..

theorem State.pins_each {α : Type} {f : State → α → State} (h : ∀ s x, (f s x).pins = s.pins) (s : State) (l : List α) :
    (s.each l f).pins = s.pins := by
  induction l generalizing s with
  | nil => rfl
  | cons x l ih => exact (ih (f s x)).trans (h s x)

/-- A flit that travels on leaves the array position of the device. -/
theorem State.dev_route (s : State) (f : Flit) : (s.route f).dev = s.dev := by
  rw [State.dev, State.route]
  split
  · rw [State.pins_each (fun s q => s.pins_pushFlit q f), State.dev]
  · rfl

/-! ### A sequenced flit arrives (R279 to R282, R295) -/

section
variable {u : State} {f : FlitHead} (hrole : u.isRonox f.port = true) (hup : (u.port f.port).up = true)
  (hneighbour : (u.port f.port).neighbour.isSome = true)
  (hcredit : creditLeft (cls3 (u.port f.port).rxCredit f.cls) (cls3 (u.port f.port).rxCount f.cls) = true)
  (type cls flags : Nat) (body : List Byte)

include hrole hup hneighbour in
/-- A port that is up towards a neighbour takes sequenced flits. -/
theorem State.port_takes : ¬ (!u.isRonox f.port || !(u.port f.port).up || (u.port f.port).neighbour.isNone) = true := by
  simp [hrole, hup, Option.isSome_iff_ne_none.mp hneighbour]

include hrole hup hneighbour hcredit

/-- One out of order is refused and counted. -/
theorem State.acceptFlit_unordered (hseq : f.seq ≠ (u.port f.port).rxSeq) :
    u.acceptFlit f type cls flags body = (false, u.nak f.port) := by
  rw [State.acceptFlit, if_neg (State.port_takes hrole hup hneighbour), if_neg (by simp [hcredit]), if_pos hseq]

/-- One in order, of the class of its message and of the present epoch or exempt from it, is taken where it names this device, and
travels on where it names others. -/
theorem State.acceptFlit_ordered (hseq : f.seq = (u.port f.port).rxSeq) :
    let v := u.setPort f.port { u.port f.port with
      rxSeq := ((u.port f.port).rxSeq + 1) % 2 ^ 32, rxCount := addCls3 (u.port f.port).rxCount f.cls 1 }
    f.cls = cls → f.hops < 8 → v.dstOk f.dst = true →
    type = 0x11 ∨ type = 0x12 ∨ epochAfter f.epoch v.array.epoch = 0 →
    u.acceptFlit f type cls flags body = (decide (f.dst = v.dev ∨ 0xFE ≤ f.dst),
      if f.dst = v.dev ∨ f.dst = 0xFE then v else v.route {
        type := type, flags := flags, epoch := f.epoch, src := f.src, dst := f.dst, hops := f.hops + 1, cls := cls
        body := body }) := by
  intro v hcls hhops hdst hepoch
  have hsound : ¬ (decide (f.cls ≠ cls) || decide (8 ≤ f.hops) || !v.dstOk f.dst) = true := by simp [hcls, hhops, hdst]
  have hcurrent : ¬ (!(decide (type = 0x11) || decide (type = 0x12)) &&
      decide (epochAfter f.epoch v.array.epoch ≠ 0)) = true := by
    rcases hepoch with h | h | h <;> simp [h]
  have hdev : ∀ (c : Prop) [Decidable c] (out : Flit), (if c then v else v.route out).dev = v.dev := by
    intro c _ out
    split
    · rfl
    · exact v.dev_route out
  rw [State.acceptFlit, if_neg (State.port_takes hrole hup hneighbour), if_neg (by simp [hcredit]), if_neg (not_not.mpr hseq)]
  refine (if_neg hsound).trans ((if_neg hcurrent).trans (Prod.ext ?_ rfl))
  rw [Bool.decide_or]
  exact congrArg (fun d => decide (f.dst = d) || decide (0xFE ≤ f.dst)) (hdev ..)

end

/-! ### Messages that a device takes (R157, R290) -/

section
variable {s v : State} {t : Time} {f : FlitHead} (hruns : s.runs t) (hport : f.port < 6) (hsrc : f.src < 8)
include hruns hport hsrc

/-- A HALO_REQ is answered, or is a FINAL of which the frame buffers take note. -/
theorem exec_haloReq_taken {q : HaloReq} (hchan : q.chan < 256)
    (hmine : (s.now t).acceptFlit f 0x20 1 (if q.final then 1 else 0) (haloBody q) = (true, v)) :
    exec (.haloReq t f q) s = .next (if q.final then v.haloFinal f.src q else v.answerHalo f.src q) := by
  show execHaloReq t f q s = _
  rw [execHaloReq, inRange_of hport, inRange_of hsrc, inRange_of hchan, live_runs hruns]
  simp only [hmine, if_true, State.takeHaloReq]

theorem exec_haloData_taken {req off : Nat} {data : List Byte}
    (hmine : (s.now t).acceptFlit f 0x21 2 0 (leBytes 4 req ++ leBytes 4 off ++ data) = (true, v)) :
    exec (.haloData t f req off data) s = .next (v.takeHaloData req off data) := by
  show execHaloData t f req off data s = _
  rw [execHaloData, inRange_of hport, inRange_of hsrc, live_runs hruns]
  simp only [hmine, if_true]

end

/-! ### The samples of a request -/

/-- Bytes of a request received once a HALO_DATA with no gap before it is in. -/
def HaloWait.gotAfter (w : HaloWait) (off : Nat) (data : List Byte) : Nat := min w.want (max w.got (off + data.length))

/-- The bytes then held. -/
def HaloWait.heldAfter (w : HaloWait) (off : Nat) (data : List Byte) : List Byte := (putRun w.data off data).take w.want

section
variable {v : State} {req off : Nat} {data : List Byte} {w : HaloWait} (hwaits : Store.find? v.array.halos req = some w)
  (hnext : off ≤ w.got)
include hwaits hnext

/-- A request not yet answered in full waits on, with the bytes come so far. -/
theorem State.takeHaloData_part (hpart : w.gotAfter off data < w.want) :
    let x := v.tick K.SEARCH_COUNTERS_HALO_BYTES_IN data.length
    v.takeHaloData req off data = { x with array := { x.array with
      halos := Store.put v.array.halos req
        { w with got := w.gotAfter off data, lastData := v.time, data := w.heldAfter off data } } } := by
  simp only [HaloWait.gotAfter] at hpart
  simp only [State.takeHaloData, State.tick_array, State.tick_time, hwaits, hnext, if_true, ne_of_lt hpart, if_false,
    HaloWait.gotAfter, HaloWait.heldAfter]

/-- The last bytes complete a request, and its samples are stored with their reference. -/
theorem State.takeHaloData_whole (hwhole : w.gotAfter off data = w.want) :
    let x := v.tick K.SEARCH_COUNTERS_HALO_BYTES_IN data.length
    v.takeHaloData req off data = State.storeHalo { x with array := { x.array with
      halos := Store.erase v.array.halos req
      halosDone := v.array.halosDone ++ [(w.req.chan, w.req.pic, w.req.plane, w.owner)] } } w.owner w.req
        (w.heldAfter off data) := by
  simp only [HaloWait.gotAfter] at hwhole
  simp only [State.takeHaloData, State.tick_array, hwaits, hnext, if_true, hwhole, HaloWait.heldAfter]

end

/-! ### Requests sent again, and FINAL (R290) -/

section
variable {s : State} {t : Time} (hruns : s.runs t)
include hruns

/-- A request 200 µs after its last data is sent again whole and counted. -/
theorem exec_haloReqReissue_due {req : Nat} {w : HaloWait} (hwaits : Store.find? (s.now t).array.halos req = some w)
    (hdue : w.lastData + 200000 ≤ (s.now t).time) :
    let u := s.now t
    exec (.haloReqReissue t req) s = .next ((State.tick { u with array := { u.array with
      halos := Store.put u.array.halos req { w with lastData := u.time } } } K.ARRAY_COUNTERS_HALO_REISSUES 1).sendHaloReq
        w.owner w.req) := by
  show execHaloReqReissue t req s = _
  rw [execHaloReqReissue, live_runs hruns, State.reissueHalo]
  simp only [hwaits, hdue, if_true]

/-- Copy n + 1 of FINAL is sent while fewer than four are, the first at once and each later one 10 µs after the last. -/
theorem exec_haloFinalSend_due {ch pic owner n : Nat} {last : Time} (hch : ch < 256) (howner : owner < 8)
    (hclosed : (s.now t).array.halos.any
      (fun e => e.2.owner == owner && e.2.req.chan == ch && e.2.req.pic == pic % 2 ^ 32) = false)
    (hgot : (s.now t).array.halosDone.any (fun e => e.1 == ch && e.2.1 == pic % 2 ^ 32 && e.2.2.2 == owner) = true)
    (hsent : (s.now t).array.finals.find? (fun e => e.1 == ch && e.2.1 == pic && e.2.2.1 == owner) =
      (if n = 0 then none else some (ch, pic, owner, n, last)))
    (hfew : n < 4) (hdue : n = 0 ∨ last + 10000 ≤ (s.now t).time) :
    let u := s.now t
    exec (.haloFinalSend t ch pic owner) s = .next (State.sendHaloReq { u with array := { u.array with
      finals := u.array.finals.filter (fun e => !(e.1 == ch && e.2.1 == pic && e.2.2.1 == owner)) ++
        [(ch, pic, owner, n + 1, u.time)] } } owner
          { chan := ch, plane := 0, pic := pic % 2 ^ 32, x := 0, y := 0, w := 0, h := 0, reqId := 0, final := true }) := by
  show execHaloFinalSend t ch pic owner s = _
  rw [execHaloFinalSend, inRange_of hch, inRange_of howner, live_runs hruns, State.sendHaloFinal]
  rcases Nat.eq_zero_or_pos n with rfl | hpos
  · rw [if_pos rfl] at hsent
    simp only [hclosed, hgot, hsent]
    rfl
  · rw [if_neg hpos.ne'] at hsent
    simp only [hclosed, hgot, hsent]
    have hlater : last + 10000 ≤ (s.now t).time := hdue.resolve_left hpos.ne'
    exact congrArg _ (if_neg (by simp [not_le.mpr hfew, not_lt.mpr hlater]))

end

/-- Settles O43: a sequenced flit is taken or refused by its order, and each halo message has one effect, by what waits for it. -/
theorem flitsAndHalos : Obligations.FlitsAndHalos := by
  unfold Obligations.FlitsAndHalos
  refine ⟨?_, ?_⟩
  · intro u f type cls flags body p hrole hup hneighbour hcredit
    exact ⟨State.acceptFlit_unordered hrole hup hneighbour hcredit type cls flags body,
      State.acceptFlit_ordered hrole hup hneighbour hcredit type cls flags body⟩
  · intro s t hruns u
    exact ⟨fun _ _ _ hport hsrc hchan => exec_haloReq_taken hruns hport hsrc hchan,
      fun _ _ _ _ _ hport hsrc => exec_haloData_taken hruns hport hsrc,
      fun _ _ _ _ _ hwaits hnext => ⟨State.takeHaloData_part hwaits hnext, State.takeHaloData_whole hwaits hnext⟩,
      fun _ _ => exec_haloReqReissue_due hruns, fun _ _ _ _ _ => exec_haloFinalSend_due hruns⟩

end Sys2Proof.Machine
end

section
/-! SUPPORT. Members of an array: heartbeats, fences, epochs, formation and READMIT (R284, R285, R292 to R298, R360). -/

namespace Sys2Proof.Machine

/-- A relayed record as a record of this device (R360). -/
def relayTaken (rec : RelayRecord) : FaultRecord where
  fault := rec.fault
  event := rec.event
  reaction := rec.reaction
  depth := rec.depth
  dev := rec.dev
  loc := rec.loc
  time := rec.time
  seq := rec.seq
  detail := rec.detail

/-! ### Heartbeats (R283, R292, R293) -/

section
variable {s : State} {t : Time} (hruns : s.runs t)
include hruns

/-- A device that is not ISOLATED sends HEARTBEAT every 10 µs. -/
theorem exec_heartbeatSend_due (hjoined : (s.now t).array.state ≠ 0)
    (hdue : (s.now t).array.lastHbSend + 10000 ≤ (s.now t).time) :
    let u := s.now t
    exec (.heartbeatSend t) s = .next (State.ronoxSend { u with array := { u.array with lastHbSend := u.time } } 0x10
      (heartbeatFlags u.ownHeartbeat) 0 0xFF (heartbeatBody u.ownHeartbeat)) := by
  show execHeartbeatSend t s = _
  rw [execHeartbeatSend, live_runs hruns, if_neg (by simp [hjoined, hdue])]

section
variable {f : FlitHead} {h : Heartbeat} {v : State} (hport : f.port < 6) (hsrc : f.src < 8)
  (hmine : (s.now t).acceptFlit f 0x10 0 (heartbeatFlags h) (heartbeatBody h) = (true, v)) (hother : f.src ≠ v.dev)
include hport hsrc hmine hother

/-- A heartbeat within 50 µs of its SEND_TIME is heard, and a FENCED member that this device declares is declared dead. -/
theorem exec_heartbeat_timely (htimely : v.time ≤ h.sendTime + 50000) :
    let w := (v.heard f.src f.epoch h).tryForm
    exec (.heartbeat t f h) s = .next
      (if h.fenced && bit w.array.members f.src && w.declares f.src then w.declareDead f.src else w) := by
  show execHeartbeat t f h s = _
  rw [execHeartbeat, inRange_of hport, inRange_of hsrc, live_runs hruns]
  simp only [hmine, hother, not_lt.mpr htimely, Bool.not_true, Bool.false_eq_true, if_false]

/-- A later one is counted. -/
theorem exec_heartbeat_late (hlate : h.sendTime + 50000 < v.time) :
    exec (.heartbeat t f h) s = .next (v.tick K.ARRAY_COUNTERS_HB_LATE 1) := by
  show execHeartbeat t f h s = _
  rw [execHeartbeat, inRange_of hport, inRange_of hsrc, live_runs hruns]
  simp only [hmine, hother, hlate, Bool.not_true, Bool.false_eq_true, if_false, if_true]

end

/-- HEARD shows a member no more once 100 µs have passed since its last heartbeat. -/
theorem exec_heardExpiry_stale {peer : Nat} {l : Time} (hpeer : peer < 8) (hlast : ((s.now t).peer peer).lastHb = some l)
    (hstale : l + 100000 < (s.now t).time) :
    let u := s.now t
    exec (.heardExpiry t peer) s =
      .next { u with array := { u.array with heard := setBit u.array.heard peer false } } := by
  show execHeardExpiry t peer s = _
  rw [execHeardExpiry, inRange_of hpeer, live_runs hruns]
  simp only [hlast, decide_eq_true_eq, not_le.mpr hstale, if_false]

/-- A silent member is declared dead by the device that declares it, which declares none of a lower number. -/
theorem exec_memberSilenceTimeout_first {peer : Nat} (hpeer : peer < 8) (hmember : bit (s.now t).array.members peer = true)
    (hdeclares : (s.now t).declares peer = true) (hsilent : (s.now t).silent peer = true)
    (hfirst : ∀ d < 8, d < peer → (s.now t).declares d = false) :
    exec (.memberSilenceTimeout t peer) s = .next ((s.now t).declareDead peer) := by
  have hlower : (s.now t).others.any
      (fun d => decide (d < peer) && (s.now t).declares d && (s.now t).silent d) = false := by
    refine List.any_eq_false.mpr fun d hd => ?_
    have hd8 : d < 8 := List.mem_range.mp (List.mem_of_mem_filter hd)
    by_cases hlt : d < peer
    · simp [hfirst d hd8 hlt]
    · simp [hlt]
  show execMemberSilenceTimeout t peer s = _
  rw [execMemberSilenceTimeout, inRange_of hpeer, live_runs hruns, if_pos (by simp [hmember, hdeclares, hsilent, hlower])]

/-! ### Fences (R294, R298) -/

/-- A member whom fewer than Q peers have heard fences itself. -/
theorem exec_arrayFenced_unheard (hin : (s.now t).inArray = true)
    (hfew : (s.now t).hearers < popCount 8 (s.now t).array.members / 2) :
    exec (.arrayFenced t) s = .next (s.now t).fence := by
  show execArrayFenced t s = _
  rw [execArrayFenced, live_runs hruns, if_pos (by simp [hin, hfew])]

/-! ### Messages of a member (R295, R298, R360) -/

section
variable {f : FlitHead} {v : State} (hport : f.port < 6) (hsrc : f.src < 8)
include hport hsrc

/-- An EPOCH ahead of the present one is adopted. -/
theorem exec_epoch_ahead {e : EpochMsg} (hmine : (s.now t).acceptFlit f 0x11 0 0 (epochBody e) = (true, v))
    (hjoined : v.array.state ≠ 0) (hnew : 1 ≤ epochAfter e.epoch v.array.epoch)
    (hhalf : epochAfter e.epoch v.array.epoch ≤ 0x7FFF) : exec (.epoch t f e) s = .next (v.adopt e) := by
  show execEpoch t f e s = _
  rw [execEpoch, inRange_of hport, inRange_of hsrc, live_runs hruns]
  simp [hmine, hjoined, hnew, hhalf]

theorem exec_fenceOrder_taken {n : Nat} (hmine : (s.now t).acceptFlit f 0x12 0 0 (leBytes 2 n) = (true, v))
    (hjoined : v.array.state ≠ 0) : exec (.fenceOrder t f n) s = .next v.fence := by
  show execFenceOrder t f n s = _
  rw [execFenceOrder, inRange_of hport, inRange_of hsrc, live_runs hruns]
  simp [hmine, hjoined]

/-- The coordinator takes the record of a fault source that Table 15-3 names. -/
theorem exec_faultRelay_taken {rec : RelayRecord}
    (hmine : (s.now t).acceptFlit f 0x13 0 0 (relayTaken rec).bytes = (true, v)) (hcoordinates : v.coordinates = true)
    (hsource : (faultInfo? rec.fault).isSome = true) :
    exec (.faultRelay t f rec) s = .next (v.relayRecord (relayTaken rec)) := by
  show execFaultRelay t f rec s = _
  rw [execFaultRelay, inRange_of hport, inRange_of hsrc, live_runs hruns]
  simp only [relayTaken] at hmine ⊢
  simp only [hmine, hcoordinates, hsource, Bool.and_self, if_true]

end

/-! ### Epochs (R295) -/

section
variable {e : EpochMsg} {fin : Time} (hdeclared : (s.now t).array.declared = some (e, fin))
  (hcoordinates : (s.now t).coordinates = true) (hdue : (s.now t).array.lastRepeat + 100000 ≤ (s.now t).time)
include hdeclared hcoordinates hdue

/-- The coordinator repeats its last EPOCH every 100 µs until the end of the repeats. -/
theorem exec_epochRepeat_due : exec (.epochRepeat t) s = .next (
    let u := s.now t
    if fin < u.time then { u with array := { u.array with declared := none } }
    else State.ronoxSend { u with array := { u.array with lastRepeat := u.time } } 0x11 0 0 0xFF (epochBody e)) := by
  show execEpochRepeat t s = _
  rw [execEpochRepeat, live_runs hruns]
  simp only [hdeclared, hcoordinates, not_lt.mpr hdue, Bool.not_true, decide_false, Bool.or_self, Bool.false_eq_true, if_false]

end

/-! ### Formation (R284, R285) -/

/-- Members of the configuration that a link path joins to this device. -/
def State.present (u : State) : Nat :=
  (List.range 8).foldl (fun m d => if bit (u.v K.ARRAY_CONFIG_MEMBERS) d && bit u.reachable d then setBit m d true else m) 0

/-- The members that are missing. -/
def State.missing (u : State) : List Nat :=
  (List.range 8).filter (fun d => bit (u.v K.ARRAY_CONFIG_MEMBERS) d && !bit u.present d)

section
variable {up : Time} (hfirst : (s.now t).array.firstUp = some up) (hforming : (s.now t).array.state = 1)
  (hdue : up + (s.now t).v K.ARRAY_CONFIG_FORM_TIMEOUT_MS * 1000000 ≤ (s.now t).time)
include hfirst hforming hdue

/-- At FORM_TIMEOUT the array forms from a connected majority of its members, or formation fails. -/
theorem exec_formTimeout_due : exec (.formTimeout t) s = .next (
    let u := s.now t
    if popCount 8 (u.v K.ARRAY_CONFIG_MEMBERS) < 2 * popCount 8 u.present then
      State.formAs (u.each u.missing (fun v d => v.raise F.ARRAY_MEMBER_MISSING { inst := d, detail := [d] })) u.present
    else u.formFailed) := by
  show execFormTimeout t s = _
  rw [execFormTimeout, live_runs hruns]
  simp only [hfirst, hforming, not_lt.mpr hdue, ne_eq, not_true_eq_false, or_self, if_false]
  rfl

end

end

/-! ### READMIT (R298) -/

theorem deviceRow_readmit : DeviceRow K.ARRAY_CMD_READMIT (actionEntry K.ARRAY_CMD_READMIT .u8) :=
  ⟨rfl, by decide, rfl, fun _ _ _ => rfl⟩

/-- A write of READMIT is served as it comes. -/
theorem exec_readmit_served {s : State} {t : Time} {r : Requester} {d : Nat} (hruns : s.runs t) (hP : (s.now t).Prompt)
    (hd : d < 8) (hmay : (s.now t).MayAct r K.ARRAY_CMD_READMIT) :
    ServedAs (s.now t) (exec (.readmit t r (leBytes 1 d)) s) (fun w => w.acted r K.ARRAY_CMD_READMIT (w.readmit d)) := by
  have hval : leNat (leBytes 1 d) = d := leNat_leBytes (by omega)
  show ServedAs (s.now t) (execReadmit t r (leBytes 1 d) s) _
  rw [execReadmit, live_act K.ARRAY_CMD_READMIT (leBytes 1 d) hruns hmay.1.1]
  exact deviceRow_readmit.outcome_served (data := leBytes 1 d) (g := fun w => w.readmit d) hP hmay rfl (by decide)
    fun w => by rw [hval]; rfl

/-- The coordinator readmits a fenced device that it reaches as a standby under a new epoch. -/
theorem State.readmit_fenced {u : State} {d : Nat} (hcoordinates : u.coordinates = true) (hd : d < 8)
    (houtside : bit u.array.members d = false) (hreached : bit u.reachable d = true) (hfenced : (u.peer d).fenced = true) :
    let w := u.endFault F.ARRAY_MEMBER_MISSING d
    u.readmit d = .ok (w.declare {
      epoch := epochNext w.array.epoch, members := setBit w.array.members d true, standby := setBit w.array.standby d true
      dead := 0xFF, taker := 0xFF, coordinator := w.dev, declareTime := w.time }) := by
  rw [State.readmit, if_neg (by simp [hcoordinates]), if_neg (by simp [hd, houtside, hreached, hfenced])]

/-- Settles O44: each event of the membership has one effect, by what has been heard, who coordinates, and which epoch holds. -/
theorem arrayMembership : Obligations.ArrayMembership := by
  unfold Obligations.ArrayMembership
  intro s t hruns u
  refine ⟨exec_heartbeatSend_due hruns, ?_, fun _ _ _ => exec_heartbeat_late hruns, fun _ _ => exec_heardExpiry_stale hruns,
    exec_arrayFenced_unheard hruns, fun hfenced => if_pos hfenced, fun hfree => if_neg hfree,
    fun _ => exec_memberSilenceTimeout_first hruns, ?_, fun _ _ _ hport hsrc => exec_epoch_ahead hruns hport hsrc,
    fun _ _ _ hport hsrc => exec_fenceOrder_taken hruns hport hsrc,
    fun _ _ _ hport hsrc => exec_faultRelay_taken hruns hport hsrc, ?_,
    fun _ _ hP hd hmay => exec_readmit_served hruns hP hd hmay, fun _ => State.readmit_fenced⟩
  · intro f h v hport hsrc hmine hother htimely w dead
    have hexec := exec_heartbeat_timely hruns hport hsrc hmine hother htimely
    exact ⟨fun halive => hexec.trans (congrArg _ (if_neg (Bool.eq_false_iff.mp halive))),
      fun hdead => hexec.trans (congrArg _ (if_pos hdead))⟩
  · intro e fin hdeclared hcoordinates hdue
    have hexec := exec_epochRepeat_due hruns hdeclared hcoordinates hdue
    exact ⟨fun hended => hexec.trans (congrArg _ (if_pos hended)),
      fun hlasts => hexec.trans (congrArg _ (if_neg (not_lt.mpr hlasts)))⟩
  · intro up hfirst hforming hdue all there gone
    have hexec := exec_formTimeout_due hruns hfirst hforming hdue
    exact ⟨fun hminority => hexec.trans (congrArg _ (if_neg (not_lt.mpr hminority))),
      fun hmajority => hexec.trans (congrArg _ (if_pos hmajority))⟩

end Sys2Proof.Machine
end

section
/-! SUPPORT. Steps, and what holds a device in reset (R405, R406). -/

namespace Sys2Proof.Machine

theorem step_cons {s : State} {c : Instr} {rest : List Instr} (h : s.pending = c :: rest) :
    step s = exec c { s with pending := rest } := by
  rw [step, h]

theorem step_nil {s : State} (h : s.pending = []) : step s = .next s := by
  rw [step, h]

/-- Settles O1: a step is the case split on the queue. -/
theorem stepRunsTheFrontCommand : Obligations.StepRunsTheFrontCommand := by
  unfold Obligations.StepRunsTheFrontCommand
  exact ⟨fun _ _ _ => step_cons, fun _ => step_nil⟩

/-- Settles O4: every field of the state after reset is its default. -/
theorem resetStateIsHeld : Obligations.ResetStateIsHeld := by
  unfold Obligations.ResetStateIsHeld
  constructor
  case slots | power | link => decide
  case waits => exact List.forall_mem_nil _
  all_goals rfl

/-! ### Events on the pins -/

section
variable {s : State} {t : Time}

/-- A pulse below 100 ns changes nothing, and neither does one while RESET_N is low (R405). -/
theorem exec_resetNAssert_ignored {lowNs : Nat} (h : lowNs < 100 ∨ s.pins.resetLow = true) :
    exec (.resetNAssert t lowNs) s = .next (s.at t) := by
  refine congrArg Host.Outcome.next (if_pos ?_)
  show (s.pins.resetLow || decide (lowNs < 100)) = true
  simpa [or_comm] using h

/-- The state in which RESET_N holds a device that it has reset. -/
def State.resetHeld (v : State) : State :=
  let z := v.wipe false 2
  { z with pins := { z.pins with resetLow := true, mainEn := true } }

/-- RESET_N low for at least 1 µs resets the device after a slot write in progress (R405). -/
theorem exec_resetNAssert_resets {lowNs : Nat} (hhigh : s.pins.resetLow = false) (hlong : 1000 ≤ lowNs) :
    exec (.resetNAssert t lowNs) s = .next ((s.at t).slotSettle true).resetHeld := by
  have hcounts : (s.at t).pins.resetLow = false := hhigh
  have hpulse : ¬ lowNs < 100 := by omega
  have hfull : ¬ lowNs < 1000 := by omega
  show execResetNAssert t lowNs s = _
  rw [execResetNAssert, always_next]
  simp only [hcounts, hpulse, hfull, decide_false, Bool.or_self, Bool.false_and, Bool.false_eq_true, if_false]
  rfl

/-- MAIN_EN is driven high while RESET_N is low. -/
theorem exec_powerUp_low (hlow : s.pins.resetLow = true) :
    exec (.powerUp t) s = .next { s.at t with pins := { s.pins with mainEn := true } } :=
  congrArg Host.Outcome.next (if_pos hlow)

/-- PERST_N alone is sampled while the device is not in service or has no host role (R408). -/
theorem exec_perstAssert_alone (h : ¬ s.runs t ∨ s.hostRole = false) :
    exec (.perstAssert t) s = .next { s.at t with host := { s.host with perstLow := true } } := by
  refine congrArg Host.Outcome.next (if_pos ?_)
  show (!(s.at t).up || !s.hostRole) = true
  simpa [State.runs] using h

theorem exec_perstRelease (s : State) (t : Time) :
    exec (.perstRelease t) s = .next { s.at t with host := { s.host with perstLow := false } } := rfl

end

/-! ### What a device in reset takes no part in -/

section
variable {s : State} (h : s.HeldInReset)
include h

theorem State.HeldInReset.at (t : Time) : (s.at t).HeldInReset := { h with low := h.low }

theorem State.HeldInReset.up_eq : s.up = false := by
  simp [State.up, h.low]

theorem State.HeldInReset.sensing_eq : s.sensing = false := by
  simp [State.sensing, h.low]

theorem State.HeldInReset.booting_eq : s.booting = false := by
  simp [State.booting, h.low]

theorem State.HeldInReset.pmbusOn_eq : s.pmbusOn = false := by
  simp [State.pmbusOn, h.low]

theorem State.HeldInReset.awake_eq : s.awake = s := by
  rw [State.awake, if_neg (by simp [h.power.1])]

/-- Events on the supplies and the clock move pins only. -/
theorem State.HeldInReset.setPins {p : Pins} (hlow : p.resetLow = true) : State.HeldInReset { s with pins := p } :=
  { h with low := hlow }

theorem State.HeldInReset.setPerst (low : Bool) : State.HeldInReset { s with host := { s.host with perstLow := low } } :=
  { h with low := h.low }

end

/-! ### Outcomes that keep a device in reset -/

/-- Whatever state an outcome goes on with is held in reset. -/
def KeepsReset (o : Out) : Prop := ∀ s', o = .next s' → s'.HeldInReset

theorem KeepsReset.next {s : State} (h : s.HeldInReset) : KeepsReset (.next s) := by
  rintro _ ⟨⟩
  exact h

theorem KeepsReset.inRange {what : String} {n b : Nat} {k : Out} (h : KeepsReset k) : KeepsReset (inRange what n b k) := by
  by_cases hn : n < b
  · rwa [inRange_of hn]
  · rw [inRange_not hn]
    rintro _ ⟨⟩

/-- In reset a command that needs the device in service only advances time. -/
theorem KeepsReset.live {s : State} (h : s.HeldInReset) (t : Time) (f : State → State) : KeepsReset (live t s f) := by
  rw [live_down (by simp [State.runs, (h.at t).up_eq])]
  exact .next (h.at t)

/-- So does one that is answered before READY too. -/
theorem KeepsReset.served {s : State} (h : s.HeldInReset) (t : Time) (early f : State → State) :
    KeepsReset (served t s early f) := by
  simp only [Machine.served, (h.at t).booting_eq, (h.at t).up_eq, Bool.false_eq_true, if_false]
  exact .next (h.at t)

theorem KeepsReset.of_eq {s : State} {o : Out} (ho : o = .next s) (h : s.HeldInReset) : KeepsReset o :=
  ho ▸ .next h

/-- A command that only advances time. -/
theorem KeepsReset.idle {s : State} (h : s.HeldInReset) (t : Time) {o : Out} (ho : o = .next (s.at t)) : KeepsReset o :=
  .of_eq ho (h.at t)

/-- No command but a release of RESET_N takes a device out of reset. Those that act on the always-on part find the sensors and the
PMBus without supply, no fault, nothing planned and L0; the events on the supplies and on PERST_N move pins only; and every other
command needs the device in service, or its boot under way. -/
theorem State.HeldInReset.exec_keeps {s : State} (h : s.HeldInReset) {c : Instr} (hc : c.releasesReset = false) :
    KeepsReset (exec c s) := by
  cases c <;> simp only [exec]
  case resetNRelease => cases hc
  case resetNAssert t lowNs => exact .idle h t (exec_resetNAssert_ignored (.inr h.low))
  case supplyFault t rail => exact .inRange (.idle h t (by simp [always_next, h.low]))
  case tcxoLoss t => exact .idle h t (by simp [execTcxoLoss, always_next, h.low])
  case fatalWarmReset t b => exact .idle h t (by simp [execFatalWarmReset, always_next, h.faults])
  case supplyRestore t b =>
    rw [execSupplyRestore, always_next]
    split
    · exact .next (h.at t)
    · rw [if_pos (by exact (h.at t).low)]
      exact .next ((h.at t).setPins h.low)
  case powerUp t => exact .of_eq (exec_powerUp_low h.low) ((h.at t).setPins h.low)
  case perstAssert t =>
    have hdown : ¬ s.runs t := by simp [State.runs, (h.at t).up_eq]
    exact .of_eq (exec_perstAssert_alone (.inl hdown)) ((h.at t).setPerst true)
  case perstRelease t => exact .of_eq (exec_perstRelease s t) ((h.at t).setPerst false)
  case slowCopyRefresh t => exact .idle h t (by simp [execSlowCopyRefresh, always_next, (h.at t).sensing_eq])
  case aoClockStop t => exact .idle h t (by simp [execAoClockStop, always_next, (h.at t).sensing_eq])
  case lifeHourUpdate t tj => exact .idle h t (by simp [execLifeHourUpdate, always_next, (h.at t).sensing_eq])
  case tempSensorConversion t pd reading => exact .inRange (.idle h t (by simp [always_next, (h.at t).sensing_eq]))
  case tdiodeConversion t n reading ok => exact .inRange (.idle h t (by simp [always_next, (h.at t).sensing_eq]))
  case thermalCapStep t => exact .idle h t (by simp [execThermalCapStep, always_next, (h.at t).sensing_eq])
  case ladderWake t w ao b => exact .idle h t (by simp [execLadderWake, always_next, (h.at t).sensing_eq])
  case wakeTimer t ao b => exact .idle h t (by simp [execWakeTimer, always_next, (h.at t).sensing_eq])
  case pmbusPoll t ok vin iin temp w => exact .idle h t (by simp [execPmbusPoll, always_next, (h.at t).pmbusOn_eq])
  case pmbusAlert t ok w => exact .idle h t (by simp [execPmbusAlert, always_next, (h.at t).pmbusOn_eq])
  case voltageEvaluation t mw rates => exact .idle h t (by simp [execVoltageEvaluation, (h.at t).up_eq])
  case domainRaise t pd => exact .inRange (.idle h t (by simp [h.power, Store.find?]))
  case frostEntry t => exact .idle h t (by simp [execFrostEntry, State.frostReady, (h.at t).up_eq])
  case frostExit t => exact .idle h t (by rw [execFrostExit, (h.at t).awake_eq])
  case ladderEntryComplete t => exact .idle h t (by simp [execLadderEntryComplete, h.power])
  case usdoUpload | usdoDownload | odUdpRead | odUdpWrite | odUdpEcho | odUdpBadDatagram =>
    repeat apply KeepsReset.inRange
    exact .served h _ _ _
  all_goals
    repeat apply KeepsReset.inRange
    exact .live h _ _

/-- Settles O3: a step without a command changes nothing, and the command that a step runs is no release of RESET_N, which none
that waits behind it is either. -/
theorem resetHoldsUnderEveryCommand : Obligations.ResetHoldsUnderEveryCommand := by
  unfold Obligations.ResetHoldsUnderEveryCommand
  intro s s' h hstep
  cases hpending : s.pending with
  | nil =>
    rw [step_nil hpending] at hstep
    exact KeepsReset.next h s' hstep
  | cons c rest =>
    rw [step_cons hpending] at hstep
    have hwaits : ∀ d ∈ c :: rest, d.releasesReset = false := hpending ▸ h.waits
    obtain ⟨hc, hrest⟩ := List.forall_mem_cons.mp hwaits
    have hheld : State.HeldInReset { s with pending := rest } := { h with waits := hrest }
    exact hheld.exec_keeps hc s' hstep

/-! ### What a full reset leaves (R58, R405, R406) -/

theorem Store.find?_map {α : Type} (m : Store α) (f : Nat → α → α) (k : Nat) :
    Store.find? (Store.map m f) k = (Store.find? m k).map (f k) := by
  induction m with
  | nil => rfl
  | cons e r ih =>
    obtain ⟨j, w⟩ := e
    change (if j = k then some (f j w) else Store.find? (Store.map r f) k) = (if j = k then some w else Store.find? r k).map (f k)
    split
    next hj => rw [hj, Option.map_some]
    next => exact ih

/-- A table whose values are passed through a function reads as the function of what it read before, where an unlisted value is
left as it is. -/
theorem Store.get_map {α : Type} (m : Store α) {f : Nat → α → α} {d : α} {k : Nat} (hd : f k d = d) :
    Store.get (Store.map m f) d k = f k (Store.get m d k) := by
  rw [Store.get, Store.find?_map, Store.get]
  cases Store.find? m k with
  | none => exact hd.symm
  | some x => rfl

section
variable (v : State) (cause : Nat)

/-- A reset keeps of a flash region which copy is selected, and a trial that is pending. -/
theorem State.flash_wipe (warm : Bool) (n : Nat) :
    (v.wipe warm cause).flash n = { selected := (v.flash n).selected, trial := (v.flash n).trial } :=
  Store.get_map v.boot.regions (f := fun _ x => { selected := x.selected, trial := x.trial }) rfl

/-- A reset keeps of a magazine its content. -/
theorem State.mag_wipe (warm : Bool) (m : Nat) : (v.wipe warm cause).mag m = { content := (v.mag m).content } :=
  Store.get_map v.mags (f := fun _ g => { content := g.content }) rfl

/-- A device that RESET_N has reset is held in reset, unless a release already waits. -/
theorem State.heldInReset_resetHeld (h : ∀ c ∈ v.pending, c.releasesReset = false) : v.resetHeld.HeldInReset := by
  constructor
  case mags => simp [State.resetHeld, State.wipe, Store.map]
  case slots | link => exact ⟨rfl, rfl⟩
  case power => exact ⟨rfl, rfl, rfl⟩
  case waits => exact h
  all_goals rfl

end

/-! ### A slot write that a reset meets (R58) -/

theorem State.slotSettle_idle {v : State} (h : v.nvm.current = none) (completes : Bool) : v.slotSettle completes = v := by
  rw [State.slotSettle, h]

theorem State.slotSettle_busy {v : State} {j : NvmJob} {since : Time} (h : v.nvm.current = some (j, since)) (completes : Bool) :
    v.slotSettle completes = v.slotWrite j (if completes then v.nvmSlotOf j else .broken) := by
  rw [State.slotSettle, h]

theorem State.pending_slotSettle (v : State) (completes : Bool) : (v.slotSettle completes).pending = v.pending := by
  unfold State.slotSettle
  split <;> rfl

/-- Settles O6: RESET_N is ignored or resets the device, which completes a slot write in progress and keeps what a reset keeps. -/
theorem resetPinResets : Obligations.ResetPinResets := by
  unfold Obligations.ResetPinResets
  refine ⟨?_, ?_, fun v h => State.slotSettle_idle h true, ?_, fun s t lowNs => exec_resetNAssert_ignored⟩
  · intro s t lowNs hhigh hlong z r
    refine ⟨exec_resetNAssert_resets hhigh hlong, fun hpending => State.heldInReset_resetHeld _ ?_⟩
    rwa [State.pending_slotSettle]
  · intro v z
    refine ⟨rfl, rfl, rfl, rfl, rfl, rfl, rfl, rfl, rfl, rfl, rfl, rfl, rfl, rfl, rfl, rfl, rfl, rfl, fun n => ?_, fun m => ?_, rfl⟩
    · rw [State.flash_wipe]
      exact ⟨rfl, rfl⟩
    · rw [State.mag_wipe]
  · intro v j since hcurrent
    rw [State.slotSettle_busy hcurrent]
    rfl

end Sys2Proof.Machine
end

section
/-! SUPPORT. Byte buffers read back what was written, and equal reads make equal buffers. -/

namespace Sys2Proof.Machine

theorem Memory.read_writeBytes_of_lt (m : Memory) (a : Nat) (bs : List Byte) {x : Nat} (h : x < a) :
    Memory.read (Memory.writeBytes m a bs) x = Memory.read m x := by
  induction bs generalizing m a with
  | nil => rfl
  | cons b r ih =>
    show Memory.read (Memory.writeBytes (Memory.write m a b) (a + 1) r) x = _
    rw [ih _ _ (by omega), Memory.read_write_other _ _ _ _ (by omega)]

/-- Every byte of the list is read back at its address: those written after it lie above. -/
theorem Memory.read_writeBytes (m : Memory) (a : Nat) (bs : List Byte) {i : Nat} {b : Byte} (h : bs[i]? = some b) :
    Memory.read (Memory.writeBytes m a bs) (a + i) = b := by
  induction bs generalizing m a i with
  | nil => simp at h
  | cons c r ih =>
    show Memory.read (Memory.writeBytes (Memory.write m a c) (a + 1) r) (a + i) = b
    cases i with
    | zero =>
      obtain rfl : c = b := by simpa using h
      exact (Memory.read_writeBytes_of_lt _ _ _ (Nat.lt_succ_self a)).trans (Memory.read_write_same m a c)
    | succ i =>
      rw [show a + (i + 1) = a + 1 + i by omega]
      exact ih _ _ (by simpa using h)

theorem Memory.read_writeBytes_of_le (m : Memory) (a : Nat) (bs : List Byte) {x : Nat} (h : a + bs.length ≤ x) :
    Memory.read (Memory.writeBytes m a bs) x = Memory.read m x := by
  induction bs generalizing m a with
  | nil => rfl
  | cons b r ih =>
    rw [List.length_cons] at h
    show Memory.read (Memory.writeBytes (Memory.write m a b) (a + 1) r) x = _
    rw [ih _ _ (by omega), Memory.read_write_other _ _ _ _ (by omega)]

/-! ### The canonical form is determined by what is read -/

section
variable {α : Type}

theorem Store.find?_cons_self {k : Nat} {v : α} {r : Store α} : Store.find? ((k, v) :: r) k = some v := if_pos rfl

theorem Store.find?_cons_of_ne {j k : Nat} {v : α} {r : Store α} (h : j ≠ k) :
    Store.find? ((j, v) :: r) k = Store.find? r k := if_neg h

/-- A key below every listed one is not listed. -/
theorem Store.find?_eq_none_of_lt {m : Store α} {k : Nat} (h : ∀ e ∈ m, k < e.1) : Store.find? m k = none := by
  induction m with
  | nil => rfl
  | cons e r ih =>
    obtain ⟨he, hr⟩ := List.forall_mem_cons.mp h
    rw [Store.find?_cons_of_ne (Nat.ne_of_gt he), ih hr]

/-- The head of a sorted table is its least key, so a table that lists another head's key lists none below its own. -/
theorem Store.head_le_of_find? {j k : Nat} {v w : α} {r : Store α} (hw : Store.wf ((j, v) :: r))
    (h : Store.find? ((j, v) :: r) k = some w) : j ≤ k := by
  by_contra hlt
  have hnone : Store.find? ((j, v) :: r) k = none := by
    refine Store.find?_eq_none_of_lt (List.forall_mem_cons.mpr ⟨by omega, fun e he => ?_⟩)
    have := (Store.wf_cons.mp hw).1 e he
    omega
  rw [h] at hnone
  cases hnone

/-- Sorted tables that list the same value at every key are equal: their heads are the least key listed. -/
theorem Store.ext_find? {m n : Store α} (hm : Store.wf m) (hn : Store.wf n) (h : ∀ k, Store.find? m k = Store.find? n k) :
    m = n := by
  induction m generalizing n with
  | nil =>
    cases n with
    | nil => rfl
    | cons e r => exact absurd (h e.1) (by simp [Store.find?])
  | cons e r ih =>
    obtain ⟨j, v⟩ := e
    cases n with
    | nil => exact absurd (h j) (by simp [Store.find?])
    | cons e' r' =>
      obtain ⟨k, w⟩ := e'
      have hjk : j ≤ k := Store.head_le_of_find? hm ((h k).trans Store.find?_cons_self)
      have hkj : k ≤ j := Store.head_le_of_find? hn ((h j).symm.trans Store.find?_cons_self)
      obtain rfl : j = k := Nat.le_antisymm hjk hkj
      obtain ⟨hr, hwr⟩ := Store.wf_cons.mp hm
      obtain ⟨hr', hwr'⟩ := Store.wf_cons.mp hn
      have hv : some v = some w := Store.find?_cons_self.symm.trans ((h j).trans Store.find?_cons_self)
      have htail : ∀ i, Store.find? r i = Store.find? r' i := by
        intro i
        by_cases hi : j = i
        · rw [Store.find?_eq_none_of_lt (fun e he => hi ▸ hr e he), Store.find?_eq_none_of_lt (fun e he => hi ▸ hr' e he)]
        · rw [← Store.find?_cons_of_ne hi, h i, Store.find?_cons_of_ne hi]
      rw [ih hwr hwr' htail, Option.some.inj hv]

end

theorem Store.mem_of_find? {α : Type} {m : Store α} {k : Nat} {v : α} (h : Store.find? m k = some v) : (k, v) ∈ m := by
  induction m with
  | nil => cases h
  | cons e r ih =>
    obtain ⟨j, w⟩ := e
    by_cases hj : j = k
    · subst hj
      rw [Store.find?_cons_self] at h
      cases h
      exact List.mem_cons_self
    · rw [Store.find?_cons_of_ne hj] at h
      exact List.mem_cons_of_mem _ (ih h)

/-- A buffer in canonical form lists an address with exactly the byte it reads, unless that is the fill. -/
theorem Memory.find?_eq {m : Memory} (hm : Memory.wf m) (x : Nat) :
    Store.find? m x = if Memory.read m x = Memory.fill then none else some (Memory.read m x) := by
  rw [Memory.read, Store.get]
  cases h : Store.find? m x with
  | none => rfl
  | some b => exact (if_neg (hm.2 _ (Store.mem_of_find? h))).symm

/-- Settles O59, by induction on the bytes written, and on sorted tables for the last part. -/
theorem buffersReadBack : Obligations.BuffersReadBack := by
  unfold Obligations.BuffersReadBack
  constructor
  · intro m a bs hm
    refine ⟨Memory.wf_writeBytes m a bs hm, fun i b => Memory.read_writeBytes m a bs, ?_⟩
    rintro x (h | h)
    · exact Memory.read_writeBytes_of_lt m a bs h
    · exact Memory.read_writeBytes_of_le m a bs h
  · intro m n hm hn h
    refine Store.ext_find? hm.1 hn.1 fun x => ?_
    rw [Memory.find?_eq hm, Memory.find?_eq hn, h]

end Sys2Proof.Machine
end

section
/-! SUPPORT. A reset by the supply drives MAIN_EN high (R407). -/

namespace Sys2Proof.Machine

/-- The loss of the reference clock resets a device outside L5, and MAIN_EN is driven high as after any reset (R407). -/
theorem exec_tcxoLoss_resets {s : State} {t : Time} (hhigh : s.pins.resetLow = false) (hladder : s.power.ladder ≠ 5) :
    exec (.tcxoLoss t) s = .next
      (let z := (s.at t).supplyReset
       { z with pins := { z.pins with tcxoLost := true } }) := by
  have hacts : ¬ ((s.at t).pins.resetLow || decide ((s.at t).power.ladder = 5)) = true := by
    simp [hhigh, hladder]
  exact congrArg Host.Outcome.next (if_neg hacts)

theorem State.mainEn_supplyReset (v : State) : v.supplyReset.pins.mainEn = true := rfl

/-- A reset's wipe leaves MAIN_EN as it was. -/
theorem State.mainEn_wipe (v : State) (warm : Bool) (cause : Nat) : (v.wipe warm cause).pins.mainEn = v.pins.mainEn := rfl

/-- A device in L4 with EXT_MODE 1, in which MAIN_EN is low (R407). -/
def mainOff : State :=
  { State.reset with
    pins := { State.reset.pins with resetLow := false, mainEn := false }
    boot := { State.reset.boot with state := .ready }
    power := { State.reset.power with ladder := 4 } }

/-- Refutes O8: what it says a lost reference clock leaves has MAIN_EN as the device had it, but a full reset drives MAIN_EN high
(R407), and in L4 with EXT_MODE 1 it was low. No slot write is in progress there. The clause on a rail that fails
is wrong for the same reason. -/
theorem not_supplyAndLinkEvents : ¬ Obligations.SupplyAndLinkEvents := by
  unfold Obligations.SupplyAndLinkEvents
  rintro ⟨-, -, htcxo, -⟩
  have hloss := htcxo mainOff 0 rfl (by decide)
  rw [exec_tcxoLoss_resets rfl (by decide)] at hloss
  injection hloss with hstate
  have hpins := congrArg (fun v : State => v.pins.mainEn) hstate
  change (mainOff.at 0).supplyReset.pins.mainEn = (((mainOff.at 0).slotSettle false).wipe false 1).pins.mainEn at hpins
  rw [State.mainEn_supplyReset, State.mainEn_wipe, State.slotSettle_idle (v := mainOff.at 0) rfl] at hpins
  exact Bool.noConfusion hpins

end Sys2Proof.Machine
end

section
/-! SUPPORT. DRAM: refresh, retraining, and the errors of its reads and its command bus (R326, R331 to R336). -/

namespace Sys2Proof.Machine

theorem State.retrainDue_of_used {u : State} {dc due : Nat} (hused : bit u.dramUse dc = true)
    (hdue : Store.find? u.dram.due dc = some due) : u.retrainDue dc = some due := by
  rw [State.retrainDue, if_pos hused, hdue]

/-- A command-bus alert is counted and logged, with the replays of its subchannel in the last millisecond (R336). -/
def State.caAlerted (u : State) (dc sub rank addr cmd source : Nat) : State :=
  let recent := (Store.get u.dram.replays [] (dc * 2 + sub)).filter (fun r => u.time ≤ r.2 + 1000000)
  let v := (u.tick K.MEMORY_COUNTERS_CA_REPLAYS 1).bump K.DRAM_ERR_LOG_TOTAL 1
  { v with dram := { v.dram with
      replays := Store.put v.dram.replays (dc * 2 + sub) (recent ++ [(cmd, u.time)])
      errLog := (errRecord v.time 3 source dc sub rank 0xFF addr :: v.dram.errLog).take 16 } }

/-- The replays of one command that its subchannel has seen in the last millisecond, the present one included. -/
def State.caReplays (u : State) (dc sub cmd : Nat) : Nat :=
  let recent := (Store.get u.dram.replays [] (dc * 2 + sub)).filter (fun r => u.time ≤ r.2 + 1000000)
  ((recent ++ [(cmd, u.time)]).filter (·.1 == cmd)).length

section
variable {s : State} {t : Time} (hruns : s.runs t)
include hruns

section
variable {dc : Nat} (hdc : dc < 8) (hused : bit (s.now t).dramUse dc = true)
include hdc hused

theorem exec_dramRefresh_used : exec (.dramRefresh t dc) s = .next ((s.now t).emit (.dramRefresh dc)) := by
  show execDramRefresh t dc s = _
  rw [execDramRefresh, inRange_of hdc, live_runs hruns, if_pos hused]

/-- A due channel retrains in a gap without planned work (R331). -/
theorem exec_dramRetrain_gap {due : Nat} (hfind : Store.find? (s.now t).dram.due dc = some due) (hdue : due ≤ (s.now t).time)
    (hgap : (s.now t).plannedWithin ((s.now t).v K.DRAM_CONFIG_GAP_US * 1000) = false) :
    exec (.dramRetrain t dc) s = .next ((s.now t).retrainNow dc due) := by
  show execDramRetrain t dc s = _
  rw [execDramRetrain, inRange_of hdc, live_runs hruns, State.retrainDue_of_used hused hfind]
  simp [hdue, hgap]

/-- One that is still due a period later retrains at once, and this is raised (R332). -/
theorem exec_dramRetrainForced_late {due : Nat} (hfind : Store.find? (s.now t).dram.due dc = some due)
    (hlate : due + (s.now t).v K.DRAM_CONFIG_RETRAIN_MS * 1000000 ≤ (s.now t).time) :
    exec (.dramRetrainForced t dc) s = .next (State.raise
      (((s.now t).retrainNow dc due).tick K.MEMORY_COUNTERS_RETRAINS_FORCED 1) F.DRAM_RETRAIN_FORCED
        { inst := dc, detail := [dc] }) := by
  show execDramRetrainForced t dc s = _
  rw [execDramRetrainForced, inRange_of hdc, live_runs hruns, State.retrainDue_of_used hused hfind]
  exact congrArg Host.Outcome.next (if_pos hlate)

/-! ### The command bus (R336) -/

theorem exec_dramCaAlert_used {sub rank addr cmd source : Nat} (hsub : sub < 2) (hsource : source < 14) :
    exec (.dramCaAlert t dc sub rank addr cmd source) s = .next
      (let w := (s.now t).caAlerted dc sub rank addr cmd source
       if 3 ≤ (s.now t).caReplays dc sub cmd then w.raise F.DRAM_CA_FAIL { detail := [dc, sub, cmd] } else w) := by
  show execDramCaAlert t dc sub rank addr cmd source s = _
  rw [execDramCaAlert, inRange_of hdc, inRange_of hsub, inRange_of hsource, live_runs hruns, hused]
  rfl

end

/-! ### Reads (R333 to R335) -/

section
variable {addr rank : Nat} (haddr : addr < (s.now t).dramBytes)
include haddr

/-- The scrub's read of a good line: an error found is corrected. -/
theorem exec_patrolScrubRead_good (hscrub : (s.now t).v K.DRAM_CONFIG_SCRUB_HOURS ≠ 0)
    (hgood : lineOf addr ∉ (s.now t).dram.badLines) :
    (∀ d, exec (.patrolScrubRead t addr rank (.corrected d)) s = .next ((s.now t).corrected 0 rank d addr)) ∧
    exec (.patrolScrubRead t addr rank .clean) s = .next (s.now t) := by
  have hreads : ((decide ((s.now t).v K.DRAM_CONFIG_SCRUB_HOURS = 0) || decide ((s.now t).dramBytes ≤ addr)) ||
      (s.now t).dram.badLines.contains (lineOf addr)) = false := by
    simp [hscrub, haddr, hgood]
  have hexec : ∀ res, exec (.patrolScrubRead t addr rank res) s = execPatrolScrubRead t addr rank res s := fun _ => rfl
  constructor
  · intro d
    rw [hexec, execPatrolScrubRead, live_runs hruns, hreads]
    rfl
  · rw [hexec, execPatrolScrubRead, live_runs hruns, hreads]
    rfl

variable {source chan : Nat} (hsource : source < 14)
include hsource

/-- The second read of a line not known to be bad decides. -/
theorem exec_dramReread_good (hgood : lineOf addr ∉ (s.now t).dram.badLines) :
    exec (.dramReread t addr rank source chan .clean) s = .next ((s.now t).corrected source rank none addr) ∧
    exec (.dramReread t addr rank source chan .uncorrectable) s = .next ((s.now t).uncorrectable source rank chan addr) := by
  have hexec : ∀ res, exec (.dramReread t addr rank source chan res) s = execDramReread t addr rank source chan res s :=
    fun _ => rfl
  have hknown : ¬ (s.now t).dram.badLines.contains (lineOf addr) = true := by simpa using hgood
  constructor
  all_goals rw [hexec, execDramReread, inRange_of hsource, live_runs hruns, if_neg (Nat.not_le.mpr haddr), if_neg hknown]

/-- A line once found uncorrectable stays so, whatever a read finds (R335). -/
theorem exec_dramReread_bad (res : ReadResult) (hbad : lineOf addr ∈ (s.now t).dram.badLines) :
    exec (.dramReread t addr rank source chan res) s = .next ((s.now t).uncorrectable source rank chan addr) := by
  have hknown : (s.now t).dram.badLines.contains (lineOf addr) = true := by simpa using hbad
  show execDramReread t addr rank source chan res s = _
  rw [execDramReread, inRange_of hsource, live_runs hruns, if_neg (Nat.not_le.mpr haddr), if_pos hknown]

end
end

/-- Settles O48: each command has one effect, by whether its channel is in use and its line is known to be bad. -/
theorem dramCommands : Obligations.DramCommands := by
  unfold Obligations.DramCommands
  intro s t hruns
  refine ⟨fun dc hdc hused => ⟨exec_dramRefresh_used hruns hdc hused, fun due hfind => ?_,
    fun sub rank addr cmd source hsub hsource => ?_⟩, fun addr rank d hscrub haddr hgood => ?_,
    fun addr rank source chan hsource haddr hgood => exec_dramReread_good hruns haddr hsource hgood,
    fun addr rank source chan res hsource haddr hbad => exec_dramReread_bad hruns haddr hsource res hbad⟩
  · exact ⟨exec_dramRetrain_gap hruns hdc hused hfind, exec_dramRetrainForced_late hruns hdc hused hfind⟩
  · have halert := exec_dramCaAlert_used (rank := rank) (addr := addr) (cmd := cmd) hruns hdc hused hsub hsource
    exact ⟨fun hfew => halert.trans (congrArg _ (if_neg (Nat.not_le.mpr hfew))),
      fun hmany => halert.trans (congrArg _ (if_pos hmany))⟩
  · obtain ⟨hcorrected, hclean⟩ := exec_patrolScrubRead_good (rank := rank) hruns haddr hscrub hgood
    exact ⟨hcorrected d, hclean⟩

end Sys2Proof.Machine
end

section
/-! SUPPORT. Writes of WO entries whose row covers several indices, and of the commands of the DMA channels (R340 to R343). -/

namespace Sys2Proof.Machine

/-! ### WO entries of the device -/

/-- A write of a WO entry of the device without limits is served as it comes, with the entry's action. -/
theorem DeviceRow.acts_served {u : State} {r : Requester} {key : Nat} {e : Entry} {data : List Byte} {env : Env}
    {g : State → Option Abort × State} (hrow : DeviceRow key e) (hP : u.Prompt) (hmay : u.MayAct r key) (hacc : e.acc = .wo)
    (hlim : e.lim = .any) (hty : e.ty ≠ .bool) (hsize : e.ty.size = some data.length)
    (hg : ∀ v : State, v.devAction r (key / 256) (key % 256) (leNat data) data env = g v) :
    ServedAs u (.next (u.draws.requestWrite r (key / 256) (key % 256) data env)) (fun v => acted2 r key (g v)) := by
  have hlut := u.lutBusy_device (Nat.mod_lt key (by decide)) hrow.device
  have hfresh : u.wornOut e key data = false := by simp [State.wornOut, hacc]
  have hc := hrow.writeCheck_eq hmay hfresh (Entry.check_any hsize hty hlim)
  have heffect : ∀ v : State, v.writeEffect r e (key / 256) (key % 256) data env = g v := by
    intro v
    simp only [State.writeEffect, hacc, hrow.device, Bool.false_eq_true, if_false, hg v]
  exact State.write_served u r _ _ data env e g hP hmay.1 hrow.row (by simp [hacc]) hsize hc hlut heffect

/-! ### CONTROL of a DMA channel (R340, R342) -/

/-- CONTROL of the 64 channels. -/
def dmaControlEntry : Entry := ⟨0x2700, 64, 6, 1, .u8, .wo, 0, .imm, .any, false⟩

section
variable {dm : Nat} (hdm : dm < 64)
include hdm

theorem deviceRow_dmaControl : DeviceRow (keyOf (0x2700 + dm) 6) dmaControlEntry := by
  interval_cases dm <;> exact ⟨rfl, by decide, rfl, fun _ _ _ => rfl⟩

/-- A code written to CONTROL: 1 starts the channel, 2 stops it. -/
theorem State.devAction_dmaControl (v : State) (r : Requester) (n : Nat) (data : List Byte) (env : Env) :
    v.devAction r (keyOf (0x2700 + dm) 6 / 256) (keyOf (0x2700 + dm) 6 % 256) n data env =
      if n = 1 then v.outcome (v.dmaStart dm env.desc) else if n = 2 then (none, v.dmaStop dm) else (some A.value, v) := by
  have hsub : 6 < 256 := by decide
  have hother : ∀ k, k < 0x270000 → keyOf (0x2700 + dm) 6 ≠ k := by
    intro k hk
    unfold keyOf
    omega
  have hrange : 0x2700 ≤ 0x2700 + dm ∧ 0x2700 + dm < 0x2740 := by omega
  rw [keyOf_div hsub, keyOf_mod hsub, State.devAction]
  simp (disch := decide) only [hother, if_false, hrange, and_self, if_true, Nat.add_sub_cancel_left]

variable {s : State} {t : Time} {r : Requester} (hruns : s.runs t) (hP : (s.now t).Prompt)
  (hmay : (s.now t).MayAct r (keyOf (0x2700 + dm) 6))
include hruns hP hmay

/-- START is served as it comes, with the first descriptor that the command brings. -/
theorem exec_dmaStart_served (first : Option (BitVec 256)) :
    ServedAs (s.now t) (exec (.dmaStart t r dm first) s)
      (fun v => v.acted r (keyOf (0x2700 + dm) 6) (v.dmaStart dm first)) := by
  show ServedAs (s.now t) (execDmaStart t r dm first s) _
  rw [execDmaStart, inRange_of hmay.1.1, inRange_of hdm, live_runs hruns]
  exact ((deviceRow_dmaControl hdm).acts_served hP hmay rfl rfl (by decide) (data := leBytes 1 1) rfl
    fun v => State.devAction_dmaControl hdm v r 1 _ _).congr fun _ _ => State.acted2_outcome _ _ _ _

theorem exec_dmaStop_served : ServedAs (s.now t) (exec (.dmaStop t r dm) s) (fun v => v.dmaStop dm) := by
  show ServedAs (s.now t) (execDmaStop t r dm s) _
  rw [execDmaStop, inRange_of hmay.1.1, inRange_of hdm, live_runs hruns]
  exact ((deviceRow_dmaControl hdm).acts_served hP hmay rfl rfl (by decide) (data := leBytes 1 2) rfl
    fun v => State.devAction_dmaControl hdm v r 2 _ _).congr fun _ _ => rfl

end

/-! ### What START and STOP do -/

theorem State.dmaStart_busy {v : State} {dm : Nat} (h : (v.dmaCh dm).busy = true) (first : Option (BitVec 256)) :
    v.dmaStart dm first = .error A.state := by
  simp only [State.dmaStart, h, if_true]

/-- In register mode a run begins with the transfer that the registers hold; one of no bytes is done at once (R340). -/
theorem State.dmaStart_registers {v : State} {dm : Nat} (hidle : (v.dmaCh dm).busy = false) (hnormal : v.fatal = false)
    (hregisters : bit (v.dmaMode dm) 31 = false) (first : Option (BitVec 256)) :
    let w := v.setDma dm { v.dmaCh dm with status := 1, bytesDone := 0, descDone := 0, cur := none, hostDst := false, ending := none }
    v.dmaStart dm first = .ok (if (w.dmaRegs dm).count = 0 then w.dmaFinish dm 2 else w.dmaBegin dm (w.dmaRegs dm)) := by
  simp only [State.dmaStart, hidle, hnormal, hregisters, Bool.false_and, Bool.false_eq_true, if_false]
  exact (apply_ite Except.ok _ _ _).symm

theorem State.dmaStop_busy {v : State} {dm : Nat} (h : (v.dmaCh dm).status = 1) :
    v.dmaStop dm = v.setDma dm { v.dmaCh dm with status := 4 } := if_pos h

/-! ### Transfers (R341, R343) -/

@[simp] theorem State.dmaCh_setDma (v : State) (dm : Nat) (d : Dma) : (v.setDma dm d).dmaCh dm = d :=
  Store.get_put_same v.dma {} dm d

/-- A channel's signal only reports. -/
theorem State.reports_dmaSignal (v : State) (dm : Nat) : v.Reports (v.dmaSignal dm) := by
  unfold State.dmaSignal
  dsimp only
  split
  · exact v.reports_signal _ _
  · exact ⟨_, _, _, rfl⟩

theorem State.Reports.dmaCh_eq {v w : State} (h : v.Reports w) (dm : Nat) : w.dmaCh dm = v.dmaCh dm := by
  obtain ⟨_, _, _, rfl⟩ := h
  rfl

/-- In register mode a run that wrote nothing to the host is DONE after its one transfer. -/
theorem State.dmaCh_dmaNext_registers {v : State} {dm : Nat} (hregisters : bit (v.dmaMode dm) 31 = false)
    (hlocal : (v.dmaCh dm).hostDst = false) (x : DmaXfer) (next_ : Option (BitVec 256)) :
    (v.dmaNext dm x next_).dmaCh dm = { v.dmaCh dm with cur := none, status := 2 } := by
  simp only [State.dmaNext, State.dmaFinish, hregisters, hlocal, Bool.not_false, if_true, Bool.false_eq_true, if_false,
    (State.reports_dmaSignal _ dm).dmaCh_eq, State.dmaCh_setDma]

/-- What a transfer read from the host writes to DRAM is written there byte by byte. -/
theorem State.mem_dmaWrite {v : State} {x : DmaXfer} (hdram : x.dstHost = false) (dm : Nat) (data : List Byte) :
    (v.dmaWrite dm x data).dram.mem = v.dram.mem.writeBytes x.dst data := by
  cases data with
  | nil => rfl
  | cons b bs => simp only [State.dmaWrite, hdram, List.isEmpty_cons, Bool.false_eq_true, if_false]

theorem State.chans_dmaWrite {v : State} {x : DmaXfer} (hdram : x.dstHost = false) (dm : Nat) (data : List Byte) :
    (v.dmaWrite dm x data).chans = v.chans := by
  cases data with
  | nil => rfl
  | cons b bs => simp only [State.dmaWrite, hdram, List.isEmpty_cons, Bool.false_eq_true, if_false]

/-- What a descriptor's transfer leaves before its end: what was moved is written and counted. -/
def State.dmaMoved (u : State) (dm : Nat) (x : DmaXfer) (bs : List Byte) : State :=
  let v := u.dmaWrite dm x bs
  (v.setDma dm { v.dmaCh dm with bytesDone := (v.dmaCh dm).bytesDone + w64 bs.length }).tick K.MEMORY_COUNTERS_DMA_BYTES bs.length

section
variable {u : State} {dm : Nat} {x : DmaXfer} {m : DmaMove} {next_ : Option (BitVec 256)} {bs : List Byte}
  (hbs : (u.dmaSource x m.data).take x.count = bs)
include hbs

/-- A transfer that moved every byte without an error goes on to the next descriptor. -/
theorem State.dmaDone_whole (hhost : m.hostError = false) (hdram : m.dramError = false) (hlen : bs.length = x.count) :
    u.dmaDone dm x m next_ = (u.dmaMoved dm x bs).dmaNext dm x next_ := by
  simp only [State.dmaDone, hbs, hhost, hdram, hlen, lt_irrefl, decide_false, Bool.false_and, Bool.and_false, Bool.false_eq_true,
    if_false]
  rw [State.dmaMoved, hlen]

/-- An error of DRAM ends the run at the address reached in the source (R341). -/
theorem State.dmaDone_dramError (hdram : m.dramError = true) (hsrc : x.srcHost = false) :
    u.dmaDone dm x m next_ =
      (u.dmaMoved dm x bs).dmaFail dm 11 ((x.src + bs.length) / 2 ^ x.srcWidth * 2 ^ x.srcWidth) := by
  simp only [State.dmaDone, hbs, hdram, hsrc, Bool.not_false, Bool.and_true, Bool.not_true, Bool.and_false, Bool.false_and,
    Bool.false_eq_true, if_false, if_true]
  rfl

/-- An error of the host ends it likewise, at the address reached on the host's side. -/
theorem State.dmaDone_hostError (hhost : m.hostError = true) (hside : (x.srcHost || x.dstHost) = true)
    (hdram : (m.dramError && !x.srcHost) = false) :
    u.dmaDone dm x m next_ = (u.dmaMoved dm x bs).dmaFail dm 10
      (if x.srcHost then (x.src + bs.length) / 2 ^ x.srcWidth * 2 ^ x.srcWidth
       else (x.dst + bs.length) / 2 ^ x.dstWidth * 2 ^ x.dstWidth) := by
  simp only [State.dmaDone, hbs, hhost, hside, hdram, Bool.and_true, Bool.not_true, Bool.false_and, Bool.false_eq_true, if_false,
    if_true]
  rfl

end

section
variable {s : State} {t : Time} {dm : Nat} (hruns : s.runs t) (hdm : dm < 64)
include hruns hdm

theorem exec_dmaDescriptorComplete_running {x : DmaXfer} (hcur : ((s.now t).dmaCh dm).cur = some x) (m : DmaMove)
    (next_ : Option (BitVec 256)) :
    exec (.dmaDescriptorComplete t dm m next_) s = .next ((s.now t).dmaDone dm x m next_) := by
  show execDmaDescriptorComplete t dm m next_ s = _
  rw [execDmaDescriptorComplete, inRange_of hdm, live_runs hruns, hcur]

theorem exec_dmaFinalReadComplete_ending {st : Nat} (hending : ((s.now t).dmaCh dm).ending = some st) :
    exec (.dmaFinalReadComplete t dm) s = .next
      (((s.now t).setDma dm { (s.now t).dmaCh dm with status := st, ending := none }).dmaSignal dm) := by
  show execDmaFinalReadComplete t dm s = _
  rw [execDmaFinalReadComplete, inRange_of hdm, live_runs hruns, hending]

end

/-- Settles O49: START and STOP are codes written to CONTROL, and a descriptor ends as its transfer found it. -/
theorem dmaCommands : Obligations.DmaCommands := by
  unfold Obligations.DmaCommands
  intro s t dm hdm hruns u
  refine ⟨fun r first hP hmay => ⟨exec_dmaStart_served hdm hruns hP hmay first, exec_dmaStop_served hdm hruns hP hmay⟩,
    fun v first hidle hnormal hregisters => State.dmaStart_registers hidle hnormal hregisters first,
    fun v => State.dmaStop_busy, fun v hbusy first => State.dmaStart_busy hbusy first, ?_, ?_, ?_,
    fun st => exec_dmaFinalReadComplete_ending hruns hdm⟩
  · intro x m next_ hcur bs v w
    have hexec := exec_dmaDescriptorComplete_running hruns hdm hcur m next_
    refine ⟨fun hhost hdram hlen => ?_, fun hdram hsrc => ?_, fun hhost hsrc => ?_, fun hhost hdram hsrc hdst => ?_⟩
    · rw [hexec, State.dmaDone_whole rfl hhost hdram hlen]
      rfl
    · rw [hexec, State.dmaDone_dramError rfl hdram hsrc]
      rfl
    · rw [hexec, State.dmaDone_hostError rfl hhost (by simp [hsrc]) (by simp [hsrc]), if_pos hsrc]
      rfl
    · rw [hexec, State.dmaDone_hostError rfl hhost (by simp [hdst]) (by simp [hdram]), if_neg (by simp [hsrc])]
      rfl
  · intro v x data hsrc hdst
    exact ⟨if_pos hsrc, State.mem_dmaWrite hdst dm data, State.chans_dmaWrite hdst dm data⟩
  · intro v x next_ hregisters hlocal _ w
    rw [State.dmaCh_dmaNext_registers hregisters hlocal]
    exact ⟨rfl, rfl, rfl⟩

end Sys2Proof.Machine
end

section
/-! SUPPORT. Interrupts: hold-off, CLAIM and the rows of the sources (R346 to R350). -/

namespace Sys2Proof.Machine

section
variable {s : State} {t : Time} {f g : Nat} (hruns : s.runs t) (hf : f < 256) (hg : g < 64)
include hruns hf hg

/-- An expired hold-off timer ends, and the vector is sent again where a source of the group is eligible (R346). -/
theorem exec_holdoffExpiry_expired {e : Time} (htimer : ((s.now t).intGroup f g).timer = some e) (hexpired : e ≤ (s.now t).time) :
    exec (.holdoffExpiry t f g) s = .next
      (let v := (s.now t).setIntGroup f g { (s.now t).intGroup f g with timer := none }
       if v.groupAny f g IntSource.eligible then v.sendVector f g else v) := by
  show execHoldoffExpiry t f g s = _
  rw [execHoldoffExpiry, inRange_of hf, inRange_of hg, live_runs hruns]
  simp only [State.holdoff, htimer, if_pos hexpired]

theorem exec_msixUnmask : exec (.msixUnmask t f g) s = .next ((s.now t).unmask f g) := by
  show execMsixUnmask t f g s = _
  rw [execMsixUnmask, inRange_of hf, inRange_of hg, live_runs hruns]

variable (hreach : (s.now t).funcReaches f = true)
include hreach

theorem exec_claimRead_reached : exec (.claimRead t f g) s = .next ((s.now t).claim f g) := by
  show execClaimRead t f g s = _
  rw [execClaimRead, inRange_of hf, inRange_of hg, live_runs hruns, if_pos hreach]

theorem exec_claimComplete_reached (n : Nat) : exec (.claimComplete t f g n) s = .next ((s.now t).complete f g n) := by
  show execClaimComplete t f g n s = _
  rw [execClaimComplete, inRange_of hf, inRange_of hg, live_runs hruns, if_pos hreach]

end

/-! ### What a claim and its completion do (R348, R350) -/

section
variable {u : State} {f g n : Nat}

theorem State.claim_some (h : u.claimable f g = some n) :
    u.claim f g = (u.setIntSource n { u.intSource n with pending := false, active := true }).emit (.claim f g n) := by
  rw [State.claim, h]

theorem State.claim_none (h : u.claimable f g = none) :
    u.claim f g = (u.setIntGroup f g { u.intGroup f g with spurious := (u.intGroup f g).spurious + 1 }).emit (.claim f g 4095) := by
  rw [State.claim, h]

theorem State.complete_active (hn : n < 4095) (hactive : (u.intSource n).active = true) (hfunc : (u.intSource n).func = f)
    (hgroup : (u.intSource n).group = g) : u.complete f g n = u.updateSource n { u.intSource n with active := false } :=
  if_pos ⟨hn, hactive, hfunc, hgroup⟩

/-- The completion of a number that is no source, or of a source that is not active, is only counted. -/
theorem State.complete_bad (h : 4095 ≤ n ∨ (u.intSource n).active = false) :
    u.complete f g n = u.setIntGroup f g { u.intGroup f g with badCompletes := (u.intGroup f g).badCompletes + 1 } := by
  refine if_neg ?_
  rintro ⟨hn, hactive, -⟩
  rcases h with h | h
  · omega
  · exact Bool.false_ne_true (h.symm.trans hactive)

end

/-! ### PRIO of a source (R349) -/

/-- PRIO of the source that INT_SELECT names. -/
def intPrioEntry : Entry := ⟨0x2501, 1, 3, 1, .u8, .rw, 1, .imm, .range 0 7, false⟩

/-- A write of PRIO is served as it comes, and sets the row of the selected source. -/
theorem exec_intSourceWrite_prio {s : State} {t : Time} {r : Requester} {p : Nat} (hruns : s.runs t) (hp : p < 8)
    (hP : (s.now t).Prompt) (hr : (s.now t).Present r)
    (hc : (s.now t).writeCheck r 0x2501 3 [byteOf p] = .ok (intPrioEntry, none)) :
    ServedAs (s.now t) (exec (.intSourceWrite t r 3 [byteOf p]) s) (fun v =>
      v.updateSource (v.sel r K.INT_SELECT_SOURCE) { v.intSource (v.sel r K.INT_SELECT_SOURCE) with prio := p }) := by
  have hval : leNat [byteOf p] = p := leNat_leBytes (n := 1) (by omega)
  show ServedAs (s.now t) (execIntSourceWrite t r 3 [byteOf p] s) _
  rw [execIntSourceWrite, inRange_of hr.1, inRange_of (by decide), live_runs hruns]
  refine State.write_served _ r 0x2501 3 [byteOf p] _ intPrioEntry
    (fun v => (none, v.writeIntSource (v.sel r K.INT_SELECT_SOURCE) 3 p)) hP hr rfl (by decide) rfl hc
    (State.lutBusy_device _ (by decide) rfl) fun v => ?_
  show v.acceptRw r intPrioEntry 0x2501 3 (leNat [byteOf p]) = _
  rw [hval]
  rfl

/-- Settles O50: each command is one operation on a group or on a source. -/
theorem interruptCommands : Obligations.InterruptCommands := by
  unfold Obligations.InterruptCommands
  intro s t hruns u
  refine ⟨fun f g e hf hg => exec_holdoffExpiry_expired hruns hf hg, fun f g hf hg => ?_, fun f g hf hg hreach => ?_,
    fun r p hp hP hmay hc => exec_intSourceWrite_prio hruns hp hP hmay.1 hc⟩
  · have hexec := exec_msixUnmask hruns hf hg
    exact ⟨fun hwaits => hexec.trans (congrArg _ (if_pos hwaits)),
      fun hnone => hexec.trans (congrArg _ (if_neg (ne_true_of_eq_false hnone)))⟩
  · have hread := exec_claimRead_reached hruns hf hg hreach
    have hcomplete := exec_claimComplete_reached hruns hf hg hreach
    refine ⟨fun n hn => ?_, fun hnone => ?_, fun n hn hactive hfunc hgroup => ?_, fun n hbad => ?_⟩
    · rw [hread, State.claim_some hn]
    · rw [hread, State.claim_none hnone]
    · rw [hcomplete n, State.complete_active hn hactive hfunc hgroup]
    · rw [hcomplete n, State.complete_bad hbad]

end Sys2Proof.Machine
end

section
/-! SUPPORT. Temperature: sensors, diodes, the thermal cap and the life-hour record (R378 to R382, R421). -/

namespace Sys2Proof.Machine

theorem State.thermal_shutdown {v : State} (h : v.power.shutdown = true) : v.thermal = v := if_pos h

/-- A channel without a role drives no current. -/
theorem exec_tdiodeConversion_unused {s : State} {t : Time} {n : Nat} (hn : n < 4) (hrole : (s.at t).v (K.TDIODE_ROLE + n) = 0)
    (reading : Int) (ok : Bool) : exec (.tdiodeConversion t n reading ok) s = .next (s.at t) := by
  show execTdiodeConversion t n reading ok s = _
  rw [execTdiodeConversion, inRange_of hn, always_next, if_pos (by simp [hrole])]

section
variable {s : State} {t : Time} (hsensing : (s.at t).sensing = true)
include hsensing

/-- A sensor's reading is stored and judged against the thresholds (R379). -/
theorem exec_tempSensorConversion_free {pd : Nat} (hpd : pd < 32) (hfree : (s.at t).boot.held = none) (reading : Int) :
    exec (.tempSensorConversion t pd reading) s = .next ((s.at t).sensorReading pd reading).thermal := by
  have hheld : ((s.at t).sensorReading pd reading).boot.held = none := hfree
  show execTempSensorConversion t pd reading s = _
  rw [execTempSensorConversion, inRange_of hpd, always_next, hsensing]
  simp only [Bool.not_true, Bool.false_eq_true, if_false, hheld]

theorem exec_tdiodeConversion_used {n : Nat} (hn : n < 4) (hrole : (s.at t).v (K.TDIODE_ROLE + n) ≠ 0) (reading : Int) (ok : Bool) :
    exec (.tdiodeConversion t n reading ok) s =
      .next (if ok then (s.at t).diodePass n reading else (s.at t).diodeOpen n).thermal := by
  show execTdiodeConversion t n reading ok s = _
  rw [execTdiodeConversion, inRange_of hn, always_next, hsensing, if_neg (by simpa using hrole)]

/-- The cap falls by 25 mV while TEMP_THROTTLE holds, and rises by 25 mV otherwise (R382). -/
theorem exec_thermalCapStep_sensing :
    exec (.thermalCapStep t) s = .next { s.at t with power := { (s.at t).power with
      thermalCap := if (s.at t).throttling then max 550 ((s.at t).power.thermalCap - 25)
        else min 850 ((s.at t).power.thermalCap + 25) } } := by
  show execThermalCapStep t s = _
  rw [execThermalCapStep, always_next, if_pos hsensing]

/-- The end of a powered hour is added to the record of the device's life (R421, R422). -/
theorem exec_lifeHourUpdate_sensing (tj : Int) :
    exec (.lifeHourUpdate t tj) s = .next
      (let a := s.at t
       { a with power := { a.power with
          lifeHours := a.power.lifeHours + 1, lifeTj := a.power.lifeTj + tj
          lifeHot := a.power.lifeHot + (if 840 < tj then 1 else 0)
          lifeBoost := a.power.lifeBoost + (if a.power.boosted then 1 else 0)
          lifeUsed := a.power.lifeUsed + Config.lifeWeight tj * (if a.power.boosted then 2 else 1)
          boosted := (List.range 30).any (fun pd => 750 < a.domainMv pd) } }) := by
  show execLifeHourUpdate t tj s = _
  rw [execLifeHourUpdate, always_next, if_neg (by simp [hsensing])]

end

/-- Settles O55: each conversion and step has one effect while the sensors are supplied. -/
theorem temperature : Obligations.Temperature := by
  unfold Obligations.Temperature
  intro s t a hsensing
  refine ⟨fun pd reading hpd hfree => exec_tempSensorConversion_free hsensing hpd hfree reading, fun n reading hn hrole => ?_,
    fun n reading ok hn hrole => exec_tdiodeConversion_unused hn hrole reading ok, fun hthrottling => ?_,
    fun hcool => ?_, fun v => State.thermal_shutdown, exec_lifeHourUpdate_sensing hsensing⟩
  · exact ⟨exec_tdiodeConversion_used hsensing hn hrole reading true, exec_tdiodeConversion_used hsensing hn hrole reading false⟩
  · rw [exec_thermalCapStep_sensing hsensing, if_pos hthrottling]
  · rw [exec_thermalCapStep_sensing hsensing, if_neg (ne_true_of_eq_false hcool)]

end Sys2Proof.Machine
end

section
/-! SUPPORT. The power ladder (R372 to R376). -/

namespace Sys2Proof.Machine

/-! ### L1 (R373) -/

section
variable {s : State} {t : Time}

theorem exec_frostEntry_ready (h : (s.at t).frostReady = true) :
    exec (.frostEntry t) s = .next
      { s.at t with power := { (s.at t).power with ladder := 1, frostSince := (s.at t).time } } :=
  congrArg Host.Outcome.next (if_pos h)

theorem exec_frostExit (s : State) (t : Time) : exec (.frostExit t) s = .next (s.at t).awake := rfl

end

/-! ### TARGET (R374) -/

theorem deviceRow_powerTarget : DeviceRow K.POWER_CONFIG_TARGET (actionEntry K.POWER_CONFIG_TARGET .u8) :=
  ⟨rfl, by decide, rfl, fun _ _ _ => rfl⟩

/-- A code written to TARGET is served as it comes. -/
theorem State.powerTarget_served {u : State} {r : Requester} {n : Nat} (hn : n < 256) (hP : u.Prompt)
    (hmay : u.MayAct r K.POWER_CONFIG_TARGET) :
    ServedAs u (.next (u.code r K.POWER_CONFIG_TARGET n)) (fun v => v.acted r K.POWER_CONFIG_TARGET (v.ladderTarget n)) := by
  have hval : leNat (leBytes 1 n) = n := leNat_leBytes hn
  exact deviceRow_powerTarget.outcome_served (data := leBytes 1 n) hP hmay rfl (by decide) fun v => by rw [hval]; rfl

/-- A command that is such a code. -/
theorem live_powerTarget_served {s : State} {t : Time} {r : Requester} (hruns : s.runs t) (hP : (s.now t).Prompt)
    (hmay : (s.now t).MayAct r K.POWER_CONFIG_TARGET) {n : Nat} (hn : n < 256) :
    ServedAs (s.now t) (inRange "requester" r.place 256 (live t s fun s => s.code r K.POWER_CONFIG_TARGET n))
      (fun v => v.acted r K.POWER_CONFIG_TARGET (v.ladderTarget n)) := by
  rw [inRange_of hmay.1.1, live_runs hruns]
  exact State.powerTarget_served hn hP hmay

/-- A write of TARGET that nothing refuses begins the entry; one to L4 or L5 stores the trims. -/
theorem State.ladderTarget_free {v : State} {n : Nat} (hlow : 2 ≤ n) (hhigh : n ≤ 5) (hfree : v.ladderRefused = false) :
    v.ladderTarget n = .ok
      (let w := if 4 ≤ n then v.storeTrims else v
       { w with power := { w.power with entering := some n } }) := by
  have hknown : ¬ (decide (n < 2) || decide (5 < n)) = true := by
    simp only [Bool.or_eq_true, decide_eq_true_eq]
    omega
  rw [State.ladderTarget, if_neg hknown, if_neg (ne_true_of_eq_false hfree)]

/-! ### The end of an entry -/

section
variable {s : State} {t : Time} {n : Nat} (hentering : (s.at t).power.entering = some n) (hruns : s.runs t)
  (hidle : (s.at t).nvm.current = none)
include hentering hruns hidle

/-- With no slot write in progress the entry completes: L3 stops what it stops, and L4 and L5 lose the core. -/
theorem exec_ladderEntryComplete_idle :
    exec (.ladderEntryComplete t) s = .next
      (let a : State := { s.at t with power := { (s.at t).power with ladder := n, entering := none } }
       if n = 2 then a
       else if n = 3 then a.drift
       else
         let v := a.drift.loseCore
         let w : State := { v with pins := { v.pins with mainEn := decide (v.v K.PMBUS_CONFIG_EXT_MODE = 0) } }
         if v.v K.PMBUS_CONFIG_EXT_MODE = 1 then w.emit (.pmbus 0x01 0) else w) := by
  have hacts : ¬ (!(s.at t).up || (s.at t).nvm.current.isSome) = true := by
    rw [State.runs] at hruns
    rw [hruns, hidle]
    decide
  show execLadderEntryComplete t s = _
  simp only [execLadderEntryComplete, hentering, if_neg hacts]
  rfl

end

/-! ### Waking (R375, R376) -/

section
variable {s : State} {t : Time} (hsensing : (s.at t).sensing = true)
include hsensing

theorem exec_ladderWake_source {w : WakeSource} (hmay : (s.at t).mayWake w = true) (hw : w ≠ .timer) (ao : Time) (b : BootFacts) :
    exec (.ladderWake t w ao b) s = .next ((s.at t).wake w ao b) :=
  congrArg Host.Outcome.next (if_pos (by simp [hsensing, hmay, hw]))

theorem exec_wakeTimer_due (hmay : (s.at t).mayWake .timer = true) (hdue : (s.at t).timerDue = true) (ao : Time) (b : BootFacts) :
    exec (.wakeTimer t ao b) s = .next ((s.at t).wake .timer ao b) :=
  congrArg Host.Outcome.next (if_pos (by simp [hsensing, hmay, hdue]))

end

/-- From L2 and L3 the device goes on where it was: every retraining is due, and WAKE_N tells the host of its own wake. -/
theorem State.wake_shallow {v : State} (h : v.power.ladder = 2 ∨ v.power.ladder = 3) (w : WakeSource) (ao : Time) (b : BootFacts) :
    v.wake w ao b =
      (let z := State.setRo { v with power := { v.power with ladder := 0, entering := none } } K.POWER_CONFIG_WAKE_CAUSE (2 ^ wakeBit w)
       { z with
          dram := { z.dram with due := Store.map z.dram.due (fun _ _ => z.time) }
          pins := { z.pins with wakeN := w == .host } }) :=
  if_pos h

/-- Settles O54: each command moves the ladder by one step, by what the state is and what is being entered. -/
theorem powerLadder : Obligations.PowerLadder := by
  unfold Obligations.PowerLadder
  intro s t a
  refine ⟨exec_frostEntry_ready, fun h => ?_, fun h => ?_, fun r hruns hP hmay => ?_,
    fun v n => State.ladderTarget_free, fun n hentering hruns hidle => ?_, fun v => ⟨rfl, rfl, rfl, rfl, rfl, rfl, rfl⟩,
    fun w ao b hsensing hmay hw => exec_ladderWake_source hsensing hmay hw ao b,
    fun ao b hsensing hmay hdue => exec_wakeTimer_due hsensing hmay hdue ao b, fun v w ao b h => ?_⟩
  · rw [exec_frostExit, State.awake, if_neg h]
  · rw [exec_frostExit, State.awake, if_pos h]
  · exact ⟨live_powerTarget_served hruns hP hmay (by decide), live_powerTarget_served hruns hP hmay (by decide),
      live_powerTarget_served hruns hP hmay (by decide), live_powerTarget_served hruns hP hmay (by decide)⟩
  · have hexec := exec_ladderEntryComplete_idle hentering hruns hidle
    refine ⟨fun h2 => ?_, fun h3 => ?_, fun h4 => ?_⟩
    · rw [hexec, if_pos h2, h2]
    · rw [hexec, if_neg (by omega), if_pos h3, h3]
    · rw [if_neg (by omega), if_neg (by omega)] at hexec
      exact ⟨fun hmode => hexec.trans (congrArg _ (if_pos hmode)), fun hmode => hexec.trans (congrArg _ (if_neg hmode))⟩
  · rw [State.wake_shallow h]
    exact ⟨rfl, rfl, rfl, rfl⟩

end Sys2Proof.Machine
end

section
/-! SUPPORT. Flash updates (R395, R396, R424). -/

namespace Sys2Proof.Machine

/-! ### COMMAND of FLASH_UPDATE -/

theorem deviceRow_flashCommand : DeviceRow K.FLASH_UPDATE_COMMAND (actionEntry K.FLASH_UPDATE_COMMAND .u8) :=
  ⟨rfl, by decide, rfl, fun _ _ _ => rfl⟩

section
variable {u : State} {r : Requester} (hP : u.Prompt) (hmay : u.MayAct r K.FLASH_UPDATE_COMMAND)
include hP hmay

/-- A code written to COMMAND is served as it comes. -/
theorem State.flashCommand_served {n : Nat} (hn : n < 256) (env : Env) :
    ServedAs u (.next (u.draws.requestWrite r (K.FLASH_UPDATE_COMMAND / 256) (K.FLASH_UPDATE_COMMAND % 256) (leBytes 1 n) env))
      (fun v => acted2 r K.FLASH_UPDATE_COMMAND (v.flashCommand r n env.same)) := by
  have hval : leNat (leBytes 1 n) = n := leNat_leBytes hn
  exact deviceRow_flashCommand.acts_served hP hmay rfl rfl (by decide) rfl fun v => by rw [hval]; rfl

/-- Of its codes 1, 4 and 5 the action is refused or leaves a new state. -/
theorem State.flashCode_served {n : Nat} (hn : n < 256) {g : State → Except Abort State}
    (hg : ∀ v : State, v.flashCommand r n (u.freeEnv 0).same = v.outcome (g v)) :
    ServedAs u (.next (u.code r K.FLASH_UPDATE_COMMAND n)) (fun v => v.acted r K.FLASH_UPDATE_COMMAND (g v)) := by
  refine (State.flashCommand_served hP hmay hn (u.freeEnv 0)).congr fun a m => ?_
  rw [hg, acted2_outcome]

end

section
variable {s : State} {t : Time} {r : Requester} (hruns : s.runs t) (hP : (s.now t).Prompt)
  (hmay : (s.now t).MayAct r K.FLASH_UPDATE_COMMAND)
include hruns hP hmay

theorem exec_flashBegin_served : ServedAs (s.now t) (exec (.flashBegin t r) s)
    (fun v => v.acted r K.FLASH_UPDATE_COMMAND (v.flashBegin (v.sel r K.FLASH_UPDATE_REGION))) := by
  show ServedAs (s.now t) (execFlashBegin t r s) _
  rw [execFlashBegin, inRange_of hmay.1.1, live_runs hruns]
  exact State.flashCode_served hP hmay (by decide) fun _ => rfl

theorem exec_flashConfirm_served : ServedAs (s.now t) (exec (.flashConfirm t r) s)
    (fun v => v.acted r K.FLASH_UPDATE_COMMAND (v.flashConfirm (v.sel r K.FLASH_UPDATE_REGION))) := by
  show ServedAs (s.now t) (execFlashConfirm t r s) _
  rw [execFlashConfirm, inRange_of hmay.1.1, live_runs hruns]
  exact State.flashCode_served hP hmay (by decide) fun _ => rfl

theorem exec_flashFetch_served : ServedAs (s.now t) (exec (.flashFetch t r) s)
    (fun v => v.acted r K.FLASH_UPDATE_COMMAND (v.flashFetch r (v.sel r K.FLASH_UPDATE_REGION))) := by
  show ServedAs (s.now t) (execFlashFetch t r s) _
  rw [execFlashFetch, inRange_of hmay.1.1, live_runs hruns]
  exact State.flashCode_served hP hmay (by decide) fun _ => rfl

theorem exec_flashAbort_served : ServedAs (s.now t) (exec (.flashAbort t r) s)
    (fun v => v.flashAbort (v.sel r K.FLASH_UPDATE_REGION)) := by
  show ServedAs (s.now t) (execFlashAbort t r s) _
  rw [execFlashAbort, inRange_of hmay.1.1, live_runs hruns]
  exact (State.flashCommand_served hP hmay (n := 3) (by decide) _).congr fun _ _ => rfl

/-- COMMIT is served with what the read-back finds. -/
theorem exec_flashCommit_served (same : Bool) : ServedAs (s.now t) (exec (.flashCommit t r same) s)
    (fun v => acted2 r K.FLASH_UPDATE_COMMAND (v.flashCommit (v.sel r K.FLASH_UPDATE_REGION) same)) := by
  show ServedAs (s.now t) (execFlashCommit t r same s) _
  rw [execFlashCommit, inRange_of hmay.1.1, live_runs hruns]
  exact (State.flashCommand_served hP hmay (n := 2) (by decide) _).congr fun _ _ => rfl

end

/-! ### What each code does -/

section
variable {v : State} {n : Nat}

theorem State.flashBegin_idle (hidle : (v.flash n).state = 0) (hpatch : v.boot.patchState ≠ 1) :
    v.flashBegin n = .ok (v.setFlash n { selected := (v.flash n).selected, state := 1 }) := by
  simp [State.flashBegin, hidle, hpatch]

theorem State.flashConfirm_runs (htrial : bit v.boot.trialRun (n - 1) = true) :
    v.flashConfirm n = .ok
      (let w := v.setFlash n { v.flash n with selected := 1 - (v.flash n).selected }
       { w with boot := { w.boot with trialRun := setBit w.boot.trialRun (n - 1) false } }) :=
  if_pos htrial

section
variable (hwriting : (v.flash n).state = 2) (hfree : (v.flash n).fetching = none)
include hwriting hfree

/-- A region that is being written and fetches nothing is not busy. -/
theorem State.flash_free : ¬ (decide ((v.flash n).state ≠ 2) || (v.flash n).fetching.isSome) = true := by
  rw [hwriting, hfree]
  decide

theorem State.flashData_within {off : Nat} {bs : List Byte} (hfits : off + bs.length ≤ copySize n) :
    v.flashData n off bs = .ok (v.setFlash n ((v.flash n).take off bs)) := by
  rw [State.flashData, if_neg (Nat.not_lt.mpr hfits), if_neg (State.flash_free hwriting hfree)]

theorem State.flashFetch_within (hfits : (v.flash n).written + v.v K.FLASH_UPDATE_FETCH_LEN ≤ copySize n) :
    v.flashFetch (.func 0) n = .ok (v.setFlash n { v.flash n with
      fetching := some ((v.flash n).written, v.v K.FLASH_UPDATE_FETCH_LEN) }) := by
  rw [State.flashFetch, if_neg (by decide), if_neg (Nat.not_lt.mpr hfits), if_neg (State.flash_free hwriting hfree)]

/-- COMMIT makes a copy that reads back as it was written the region's trial; another is an error. -/
theorem State.flashCommit_free (same : Bool) :
    v.flashCommit n same =
      if same then (none, v.setFlash n { v.flash n with state := 3, trial := true })
      else (some A.store, v.setFlash n { v.flash n with state := 4 }) := by
  rw [State.flashCommit, if_neg (State.flash_free hwriting hfree)]

end
end

/-! ### The ends of an erasure and of a fetch -/

section
variable {s : State} {t : Time} {region : Nat} (hruns : s.runs t) (hregion : region < 6)
include hruns hregion

theorem exec_flashEraseComplete_erasing (herasing : ((s.now t).flash region).state = 1) :
    exec (.flashEraseComplete t region) s =
      .next ((s.now t).setFlash region { (s.now t).flash region with state := 2 }) := by
  show execFlashEraseComplete t region s = _
  rw [execFlashEraseComplete, inRange_of hregion, live_runs hruns]
  exact congrArg _ (if_pos herasing)

theorem exec_flashFetchComplete_read {off n : Nat} {bs : List Byte} (hfetching : ((s.now t).flash region).fetching = some (off, n))
    (hlen : bs.length = n) :
    exec (.flashFetchComplete t region (some bs)) s =
      .next ((s.now t).setFlash region (({ (s.now t).flash region with fetching := none } : FlashRegion).take off bs)) := by
  show execFlashFetchComplete t region (some bs) s = _
  rw [execFlashFetchComplete, inRange_of hregion, live_runs hruns]
  simp only [hfetching, if_pos hlen]

theorem exec_flashFetchComplete_failed (hfetching : ((s.now t).flash region).fetching.isSome = true) :
    exec (.flashFetchComplete t region none) s =
      .next ((s.now t).setFlash region { (s.now t).flash region with fetching := none, state := 4 }) := by
  obtain ⟨x, hx⟩ := Option.isSome_iff_exists.mp hfetching
  show execFlashFetchComplete t region none s = _
  rw [execFlashFetchComplete, inRange_of hregion, live_runs hruns]
  simp only [hx]

end

/-! ### DATA (R395) -/

/-- DATA takes bytes of any length. -/
def flashDataEntry : Entry := ⟨0x2E01, 1, 3, 1, .dom, .wo, 0, .imm, .any, false⟩

theorem deviceRow_flashData : DeviceRow K.FLASH_UPDATE_DATA flashDataEntry := ⟨rfl, by decide, rfl, fun _ _ _ => rfl⟩

/-- What a write of a WO entry that passes its checks does in a device that is neither fatal nor fenced. -/
theorem DeviceRow.writeFor_eq {v : State} {r : Requester} {key : Nat} {e : Entry} {data : List Byte} {env : Env}
    {g : Except Abort State} (hrow : DeviceRow key e) (hacc : e.acc = .wo)
    (hc : v.writeCheck r (key / 256) (key % 256) data = .ok (e, none)) (hnormal : v.fatal = false) (hunfenced : v.array.state ≠ 4)
    (hg : v.devAction r (key / 256) (key % 256) (leNat data) data env = v.outcome g) :
    ∃ a, v.writeFor r (key / 256) (key % 256) data env = .done a (v.acted r key g) := by
  have hopen : v.writeBlocked (keyOf (key / 256) (key % 256)) (leNat data) = none := by
    simp [State.writeBlocked, hnormal, hunfenced]
  have heffect : v.writeEffect r e (key / 256) (key % 256) data env = v.outcome g := by
    simp only [State.writeEffect, hacc, hrow.device, Bool.false_eq_true, if_false, hg]
  have hslot : ¬ e.acc = .rwp := by simp [hacc]
  simp only [State.writeFor, State.writeEntry, hc, hopen, firstAbort, if_neg hslot, heffect]
  cases g with
  | ok w => exact ⟨none, rfl⟩
  | error a => exact ⟨some a, rfl⟩

/-- DATA is written over CANopen FD and OD/UDP: through the request queue, from the byte offset of the command. -/
theorem exec_flashDataWrite_served {s : State} {t : Time} {r : Requester} (hruns : s.runs t) (hP : (s.now t).Prompt)
    (hmay : (s.now t).MayAct r K.FLASH_UPDATE_DATA) (hnot : ∀ f, r ≠ .func f) (off : Nat) (data : List Byte) :
    ServedAs (s.now t) (exec (.flashDataWrite t r off data) s) (fun v =>
      v.acted r K.FLASH_UPDATE_DATA (v.flashData (v.sel r K.FLASH_UPDATE_REGION) off data)) := by
  have hexec : exec (.flashDataWrite t r off data) s = .next ((s.now t).draws.submit (queueOf r)
      (.write r (K.FLASH_UPDATE_DATA / 256) (K.FLASH_UPDATE_DATA % 256) data) ((s.now t).freeEnv off)) := by
    show execFlashDataWrite t r off data s = _
    rw [execFlashDataWrite, inRange_of hmay.1.1, live_runs hruns]
    cases r with
    | func f => exact absurd rfl (hnot f)
    | can k | udp a p | shawm => rfl
  rw [hexec]
  refine State.submit_served _ r _ _ data _ _ hP hmay.1.1 (State.lutBusy_device _ (by decide) rfl) fun a n => ?_
  have hc := deviceRow_flashData.writeCheck_eq (u := { s.now t with access := a, free := n }) (data := data) hmay rfl rfl
  exact deviceRow_flashData.writeFor_eq rfl hc hP.normal hP.unfenced rfl

/-- Settles O57: the commands are codes written to COMMAND, and DATA is written through the request queue. -/
theorem flashUpdates : Obligations.FlashUpdates := by
  unfold Obligations.FlashUpdates
  refine ⟨fun s t hruns => ⟨fun r hP hmay => ?_, fun v n who bs off => ?_, fun region hregion => ?_⟩,
    fun s t r off data hruns hP hmay hnot => exec_flashDataWrite_served hruns hP hmay hnot off data⟩
  · exact ⟨exec_flashBegin_served hruns hP hmay, exec_flashFetch_served hruns hP hmay, exec_flashCommit_served hruns hP hmay,
      exec_flashAbort_served hruns hP hmay, exec_flashConfirm_served hruns hP hmay⟩
  · refine ⟨State.flashBegin_idle, fun hwriting hfree hfits => State.flashData_within hwriting hfree hfits, ?_,
      fun hwriting hfree => State.flashCommit_free hwriting hfree true,
      fun hwriting hfree => State.flashCommit_free hwriting hfree false, State.flashConfirm_runs⟩
    rintro hwriting hfree rfl hfits
    exact State.flashFetch_within hwriting hfree hfits
  · exact ⟨exec_flashEraseComplete_erasing hruns hregion, fun off n bs => exec_flashFetchComplete_read hruns hregion,
      exec_flashFetchComplete_failed hruns hregion⟩

end Sys2Proof.Machine
end

section
/-! SUPPORT. Egress queues (R302 to R307, R314, R315). -/

namespace Sys2Proof.Machine

/-! ### The rows of EQ_CONFIG (R302) -/

/-- ENABLE of a queue. -/
def eqEnableEntry : Entry := ⟨0x2A41, 1, 1, 1, .bool, .rw, 0, .imm, .any, false⟩

/-- Only PORT, KIND and TC of an enabled queue are locked. -/
theorem State.eqLocked_other (v : State) (q : Nat) {k : Nat} (h : k ∉ [K.EQ_CONFIG_PORT, K.EQ_CONFIG_KIND, K.EQ_CONFIG_TC]) :
    v.eqLocked q k = false := by
  simp only [List.mem_cons, List.not_mem_nil, or_false, not_or] at h
  obtain ⟨hport, hkind, hclass⟩ := h
  simp only [State.eqLocked, hport, hkind, hclass, decide_false, Bool.or_self, Bool.and_false]

/-- So the lock refuses no write of another entry of EQ_CONFIG. -/
theorem State.eqLocked_allows (v : State) (q : Nat) {k : Nat} (h : k ∉ [K.EQ_CONFIG_PORT, K.EQ_CONFIG_KIND, K.EQ_CONFIG_TC]) :
    ¬ (0x2A41 = 0x2A41 ∧ v.eqLocked q k = true) :=
  fun hlock => ne_true_of_eq_false (v.eqLocked_other q h) hlock.2

theorem deviceRow_eqEnable : DeviceRow K.EQ_CONFIG_ENABLE eqEnableEntry := by
  refine ⟨rfl, by decide, rfl, fun v r n => ?_⟩
  have hallowed := v.eqLocked_allows (v.sel r K.EQ_SELECT_TARGET) (k := K.EQ_CONFIG_ENABLE) (by decide)
  exact (if_neg hallowed : (if _ then some A.state else none) = none)

theorem deviceRow_offloadCmd : DeviceRow K.EQ_CONFIG_OFFLOAD_CMD (actionEntry K.EQ_CONFIG_OFFLOAD_CMD .u8) := by
  refine ⟨rfl, by decide, rfl, fun v r n => ?_⟩
  have hallowed := v.eqLocked_allows (v.sel r K.EQ_SELECT_TARGET) (k := K.EQ_CONFIG_OFFLOAD_CMD) (by decide)
  exact (if_neg hallowed : (if _ then some A.state else none) = none)

/-- No entry of EQ_CONFIG but ENABLE is more than a value that is accepted under its apply point. -/
theorem plainEntry_eqConfig {sub : Nat} (hsub : sub < 256) (h : keyOf 0x2A41 sub ≠ K.EQ_CONFIG_ENABLE) :
    plainEntry 0x2A41 sub = true := by
  have hdiv : keyOf 0x2A41 sub / 256 = 0x2A41 := keyOf_div hsub
  have hdevice : isChanIdx 0x2A41 = false := rfl
  have hselector : keyOf 0x2A41 sub ∉ selectorKeys := by
    have hother : ∀ k ∈ selectorKeys, k / 256 ≠ 0x2A41 := by decide
    exact fun hmem => hother _ hmem hdiv
  simp only [plainEntry, isSelector, isLutIndex, isLutData, hdiv, hdevice, List.contains_eq_mem, decide_eq_false hselector,
    Bool.false_and, Bool.or_self, Bool.not_false, Bool.true_and, decide_eq_true h, Bool.and_true]
  decide

/-! ### Writes of EQ_CONFIG -/

section
variable {s : State} {t : Time} {r : Requester} (hruns : s.runs t)
include hruns

theorem exec_eqConfigWrite {sub : Nat} (hr : r.place < 256) (hsub : sub < 256) (data : List Byte) :
    exec (.eqConfigWrite t r sub data) s = .next ((s.now t).draws.requestWrite r 0x2A41 sub data ((s.now t).freeEnv 0)) := by
  show execEqConfigWrite t r sub data s = _
  rw [execEqConfigWrite, inRange_of hr, inRange_of hsub, live_runs hruns]
  rfl

variable (hP : (s.now t).Prompt)
include hP

/-- A write of ENABLE is served as it comes, and the selected queue is enabled or disabled. -/
theorem exec_eqConfigWrite_enable (hmay : (s.now t).MayAct r K.EQ_CONFIG_ENABLE) (on : Bool) :
    ServedAs (s.now t) (exec (.eqConfigWrite t r (K.EQ_CONFIG_ENABLE % 256) (leBytes 1 (if on then 1 else 0))) s) (fun v =>
      (v.setImm (winKey (v.sel r K.EQ_SELECT_TARGET) K.EQ_CONFIG_ENABLE) (if on then 1 else 0)).eqEnable
        (v.sel r K.EQ_SELECT_TARGET) on) := by
  have hval : leNat (leBytes 1 (if on then 1 else 0)) = if on then 1 else 0 := leNat_leBytes (by split <;> decide)
  have hcheck : eqEnableEntry.check (leBytes 1 (if on then 1 else 0)) = none := by cases on <;> rfl
  rw [exec_eqConfigWrite hruns hmay.1.1 (by decide)]
  refine State.write_served _ r 0x2A41 1 _ _ eqEnableEntry
    (fun v => (none, (v.setImm (winKey (v.sel r K.EQ_SELECT_TARGET) K.EQ_CONFIG_ENABLE) (if on then 1 else 0)).eqEnable
      (v.sel r K.EQ_SELECT_TARGET) on)) hP hmay.1 rfl (by decide) rfl (deviceRow_eqEnable.writeCheck_eq hmay rfl hcheck)
    (State.lutBusy_device _ (by decide) rfl) fun v => ?_
  show v.acceptRw r eqEnableEntry 0x2A41 1 (leNat (leBytes 1 (if on then 1 else 0))) = _
  rw [hval]
  cases on <;> rfl

/-- A write of another setting is served as it comes, and accepted under its apply point. -/
theorem exec_eqConfigWrite_setting {sub : Nat} {data : List Byte} {e : Entry} (hr : (s.now t).Present r) (hsub : sub < 256)
    (hkey : keyOf 0x2A41 sub ≠ K.EQ_CONFIG_ENABLE) (hc : (s.now t).writeCheck r 0x2A41 sub data = .ok (e, none))
    (hacc : e.acc = .rw) (hsize : e.ty.size = some data.length) :
    ServedAs (s.now t) (exec (.eqConfigWrite t r sub data) s)
      (fun v => v.acceptPlain e (v.regKey r (keyOf 0x2A41 sub)) (leNat data)) := by
  have hserved := exec_dictWrite_plain hruns hP hr (by decide) hsub hc hacc hsize (plainEntry_eqConfig hsub hkey)
  rw [exec_dictWrite_whole data hruns hr.1 (by decide) hsub] at hserved
  rw [exec_eqConfigWrite hruns hr.1 hsub]
  exact hserved.congr fun _ _ => rfl

/-- A command that is a code written to OFFLOAD_CMD is served as it comes. -/
theorem live_offloadCmd_served (hmay : (s.now t).MayAct r K.EQ_CONFIG_OFFLOAD_CMD) {n : Nat} (hn : n < 256) :
    ServedAs (s.now t) (inRange "requester" r.place 256 (live t s fun s => s.code r K.EQ_CONFIG_OFFLOAD_CMD n)) (fun v =>
      v.acted r K.EQ_CONFIG_OFFLOAD_CMD (v.offloadCmd (v.sel r K.EQ_SELECT_TARGET) n)) := by
  have hval : leNat (leBytes 1 n) = n := leNat_leBytes hn
  rw [inRange_of hmay.1.1, live_runs hruns]
  exact deviceRow_offloadCmd.outcome_served (data := leBytes 1 n) (g := fun v => v.offloadCmd (v.sel r K.EQ_SELECT_TARGET) n)
    hP hmay rfl (by decide) fun v => by rw [hval]; rfl

end

/-! ### ENABLE and OFFLOAD_CMD -/

section
variable {v : State} {q : Nat}

theorem EgressQ.enabled_of_disabled {e : EgressQ} (h : e.state = 0) : e.enabled = false := by
  simp [EgressQ.enabled, h]

/-- A disabled queue that is enabled is ACTIVE, with sequence number 0. -/
theorem State.eqEnable_on (h : (v.queue q).state = 0) : v.eqEnable q true = v.setQueue q { v.queue q with state := 1, seq := 0 } := by
  have hchanged : ¬ true = (v.queue q).enabled := by simp [EgressQ.enabled_of_disabled h]
  rw [State.eqEnable, if_neg hchanged, if_pos rfl]

theorem State.eqEnable_off (h : (v.queue q).state = 0) : v.eqEnable q false = v :=
  if_pos (EgressQ.enabled_of_disabled h).symm

/-- An offload that is stopped drops what it has not sent (R314). -/
theorem State.offloadCmd_stop (h : (v.queue q).state = 2) :
    v.offloadCmd q 2 = .ok (v.setQueue q { v.queue q with
      state := 3, offload := [], held := (v.queue q).held.filter (·.chan ≠ 0x1FF) }) := by
  simp only [State.offloadCmd, h, if_true, OfNat.ofNat_ne_one, if_false]

/-- An enabled queue that no channel names offloads a clip whose record a READY magazine holds, pass-through clips apart. -/
theorem State.offloadCmd_start {b : List Byte} (henabled : (v.queue q).enabled = true) (hfree : v.queueNamed q = false)
    (hrecord : v.readRecord (v.eq q K.EQ_CONFIG_OFFLOAD / 4096 % 2) (v.eq q K.EQ_CONFIG_OFFLOAD % 4096) = some b)
    (hready : v.magReady (v.eq q K.EQ_CONFIG_OFFLOAD / 4096 % 2) = true) (hcoded : bit (leNat ((b.drop 7).take 1)) 3 = false) :
    v.offloadCmd q 1 = .ok (((v.setQueue q { v.queue q with
      state := 2, codec := leNat ((b.drop 64).take 1)
      offload := clipUnits (v.mag (v.eq q K.EQ_CONFIG_OFFLOAD / 4096 % 2)).content b }).nvmeIssue
        (v.eq q K.EQ_CONFIG_OFFLOAD / 4096 % 2) 2 0 []).offloadNext q) := by
  simp only [State.offloadCmd, hrecord, henabled, hfree, hready, hcoded, Bool.not_true, Bool.false_eq_true, or_self, if_true,
    if_false]

end

/-! ### Packets, shapers and meters (R304, R305, R307) -/

section
variable {s : State} {t : Time} (hruns : s.runs t)
include hruns

section
variable {port q : Nat} (hquad : port / 16 < 6) (hport : port % 16 < 4)
include hquad hport

/-- A port that may send starts the packet of the selected queue. -/
theorem exec_transmitSelection_selected (hnormal : (s.now t).fatal = false) (hlink : ((s.now t).ethPort port).link = true)
    (hfree : ((s.now t).ethPort port).busy = none) (hrate : (s.now t).portRate port ≠ 0)
    (hselected : (s.now t).selected port = some q) :
    exec (.transmitSelection t port) s = .next ((s.now t).startPacket port q) := by
  have hsends : ¬ ((s.now t).fatal || !((s.now t).ethPort port).link || ((s.now t).ethPort port).busy.isSome ||
      decide ((s.now t).portRate port = 0)) = true := by
    rw [hnormal, hlink, hfree, decide_eq_false hrate]
    decide
  show execTransmitSelection t port s = _
  rw [execTransmitSelection, inRange_of hquad, inRange_of hport, live_runs hruns]
  simp only [if_neg hsends, hselected]

/-- A packet that has been sent is counted, and gives its port and its memory back. -/
theorem exec_packetTxDone_busy (hbusy : ((s.now t).ethPort port).busy = some q) :
    exec (.packetTxDone t port) s = .next (((((s.now t).modEth port (fun h => { h with busy := none })).modQueue q
      (fun e => { e with sent := e.sent + 1 })).releaseHeld q).offloadNext q) := by
  show execPacketTxDone t port s = _
  rw [execPacketTxDone, inRange_of hquad, inRange_of hport, live_runs hruns]
  simp only [hbusy]

end

theorem exec_shaperRefill_due (hdue : refillsDue (s.now t).shaperAt (s.now t).time ≠ 0) :
    exec (.shaperRefill t) s = .next
      (let u := s.now t
       let v : State := { u with shaperAt := u.time }
       let w := v.each (List.map Prod.fst v.queues) (fun v q =>
         if v.eq q K.EQ_CONFIG_SHAPE_RATE = 0 then v else v.shaperAdd q (refillsDue u.shaperAt u.time))
       w.each w.shapersWaiting State.shaperApply) := by
  show execShaperRefill t s = _
  rw [execShaperRefill, live_runs hruns]
  exact congrArg _ (if_neg hdue)

theorem exec_meterRefill_due (hdue : refillsDue (s.now t).meterAt (s.now t).time ≠ 0) :
    exec (.meterRefill t) s = .next
      (let u := s.now t
       let v : State := { u with
         meters := Store.map u.meters (fun _ m => m.refill (refillsDue u.meterAt u.time)), meterAt := u.time }
       v.each v.metersWaiting State.meterApply) := by
  show execMeterRefill t s = _
  rw [execMeterRefill, live_runs hruns]
  exact congrArg _ (if_neg hdue)

end

/-- Settles O45: the settings of a queue are writes served as they come, and a port and its refills have one effect each. -/
theorem egressQueues : Obligations.EgressQueues := by
  unfold Obligations.EgressQueues
  intro s t hruns u
  refine ⟨fun r on hP hmay => exec_eqConfigWrite_enable hruns hP hmay on,
    fun v q hoff => ⟨State.eqEnable_on hoff, State.eqEnable_off hoff⟩,
    fun r hP hmay => ⟨live_offloadCmd_served hruns hP hmay (by decide), live_offloadCmd_served hruns hP hmay (by decide)⟩,
    fun v q => State.offloadCmd_stop, fun port q => exec_transmitSelection_selected hruns,
    fun port q => exec_packetTxDone_busy hruns,
    fun r sub data e hP hr hsub hkey hc hacc hsize => exec_eqConfigWrite_setting hruns hP hr hsub hkey hc hacc hsize,
    fun v q b henabled hfree hrecord hready hcoded => State.offloadCmd_start henabled hfree hrecord hready hcoded,
    exec_shaperRefill_due hruns, fun v q n => rfl, exec_meterRefill_due hruns⟩

end Sys2Proof.Machine
end

section
/-! SUPPORT. Ethernet ports: links, gates, ARP and echo requests (R301, R303, R308 to R310). -/

namespace Sys2Proof.Machine

/-! ### GATE_COMMIT (R309) -/

/-- GATE_COMMIT of the 24 ports. -/
def gateCommitEntry : Entry := ⟨0x2A00, 24, 0xB, 1, .u8, .wo, 0, .cycle, .any, false⟩

theorem deviceRow_gateCommit {n : Nat} (h : n < 24) : DeviceRow (keyOf (0x2A00 + n) 0xB) gateCommitEntry := by
  interval_cases n <;> exact ⟨rfl, by decide, rfl, fun _ _ _ => rfl⟩

/-- A write of GATE_COMMIT commits the gates of its port. -/
theorem State.devAction_gateCommit {n : Nat} (h : n < 24) (v : State) (r : Requester) (x : Nat) (data : List Byte) (env : Env) :
    v.devAction r (keyOf (0x2A00 + n) 0xB / 256) (keyOf (0x2A00 + n) 0xB % 256) x data env =
      v.outcome (v.gateCommit (n / 4 * 16 + n % 4)) := by
  have hsub : 0xB < 256 := by decide
  have hother : ∀ k, k < 0x2A0000 → keyOf (0x2A00 + n) 0xB ≠ k := by
    intro k hk
    unfold keyOf
    omega
  have hdma : ¬ (0x2700 ≤ 0x2A00 + n ∧ 0x2A00 + n < 0x2740) := by omega
  have hrange : 0x2A00 ≤ 0x2A00 + n ∧ 0x2A00 + n < 0x2A18 := by omega
  rw [keyOf_div hsub, keyOf_mod hsub, State.devAction]
  simp (disch := decide) only [hother, hdma, if_false, hrange, and_self, if_true, Nat.add_sub_cancel_left]

/-- A commit of a gate list without entries, on a port whose gates are open, is to switch at once. -/
theorem State.gateCommit_empty {u : State} {port : Nat} (hcount : u.pv (ethKey port K.ETH_PORT_GATE_COUNT) = 0)
    (hidle : (u.ethPort port).commitAt = none) (hopen : (u.ethPort port).active.entries = []) :
    u.gateCommit port = .ok (u.setEth port { u.ethPort port with commitAt := some u.time }) := by
  simp only [State.gateCommit, hcount, hidle, hopen, List.range_zero, List.any_nil, List.isEmpty_nil, Bool.false_eq_true,
    if_false, if_true]

section
variable {s : State} {t : Time} {port : Nat} (hquad : port / 16 < 6) (hport : port % 16 < 4) (hruns : s.runs t)
include hquad hport hruns

theorem exec_gateCommit_served {r : Requester} (hP : (s.now t).Prompt)
    (hmay : (s.now t).MayAct r (keyOf (0x2A00 + port / 16 * 4 + port % 16) 0x0B)) :
    ServedAs (s.now t) (exec (.gateCommit t r port) s)
      (fun v => v.acted r (keyOf (0x2A00 + port / 16 * 4 + port % 16) 0x0B) (v.gateCommit port)) := by
  obtain ⟨n, hn⟩ : ∃ n, port / 16 * 4 + port % 16 = n := ⟨_, rfl⟩
  have hsmall : n < 24 := by omega
  have hname : n / 4 * 16 + n % 4 = port := by omega
  have hsub : 0xB < 256 := by decide
  show ServedAs (s.now t) (execGateCommit t r port s) _
  rw [execGateCommit, inRange_of hmay.1.1, inRange_of hport, inRange_of hquad, live_runs hruns]
  rw [Nat.add_assoc, hn] at hmay ⊢
  have hserved := (deviceRow_gateCommit hsmall).acts_served hP hmay rfl rfl (by decide) (data := leBytes 1 1) rfl
    fun v => State.devAction_gateCommit hsmall v r _ _ ((s.now t).freeEnv 0)
  rw [keyOf_div hsub, keyOf_mod hsub, hname] at hserved
  exact hserved.congr fun _ _ => acted2_outcome _ _ _ _

/-! ### Links (R301, R303) -/

theorem exec_ethLinkUp_rated (hrate : (s.now t).portRate port ≠ 0) :
    exec (.ethLinkUp t port) s = .next
      ((((s.now t).modEth port (fun h => { h with link := true })).setRo (ethKey port K.ETH_PORT_LINK) 1).reportJoins port) := by
  show execEthLinkUp t port s = _
  rw [execEthLinkUp, inRange_of hquad, inRange_of hport, live_runs hruns, if_neg hrate]

/-- A link that goes down gives back the packet that it is sending, and its LIVE queues drop what they hold. -/
theorem exec_ethLinkDown_up (hlink : ((s.now t).ethPort port).link = true) :
    exec (.ethLinkDown t port) s = .next
      (let v := ((s.now t).modEth port (fun h => { h with link := false, busy := none })).setRo (ethKey port K.ETH_PORT_LINK) 0
       let w := match ((s.now t).ethPort port).busy with
         | some q => v.releaseHeld q
         | none => v
       w.each ((List.map Prod.fst w.queues).filter (fun q =>
         w.eq q K.EQ_CONFIG_PORT == port && w.eq q K.EQ_CONFIG_KIND == 0)) State.dropHeld) := by
  show execEthLinkDown t port s = _
  rw [execEthLinkDown, inRange_of hquad, inRange_of hport, live_runs hruns, hlink]
  rfl

/-! ### ARP and echo requests (R308) -/

theorem exec_arpRequest_own {senderIp senderMac : Nat} (hlink : ((s.now t).ethPort port).link = true)
    (hip : (s.now t).v (ethKey port K.ETH_PORT_IP_ADDR) ≠ 0) :
    exec (.arpRequest t port senderIp senderMac ((s.now t).v (ethKey port K.ETH_PORT_IP_ADDR))) s =
      .next (((s.now t).setEth port { (s.now t).ethPort port with arp := ((s.now t).ethPort port).arp.map (fun a =>
        if a.1 = senderIp then (a.1, senderMac, a.2.2) else a) }).emit (.arp port ((s.now t).portMac port) senderIp true)) := by
  show execArpRequest t port senderIp senderMac _ s = _
  rw [execArpRequest, inRange_of hquad, inRange_of hport, live_runs hruns]
  exact congrArg _ (if_neg (by simp [hlink, hip]))

theorem exec_icmpEchoRequest_own {src : Nat} {payload : List Byte} (hlink : ((s.now t).ethPort port).link = true)
    (hip : (s.now t).v (ethKey port K.ETH_PORT_IP_ADDR) ≠ 0) :
    exec (.icmpEchoRequest t port src ((s.now t).v (ethKey port K.ETH_PORT_IP_ADDR)) payload) s =
      .next ((s.now t).emit (.icmp port src payload)) := by
  show execIcmpEchoRequest t port src _ payload s = _
  rw [execIcmpEchoRequest, inRange_of hquad, inRange_of hport, live_runs hruns]
  exact congrArg _ (if_neg (by simp [hlink, hip]))

/-- An ARP entry that is a minute old is asked for again. -/
theorem exec_arpRefresh_old {a : Nat} (hlink : ((s.now t).ethPort port).link = true)
    (hold : ((s.now t).ethPort port).arp.any (fun x => x.1 == a && x.2.2 + 60000000000 ≤ (s.now t).time) = true) :
    exec (.arpRefresh t port a) s = .next
      (((s.now t).setEth port { (s.now t).ethPort port with arp := ((s.now t).ethPort port).arp.map (fun x =>
        if x.1 = a then (x.1, x.2.1, (s.now t).time) else x) }).emit (.arp port ((s.now t).portMac port) a false)) := by
  show execArpRefresh t port a s = _
  rw [execArpRefresh, inRange_of hquad, inRange_of hport, live_runs hruns]
  exact congrArg _ (if_neg (by rw [hlink, hold]; decide))

/-! ### Gate lists (R309, R310) -/

/-- A committed list takes over once its switch instant has come. -/
theorem exec_gateCycleStart_switch {start : Time} (hcommit : ((s.now t).ethPort port).commitAt = some start)
    (hdue : (s.now t).switchAt port start ≤ (s.now t).time) :
    exec (.gateCycleStart t port) s = .next ((s.now t).gateSwitch port ((s.now t).switchAt port start)) := by
  show execGateCycleStart t port s = _
  rw [execGateCycleStart, inRange_of hquad, inRange_of hport, live_runs hruns]
  simp only [hcommit, if_pos hdue]

/-- With none committed the active list's next cycle starts. -/
theorem exec_gateCycleStart_next (hidle : ((s.now t).ethPort port).commitAt = none)
    (hactive : ((s.now t).ethPort port).active.entries ≠ [])
    (hended : ((s.now t).ethPort port).cycleStart + ((s.now t).ethPort port).active.cycle ≤ (s.now t).time) :
    exec (.gateCycleStart t port) s = .next
      (let e := (s.now t).ethPort port
       (s.now t).setEth port { e with
         cycleStart := e.cycleStart + ((s.now t).time - e.cycleStart) / e.active.cycle * e.active.cycle, entry := 0 }) := by
  show execGateCycleStart t port s = _
  rw [execGateCycleStart, inRange_of hquad, inRange_of hport, live_runs hruns]
  simp only [hidle]
  exact congrArg _ (if_pos ⟨by simpa using hactive, hended⟩)

theorem exec_gateEntryChange_found {i : Nat}
    (hfound : (gateSpans ((s.now t).ethPort port).active.cycle 0 ((s.now t).ethPort port).active.entries).findIdx?
      (fun x => ((s.now t).ethPort port).cycleStart + x.1 ≤ (s.now t).time &&
        (s.now t).time < ((s.now t).ethPort port).cycleStart + x.2.1) = some i) :
    exec (.gateEntryChange t port) s = .next ((s.now t).setEth port { (s.now t).ethPort port with entry := i }) := by
  show execGateEntryChange t port s = _
  rw [execGateEntryChange, inRange_of hquad, inRange_of hport, live_runs hruns]
  simp only [hfound]

end

/-- Settles O46: each event of a port has one effect, by its link, its address and its gate lists. -/
theorem ethernetPorts : Obligations.EthernetPorts := by
  unfold Obligations.EthernetPorts
  intro s t port hquad hport hruns u e ip
  refine ⟨exec_ethLinkUp_rated hquad hport hruns, fun hlink => ?_,
    fun senderIp senderMac => exec_arpRequest_own hquad hport hruns, fun src payload => exec_icmpEchoRequest_own hquad hport hruns,
    fun a => exec_arpRefresh_old hquad hport hruns, fun r => exec_gateCommit_served hquad hport hruns,
    State.gateCommit_empty, fun start => exec_gateCycleStart_switch hquad hport hruns,
    exec_gateCycleStart_next hquad hport hruns, fun i => exec_gateEntryChange_found hquad hport hruns⟩
  have hexec := exec_ethLinkDown_up hquad hport hruns hlink
  refine ⟨fun hfree => ?_, fun q hbusy => ?_⟩
  · rw [hexec, hfree]
  · rw [hexec, hbusy]

end Sys2Proof.Machine
end

section
/-! SUPPORT. Magazines: their coming and going, clips, extents and checkpoints (R316 to R323). -/

namespace Sys2Proof.Machine

/-! ### WO entries of a channel -/

section
variable {u : State} {r : Requester} {ch obj sub : Nat} {e : Entry} {data : List Byte} (hrow : OpenRow obj sub e)
include hrow

/-- A write by key of a channel's entry is one of its object. -/
theorem OpenRow.keyWrite_eq :
    u.keyWrite r (chKey ch (obj * 256 + sub)) data = u.freeWrite r (0x4000 + 64 * ch + obj) sub data 0 := by
  rw [chKey_object, State.keyWrite, keyOf_div hrow.small, keyOf_mod hrow.small]

/-- A write of a WO entry whose action may be refused is served as it comes. -/
theorem OpenRow.outcome_served {g : State → Except Abort State} (hch : ch < 256) (hacc : e.acc = .wo) (hP : u.Prompt)
    (hmay : u.MayAct r (chKey ch (obj * 256 + sub))) (hsize : e.ty.size = some data.length)
    (hpart : isLutPart (obj * 256 + sub) = false)
    (hg : ∀ v : State, v.chanAction ch (keyOf (0x4000 + 64 * ch + obj) sub) (leNat data) = v.outcome (g v)) :
    ServedAs u (.next (u.keyWrite r (chKey ch (obj * 256 + sub)) data)) (fun v =>
      v.acted r (chKey ch (obj * 256 + sub)) (g v)) := by
  rw [hrow.keyWrite_eq]
  rw [chKey_object] at hmay ⊢
  have heffect : ∀ v : State, v.writeEffect r e (0x4000 + 64 * ch + obj) sub data (u.freeEnv 0) = v.outcome (g v) := by
    intro v
    simp only [State.writeEffect, hacc, isChanIdx_object hch hrow.object, if_true, chanOf_object hrow.object, hg v]
  exact (hrow.write_served hch hmay hP hsize (State.lutBusy_of_not_data hrow.object hrow.small _ hch hpart) heffect).congr
    fun _ _ => acted2_outcome ..

end

/-! ### CLIP_CMD and EXTENT_ADD (R318) -/

/-- CLIP_CMD of a channel's CH_MAG. -/
def clipCmdEntry : Entry := ⟨0x19, 1, 2, 1, .u8, .wo, 0, .frame, .any, false⟩

/-- EXTENT_ADD of the two magazines. -/
def extentAddEntry : Entry := ⟨0x19, 1, 3, 2, .u64, .wo, 0, .imm, .any, false⟩

theorem openRow_clipCmd : OpenRow 0x19 2 clipCmdEntry := ⟨by decide, by decide, rfl, .inr rfl, rfl, rfl, by decide⟩

theorem openRow_extentAdd {m : Nat} (hm : m < 2) : OpenRow 0x19 (3 + m) extentAddEntry := by
  interval_cases m <;> exact ⟨by decide, by decide, rfl, .inr rfl, rfl, rfl, by decide⟩

theorem State.chanAction_clipCmd (v : State) (ch n : Nat) :
    v.chanAction ch (keyOf (0x4000 + 64 * ch + 0x19) 2) n = v.outcome (v.clipCmd ch n) := by
  have hcommand : (0x19 * 256 + 2 : Nat) ≠ K.CH_STATE_COMMAND := by decide
  simp only [State.chanAction, chanPart_object (obj := 0x19) (sub := 2) (by decide) (by decide), if_neg hcommand, if_true]

theorem State.chanAction_extentAdd (v : State) (ch n : Nat) {m : Nat} (hm : m < 2) :
    v.chanAction ch (keyOf (0x4000 + 64 * ch + 0x19) (3 + m)) n = v.outcome (v.extentAdd ch m n) := by
  have hcommand : 0x19 * 256 + (3 + m) ≠ K.CH_STATE_COMMAND := by simp only [K.CH_STATE_COMMAND]; omega
  have hclip : 0x19 * 256 + (3 + m) ≠ K.CH_MAG_CLIP_CMD := by simp only [K.CH_MAG_CLIP_CMD]; omega
  simp only [State.chanAction, chanPart_object (obj := 0x19) (sub := 3 + m) (by decide) (by omega), if_neg hcommand, if_neg hclip]
  interval_cases m <;> rfl

section
variable {s : State} {t : Time} {r : Requester} {ch : Nat} (hruns : s.runs t) (hch : ch < 256) (hP : (s.now t).Prompt)
include hruns hch hP

section
variable (hmay : (s.now t).MayAct r (chKey ch K.CH_MAG_CLIP_CMD))
include hmay

/-- A command that is a code written to CLIP_CMD is served as it comes. -/
theorem live_clipCmd_served {n : Nat} (hn : n < 256) :
    ServedAs (s.now t) (inRange "requester" r.place 256 (inRange "CH" ch 256
      (live t s fun s => s.code r (chKey ch K.CH_MAG_CLIP_CMD) n)))
      (fun v => v.acted r (chKey ch K.CH_MAG_CLIP_CMD) (v.clipCmd ch n)) := by
  have hval : leNat (leBytes 1 n) = n := leNat_leBytes hn
  rw [inRange_of hmay.1.1, inRange_of hch, live_runs hruns]
  exact openRow_clipCmd.outcome_served hch (data := leBytes 1 n) rfl hP hmay rfl (by decide) fun v => by
    rw [hval, State.chanAction_clipCmd]

end

theorem exec_extentAdd_served {m x : Nat} (hm : m < 2) (hx : x < 2 ^ 64)
    (hmay : (s.now t).MayAct r (chKey ch (K.CH_MAG_EXTENT_ADD + m))) :
    ServedAs (s.now t) (exec (.extentAdd t r ch m (leBytes 8 x)) s)
      (fun v => v.acted r (chKey ch (K.CH_MAG_EXTENT_ADD + m)) (v.extentAdd ch m x)) := by
  have hval : leNat (leBytes 8 x) = x := leNat_leBytes hx
  have hkey : K.CH_MAG_EXTENT_ADD + m = 0x19 * 256 + (3 + m) := by simp only [K.CH_MAG_EXTENT_ADD]; omega
  have hpart : isLutPart (0x19 * 256 + (3 + m)) = false := by interval_cases m <;> rfl
  show ServedAs (s.now t) (execExtentAdd t r ch m (leBytes 8 x) s) _
  rw [execExtentAdd, inRange_of hmay.1.1, inRange_of hch, inRange_of hm, live_runs hruns]
  rw [hkey] at hmay ⊢
  exact (openRow_extentAdd hm).outcome_served hch (data := leBytes 8 x) rfl hP hmay rfl hpart fun v => by
    rw [hval, State.chanAction_extentAdd v ch x hm]

end

/-- CLOSE is kept until the frame boundary. -/
theorem State.clipCmd_close (v : State) (ch : Nat) :
    v.clipCmd ch 2 = .ok ((v.setRec ch { v.recOf ch with cmd := some 2 }).setWaiting (chKey ch K.CH_MAG_CLIP_CMD)) := rfl

/-- A channel may open clips: each of its magazines is READY, has a table, and has extents for every picture. -/
def State.ClipsReady (v : State) (ch : Nat) : Prop :=
  ∀ m < 2, bit (v.pv (chKey ch K.CH_OUTPUT_MAGAZINES)) m = true → v.magReady m = true ∧
    v.v (magKey m K.MAG_CLIP_TABLE_LBA) ≠ 2 ^ 64 - 1 ∧
    ∀ k < (fmtOf (fun k => v.pv (chKey ch k))).pictures,
      ((v.recOf ch).clip m k).exts false ≠ [] ∧ ((v.recOf ch).clip m k).exts true ≠ []

/-- OPEN is then kept until the frame boundary, while the clip table has room. -/
theorem State.clipCmd_open {v : State} {ch : Nat} (hready : v.ClipsReady ch)
    (hroom : v.pv (chKey ch K.CH_MAG_CLIP) + (fmtOf (fun k => v.pv (chKey ch k))).pictures ≤ 4096) :
    v.clipCmd ch 1 = .ok ((v.setRec ch { v.recOf ch with cmd := some 1 }).setWaiting (chKey ch K.CH_MAG_CLIP_CMD)) := by
  have hgood : (((List.range 2).filter (fun m => bit (v.pv (chKey ch K.CH_OUTPUT_MAGAZINES)) m)).any (fun m =>
      !v.magReady m || v.v (magKey m K.MAG_CLIP_TABLE_LBA) == 2 ^ 64 - 1 ||
        (List.range (fmtOf (fun k => v.pv (chKey ch k))).pictures).any (fun k =>
          (((v.recOf ch).clip m k).exts false).isEmpty || (((v.recOf ch).clip m k).exts true).isEmpty))) = false := by
    refine List.any_eq_false.mpr fun m hm => ?_
    obtain ⟨hm, hbit⟩ := List.mem_filter.mp hm
    obtain ⟨hmag, htable, hextents⟩ := hready m (List.mem_range.mp hm) hbit
    have hnone : (List.range (fmtOf (fun k => v.pv (chKey ch k))).pictures).any (fun k =>
        (((v.recOf ch).clip m k).exts false).isEmpty || (((v.recOf ch).clip m k).exts true).isEmpty) = false := by
      refine List.any_eq_false.mpr fun k hk => ?_
      simpa using hextents k (List.mem_range.mp hk)
    rw [hmag, hnone, beq_eq_false_iff_ne.mpr htable]
    decide
  have hcode : ¬ ((1 : Nat) ≠ 1 ∧ (1 : Nat) ≠ 2) := by decide
  simp only [State.clipCmd, hgood, if_neg hcode, Bool.false_eq_true, false_or, true_and, if_neg (Nat.not_lt.mpr hroom)]

/-- An extent within the magazine is added to its clip, while the magazine has no table and the clip has room. -/
theorem State.extentAdd_fits {v : State} {ch m x : Nat} (hcapacity : bits x 63 31 + bits x 27 0 ≤ (v.mag m).capacity)
    (hblocks : bits x 27 0 ≠ 0) (htable : v.v (magKey m K.MAG_CLIP_TABLE_LBA) = 2 ^ 64 - 1)
    (hroom : ((v.recOf ch).clip m (bits x 30 29)).extents.length < 495) :
    v.extentAdd ch m x = .ok (v.setClip ch m (bits x 30 29) { (v.recOf ch).clip m (bits x 30 29) with
      extents := ((v.recOf ch).clip m (bits x 30 29)).extents ++
        [{ start := bits x 63 31, blocks := bits x 27 0, isIndex := bit x 28 }] }) := by
  simp only [State.extentAdd, hblocks, htable, ne_eq, not_true_eq_false, false_and, Nat.not_le.mpr hroom, or_self, if_false,
    Nat.not_lt.mpr hcapacity]

/-! ### CLIP (R318, R423) -/

/-- CLIP of a channel's CH_MAG. -/
def clipEntry : Entry := ⟨0x19, 1, 1, 1, .u16, .rw, 0, .imm, .range 0 4095, false⟩

theorem lookup_clip {ch : Nat} (hch : ch < 256) : lookup (0x4000 + 64 * ch + 0x19) 1 = .ok clipEntry :=
  lookup_object hch (by decide) rfl

/-- The effect of a write of CLIP is that of the recording. -/
theorem State.writeEffect_clip (v : State) (r : Requester) {ch : Nat} (data : List Byte) (env : Env) (hch : ch < 256) :
    v.writeEffect r clipEntry (0x4000 + 64 * ch + 0x19) 1 data env = v.outcome (v.clipWrite ch (leNat data)) := by
  have hobj : 0x19 < 64 := by decide
  have hsub : 1 < 256 := by decide
  have hselector : isSelector (keyOf (0x4000 + 64 * ch + 0x19) 1) = false := isSelector_object hobj hsub (by decide) (by decide)
  have hlut : isLutData (keyOf (0x4000 + 64 * ch + 0x19) 1) = false := isLutData_object hobj hsub hch
  have howner : (0x19 * 256 + 1 : Nat) ≠ K.CH_STATE_OWNER := by decide
  have hlist : (0x19 * 256 + 1 : Nat) ≠ K.CH_LAUNCH_LIST_WR := by decide
  show v.acceptRw r clipEntry (0x4000 + 64 * ch + 0x19) 1 (leNat data) = _
  simp only [State.acceptRw, hselector, hlut, isChanIdx_object hch hobj, chanPart_object hobj hsub, chanOf_object hobj, howner,
    hlist, and_false, and_self, Bool.false_eq_true, if_false, if_true]

theorem exec_clipWrite_served {s : State} {t : Time} {r : Requester} {ch n : Nat} (hruns : s.runs t) (hch : ch < 256)
    (hn : n < 4096) (hP : (s.now t).Prompt) (hr : (s.now t).Present r)
    (hc : (s.now t).writeCheck r (0x4000 + 64 * ch + 0x19) 1 (leBytes 2 n) = .ok (clipEntry, none)) :
    ServedAs (s.now t) (exec (.clipWrite t r ch (leBytes 2 n)) s)
      (fun v => v.acted r (chKey ch K.CH_MAG_CLIP) (v.clipWrite ch n)) := by
  have hval : leNat (leBytes 2 n) = n := leNat_leBytes (by omega)
  have hsub : 1 < 256 := by decide
  have hkey : chKey ch K.CH_MAG_CLIP = keyOf (0x4000 + 64 * ch + 0x19) 1 := chKey_object (obj := 0x19) (sub := 1)
  have hexec : exec (.clipWrite t r ch (leBytes 2 n)) s =
      .next ((s.now t).freeWrite r (0x4000 + 64 * ch + 0x19) 1 (leBytes 2 n) 0) := by
    show execClipWrite t r ch (leBytes 2 n) s = _
    rw [execClipWrite, inRange_of hr.1, inRange_of hch, live_runs hruns, State.act, State.keyWrite, hkey, keyOf_div hsub,
      keyOf_mod hsub]
  rw [hexec, hkey]
  have hserved := State.write_served _ r _ 1 _ _ clipEntry _ hP hr (lookup_clip hch) (by decide) rfl hc
    (State.lutBusy_of_not_data (obj := 0x19) (by decide) hsub _ hch (by decide)) fun v =>
      v.writeEffect_clip r (leBytes 2 n) ((s.now t).freeEnv 0) hch
  rw [hval] at hserved
  refine hserved.congr fun a m => ?_
  generalize ({ s.now t with access := a, free := m } : State) = v
  generalize v.clipWrite ch n = x
  cases x with
  | ok w => rfl
  | error c => exact (acted2_refused r c v hsub).symm

/-- While no clip of the channel is open, a new first clip starts its recording afresh. -/
theorem State.clipWrite_closed {v : State} {ch : Nat} (hclosed : (v.recOf ch).state ≠ 1) (n : Nat) :
    v.clipWrite ch n = .ok ((v.setImm (chKey ch K.CH_MAG_CLIP) n).setRec ch { v.recOf ch with state := 0, clips := [] }) :=
  if_neg hclosed

/-! ### Events of a magazine (R316, R317) -/

/-- A magazine's link comes up: what its removal and its failure had raised ends. -/
def State.magUp (u : State) (m : Nat) : State :=
  if (u.mag m).state = 1 then u else (u.endFault F.MAG_REMOVED m).endFault F.MAG_FAILED m

/-- What a magazine that is identified holds. -/
def magContent (id : MagIdentify) : Memory :=
  id.content.foldl (fun (m : Memory) e => Memory.writeBytes m e.1 e.2) []

section
variable {s : State} {t : Time} {m : Nat} (hruns : s.runs t) (hm : m < 2)
include hruns hm

section
variable {id : MagIdentify} (hquad : (((List.range 6).filter (fun q => (s.now t).role q == 0x10))[m]?).isSome = true)
include hquad

/-- A magazine with 4 KiB blocks and a transfer size that suits is READY, with at most 2^33 blocks. -/
theorem exec_magPresenceChange_supported (hlba : id.lba4k = true) (hmdts : id.mdtsOk = true) :
    exec (.magPresenceChange t m id) s = .next
      (let w := (((s.now t).magUp m).setMag m { state := 1, capacity := min id.blocks (2 ^ 33), content := magContent id }).endFault
        F.MAG_UNSUPPORTED m
       if 2 ^ 33 < id.blocks then w.raise F.MAG_CAPACITY_CLIPPED { inst := m, detail := [m] }
       else w.endFault F.MAG_CAPACITY_CLIPPED m) := by
  have hplaced := Option.isNone_eq_false_iff.mpr hquad
  show execMagPresenceChange t m id s = _
  rw [execMagPresenceChange, inRange_of hm, live_runs hruns]
  simp only [hplaced, Bool.false_eq_true, if_false, hlba, hmdts, Bool.and_self, if_true, true_and]
  rfl

/-- Another is UNSUPPORTED, and has no capacity. -/
theorem exec_magPresenceChange_unsupported (h : (id.lba4k && id.mdtsOk) = false) :
    exec (.magPresenceChange t m id) s = .next (((((s.now t).magUp m).setMag m
      { state := 2, capacity := 0, content := magContent id }).raise F.MAG_UNSUPPORTED { inst := m, detail := [m] }).endFault
        F.MAG_CAPACITY_CLIPPED m) := by
  have hplaced := Option.isNone_eq_false_iff.mpr hquad
  show execMagPresenceChange t m id s = _
  rw [execMagPresenceChange, inRange_of hm, live_runs hruns]
  simp only [hplaced, h, Bool.false_eq_true, if_false, false_and]
  rfl

end

theorem exec_magRemoved_present (h : ((s.now t).mag m).state = 1 ∨ ((s.now t).mag m).state = 2) :
    exec (.magRemoved t m) s = .next ((s.now t).magLost m 3 F.MAG_REMOVED) := by
  show execMagRemoved t m s = _
  rw [execMagRemoved, inRange_of hm, live_runs hruns, if_neg (by omega)]

section
variable (hready : (s.now t).magReady m = true)
include hready

/-- A command that is incomplete for 2 s fails its magazine (R317). -/
theorem exec_magCommandTimeout_late {e : Nat × Time} {rest : List (Nat × Time)} (hflight : ((s.now t).mag m).inFlight = e :: rest)
    (hlate : e.2 + 2000000000 ≤ (s.now t).time) :
    exec (.magCommandTimeout t m) s = .next ((s.now t).magLost m 4 F.MAG_FAILED) := by
  show execMagCommandTimeout t m s = _
  rw [execMagCommandTimeout, inRange_of hm, live_runs hruns]
  simp only [hflight, hready, hlate, and_self, if_true]

/-- The completion of a command without an error lets flushes that waited for it begin; one with a status fails the magazine. -/
theorem exec_nvmeCompletion_ready (hflight : ((s.now t).mag m).inFlight ≠ []) (status : Nat) :
    exec (.nvmeCompletion t m status) s = .next
      (if status % 2048 = 0 then ((s.now t).setMag m ((s.now t).mag m).finishData).flushReady m
       else ((s.now t).setRo (magKey m K.MAG_NVME_STATUS) (status % 2048)).magLost m 4 F.MAG_FAILED) := by
  show execNvmeCompletion t m status s = _
  rw [execNvmeCompletion, inRange_of hm, live_runs hruns, if_neg (by simpa [hready] using hflight)]

end

/-! ### Checkpoints (R320, R321, R323) -/

section
variable {ch : Nat} (hch : ch < 256)
include hch

/-- A flush that completes frees the chunks that are durable now, and writes each stream's record. -/
theorem exec_magFlushComplete_flushing (hflushing : m ∈ ((s.now t).recOf ch).flushing) :
    exec (.magFlushComplete t m ch) s = .next
      (let u := s.now t
       let v := u.setRec ch { u.recOf ch with flushing := (u.recOf ch).flushing.filter (· ≠ m) }
       ((v.setMag m ((v.mag m).finish 0)).freeDurable ch m).each (List.range (u.recOf ch).streams) fun w k =>
         let r := w.recOf ch
         let c := r.clip m k
         let x := w.setRec ch { (r.setClip m k { c with seq := c.seq + 1 }) with records := r.records ++ [(m, k)] }
         x.nvmeIssue m 3 (x.recordAt m c / 4096) (w.clipRecord ch m k (r.nextState m))) := by
  have hlisted : ¬ (!((s.now t).recOf ch).flushing.contains m) = true := by simpa using hflushing
  show execMagFlushComplete t m ch s = _
  rw [execMagFlushComplete, inRange_of hm, inRange_of hch, live_runs hruns]
  exact congrArg _ (if_neg hlisted)

end
end

/-- A checkpoint of the one magazine that records a channel, which is due or whose clips are to end. -/
theorem exec_magCheckpoint_due {s : State} {t : Time} {ch m : Nat} (hruns : s.runs t) (hch : ch < 256)
    (hgoing : (s.now t).closeReached ch = false) (hone : (s.now t).recordingOn ch = [m])
    (hidle : ((s.now t).recOf ch).busy m = false)
    (hdue : Store.get ((s.now t).recOf ch).next 0 m ≤ (s.now t).time ∨
      (Store.find? ((s.now t).recOf ch).ending m).isSome = true) :
    exec (.magCheckpoint t ch) s = .next
      (let u := s.now t
       let next := Store.get (u.recOf ch).next 0 m
       let period := max 1 (u.v (magKey m K.MAG_CHECKPOINT_MS) * 1000000)
       let later := if next ≤ u.time then next + ((u.time - next) / period + 1) * period else next
       (u.setRec ch { u.recOf ch with next := Store.put (u.recOf ch).next m later }).checkpoint ch m) := by
  have hacts : ¬ (((s.now t).recOf ch).busy m = true ∨ (!(decide (Store.get ((s.now t).recOf ch).next 0 m ≤ (s.now t).time ∨
      (Store.find? ((s.now t).recOf ch).ending m).isSome = true))) = true) := by
    rw [hidle, decide_eq_true hdue]
    decide
  show execMagCheckpoint t ch s = _
  rw [execMagCheckpoint, inRange_of hch, live_runs hruns]
  simp only [hgoing, Bool.false_eq_true, if_false, hone, State.each, List.foldl_cons, List.foldl_nil]
  exact congrArg _ (if_neg hacts)

/-- What a clip's record covers is durable once it stands on its magazine. -/
def Clip.madeDurable (c : Clip) (n state : Nat) : Clip :=
  { c with
    durable := (n, ((c.index[n - 1]?).map (fun e => e.offset + e.length)).getD 0)
    durablePic := if n = 0 then c.durablePic else ((c.index[n - 1]?).map (·.pic)).getD 0xFFFFFFFF
    durableLaunch := if n = 0 then c.durableLaunch else ((c.index[n - 1]?).map (·.launch)).getD 0
    state := state }

/-- The state in which the record of a stream has been written. -/
def State.recordWritten (u : State) (ch m k : Nat) : State :=
  let r := u.recOf ch
  let g := (u.mag m).finish 3
  let v := u.setMag m { g with
    content := Memory.writeBytes g.content (u.recordAt m (r.clip m k)) (u.clipRecord ch m k (r.nextState m)) }
  v.setRec ch { (r.setClip m k ((r.clip m k).madeDurable (r.coveredOn m) (r.nextState m))) with
    records := r.records.filter (· ≠ (m, k)) }

/-- With the last stream's record the DURABLE fields change (R323). -/
theorem exec_clipRecordWriteComplete_written {s : State} {t : Time} {m ch k : Nat} (hruns : s.runs t) (hm : m < 2)
    (hch : ch < 256) (hk : k < 4) (hwriting : (m, k) ∈ ((s.now t).recOf ch).records) :
    exec (.clipRecordWriteComplete t m ch k) s = .next
      (let w := (s.now t).recordWritten ch m k
       (if (w.recOf ch).records.any (·.1 == m) then w else w.durableFields ch m).clipStateDone ch
         (((s.now t).recOf ch).nextState m)) := by
  have hlisted : ¬ (!((s.now t).recOf ch).records.contains (m, k)) = true := by simpa using hwriting
  show execClipRecordWriteComplete t m ch k s = _
  rw [execClipRecordWriteComplete, inRange_of hm, inRange_of hch, inRange_of hk, live_runs hruns]
  exact congrArg _ (if_neg hlisted)

/-- Settles O47: each event has one effect, and the writes of CH_MAG are served as they come. -/
theorem magazines : Obligations.Magazines := by
  unfold Obligations.Magazines
  intro s t hruns u
  refine ⟨fun m id hm hquad => ?_, fun m hm => exec_magRemoved_present hruns hm,
    fun m e rest hm hflight hready => exec_magCommandTimeout_late hruns hm hready hflight, fun m status hm hready hflight => ?_,
    fun r ch hch hP hmay => ⟨live_clipCmd_served hruns hch hP hmay (by decide), live_clipCmd_served hruns hch hP hmay (by decide)⟩,
    State.clipCmd_close, fun v ch => State.clipCmd_open,
    fun r ch m x hch hm hx hP hmay => exec_extentAdd_served hruns hch hP hm hx hmay, fun v ch m x => State.extentAdd_fits,
    fun r ch n hch hn hP hmay hc => ?_, fun v ch n hclosed => State.clipWrite_closed hclosed n,
    fun ch m hch hgoing hone hidle => exec_magCheckpoint_due hruns hch hgoing hone hidle,
    fun m ch hm hch hflushing => exec_magFlushComplete_flushing hruns hm hch hflushing, fun m ch k hm hch hk hwriting => ?_⟩
  · refine ⟨fun hlba hmdts => ?_, fun h => exec_magPresenceChange_unsupported hruns hm hquad (Bool.and_eq_false_iff.mpr h)⟩
    have hexec := exec_magPresenceChange_supported hruns hm hquad hlba hmdts
    exact ⟨fun hfits => hexec.trans (congrArg _ (if_neg (Nat.not_lt.mpr hfits))),
      fun hover => hexec.trans (congrArg _ (if_pos hover))⟩
  · have hexec := exec_nvmeCompletion_ready hruns hm hready hflight status
    exact ⟨fun hgood => hexec.trans (congrArg _ (if_pos hgood)), fun hbad => hexec.trans (congrArg _ (if_neg hbad))⟩
  · have hkey : chKey ch K.CH_MAG_CLIP = keyOf (0x4000 + 64 * ch + 0x19) 1 := chKey_object (obj := 0x19) (sub := 1)
    rw [hkey, keyOf_div (by decide), keyOf_mod (by decide), lookup_clip hch] at hc
    exact exec_clipWrite_served hruns hch hn hP hmay.1 hc
  · have hexec := exec_clipRecordWriteComplete_written hruns hm hch hk hwriting
    refine ⟨fun hmore => hexec.trans ?_, fun hlast => hexec.trans ?_⟩
    · exact congrArg (fun w : State => Host.Outcome.next (w.clipStateDone ch _)) (if_pos hmore)
    · exact congrArg (fun w : State => Host.Outcome.next (w.clipStateDone ch _)) (if_neg (ne_true_of_eq_false hlast))

end Sys2Proof.Machine
end

section
/-! SUPPORT. The end of a condition whose source FAULT_PATH has had ignored (R351). -/

namespace Sys2Proof.Machine

/-- The end of a condition of a source that is ignored changes nothing. -/
theorem State.endFault_ignored {v : State} {src : Nat} (h : src ∈ v.faults.ignored) (inst : Nat) : v.endFault src inst = v := by
  have hignored : v.faults.ignored.contains src = true := by simpa using h
  rw [State.endFault]
  cases Store.find? v.faults.active src with
  | none => rfl
  | some a => exact if_pos (by rw [hignored, Bool.or_true])

/-- A device in service that ignores HOST_LINK_DOWN, which holds for two of its sources. -/
def ignoring : State :=
  { State.reset with
    pins := { State.reset.pins with resetLow := false }
    boot := { State.reset.boot with state := .ready }
    faults := { State.reset.faults with
      active := [(F.HOST_LINK_DOWN, { holders := [0, 1] })], ignored := [F.HOST_LINK_DOWN] } }

/-- Refutes O51: it has the end of a condition take its holder from the active source, whether or not the source is ignored, but
from FAULT_PATH on an ignored source stays as it is (R351). In the device here one of two holders ends. -/
theorem not_faultSources : ¬ Obligations.FaultSources := by
  unfold Obligations.FaultSources
  intro h
  obtain ⟨-, -, hend, -⟩ := h ignoring 0 rfl
  obtain ⟨-, hleft⟩ := hend F.HOST_LINK_DOWN 0 { holders := [0, 1] } rfl (by decide)
  have hclaimed := hleft (.inl (by decide))
  have hkept : exec (.faultConditionEnd 0 F.HOST_LINK_DOWN 0) ignoring = .next (ignoring.now 0) := by
    show execFaultConditionEnd 0 F.HOST_LINK_DOWN 0 ignoring = _
    rw [execFaultConditionEnd, live_runs rfl, State.endFault_ignored (by decide)]
  rw [hkept] at hclaimed
  injection hclaimed with hstate
  have hactive := congrArg (fun v : State => Store.find? v.faults.active F.HOST_LINK_DOWN) hstate
  exact absurd hactive (by decide)

end Sys2Proof.Machine
end

section
/-! SUPPORT. A raise that takes its domain into another voltage band (R366, R385). -/

namespace Sys2Proof.Machine

/-- A raise that waits is made once VCORE_IN is confirmed, and trims accepted for the new band take effect with it (R385). -/
theorem exec_domainRaise_confirmed {s : State} {t : Time} {pd mv : Nat} (hpd : pd < 32)
    (hraising : Store.find? (s.at t).power.raising pd = some mv) (hsupplied : (s.at t).supplied = true)
    (hon : (s.at t).power.off = false) (hvin : (s.at t).vinConfirmed = true) :
    exec (.domainRaise t pd) s = .next
      (let a := s.at t
       ({ a with power := { a.power with
          mv := Store.put a.power.mv pd (max (a.domainMv pd) (min mv a.raiseLimit))
          raising := Store.erase a.power.raising pd
          boosted := a.power.boosted || decide (750 < max (a.domainMv pd) (min mv a.raiseLimit)) } } : State).enterBand pd
            (a.domainMv pd)) := by
  show execDomainRaise t pd s = _
  rw [execDomainRaise, inRange_of hpd]
  simp only [hraising, hsupplied, hon, hvin, Bool.not_false, Bool.and_self, if_true]

/-- Trims that a domain's new band takes up are no longer accepted ones. -/
theorem State.accepted_enterBand {v : State} {pd was : Nat} (h : bandOf (v.domainMv pd) ≠ bandOf was) :
    (v.enterBand pd was).power.accepted = v.power.accepted.filter (fun g => !(g.1 / 32 == pd && v.inBand g.1)) := by
  have hkept : ∀ (due : List (Nat × List Nat)) (w : State) (f : State → Nat × List Nat → State),
      (∀ w g, (f w g).power.accepted = w.power.accepted) → (w.each due f).power.accepted = w.power.accepted := by
    intro due w f hf
    induction due generalizing w with
    | nil => rfl
    | cons g r ih => exact (ih (f w g)).trans (hf w g)
  rw [State.enterBand, if_neg h, State.applyGroups]
  exact hkept _ _ _ fun _ _ => rfl

/-- A device in service in which PD0 waits to be raised from 750 mV to 800 mV, VCORE_IN is as requested, and a trim is accepted for
class 0 in PD0's band above 775 mV. -/
def raisingPd0 : State :=
  { State.reset with
    pins := { State.reset.pins with resetLow := false }
    boot := { State.reset.boot with state := .ready }
    power := { State.reset.power with raising := [(0, 800)], accepted := [(trimKey 0 0 3, [5])] } }

/-- Refutes O53: it has a raise change the domain's voltage alone, but trims accepted for the band that the domain enters take
effect with the raise (R385). In the device here PD0 goes from the band below 775 mV to the one above it, for which a trim is
accepted, and the raise leaves none. -/
theorem not_voltageAndPmbus : ¬ Obligations.VoltageAndPmbus := by
  unfold Obligations.VoltageAndPmbus
  intro h
  obtain ⟨-, hraise, -⟩ := h raisingPd0 0
  have hclaimed := hraise 0 800 (by decide) rfl rfl rfl (by decide)
  rw [exec_domainRaise_confirmed (mv := 800) (by decide) rfl rfl rfl (by decide)] at hclaimed
  injection hclaimed with hstate
  have haccepted := congrArg (fun v : State => v.power.accepted) hstate
  rw [State.accepted_enterBand (by decide)] at haccepted
  exact absurd haccepted (by decide)

end Sys2Proof.Machine
end

section
/-! SUPPORT. A boot of a region whose selected copy is neither of its two (R389, R390, R393). -/

namespace Sys2Proof.Machine

/-- An image of a region that passes every check of a device that revokes no key and asks for no version. -/
def soundImage (region : Nat) : Image :=
  { magicOk := true, region := region, keyIndex := 0, sameOutput := false, length := 0, secVersion := 0, name := [], stepping := 0
    base := ([], []), keyOk := true, signatureOk := true, digestOk := true, records := [] }

/-- An image without its magic passes no check, whatever keys and versions are in force. -/
theorem State.imageFault_noMagic (v : State) (region : Nat) {i : Image} (h : i.magicOk = false) :
    v.imageFault region i = some 1 :=
  if_pos (by rw [h, Bool.not_false, Bool.true_or])

/-- What a boot finds whose copies 2 and 3, those of region 1, hold no image with its magic. A copy numbered 12 holds a sound image
of region 1. -/
def strayFacts : BootFacts :=
  { straps := 0
    copies := [(2, { soundImage 1 with magicOk := false }), (3, { soundImage 1 with magicOk := false }), (4, soundImage 2),
      (12, soundImage 1)]
    trained := 0xFF, failedUnits := [], initMs := 0, readyMs := 0, factoryTrimsOk := true }

/-- A device with EXT_MODE 0, whose region 1 has 10 as its selected copy. -/
def strayCopy : State :=
  { State.reset with
    dict := { State.reset.dict with appl := [(K.PMBUS_CONFIG_EXT_MODE, 0)] }
    boot := { State.reset.boot with regions := [(1, { selected := 10 })] } }

/-- It looks for the image of region 1 in the copy numbered 1 × 2 + 10, and boots from it. -/
theorem strayCopy_boots : (strayCopy.boot1 strayFacts).pins.xspiHighZ = false := by decide +kernel

/-- Refutes O7: it says of every state that a boot fails where copies 2 and 3 hold no good image of region 1, but which copy of a
region is selected is a number of the state, and only 0 and 1 name those two. In the state here it is 10, and the device boots from
copy 12. No boot and no update comes to such a state: the obligation lacks the premise that the selected copy is 0 or 1. -/
theorem not_bootsStart : ¬ Obligations.BootsStart := by
  unfold Obligations.BootsStart
  rintro ⟨-, hfails⟩
  obtain ⟨-, hpins, -⟩ := hfails strayCopy strayFacts rfl (by
    intro x hx hcopy v
    have hmagic : x.2.magicOk = false := by
      simp only [strayFacts, List.mem_cons, List.not_mem_nil, or_false] at hx
      rcases hx with rfl | rfl | rfl | rfl
      · rfl
      · rfl
      · exact absurd hcopy (by decide)
      · exact absurd hcopy (by decide)
    rw [v.imageFault_noMagic 1 hmagic]
    exact Option.some_ne_none 1)
  exact Bool.noConfusion (strayCopy_boots.symm.trans hpins)

end Sys2Proof.Machine
end
